-- ==== Sys2Proof/Word.lean ====
section
/-!
DEFINITION. The words of the module: bytes, the 32-bit and 64-bit values, and a sparse table.
Widths are those of R6 and R9: little-endian bytes, 56-bit job virtual addresses, 39-bit local addresses and 64-bit host
addresses.
-/
namespace Sys2Proof

/-- One byte. -/
abbrev Byte := BitVec 8

/-- A 32-bit value: an FP32 pattern or an INT32, as the reader takes it. -/
abbrev Word32 := BitVec 32

/-- A 64-bit value: a register, a flag, a host address. -/
abbrev Word64 := BitVec 64

/-- A job virtual address (R9). -/
abbrev Va := BitVec 56

/-- A sparse table: entries by rising key. What an unlisted key holds is said by its reader. -/
abbrev Table (α : Type) := List (Nat × α)

end Sys2Proof
end

