-- ==== Sys2Proof/Syntax.lean ====
section
/-!
DEFINITION. The commands of the module: one constructor of `Instr` for each row of spec/opcode_table.json, with the row's
operands, and the packets, flits and answers that the operands are made of.
Every row is one whole step of the module (95_what_each_step_holds).
-/
namespace Sys2Proof

/-! ### Operands -/

/-- Where a command packet came from: queue q of the host (R308) or the sideband mailbox (R328). -/
inductive CmdSource where
  | queue (q : BitVec 8)
  | mailbox
  deriving DecidableEq, Repr

/-- A core by cluster rank and core index; index 16 is the standby core (R337). -/
structure CoreId where
  rank : BitVec 8
  core : BitVec 5
  deriving DecidableEq, Repr

/-- The two streams of a core (R52). -/
inductive Stream where
  | access
  | execute
  deriving DecidableEq, Repr

/-- The fields of a Skelun base word besides OPCODE and EXT, and its extension words (R122). -/
structure InstrWord where
  mod : BitVec 14
  opd : Byte
  opa : Byte
  opb : Byte
  opc : Byte
  imm : Word64
  exts : List (BitVec 128)
  deriving DecidableEq, Repr

/-- Request opcodes of R195. -/
inductive ReqOp where
  | read | write | atomic | invalidate | regLookup | tallyReport | moveData | drainDone
  deriving DecidableEq, Repr

/-- The traffic classes of R194, codes 0 to 4. -/
inductive TClass where
  | generate | collective | expert | memory | management
  deriving DecidableEq, Repr

/-- A fabric memory request: the 32-byte header of R194 and the payload of R195. -/
structure Request where
  dest : BitVec 15
  fwd : Bool
  src : BitVec 15
  job : BitVec 16
  op : ReqOp
  cls : TClass
  refresh : Bool
  prefetch : Bool
  noCombine : Bool
  tag : BitVec 16
  gen : BitVec 16
  frame : BitVec 18
  va : Va
  size : Byte
  arg : Word64
  payload : List Byte
  deriving DecidableEq, Repr

/-- Reply statuses of R196. -/
inductive RStatus where
  | ok | denied | bearingMiss | retry | poison | addrUnmapped | noFrame
  deriving DecidableEq, Repr

/-- A reply: the 16-byte header of R196 and its data. -/
structure Reply where
  dest : BitVec 15
  src : BitVec 15
  tag : BitVec 16
  status : RStatus
  correction : Bool
  gen : BitVec 16
  home : BitVec 16
  frame : BitVec 18
  reason : Byte
  data : List Byte
  deriving DecidableEq, Repr

/-- A collective segment: the 24-byte header of R249 and its payload. -/
structure Segment where
  platId : BitVec 12
  job : BitVec 16
  collSeq : Word32
  op : Byte
  dim : BitVec 2
  gather : Bool
  step : BitVec 16
  offset : Word32
  member : BitVec 16
  epoch : BitVec 16
  wire : Byte
  payload : List Byte
  deriving DecidableEq, Repr

/-- A segment-credit grant (R250); the first grant of a member carries its LIST_CRC. -/
structure Grant where
  platId : BitVec 12
  job : BitVec 16
  collSeq : Word32
  epoch : BitVec 16
  member : BitVec 16
  count : Nat
  listCrc : Option Word32
  deriving DecidableEq, Repr

/-- A wait report (R258): the member that waits and the member it waits on. -/
structure WaitReport where
  platId : BitVec 12
  job : BitVec 16
  collSeq : Word32
  epoch : BitVec 16
  member : BitVec 16
  waitsOn : BitVec 16
  deriving DecidableEq, Repr

/-- A re-form record (R260): the new list, EPOCH and LIST_CRC. -/
structure ReformRec where
  platId : BitVec 12
  job : BitVec 16
  epoch : BitVec 16
  members : List (BitVec 15)
  listCrc : Word32
  deriving DecidableEq, Repr

/-- An abort of a collective (R261). -/
structure AbortRec where
  platId : BitVec 12
  job : BitVec 16
  collSeq : Word32
  deriving DecidableEq, Repr

/-- KIND of R269, R276 and the reset notice of chapter 12. -/
inductive RowKind where
  | row | marker | ret | resetNotice
  deriving DecidableEq, Repr

/-- Return status of R276. -/
inductive RetStatus where
  | ok | dropped | refused
  deriving DecidableEq, Repr

/-- A row segment: the 24-byte header of R269 and its payload. `count` is the row count of a reset notice, `listCrc` the
plat check of R269. -/
structure RowSeg where
  job : BitVec 16
  inbox : Byte
  kind : RowKind
  wave : Word32
  token : Word32
  slot : Byte
  drop : Bool
  status : RetStatus
  weight : Word32
  offset : Word32
  listCrc : Word32
  count : Nat
  payload : List Byte
  deriving DecidableEq, Repr

/-- A wave receipt (R279). -/
structure Receipt where
  job : BitVec 16
  inbox : Byte
  wave : Word32
  received : Word32
  returned : Word32
  dropped : Word32
  refused : Word32
  deriving DecidableEq, Repr

/-- A down notice (R394): the module and port code of the failed link. -/
structure DownNote where
  module : BitVec 15
  port : BitVec 3
  deriving DecidableEq, Repr

/-- What a packet carries behind its envelope. -/
inductive Body where
  | req (r : Request)
  | rep (r : Reply)
  | seg (s : Segment)
  | grant (g : Grant)
  | waitReport (w : WaitReport)
  | reform (r : ReformRec)
  | abort (a : AbortRec)
  | row (r : RowSeg)
  | receipt (r : Receipt)
  | downNote (d : DownNote)
  | invAck (va : Va) (tag : BitVec 16) (issuer : BitVec 15)
  | mgmt (code : Nat)
  deriving DecidableEq, Repr

/-- The envelope of R232. -/
structure Envelope where
  dest : BitVec 15
  mcast : Bool
  src : BitVec 15
  isReply : Bool
  vc : Bool
  cls : TClass
  len : Byte
  hopsPos : BitVec 5
  hopsNeg : BitVec 5
  axis : BitVec 2
  deriving DecidableEq, Repr

/-- A packet of the fabric. -/
structure Packet where
  env : Envelope
  body : Body
  deriving DecidableEq, Repr

/-- A flit of R231: the fields of its header, its 256-byte body and its CRC-32. `packets` are the packets whose last 16-byte unit the body
holds (notes/assumptions/85.md). -/
structure Flit where
  /-- TYPE: 0 DATA, 1 IDLE, 2 CREDIT, 3 REPLAY_REQ, 4 MANAGEMENT. -/
  type : BitVec 4
  pool : BitVec 5
  count : BitVec 11
  ack : BitVec 12
  seq : BitVec 12
  body : List Byte
  check : Word32
  packets : List Packet
  deriving DecidableEq, Repr

/-- What a remote home answered to one access of an engine of this module to one 128-byte line: the line, or a refusal.
A line without an answer is a dead target (R210). -/
inductive LineAnswer where
  | ok (data : List Byte)
  | failed (status : RStatus) (reason : Byte)
  deriving DecidableEq, Repr

/-- What a remote registrar answered about one parcel (R173, R177, R179, R193). -/
inductive RegAnswer where
  | done
  | bearing (home : BitVec 15) (frame : BitVec 18) (gen : BitVec 16) (attr : Byte)
  | conflict
  | noSpace
  | unmapped
  | noFrame
  | denied
  deriving DecidableEq, Repr

/-- The answers of other modules that a command's own accesses draw: by line address and by parcel number. Numbers above the
parcels stand for modules: 2^35 + m is what module m answered to a slice request (R192). -/
structure Fab where
  lines : List (Nat × LineAnswer)
  regs : List (Nat × RegAnswer)
  deriving DecidableEq, Repr

/-- Any other write or atomic to a doorbell page or mirror (R309). -/
inductive BadDoorbell where
  | pageWrite (q : BitVec 8) (offset : BitVec 12) (size : Nat)
  | mirrorStore (job : BitVec 16) (va : Va) (size : Nat)
  | mirrorAtomic (req : Request)
  deriving DecidableEq, Repr

/-- A slice handed over by an issuing module (R20, R192). -/
structure SliceRequest where
  job : BitVec 16
  issuer : BitVec 15
  grid : Nat
  slice : Nat
  imageCrc : Word32
  buildId : List Byte
  clusters : Nat
  kernelId : Word32
  cls : TClass
  replayable : Bool
  /-- The gang shape of the launch (R89). -/
  shape : Byte
  /-- The tokens of the launch, the segment and the number of segments (R295, R296): what TD6 and TD7 hold. -/
  tokens : Nat
  segIndex : Nat
  segCount : Nat
  /-- The anchor slot of the launch (R189). -/
  anchor : Option Nat
  argBlock : Word64
  args : List Word64
  tiles : List (BitVec 16 × BitVec 16 × BitVec 16)
  deriving DecidableEq, Repr

/-- A report of a slice (R20): by a dispatcher of this module, or by a peer Surveyor with its count of records (R370). -/
inductive SliceReport where
  | own (slice : Nat)
  | peer (grid : Nat) (slice : Nat) (records : Nat) (fabricDead : Bool)
  deriving DecidableEq, Repr

/-- Who hears that a frame copy is complete (R183): the registrar, or the old home with the new bearing. -/
inductive MoveSwitch where
  | registrar (job : BitVec 16) (parcel : BitVec 35)
  | oldHome (job : BitVec 16) (parcel : BitVec 35) (home : BitVec 15) (frame : BitVec 18) (gen : BitVec 16)
  deriving DecidableEq, Repr

/-- Where the router takes its next packet from. -/
inductive PacketSource where
  | fromModule
  | fromInput (port : BitVec 3) (pool : BitVec 5)
  deriving DecidableEq, Repr

/-- The points a training group passes before its identity block (R223). -/
inductive Milestone where
  | signal | equalised | fecLock | delayMeasured
  deriving DecidableEq, Repr

/-- Why a group passed its error threshold (R229). -/
inductive GroupError where
  | uncorrectable | replays
  deriving DecidableEq, Repr

/-- The three processors under the HRP (R374). -/
inductive Proc where
  | cp | surveyor | lmp
  deriving DecidableEq, Repr

/-- The units whose watchdog raises ENGINE_HANG (R374). -/
inductive HangUnit where
  | dispatcher (rank : BitVec 8)
  | memController (stack : BitVec 3)
  | routerHalf (half : Bool)
  deriving DecidableEq, Repr

/-- The recoveries with a bound (R374). -/
inductive RecoveryKind where
  | context | core | processor
  deriving DecidableEq, Repr

/-- An error found outside the steps of this table (an SRAM error, a residue check, a stack): the fields of R371 that its
finder supplies. -/
structure ErrEvent where
  code : BitVec 16
  context : Option (BitVec 6)
  va : Va
  len : Byte
  target : BitVec 16
  unitKind : Byte
  unitIndex : BitVec 16
  detail : Word64
  outcomeUnknown : Bool
  deriving DecidableEq, Repr

/-- The two masters of control space (R337). -/
inductive Master where
  | host | sideband
  deriving DecidableEq, Repr

/-- What verification of one firmware bank found (R399). -/
inductive BankVerdict where
  | verified (version : Word32) (security : Nat)
  | noKey | badSignature | oldVersion | unreadable
  deriving DecidableEq, Repr

/-! ### The commands -/

/-- The steps of the module, one constructor per row of the table, in the table's order. -/
inductive Instr where
  /-- DOORBELL_WRITE, R309. -/
  | doorbellWrite (q : BitVec 8) (v : Word32)
  /-- DOORBELL_MIRROR_STORE, R309. -/
  | doorbellMirrorStore (job : BitVec 16) (va : Va) (v : Word32)
  /-- DOORBELL_DISCARDED_ACCESS, R309. -/
  | doorbellDiscardedAccess (a : BadDoorbell)
  /-- COMMAND_FETCH, R310. -/
  | commandFetch (fab : Fab)
  /-- NOP, R315. -/
  | nop (src : CmdSource)
  /-- FENCE_COMMAND, R322. -/
  | fenceCommand (src : CmdSource)
  /-- WAIT_FLAG, R323. -/
  | waitFlag (src : CmdSource) (fab : Fab)
  /-- WAIT_FLAG_REREAD, R323. -/
  | waitFlagReread (src : CmdSource) (fab : Fab)
  /-- WAIT_FLAG_TIMEOUT, R323. -/
  | waitFlagTimeout (src : CmdSource)
  /-- SET_FLAG, R324. -/
  | setFlag (src : CmdSource) (fab : Fab)
  /-- SIGNAL_HOST, R324. -/
  | signalHost (src : CmdSource)
  /-- CTX_CREATE, R169. -/
  | ctxCreate (src : CmdSource)
  /-- CTX_DESTROY, R316. -/
  | ctxDestroy (src : CmdSource)
  /-- CTX_RESET, R379. -/
  | ctxReset (src : CmdSource)
  /-- CTX_QUERY, R315. -/
  | ctxQuery (src : CmdSource)
  /-- LOAD_PROGRAM, R135. -/
  | loadProgram (src : CmdSource) (fab : Fab)
  /-- TRANSLATION_TIMEOUT, R135. -/
  | translationTimeout (src : CmdSource)
  /-- LAUNCH, R317. -/
  | launch (src : CmdSource) (fab : Fab)
  /-- LAUNCH_DEFERRED, R291. -/
  | launchDeferred (src : CmdSource) (fab : Fab)
  /-- SLICE_ASSIGNMENT, R190. -/
  | sliceAssignment (grid : Nat) (fab : Fab)
  /-- REMOTE_SLICE_REQUEST, R192. -/
  | remoteSliceRequest (r : SliceRequest)
  /-- TILE_START, R191. -/
  | tileStart (rank : BitVec 8)
  /-- TILE_END, R57. -/
  | tileEnd (c : CoreId)
  /-- SLICE_COMPLETE, R20. -/
  | sliceComplete (r : SliceReport)
  /-- GRID_COMPLETE, R21. -/
  | gridComplete (grid : Nat) (fab : Fab)
  /-- SEGMENT_COMPLETE, R297. -/
  | segmentComplete (grid : Nat) (fab : Fab)
  /-- ALLOC, R173. -/
  | alloc (src : CmdSource) (fab : Fab)
  /-- ALLOC_TIMEOUT, R173. -/
  | allocTimeout (src : CmdSource)
  /-- FREE, R177. -/
  | free (src : CmdSource) (fab : Fab)
  /-- COPY, R315. -/
  | copy (src : CmdSource) (fab : Fab)
  /-- FILL, R315. -/
  | fill (src : CmdSource) (fab : Fab)
  /-- INVALIDATE, R315. -/
  | invalidate (src : CmdSource)
  /-- PIN, R193. -/
  | pin (src : CmdSource) (fab : Fab)
  /-- HINT_ANCHOR, R189. -/
  | hintAnchor (src : CmdSource)
  /-- HINT_PREFER, R193. -/
  | hintPrefer (src : CmdSource)
  /-- HINT_COLD, R193. -/
  | hintCold (src : CmdSource)
  /-- HINT_WILL_USE, R193. -/
  | hintWillUse (src : CmdSource)
  /-- LEND_BACKSTORE, R185. -/
  | lendBackstore (src : CmdSource)
  /-- PLAT_LOAD, R242. -/
  | platLoad (src : CmdSource) (fab : Fab)
  /-- PLATSET_ACTIVATE, R247. -/
  | platsetActivate (src : CmdSource)
  /-- PLATSET_SWITCH, R247. -/
  | platsetSwitch (ctx : BitVec 6)
  /-- BARRIER, R256. -/
  | barrier (src : CmdSource)
  /-- BROADCAST, R256. -/
  | broadcast (src : CmdSource) (fab : Fab)
  /-- REDUCE_SCATTER, R253. -/
  | reduceScatter (src : CmdSource) (fab : Fab)
  /-- ALL_GATHER, R256. -/
  | allGather (src : CmdSource) (fab : Fab)
  /-- ALL_REDUCE, R255. -/
  | allReduce (src : CmdSource) (fab : Fab)
  /-- ALL_TO_ALL, R256. -/
  | allToAll (src : CmdSource) (fab : Fab)
  /-- COLLECTIVE_SLOT_START, R248. -/
  | collectiveSlotStart (fab : Fab)
  /-- PREEMPTION, R248. -/
  | preemption
  /-- COLLECTIVE_SEGMENT, R249. -/
  | collectiveSegment (p : Packet) (fab : Fab)
  /-- SEGMENT_GRANT, R250. -/
  | segmentGrant (p : Packet) (fab : Fab)
  /-- WAIT_REPORT_INTERVAL, R258. -/
  | waitReportInterval (coll : Nat)
  /-- WAIT_REPORT, R258. -/
  | waitReport (w : WaitReport)
  /-- STRAGGLER_TIMEOUT, R259. -/
  | stragglerTimeout (coll : Nat) (fab : Fab)
  /-- DEPUTY_TAKEOVER, R258. -/
  | deputyTakeover (coll : Nat)
  /-- REFORM_RECORD, R260. -/
  | reformRecord (r : ReformRec) (fab : Fab)
  /-- COLLECTIVE_ABORT, R261. -/
  | collectiveAbort (a : AbortRec)
  /-- COLLECTIVE_OWN_ABORT, R261. -/
  | collectiveOwnAbort (coll : Nat)
  /-- PLAT_REFORM, R264. -/
  | platReform (src : CmdSource) (fab : Fab)
  /-- INBOX_CONFIG_INBOX, R266. -/
  | inboxConfigInbox (src : CmdSource) (fab : Fab)
  /-- INBOX_CONFIG_MAP, R267. -/
  | inboxConfigMap (src : CmdSource) (fab : Fab)
  /-- INBOX_CONFIG_ORIGIN, R268. -/
  | inboxConfigOrigin (src : CmdSource)
  /-- INBOX_QUERY, R278. -/
  | inboxQuery (src : CmdSource) (fab : Fab)
  /-- SCATTER_DISPATCH, R268. -/
  | scatterDispatch (ctx : BitVec 6) (fab : Fab)
  /-- EXPERT_ROW_SEGMENT, R270. -/
  | expertRowSegment (p : Packet) (fab : Fab)
  /-- EXPERT_MARKER, R272. -/
  | expertMarker (p : Packet) (fab : Fab)
  /-- BATCH_DEADLINE, R272. -/
  | batchDeadline (inbox : Byte) (fab : Fab)
  /-- BATCH_LATENCY_FLOOR, R280. -/
  | batchLatencyFloor (inbox : Byte) (fab : Fab)
  /-- EXPERT_BATCH_COMPLETE, R276. -/
  | expertBatchComplete (inbox : Byte) (fab : Fab)
  /-- EXPERT_RETURN, R277. -/
  | expertReturn (p : Packet) (fab : Fab)
  /-- EXPERT_RECEIPT, R279. -/
  | expertReceipt (p : Packet) (fab : Fab)
  /-- EXPERT_RESET_NOTICE, R278. -/
  | expertResetNotice (p : Packet) (fab : Fab)
  /-- WAVE_TIMEOUT, R279. -/
  | waveTimeout (ctx : BitVec 6) (wave : Word32)
  /-- OPT_STEP, R284. -/
  | optStep (src : CmdSource) (fab : Fab)
  /-- GNS_READ, R300. -/
  | gnsRead (src : CmdSource)
  /-- GNS_READ_PLAT, R301. -/
  | gnsReadPlat (src : CmdSource)
  /-- REPLAY_RECORD_START, R303. -/
  | replayRecordStart (src : CmdSource) (fab : Fab)
  /-- REPLAY_RECORD_STOP, R303. -/
  | replayRecordStop (src : CmdSource)
  /-- REPLAY_STOP_DATUM, R303. -/
  | replayStopDatum (ctx : BitVec 6)
  /-- REPLAY_RUN, R305. -/
  | replayRun (src : CmdSource) (fab : Fab)
  /-- DATUM_BARRIER, R360. -/
  | datumBarrier (src : CmdSource)
  /-- BARRIER_STAGE, R361. -/
  | barrierStage (q : BitVec 8) (fab : Fab)
  /-- BARRIER_RELEASE, R361. -/
  | barrierRelease (q : BitVec 8) (fab : Fab)
  /-- DATUM_READ, R354. -/
  | datumRead (src : CmdSource)
  /-- POWER_QUERY, R315. -/
  | powerQuery (src : CmdSource)
  /-- POWER_CAP, R329. -/
  | powerCap (src : CmdSource)
  /-- CLOCK_CEILING, R329. -/
  | clockCeiling (src : CmdSource)
  /-- POWER_DOWN, R166. -/
  | powerDown (src : CmdSource)
  /-- PORT_PROFILE, R222. -/
  | portProfile (src : CmdSource)
  /-- PORT_QUERY, R226. -/
  | portQuery (src : CmdSource)
  /-- ERR_READ, R372. -/
  | errRead (src : CmdSource)
  /-- HUSK_READ, R378. -/
  | huskRead (src : CmdSource)
  /-- TALLY_READ, R353. -/
  | tallyRead (src : CmdSource)
  /-- FW_QUERY, R315. -/
  | fwQuery (src : CmdSource)
  /-- FW_STAGE, R400. -/
  | fwStage (src : CmdSource) (v : BankVerdict)
  /-- FW_ACTIVATE, R400. -/
  | fwActivate (src : CmdSource)
  /-- WAIT_CYCLE_CHECK, R325. -/
  | waitCycleCheck
  /-- ACCESS_NOP, R126. -/
  | accessNop (c : CoreId) (w : InstrWord)
  /-- XALU, R126. -/
  | xalu (c : CoreId) (w : InstrWord)
  /-- XMOVI, R126. -/
  | xmovi (c : CoreId) (w : InstrWord)
  /-- BRX, R126. -/
  | brx (c : CoreId) (w : InstrWord)
  /-- BRT, R58. -/
  | brt (c : CoreId) (w : InstrWord)
  /-- BRANCH_OUTCOME, R60. -/
  | branchOutcome (c : CoreId)
  /-- JMP, R126. -/
  | jmp (c : CoreId) (w : InstrWord)
  /-- AEND, R61. -/
  | aend (c : CoreId) (w : InstrWord)
  /-- LD, R127. -/
  | ld (c : CoreId) (w : InstrWord)
  /-- LD2D, R127. -/
  | ld2d (c : CoreId) (w : InstrWord)
  /-- GATHER, R127. -/
  | gather (c : CoreId) (w : InstrWord)
  /-- TLD, R85. -/
  | tld (c : CoreId) (w : InstrWord)
  /-- LOAD_DATA_WRITTEN, R54. -/
  | loadDataWritten (c : CoreId) (load : Nat)
  /-- PF, R71. -/
  | pf (c : CoreId) (w : InstrWord)
  /-- ST, R127. -/
  | st (c : CoreId) (w : InstrWord)
  /-- ST2D, R127. -/
  | st2d (c : CoreId) (w : InstrWord)
  /-- ATOM, R126. -/
  | atom (c : CoreId) (w : InstrWord)
  /-- INV, R207. -/
  | inv (c : CoreId) (w : InstrWord)
  /-- FENCE, R161. -/
  | fence (c : CoreId) (w : InstrWord)
  /-- FENCE_SC, R162. -/
  | fenceSc (c : CoreId) (w : InstrWord)
  /-- TPUSH, R56. -/
  | tpush (c : CoreId) (w : InstrWord)
  /-- TPOP, R56. -/
  | tpop (c : CoreId) (w : InstrWord)
  /-- STALL_CLEARED, R63. -/
  | stallCleared (c : CoreId) (stream : Stream)
  /-- EXECUTE_NOP, R128. -/
  | executeNop (c : CoreId) (w : InstrWord)
  /-- LOOPI, R128. -/
  | loopi (c : CoreId) (w : InstrWord)
  /-- BNZD, R128. -/
  | bnzd (c : CoreId) (w : InstrWord)
  /-- BRTX, R128. -/
  | brtx (c : CoreId) (w : InstrWord)
  /-- XEND, R57. -/
  | xend (c : CoreId) (w : InstrWord)
  /-- LATCH, R77. -/
  | latch (c : CoreId) (w : InstrWord)
  /-- LATCH_LOAD_DONE, R77. -/
  | latchLoadDone (c : CoreId) (cube : BitVec 2)
  /-- PASS, R78. -/
  | pass (c : CoreId) (w : InstrWord)
  /-- SWAP, R80. -/
  | swap (c : CoreId) (w : InstrWord)
  /-- ACCLD, R80. -/
  | accld (c : CoreId) (w : InstrWord)
  /-- MV, R73. -/
  | mv (c : CoreId) (w : InstrWord)
  /-- EOW, R74. -/
  | eow (c : CoreId) (w : InstrWord)
  /-- GANG, R90. -/
  | gang (c : CoreId) (w : InstrWord)
  /-- GANG_ITEM_START, R91. -/
  | gangItemStart (rank : BitVec 8) (group : BitVec 3)
  /-- GANG_ITEM_END, R93. -/
  | gangItemEnd (rank : BitVec 8) (group : BitVec 3)
  /-- GANG_DRAIN_DONE, R93. -/
  | gangDrainDone (rank : BitVec 8) (group : BitVec 3)
  /-- ADD, R104. -/
  | vAdd (c : CoreId) (w : InstrWord)
  /-- SUB, R104. -/
  | vSub (c : CoreId) (w : InstrWord)
  /-- MUL, R104. -/
  | vMul (c : CoreId) (w : InstrWord)
  /-- FMA, R104. -/
  | vFma (c : CoreId) (w : InstrWord)
  /-- FMS, R104. -/
  | vFms (c : CoreId) (w : InstrWord)
  /-- NEG, R104. -/
  | vNeg (c : CoreId) (w : InstrWord)
  /-- ABS, R104. -/
  | vAbs (c : CoreId) (w : InstrWord)
  /-- MAX, R105. -/
  | vMax (c : CoreId) (w : InstrWord)
  /-- MIN, R105. -/
  | vMin (c : CoreId) (w : InstrWord)
  /-- CMP_EQ, R105. -/
  | cmpEq (c : CoreId) (w : InstrWord)
  /-- CMP_LT, R105. -/
  | cmpLt (c : CoreId) (w : InstrWord)
  /-- CMP_LE, R105. -/
  | cmpLe (c : CoreId) (w : InstrWord)
  /-- CMP_UNORD, R105. -/
  | cmpUnord (c : CoreId) (w : InstrWord)
  /-- SEL, R105. -/
  | vSel (c : CoreId) (w : InstrWord)
  /-- IADD, R104. -/
  | iAdd (c : CoreId) (w : InstrWord)
  /-- ISUB, R104. -/
  | iSub (c : CoreId) (w : InstrWord)
  /-- IMIN, R104. -/
  | iMin (c : CoreId) (w : InstrWord)
  /-- IMAX, R104. -/
  | iMax (c : CoreId) (w : InstrWord)
  /-- AND, R104. -/
  | vAnd (c : CoreId) (w : InstrWord)
  /-- OR, R104. -/
  | vOr (c : CoreId) (w : InstrWord)
  /-- XOR, R104. -/
  | vXor (c : CoreId) (w : InstrWord)
  /-- SHL, R104. -/
  | vShl (c : CoreId) (w : InstrWord)
  /-- SHR, R104. -/
  | vShr (c : CoreId) (w : InstrWord)
  /-- SRA, R104. -/
  | vSra (c : CoreId) (w : InstrWord)
  /-- MOV, R104. -/
  | vMov (c : CoreId) (w : InstrWord)
  /-- CVT_F2I, R39. -/
  | cvtF2i (c : CoreId) (w : InstrWord)
  /-- CVT_I2F, R104. -/
  | cvtI2f (c : CoreId) (w : InstrWord)
  /-- DIV, R105. -/
  | vDiv (c : CoreId) (w : InstrWord)
  /-- RCP, R105. -/
  | vRcp (c : CoreId) (w : InstrWord)
  /-- SQRT, R105. -/
  | vSqrt (c : CoreId) (w : InstrWord)
  /-- RSQRT, R105. -/
  | vRsqrt (c : CoreId) (w : InstrWord)
  /-- EXP2, R105. -/
  | vExp2 (c : CoreId) (w : InstrWord)
  /-- LOG2, R105. -/
  | vLog2 (c : CoreId) (w : InstrWord)
  /-- EXP2S, R105. -/
  | vExp2s (c : CoreId) (w : InstrWord)
  /-- VLOAD, R102. -/
  | vload (c : CoreId) (w : InstrWord)
  /-- VSTORE, R102. -/
  | vstore (c : CoreId) (w : InstrWord)
  /-- RSUM, R108. -/
  | rsum (c : CoreId) (w : InstrWord)
  /-- RSUMSQ, R108. -/
  | rsumsq (c : CoreId) (w : InstrWord)
  /-- CSUM, R108. -/
  | csum (c : CoreId) (w : InstrWord)
  /-- RMAX, R108. -/
  | rmax (c : CoreId) (w : InstrWord)
  /-- CMAX, R108. -/
  | cmax (c : CoreId) (w : InstrWord)
  /-- RARGMAX, R109. -/
  | rargmax (c : CoreId) (w : InstrWord)
  /-- TSUMSQ, R111. -/
  | tsumsq (c : CoreId) (w : InstrWord)
  /-- RMAXUPD, R110. -/
  | rmaxupd (c : CoreId) (w : InstrWord)
  /-- RSUMACC, R110. -/
  | rsumacc (c : CoreId) (w : InstrWord)
  /-- GNS_MARK, R111. -/
  | gnsMark (c : CoreId) (w : InstrWord)
  /-- ADAMW, R114. -/
  | adamw (c : CoreId) (w : InstrWord)
  /-- MOMENTUM, R115. -/
  | momentum (c : CoreId) (w : InstrWord)
  /-- TPUSHX, R128. -/
  | tpushx (c : CoreId) (w : InstrWord)
  /-- TPUSHE, R128. -/
  | tpushe (c : CoreId) (w : InstrWord)
  /-- TPOPX, R128. -/
  | tpopx (c : CoreId) (w : InstrWord)
  /-- READ, R199. -/
  | read (r : Request)
  /-- WRITE, R199. -/
  | write (r : Request)
  /-- ATOMIC, R199. -/
  | atomic (r : Request)
  /-- INVALIDATE_REQUEST, R208. -/
  | invalidateRequest (p : Packet)
  /-- INVALIDATE_ACK, R209. -/
  | invalidateAck (p : Packet)
  /-- REG_LOOKUP, R179. -/
  | regLookup (r : Request) (fab : Fab)
  /-- PAGE_IN_DONE, R187. -/
  | pageInDone (job : BitVec 16) (parcel : BitVec 35)
  /-- PAGE_OUT_START, R186. -/
  | pageOutStart
  /-- PAGE_OUT_DONE, R187. -/
  | pageOutDone (job : BitVec 16) (parcel : BitVec 35)
  /-- TALLY_EPOCH_END, R171. -/
  | tallyEpochEnd
  /-- TALLY_REPORT, R182. -/
  | tallyReport (r : Request) (fab : Fab)
  /-- MOVE_DATA, R195. -/
  | moveData (r : Request)
  /-- MOVE_COPY_COMPLETE, R183. -/
  | moveCopyComplete (m : MoveSwitch)
  /-- DRAIN_DONE, R183. -/
  | drainDone (r : Request)
  /-- MOVE_ABANDON, R184. -/
  | moveAbandon (job : BitVec 16) (parcel : BitVec 35)
  /-- REPLY, R200. -/
  | reply (r : Reply)
  /-- RETRY_RESEND, R172. -/
  | retryResend (access : Nat)
  /-- BEARING_MISS_REPEAT, R180. -/
  | bearingMissRepeat (access : Nat)
  /-- FABRIC_TIMEOUT, R210. -/
  | fabricTimeout (access : Nat)
  /-- REPLY_SLOT_RECLAIM, R395. -/
  | replySlotReclaim (access : Nat)
  /-- PACKET_FORWARD, R234. -/
  | packetForward (src : PacketSource)
  /-- COMBINED_REPLY, R202. -/
  | combinedReply (r : Reply)
  /-- MULTICAST_COPY, R240. -/
  | multicastCopy (port : BitVec 3) (p : Packet)
  /-- FLIT_TRANSMIT, R239. -/
  | flitTransmit (port : BitVec 3)
  /-- DATA_FLIT, R231. -/
  | dataFlit (port : BitVec 3) (f : Flit)
  /-- IDLE_FLIT, R231. -/
  | idleFlit (port : BitVec 3) (f : Flit)
  /-- CREDIT_FLIT, R231. -/
  | creditFlit (port : BitVec 3) (f : Flit)
  /-- REPLAY_REQ, R231. -/
  | replayReq (port : BitVec 3) (f : Flit)
  /-- MANAGEMENT_FLIT, R231. -/
  | managementFlit (port : BitVec 3) (f : Flit)
  /-- GROUP_TRAINING_MILESTONE, R223. -/
  | groupTrainingMilestone (group : BitVec 6) (m : Milestone)
  /-- IDENTITY_BLOCK, R225. -/
  | identityBlock (group : BitVec 6) (bytes : List Byte)
  /-- GROUP_JOINED, R223. -/
  | groupJoined (group : BitVec 6)
  /-- TRAINING_BOUND_MISSED, R223. -/
  | trainingBoundMissed (group : BitVec 6)
  /-- LANE_SIGNAL_LOSS, R229. -/
  | laneSignalLoss (group : BitVec 6)
  /-- GROUP_ERROR_THRESHOLD, R229. -/
  | groupErrorThreshold (group : BitVec 6) (e : GroupError)
  /-- DOWN_NOTICE, R395. -/
  | downNotice (port : BitVec 3) (p : Packet)
  /-- DATUM_EXCHANGE_TIMER, R356. -/
  | datumExchangeTimer
  /-- DATUM_TIMESTAMP_EXCHANGE, R356: the four timestamps in ps. -/
  | datumTimestampExchange (group : BitVec 6) (t1 t2 t3 t4 : Nat)
  /-- CREDIT_VIEW_EXCHANGE, R391: units drawn and units the peer consumed up to SEQ k. -/
  | creditViewExchange (port : BitVec 3) (k : BitVec 12) (consumed : Nat)
  /-- DATUM_SLEW_TICK, R357. -/
  | datumSlewTick
  /-- HOLDOVER_REPARENT, R357. -/
  | holdoverReparent
  /-- DATUM_PPS_EDGE, R358. -/
  | datumPpsEdge
  /-- PPS_EDGE_MISSING, R412. -/
  | ppsEdgeMissing
  /-- ERROR_RAISED, R368. -/
  | errorRaised (e : ErrEvent)
  /-- LOG_WINDOW_CLOSE, R458. -/
  | logWindowClose (code : BitVec 16) (ctx : Byte)
  /-- CONTEXT_RESET, R379. -/
  | contextReset
  /-- CONTEXT_RESET_DONE, R379. -/
  | contextResetDone
  /-- CORE_RESET, R380. -/
  | coreReset
  /-- CORE_RESET_DONE, R381. -/
  | coreResetDone
  /-- PROCESSOR_RESTART, R375. -/
  | processorRestart
  /-- PROC_RESTARTED, R375. -/
  | procRestarted
  /-- PROCESSOR_HEARTBEAT, R374. -/
  | processorHeartbeat (p : Proc)
  /-- CORE_STALL, R374. -/
  | coreStall (c : CoreId) (stream : Stream)
  /-- CORE_HANG, R374. -/
  | coreHang (c : CoreId)
  /-- ENGINE_HANG, R374. -/
  | engineHang (u : HangUnit)
  /-- PROC_TIMEOUT, R374. -/
  | procTimeout (p : Proc)
  /-- HRP_TIMER_EXPIRY, R374. -/
  | hrpTimerExpiry
  /-- RESET_OVERRUN, R374. -/
  | resetOverrun (k : RecoveryKind)
  /-- MODULE_STOP, R383. -/
  | moduleStop
  /-- MOD_RESET_ASSERT, R402. -/
  | modResetAssert
  /-- PERST_ASSERT, R402. -/
  | perstAssert
  /-- MODULE_RESET, R402. -/
  | moduleReset
  /-- STANDBY_APPLIED, R401. -/
  | standbyApplied
  /-- ADDR_STRAP_SAMPLE, R418. -/
  | addrStrapSample (straps : BitVec 3)
  /-- BOOT_VERIFICATION_DONE, R399. -/
  | bootVerificationDone (bankA : BankVerdict) (bankB : BankVerdict) (failedCores : List CoreId)
  /-- STANDBY_LOST, R165. -/
  | standbyLost
  /-- INPUT_IN_RANGE, R401. -/
  | inputInRange
  /-- INPUT_POWER_LOSS, R403. -/
  | inputPowerLoss
  /-- RAIL_POWER_GOOD, R403. -/
  | railPowerGood
  /-- RAIL_FAULT, R403: rail 1 to 7 of the ramp order. -/
  | railFault (rail : BitVec 3)
  /-- PROCESSOR_IMAGES_VERIFIED, R401. -/
  | processorImagesVerified (ok : Bool)
  /-- STACK_TRAINING_DONE, R401. -/
  | stackTrainingDone (stack : BitVec 3) (ok : Bool)
  /-- PCIE_LINK_UP, R401. -/
  | pcieLinkUp
  /-- CP_READY, R401. -/
  | cpReady
  /-- POWER_SAMPLE, R405: watts, and whether the current has been above 95 A for 20 µs. -/
  | powerSample (watts : Nat) (over95A : Bool)
  /-- THERMAL_SAMPLE, R406: six die readings and eight stack readings, °C. -/
  | thermalSample (dies : List Nat) (dramStacks : List Nat)
  /-- THERMAL_TRIP, R406. -/
  | thermalTrip
  /-- PMBUS_RECOVERY, R411. -/
  | pmbusRecovery (recovered : Bool)
  /-- PRESENCE, R409. -/
  | presence
  /-- SB_STATUS, R408. -/
  | sbStatus
  /-- MAIN_GO_WRITE, R401. -/
  | mainGoWrite (on : Bool)
  /-- ALERT_EN_WRITE, R410. -/
  | alertEnWrite (on : Bool)
  /-- RESET_MODULE_WRITE, R402. -/
  | resetModuleWrite
  /-- REG_ADDR, R408. -/
  | regAddr (offset : Word32) (pecOk : Bool)
  /-- REG_DATA_READ, R408. -/
  | regDataRead
  /-- REG_DATA_WRITE, R408; `hostMeets` is a host write to the same register in the same HRCLK cycle (R329). -/
  | regDataWrite (v : Word64) (pecOk : Bool) (hostMeets : Bool)
  /-- MBOX_CMD, R328. -/
  | mboxCmd (slot : List Byte) (pecOk : Bool)
  /-- MBOX_REPLY, R408. -/
  | mboxReply
  /-- ALERT_READ, R408. -/
  | alertRead
  /-- ALERT_RESPONSE, R410. -/
  | alertResponse
  /-- SMBUS_LINE_TIMEOUT, R410. -/
  | smbusLineTimeout
  /-- REGISTER_WRITE, R334: an aligned write of 4 or 8 bytes. -/
  | registerWrite (m : Master) (offset : BitVec 24) (size8 : Bool) (v : Word64)
  /-- QENABLE_WRITE, R310: the whole QCTRL write of queue n of the selected context. -/
  | qenableWrite (m : Master) (n : BitVec 2) (v : Word64)
  /-- PLAN_COMMIT, R340. -/
  | planCommit (m : Master)
  /-- ERR_POP, R350. -/
  | errPop (m : Master)
  /-- AP_CTRL_WRITE, R336. -/
  | apCtrlWrite (m : Master) (v : Word64)
  /-- RC_REGISTER_READ, R333. -/
  | rcRegisterRead (m : Master) (offset : BitVec 24)
  /-- LOW_HALF_READ, R332. -/
  | lowHalfRead (m : Master) (offset : BitVec 24)
  /-- MEMBER_DATA_READ, R349: 8 bytes, the low half or the high half. -/
  | memberDataRead (m : Master) (size8 : Bool) (high : Bool)
  /-- BAR0_BAD_ACCESS, R332. -/
  | bar0BadAccess (m : Master) (write : Bool)
  /-- BAR4_READ, R331. -/
  | bar4Read (offset : BitVec 38) (len : Nat) (fab : Fab)
  /-- BAR4_WRITE, R331. -/
  | bar4Write (offset : BitVec 38) (bytes : List Byte) (fab : Fab)
  /-- JTAG_BYPASS, R413. -/
  | jtagBypass
  /-- JTAG_IDCODE, R413. -/
  | jtagIdcode
  /-- JTAG_SAMPLE_PRELOAD, R413. -/
  | jtagSamplePreload (contacts : List Bool)
  /-- JTAG_EXTEST, R413. -/
  | jtagExtest (cells : List Bool)
  /-- DEBUG_UNLOCK, R413. -/
  | debugUnlock (tokenOk : Bool)
  /-- MOD_RESET_RELEASE, R397. -/
  | modResetRelease
  /-- PERST_DEASSERT, R401. -/
  | perstDeassert
  /-- FORWARDING_RECORD_AGED, R180. -/
  | forwardingRecordAged (job : BitVec 16) (parcel : BitVec 35)
  deriving DecidableEq, Repr

end Sys2Proof
end

