-- ==== Sys2Proof/Config.lean ====
section
/-!
DEFINITION. What the spec leaves open, as constants without a body: no proof can see a value of them.
The log entries named are in notes/assumptions.
-/
namespace Sys2Proof

/-- A fresh open value for each draw number (notes/assumptions/5.md). -/
opaque Config.freeWord : Nat → Word64

/-- The set of a hoard in which a line lies, by line key: R145 gives 4,096 sets and no index (notes/assumptions/10.md). -/
opaque Config.hoardSet : Nat → Nat → Nat

/-- The offset in its tensor of the first byte of a tile's range, by image CRC, enabled cluster count, kernel, tensor slot and grid
coordinates: R189 uses it, and no rule derives it from the declared layout (R3; notes/assumptions/11.md). -/
opaque Config.tileOffset : Nat → Nat → Nat → Nat → Nat × Nat × Nat → Nat

/-- The length of that range (notes/assumptions/11.md). -/
opaque Config.tileLength : Nat → Nat → Nat → Nat → Nat × Nat × Nat → Nat

/-- A figure that the translator decides and no rule gives, by image CRC, enabled cluster count, kernel and field (R3, R136, R138;
notes/assumptions/12.md). -/
opaque Config.reportWord : Nat → Nat → Nat → Nat → Nat

/-- The translator's version (R137, R138; notes/assumptions/12.md). -/
opaque Config.translator : Word32

/-- A shift by the operand's width or more, to which no rule gives a result: by operation (0 left, 1 right, 2 arithmetic right)
and width, value and amount (notes/assumptions/2.md). -/
opaque Config.bigShift : Nat → Nat → Nat → Nat → Nat

/-- The column into which RMAXUPD writes alpha and from which RSUMACC reads it, by the column of m: R110 names the column and
no rule gives its field (notes/assumptions/6.md). -/
opaque Config.alphaColumn : Nat → Nat

/-- The steps of a job's box from a module outside the job, by job and axis, in the + and − directions: R207 has such a module relay
an INVALIDATE, and nothing that reaches it names the box (notes/assumptions/8.md). -/
opaque Config.boxHops : Nat → Nat → Nat × Nat

/-- Whether a parcel that another module keeps the state of is materialised and in memory when an access of an unconfirmed path meets it,
by job, parcel and access number (notes/assumptions/15.md). -/
opaque Config.remoteReady : Nat → Nat → Nat → Bool

/-- ATTR and POLICY of a parcel as the entry of a registrar elsewhere has them, in one byte, where the row carries no answer of that
registrar: by moment (time and draw counter), job and parcel (notes/assumptions/28.md, 72.md). -/
opaque Config.entryByte : Nat → Nat → Nat → Nat → Byte

/-- What registrars elsewhere answer to the frees of the holds that drop as a launch ends with TIMEOUT at a restart of the Surveyor, by
the order number of the launch: the row PROCESSOR_RESTART carries no answers (notes/assumptions/92.md). -/
opaque Config.restartAnswers : Nat → List (Nat × RegAnswer)

/-- What an origin knows of an inbox of another module: the length of its rows in 64-byte units less one, whether its class is GENERATE,
and the LIST_CRC of its plat, by job, module and inbox. R269 uses the three, and nothing in the origin's configuration gives them
(notes/assumptions/38.md). -/
opaque Config.inboxRow : Nat → Nat → Nat → Byte × Bool × Word32

/-- Whether some other member entered the NaN or the infinity that an element of a collective's sum shows, by COLL_SEQ and element: the wire
does not tell (R44, R49; notes/assumptions/34.md). -/
opaque Config.specialEntered : Nat → Nat → Bool

/-- The bytes of a packet body to which no rule gives a layout (notes/assumptions/85.md). -/
opaque Config.bodyBytes : Body → List Byte

/-- Byte i of a flit body that no packet fills (notes/assumptions/85.md). -/
opaque Config.idleByte : Nat → Byte

/-- Bits [11:0] of IDCODE: R413 gives the version and the part number (notes/assumptions/50.md). -/
opaque Config.idcodeLow : BitVec 12

end Sys2Proof
end

