-- ==== Sys2Proof/Machine/State.lean ====
section
/-!
DEFINITION. The state of the module as plain data, its value after reset, and the reasons a step can stop.
A field's default value is its value at reset: the value the spec states, or one that the assumption log names
(notes/assumptions/1.md for the registers the spec gives no value).
-/
namespace Sys2Proof.Machine

/-- Memory: (address, byte) pairs with rising addresses and no zero byte; an unlisted address reads as zero. -/
abbrev Mem := List Host.Cell

/-! ### Why a step stops -/

/-- The module stops with a fault. -/
inductive Fault where
  /-- An access of an engine to a fabric local address of 39 bits or more (R9): raised by no meaning, because no frame
  number of R168 forms such an address (NOTES.md says so). Safe. -/
  | localAddress
  deriving DecidableEq, Repr

/-- The model gives no next state. -/
inductive Refusal where
  /-- The row's meaning is not written yet. Safe. -/
  | notModelled (mnemonic : String)
  /-- The step named was given at a moment at which the spec does not let it come about: there is no such object, it is not
  due, or the module is not in a state to take it. Raised by the guard of a meaning. Safe: the module takes no such step. -/
  | notOccurring (step : String)
  /-- An instruction word that the translator rejects (R137), so that no core ever holds it. Raised by the guards of the core
  instructions. Safe. -/
  | rejectedWord (step : String)
  deriving DecidableEq, Repr

/-! ### Fuses, boot and pins -/

/-- The module states of R397. -/
inductive ModState where
  | standbyBoot | bootFailed | readyMain | ramping | init | running | stopped | inReset | tripped | powerFault | unpowered
  deriving DecidableEq, Repr

/-- The fuses (R3, R399). -/
structure Fuses where
  /-- OT-4800-C when set, OT-4800-A otherwise (R2). -/
  gradeC : Bool := false
  /-- The enabled-cluster masks of Q0 to Q3 (R339). -/
  mask0 : BitVec 38 := 0x0F_FFFF_FFFF
  mask1 : BitVec 38 := 0x0F_FFFF_FFFF
  mask2 : BitVec 38 := 0x0F_FFFF_FFFF
  mask3 : BitVec 38 := 0x0F_FFFF_FFFF
  /-- The security-version counter (R399). -/
  security : Nat := 0
  /-- The serial number (R409). -/
  serial : Word64 := 0
  deriving DecidableEq, Repr

/-- Boot, rails, pins and flash (R397 to R403, R418). -/
structure Boot where
  state : ModState := .inReset
  /-- VSTBY within its range. -/
  standby : Bool := true
  /-- MOD_RESET# is low. -/
  modResetLow : Bool := true
  /-- PERST# is low. -/
  perstLow : Bool := true
  /-- A module-reset request is pending (R383). -/
  resetPending : Bool := false
  /-- A module reset has been started and its MODULE_RESET has not yet come about. -/
  resetStarted : Bool := false
  /-- MAIN_GO of SB_CTRL (R408). -/
  mainGo : Bool := false
  /-- 48 V within range for 1 ms. -/
  input48 : Bool := false
  /-- Rails in regulation, in the order of R403, 0 to 7. -/
  rails : Nat := 0
  /-- ADDR[2:0] as latched (R418). -/
  addr : Option (BitVec 3) := none
  /-- The bank marked active is B (R399); flash. -/
  activeB : Bool := false
  /-- The bank that runs, once booted. -/
  runningB : Bool := false
  /-- Running firmware version, 0 before boot (R409). -/
  version : Word32 := 0
  /-- Security version of the running bank. -/
  security : Nat := 0
  /-- FW_STAGE has written a verified bank (R400); flash. -/
  staged : Bool := false
  stagedVersion : Word32 := 0
  /-- Byte 12 of the presence block (R409). -/
  status : Byte := 0
  /-- CP, Surveyor and LMP images verified and started (R401). -/
  imagesOk : Bool := false
  /-- One of them does not match its digest: the module stays in INIT (R399). -/
  imagesBad : Bool := false
  /-- The PCI Express link is in L0 (R401). -/
  linkUp : Bool := false
  /-- The host interface has left reset (R401). -/
  hostIfUp : Bool := false
  /-- THERM_TRIP# is latched low (R406). -/
  tripLatched : Bool := false
  /-- A trip is recorded in flash and due at the next boot (R406). -/
  tripFlash : Bool := false
  /-- Cores retired, kept in flash (R382), as rank × 32 + core. -/
  retiredFlash : List Nat := []
  deriving DecidableEq, Repr

/-- Power, clock and thermal control (R351, R404 to R406, R411). -/
structure Power where
  input : Nat := 0
  cap : Nat := 3300
  capHeld : Bool := false
  ceiling : Nat := 0
  ceilingHeld : Bool := false
  clock : Nat := 0
  /-- Issue gating in sixteenths, 16 for none (R405). -/
  gate : Nat := 16
  throttle : Word32 := 0
  tempMax : Nat := 0
  /-- The thermal actions of a die at 95 °C and at 105 °C hold (R406). -/
  thermal95 : Bool := false
  thermal105 : Bool := false
  current : Bool := false
  regulator : Bool := false
  strictOverCap : Bool := false
  /-- The last samples of R405, newest first, at most 100. -/
  samples : List Nat := []
  /-- Since when the average has been below 80 and below 90 percent of the cap (time in ns). -/
  below80 : Option Nat := none
  below90 : Option Nat := none
  /-- When the loop last took a step. -/
  lastStep : Option Nat := none
  /-- When the thermal action last lowered the clock, and since when every die has been 5 °C below each limit. -/
  lastThermal : Option Nat := none
  cool95 : Option Nat := none
  cool105 : Option Nat := none
  /-- Stacks at the doubled refresh rate, and since when each has been 5 °C below (R406). -/
  refreshDoubled : List (Nat × Option Nat) := []
  pmbusFails : Nat := 0
  pmbusDead : Bool := false
  /-- POWER_DOWN drains: later commands return BUSY. -/
  down : Bool := false
  /-- Stores and atomics drained so far, and those of them whose home did not answer (R166). -/
  drain : Nat × Nat := (0, 0)
  deriving DecidableEq, Repr

/-! ### Error records and recoveries -/

/-- An error record (R371). -/
structure ErrRec where
  code : BitVec 16
  alarm : Bool
  action : Byte
  job : BitVec 16 := 0
  context : Byte := 0xFF
  outcomeUnknown : Bool := false
  huskValid : Bool := false
  redispatched : Bool := false
  summary : Bool := false
  huskPartial : Bool := false
  datum : Word64 := 0
  va : Va := 0
  len : Byte := 0
  target : BitVec 16 := 0xFFFF
  unitKind : Byte := 0
  unitIndex : BitVec 16 := 0
  queue : Byte := 0xFF
  seq : Word32 := 0
  husk : Word32 := 0xFFFFFFFF
  merged : Word32 := 0
  firstMerged : BitVec 16 := 0
  detail : Word64 := 0
  detail2 : Word64 := 0
  deriving DecidableEq, Repr

/-- A log window (R458). -/
structure LogWin where
  code : BitVec 16
  ctx : Byte
  opened : Word64
  count : Nat
  suppressed : Nat
  first : Option ErrRec
  deriving DecidableEq, Repr

/-- The error queue of R372 and what stands behind it. -/
structure Errors where
  queue : List ErrRec := []
  backlog : List ErrRec := []
  /-- Alarms kept in engines' reserved slots towards the HRP (R372, R385). -/
  held : List ErrRec := []
  alarms : Nat := 0
  overflow : Nat := 0
  windows : List LogWin := []
  /-- The 32-entry alert mailbox of the sideband (R385). -/
  alerts : List ErrRec := []
  /-- Alarms that wait until the mailbox has room (R410). -/
  alertBacklog : List ErrRec := []
  deriving DecidableEq, Repr

/-- A command that the CP has decoded (R310), or the HRP from the mailbox (R328). -/
structure Cmd where
  src : CmdSource
  slot : List Byte
  /-- Datum and time of decode, and its place in the decode order (R321). -/
  datum : Word64 := 0
  time : Nat := 0
  order : Nat := 0
  /-- PIN: the parcels that it has set moving, each once (R193). -/
  moved : List Nat := []
  /-- WAIT_FLAG: the last value read and the time at which the flag is read again (R323). -/
  lastRead : Option (Word64 × Nat) := none
  /-- Error records attributed to the command, and whether one was FABRIC_DEAD (R370). -/
  records : Nat := 0
  dead : Bool := false
  /-- Handed on to an engine: the reply comes later. -/
  handed : Bool := false
  /-- The plat slot is bound, to a PLAT_ID or to an empty slot (R246, R247). -/
  bound : Option (Option Nat) := none
  /-- Issued by a replay (R305). -/
  replayed : Bool := false
  deriving DecidableEq, Repr

/-- A context reset that waits or runs (R373, R379). -/
structure CtxReset where
  ctx : Nat
  code : BitVec 16
  merged : Nat := 0
  firstMerged : BitVec 16 := 0
  discards : Nat := 0
  started : Option Nat := none
  husk : Word32 := 0xFFFFFFFF
  huskPartial : Bool := false
  huskValid : Bool := false
  /-- Commands that asked for the reset and reply when it ends (CTX_RESET, CTX_DESTROY), as queue numbers. -/
  askers : List Nat := []
  /-- The WAIT_FLAGs of a declared wait cycle: queue and the address waited on (R326). -/
  waitCycle : List (Nat × Word64) := []
  /-- Cores to retire at the end (R373). -/
  retire : List Nat := []
  /-- Deferred launches of the context, which reply when the reset ends (R327). -/
  deferred : List Cmd := []
  deriving DecidableEq, Repr

/-- A core reset that waits or runs (R380). -/
structure CoreReset where
  core : Nat
  /-- The context of its tile. -/
  ctx : Option Nat := none
  code : BitVec 16
  merged : Nat := 0
  firstMerged : BitVec 16 := 0
  started : Option Nat := none
  discards : Nat := 0
  husk : Word32 := 0xFFFFFFFF
  huskPartial : Bool := false
  redispatched : Bool := false
  deriving DecidableEq, Repr

/-- A processor restart that waits or runs (R375). -/
structure ProcRestart where
  proc : Proc
  started : Option Nat := none
  deriving DecidableEq, Repr

/-- A husk in the husk area (R378). -/
structure Husk where
  index : Nat
  start : Nat
  bytes : List Byte
  deriving DecidableEq, Repr

/-- Recoveries, husks, processors and the trace ring. -/
structure Recov where
  ctxs : List CtxReset := []
  cores : List CoreReset := []
  procs : List ProcRestart := []
  nextHusk : Nat := 1
  /-- Where the next husk goes in the 64 MiB area. -/
  huskPos : Nat := 0
  husks : List Husk := []
  /-- Scratchpad samples with a parity error: (core, sample) (R377). -/
  parity : List (Nat × Nat) := []
  /-- Time of the last heartbeat of CP, Surveyor and LMP (R374). -/
  beats : Table Nat := []
  /-- Time of the last PROC_TIMEOUT of each (R375). -/
  timeouts : Table Nat := []
  /-- Entries of the trace ring, oldest first, 32 bytes each (R386). -/
  trace : List (List Byte) := []
  tracePos : Nat := 0
  traceDrops : Table Nat := []
  /-- Module stop asked for (R383). -/
  stopDue : Option (BitVec 16) := none
  /-- The HRP's own timer has expired: the HRP does nothing more until module reset (R374). -/
  hrpStopped : Bool := false
  deriving DecidableEq, Repr

/-! ### Control space -/

/-- What one master of control space holds for itself (R332, R335, R337, R349). -/
structure MasterRegs where
  ctxSel : BitVec 6 := 0
  portSel : BitVec 3 := 0
  grpSel : BitVec 6 := 0
  cluRank : Byte := 0
  cluCore : BitVec 5 := 0
  stkSel : BitVec 3 := 0
  inboxSel : Byte := 0
  platSel : BitVec 12 := 0
  memberPtr : BitVec 15 := 0
  /-- Windows whose STATUS of this master has SEL_INVALID set, by BAR0 offset of the block. -/
  selInvalid : List Nat := []
  /-- Windows whose STATUS of this master has WRITE_REFUSED set. -/
  writeRefused : List Nat := []
  /-- The latched high halves by the offset of the register (R332). -/
  latch : Table Word32 := []
  deriving DecidableEq, Repr

/-- The writable fields of the global window (R339). -/
structure GlobalRegs where
  dramInterleave : Bool := false
  migrateCooldown : BitVec 16 := 10
  migrateThreshold : Word32 := 4096
  pageHigh : Byte := 94
  pageLow : Byte := 90
  /-- The size of BAR4 as a power of two: 64 GiB (R330). -/
  bar4Log2 : Nat := 36
  apEnable : Bool := false
  apCtx : BitVec 6 := 0
  apBase : Va := 0
  apShadow : Option Va := none
  conflictsLost : Word32 := 0
  doorbellIgnored : Word32 := 0
  deriving DecidableEq, Repr

/-- A wiring plan (R225, R340). -/
structure Plan where
  physId : BitVec 16 := 0xFFFF
  logicalId : BitVec 16 := 0xFFFF
  xPos : Byte := 0
  nxp : Byte := 0
  ny : Byte := 0
  nz : Byte := 0
  xLive : Word64 := 0
  /-- Per own port: the peer's port code and physical ID; unlisted: 0 and 0xFFFF. -/
  peers : Table (BitVec 4 × BitVec 16) := []
  deriving DecidableEq, Repr

/-- The sideband transport (R408, R410). -/
structure Sideband where
  alertEn : Bool := false
  pecErrors : BitVec 16 := 0
  regAddr : Word32 := 0
  /-- The mailbox command that waits, as its slot. -/
  mbox : Option (List Byte) := none
  mboxReply : List Byte := []
  /-- Until when a START may be missed (KL-04), as a time. -/
  deafUntil : Option Nat := none
  deriving DecidableEq, Repr

/-- The registers of control space that are no other part's. -/
structure Regs where
  host : MasterRegs := {}
  side : MasterRegs := {}
  global : GlobalRegs := {}
  /-- The plan as written, and as installed. -/
  plan : Plan := {}
  installed : Option Plan := none
  planValid : Bool := false
  deriving DecidableEq, Repr

/-- Datum time (R352 to R358). -/
structure Datum where
  /-- The hub's counter. -/
  counter : Word64 := 0
  /-- How far the counters of the six dies stand from the hub's, in ps: 0 to 3 the quadrants, 4 the north link die with the hub, 5 the south
  link die (R18, R354). -/
  dies : Table Int := []
  calibrated : Bool := false
  ppsLocked : Bool := false
  ppsEnable : Bool := false
  skewEst : BitVec 16 := 0
  coreOffset : BitVec 16 := 0
  lastBarrier : Word64 := 0
  /-- Port towards the parent. -/
  parent : Option Nat := none
  /-- The last known offset to the parent in ps, positive when this module is ahead. -/
  offset : Option Int := none
  /-- Since when the module is in holdover (time). -/
  holdover : Option Nat := none
  lastSlew : Option Nat := none
  /-- Ticks still to slew for the PPS input, positive to advance. -/
  ppsError : Int := 0
  ppsMissed : Nat := 0
  /-- Time of the last edge, or of the second at which one was missed. -/
  ppsLast : Option Nat := none
  /-- Time of the last timestamp exchange start. -/
  lastExchange : Option Nat := none
  deriving DecidableEq, Repr

/-! ### Commands, queues and contexts -/

/-- One command queue (R308, R342). -/
structure Queue where
  ringBase : Word64 := 0
  replyBase : Word64 := 0
  headShadow : Word64 := 0
  haltReason : Byte := 0
  replyLog2 : BitVec 5 := 4
  ringLog2 : BitVec 5 := 4
  replyDev : Bool := false
  ringDev : Bool := false
  priv : Bool := false
  enable : Bool := false
  head : Word32 := 0
  tail : Word32 := 0
  /-- The command that runs. -/
  cur : Option Cmd := none
  /-- A DATUM_BARRIER whose reply waits for its release datum while the next command is staged as the one that runs (R361). -/
  barrier : Option Cmd := none
  /-- That release datum, and whether the release is late (R362). -/
  release : Option (Word64 × Bool) := none
  deriving DecidableEq, Repr

/-- An entry of the decode history that a husk holds (R377). -/
structure Hist where
  slot : List Byte
  datum : Word64
  queue : Nat
  state : Byte
  status : BitVec 16
  order : Nat
  deriving DecidableEq, Repr

/-- A tensor of a kernel as its layout declares it (R121). -/
structure Tensor where
  format : Byte
  role : Byte
  blockDim : Nat
  contractDim : Nat
  extents : List Nat
  deriving DecidableEq, Repr

/-- One kernel of a loaded program: descriptor fields of R120 and what translation decided (R136). -/
structure Kernel where
  id : Word32
  /-- Resolved engine: 0 CUBE, 1 GANG, 3 NONE. -/
  engine : Byte
  shape : Byte
  extM : Word32
  extN : Word32
  extK : Word32
  spadBytes : Nat
  /-- Declared tensors by slot. -/
  tensors : List Tensor
  /-- Slots whose loads the translator has replaced by transposing loads (R85, R138). -/
  fallback : Byte
  /-- The tensor slot that each data queue carries to a LATCH or a PASS (R134). -/
  queues : List (Nat × Nat) := []
  /-- The K-split (R48, R136): the planes of a contraction at which its parts 1, 2, … begin. -/
  parts : List Nat := []
  deriving DecidableEq, Repr

/-- A loaded program (R135). -/
structure Program where
  handle : Word32
  crc : Word32
  buildId : List Byte
  kernels : List Kernel
  nativeFrames : Nat
  deriving DecidableEq, Repr

/-- A hold of gathered parameters (R287). -/
structure Hold where
  index : Nat
  uses : Nat
  quadMask : BitVec 4
  freeOnDrop : Bool
  base : Va
  parcels : Nat
  deriving DecidableEq, Repr

/-- A gradient-noise accumulator: LOCAL, REDUCED and COUNT (R111, R299). -/
structure Gns where
  localS : Word32 := 0
  localC : Word32 := 0
  redS : Word32 := 0
  redC : Word32 := 0
  count : Word32 := 0
  deriving DecidableEq, Repr

/-- A recording in progress (R303). -/
structure Recording where
  region : Va
  size : Nat
  /-- Bytes of the region in use. -/
  used : Nat
  stopDatum : Word64
  entries : Nat
  active : Bool
  full : Bool
  deriving DecidableEq, Repr

/-- A replay that runs (R305). -/
structure Replay where
  cmd : Cmd
  /-- Address of the next entry, entries left, and entries issued. -/
  next : Nat
  left : Nat
  issued : Nat := 0
  /-- What the recorded datum values are shifted by, once the first entry is read. -/
  shift : Option Word64 := none
  deriving DecidableEq, Repr

/-- A place of the combine region reserved to a dispatched row (R269). -/
structure Place where
  token : Nat
  slot : Nat
  wave : Word32
  inbox : Nat
  home : Nat
  /-- What has come back, with its status and weight; the row's bytes lie in the combine region. -/
  ret : Option RetStatus
  weight : Word32
  landed : Nat
  deriving DecidableEq, Repr

/-- What an origin keeps of one wave towards one inbox (R279). -/
structure WaveCount where
  wave : Word32
  home : Nat
  inbox : Nat
  sent : Nat := 0
  returned : Nat := 0
  dropped : Nat := 0
  refused : Nat := 0
  receipt : Bool := false
  /-- When the marker was sent (time). -/
  marker : Option Nat := none
  /-- A fault has met the wave: it is not combined (R279). -/
  fault : Bool := false
  /-- WAVE_TIMEOUT has been raised for its receipt. -/
  late : Bool := false
  deriving DecidableEq, Repr

/-- The origin side of a context (R268). -/
structure Origin where
  ringLog2 : Nat
  topK : Nat
  outFormat : Byte
  outUnits : Nat
  tokensMax : Nat
  waveTimeout : Nat
  block : Va
  combine : Va
  done : Va
  head : Word64 := 0
  deriving DecidableEq, Repr

/-- One context (R315, R341) and what it owns at the command interface. -/
structure Context where
  /-- 0 FREE, 1 ACTIVE, 2 RESETTING. -/
  state : Byte := 0
  job : BitVec 16 := 0
  /-- The job of a context that a reset has freed (chapter 12; notes/assumptions/90.md). -/
  former : Option (BitVec 16) := none
  strict : Bool := false
  /-- Frozen by an error or a module stop (R373, R379). -/
  frozen : Bool := false
  slack : Word64 := 0
  discards : Word32 := 0
  fabricTimeout : Word32 := 1000
  segLen : BitVec 17 := 4096
  fpCombine : Bool := true
  mirrorBase : Va := 0
  moduleSet : List (BitVec 15) := []
  setCrc : Word32 := 0
  programs : List Program := []
  /-- Anchor slots named by HINT: (program, kernel, slot) (R189). -/
  anchors : List (Word32 × Word32 × Nat) := []
  /-- Ranges named by HINT PREFER: first parcel, count, module (R193). -/
  prefers : List (Nat × Nat × BitVec 15) := []
  nanMade : Word32 := 0
  infMade : Word32 := 0
  satClamps : Word32 := 0
  mxNanBlocks : Word32 := 0
  nonfiniteSkips : Word32 := 0
  holdsDropped : Word32 := 0
  holdUnderflows : Word32 := 0
  deferPromotions : Word32 := 0
  deferTiles : Word32 := 0
  segmentsRun : Word32 := 0
  replayEntries : Word32 := 0
  storesFailed : Word64 := 0
  orphanReplies : Word64 := 0
  staleSegments : Word64 := 0
  platReforms : Word64 := 0
  collAborts : Word64 := 0
  rowsSent : Word64 := 0
  rowsReturned : Word64 := 0
  rowsDropped : Word64 := 0
  rowsRefused : Word64 := 0
  rowsLost : Word64 := 0
  orphanReturns : Word64 := 0
  wavesDone : Word64 := 0
  /-- The active plat set, and the slots of the sixteen sets at 256 × set + slot (R245). -/
  activeSet : Nat := 0
  setSlots : Table Nat := []
  /-- A PLATSET_ACTIVATE that waits: set and T (R247). -/
  activate : Option (Nat × Word64) := none
  expertMap : List Word32 := []
  origin : Option Origin := none
  places : List Place := []
  waves : List WaveCount := []
  holds : List Hold := []
  gns : Gns := {}
  recording : Option Recording := none
  /-- The Job ID that draws use in a replay (R305). -/
  replayJob : Option (BitVec 16) := none
  /-- The replay that runs (R305). -/
  replay : Option Replay := none
  history : List Hist := []
  /-- Consecutive finds of a wait cycle, and the time of the first (R325). -/
  cycleFinds : Nat := 0
  deriving DecidableEq, Repr

/-! ### Grids and slices -/

/-- The constants of OPT_STEP (R285). -/
structure OptConst where
  s : Word32
  lr : Word32
  wd : Word32
  gscale : Word32
  b1 : Word32
  omb1 : Word32
  b2 : Word32
  omb2 : Word32
  bc1 : Word32
  bc2 : Word32
  eps : Word32
  mu : Word32
  deriving DecidableEq, Repr

/-- A grid at the Surveyor: a launch, an inbox batch, or slices run for a peer (R20, R271). -/
structure Grid where
  id : Nat
  ctx : Nat
  /-- The command to reply to; none for a batch and for a peer's slices. -/
  cmd : Option Cmd := none
  program : Word32 := 0
  kernel : Word32 := 0
  g0 : Nat := 1
  g1 : Nat := 1
  g2 : Nat := 1
  cls : TClass := .memory
  shape : Byte := 0
  localOnly : Bool := false
  replayable : Bool := false
  /-- The deferred group of a LAUNCH_DEFERRED (R291). -/
  deferred : Option Nat := none
  promoted : Bool := false
  order : Nat := 0
  argBlock : Word64 := 0
  /-- The first twelve words of the argument block (R125, R317). -/
  args : List Word64 := []
  releaseMask : Word64 := 0
  tokens : Nat := 0
  segLen : Nat := 0
  segFlag : Va := 0
  segIndex : Nat := 0
  segCount : Nat := 1
  opt : Option OptConst := none
  /-- Slices of the present segment have been cut and assigned. -/
  assigned : Bool := false
  /-- Slices and remote slices assigned over all segments. -/
  slices : Nat := 0
  remotes : Nat := 0
  /-- Records attributed (R370). -/
  records : Nat := 0
  dead : Bool := false
  /-- OPT_NONFINITE_SKIPS and NAN_MADE made by this launch's tiles (R286). -/
  skips : Nat := 0
  nans : Nat := 0
  /-- Clusters on which the first tile of the present command has set the marks (R150). -/
  marked : List Nat := []
  /-- The inbox whose batch this is, and the batch's descriptor. -/
  inbox : Option (Nat × Nat) := none
  /-- The issuing module and its grid, for slices run for a peer. -/
  peer : Option (Nat × Nat) := none
  /-- The datum at which gated first issues are released (R361). -/
  gate : Option Word64 := none
  /-- Accesses made before this number may be of tiles of the grid that have ended (R21). -/
  upTo : Nat := 0
  deriving DecidableEq, Repr

/-- A slice (R188). -/
structure Slice where
  id : Nat
  grid : Nat
  /-- The cluster rank, or none for a slice that runs on a peer. -/
  rank : Option Nat
  /-- The peer module. -/
  module : Option Nat := none
  /-- Tiles not yet handed out, in grid order. -/
  tiles : List (Nat × Nat × Nat)
  /-- How many tiles at the head have been handed back by a core reset (R381). -/
  redo : Nat := 0
  /-- Tiles that run. -/
  running : Nat := 0
  reported : Bool := false
  /-- Placed on its cluster's deferred queue of 512 (R292). -/
  queued : Bool := true
  /-- The number under which a peer's slice was handed over. -/
  wire : Nat := 0
  /-- When it was assigned (R374). -/
  since : Nat := 0
  deriving DecidableEq, Repr

/-! ### Cores -/

/-- An entry of a data queue (R54). -/
structure DqEntry where
  id : Nat
  base : Nat
  len : Nat
  epoch : Nat
  ready : Bool
  tile : Nat
  deriving DecidableEq, Repr

/-- An entry of a token queue (R56). -/
structure Token where
  id : Nat
  val : Word32
  epoch : Nat
  tile : Nat
  deriving DecidableEq, Repr

/-- One run of a tile on a core: the tile the streams are at, and which of them have ended (R57, R61). -/
structure TileRun where
  seq : Nat
  grid : Nat
  slice : Nat
  ctx : Nat
  td0 : Word64
  td1 : Word64
  td2 : Word64
  td3 : Word64
  td4 : Word64
  td5 : Word64
  td6 : Word64
  td7 : Word64
  deferredRun : Bool := false
  accEnd : Bool := false
  exeEnd : Bool := false
  /-- First issue has been made (R361). -/
  issued : Bool := false
  deriving DecidableEq, Repr

/-- A data-dependent branch that is unconfirmed, and the path epoch it opened (R58). -/
structure Epoch where
  id : Nat
  /-- The tile whose branch opened it (R61). -/
  tile : Nat := 0
  queue : Nat
  predicted : Bool
  /-- Where the other path starts. -/
  altPc : Nat
  /-- The X registers at the branch. -/
  savedX : Table Word64
  /-- Tokens of T4 to T7 popped by commands of this epoch, newest first: (queue, token). -/
  popped : List (Nat × Token)
  /-- Faults deferred to the epoch (R60). -/
  faults : List ErrRec
  /-- Commands issued on the epoch (R68). -/
  commands : Nat
  /-- What re-quantising loads of the epoch have made and R44 counts once the epoch is confirmed. -/
  nan : Nat := 0
  inf : Nat := 0
  sat : Nat := 0
  mx : Nat := 0
  deriving DecidableEq, Repr

/-- An access command that has not retired (R62). -/
structure AccessOp where
  seq : Nat
  epoch : Nat
  /-- The data-queue entry or token that it pushed and that has not been popped. -/
  item : Option Nat
  deriving DecidableEq, Repr

/-- A memory range within one 128-byte line and the scratchpad bytes it fills or empties. -/
structure Piece where
  va : Nat
  len : Nat
  spad : Nat
  deriving DecidableEq, Repr

/-- What becomes of the source tile of a transposing load before it is written (R85): `rows` source rows of `cols` elements, the
contraction of the read along `contract` (1 down the source's rows, 0 along them). -/
structure TldPlan where
  format : Byte
  requantise : Bool
  sr : Bool
  step : Word32
  base : Nat
  pitch : Nat
  rowLen : Nat
  rows : Nat
  cols : Nat
  contract : Nat
  /-- The source is in row order already and stays so: it is only re-quantised. -/
  keep : Bool := false
  /-- The source's scales lie in the staging behind its elements. -/
  scalesIn : Bool
  dest : Nat
  staging : List (Nat × Byte)
  deriving DecidableEq, Repr

/-- A load in progress. -/
structure Load where
  id : Nat
  epoch : Nat
  entry : Option Nat
  /-- Pieces whose data has not come. -/
  missing : Nat
  /-- Scratchpad ranges that it writes (R144). -/
  ranges : List (Nat × Nat)
  /-- The scratchpad ranges whose bytes have not come, and the bytes that have come and wait for the rest of their 64-byte piece, by
  scratchpad address (R66). -/
  due : List (Nat × Nat) := []
  landed : List (Nat × Byte) := []
  /-- Poison that waits until its epoch is confirmed: scratchpad address and bytes (R65). -/
  poison : List (Nat × List Byte) := []
  pattern : List Byte
  tld : Option TldPlan
  tile : Nat
  squashed : Bool := false
  deriving DecidableEq, Repr

/-- A store, atomic or invalidation of the core that has not been performed: held on an unconfirmed epoch (R63), waiting for
an order (R160, R161), or on its way. -/
structure HeldStore where
  seq : Nat
  epoch : Nat
  tile : Nat
  ctx : Nat
  /-- The accesses it stands for, one per line piece. -/
  reqs : List Request
  /-- Scratchpad bytes are already captured in the requests. -/
  isInv : Bool
  isAtomic : Bool
  dest : Nat
  /-- Waits until every earlier access is performed at this scope (R160). -/
  release : Option Nat
  deriving DecidableEq, Repr

/-- What holds later accesses of a core back (R159 to R162). -/
inductive BarrierKind where
  | acquire | fence | fenceSc
  deriving DecidableEq, Repr

/-- An acquire or a fence that is not yet satisfied: its place in program order, its scope, and whether it still has to move the
acquire mark (R149). -/
structure Barrier where
  seq : Nat
  scope : Nat
  kind : BarrierKind
  mark : Bool
  /-- Accesses of the module that had been made when it was issued. -/
  upTo : Nat
  deriving DecidableEq, Repr

/-- The stall conditions of R63 and the waits of the execute stream. -/
inductive StallKind where
  | runAhead | dataQueueFull (q : Nat) | tokenFull (q : Nat) | branches | holdBuffer | noSpeculate | acquireFence
  | unmaterialised | tokenEmpty (q : Nat) | replySlots | interlock (base len : Nat) | dataQueueEmpty (q : Nat) | gangUnit | gangQueue
  | ordering | planeLoad (cube : Nat)
  /-- The access stream has ended its tile, whose last branches wait for their outcome tokens. -/
  | outcome
  deriving DecidableEq, Repr

/-- A latched plane: format, element codes at 64 × k + column, scales at 64 × block + column (R77). -/
structure Plane where
  format : Byte := 1
  elems : Table (BitVec 16) := []
  scales : Table Byte := []
  deriving DecidableEq, Repr

/-- One cube (R77, R80). -/
structure Cube where
  active : Table Word32 := []
  shadow : Table Word32 := []
  planeActive : Plane := {}
  planeShadow : Plane := {}
  /-- A latch load runs. -/
  loading : Bool := false
  /-- The shadow plane has been loaded and no pass has yet taken it up. -/
  fresh : Bool := false
  /-- Passes that the active tile has taken, and the partial tiles of the parts of its contraction that are complete (R48). -/
  planes : Nat := 0
  partials : List (Table Word32) := []
  deriving DecidableEq, Repr

/-- A row of a batch: its codes and scales of A and the plane of B, all as its request found them, and its accumulator row (R73, R75). -/
structure MvRow where
  a : List Nat
  scales : List Nat
  plane : Plane
  acc : Nat
  deriving DecidableEq, Repr

/-- An open batch of the fill buffer (R73): the B operand, its cube and its rows. -/
structure MvBatch where
  cube : Nat
  bBase : Nat
  bLen : Nat
  format : Byte
  rows : List MvRow
  deriving DecidableEq, Repr

/-- A stream prefetcher (R69, R70). -/
structure Prefetcher where
  /-- The load site: program, kernel and word (R69). -/
  site : Option (Nat × Nat × Nat) := none
  /-- The last addresses of the site, newest first, and the last 2D tile: base, row length, pitch, rows. -/
  last : List Nat := []
  lastTile : Option (Nat × Nat × Nat × Nat) := none
  tilePitch : Option Int := none
  stride : Option Int := none
  trained : Bool := false
  twoD : Bool := false
  misses : Nat := 0
  /-- When its last useful prefetches were used, newest first, at most 4,096 core cycles back. -/
  useful : List Nat := []
  /-- Lines fetched and not yet used. -/
  ahead : List Nat := []
  deriving DecidableEq, Repr

/-- One core (R52 to R75, R98 to R117). -/
structure Core where
  retired : Bool := false
  frozen : Bool := false
  /-- Since when the core has had no tile. -/
  freeSince : Nat := 0
  /-- Tiles on the core: the execute stream is at the first, the access stream at the last (R61). -/
  tiles : List TileRun := []
  prevCtx : Option Nat := none
  nextId : Nat := 1
  accPc : Nat := 0
  exePc : Nat := 0
  x : Table Word64 := []
  loops : Table Word32 := []
  dqs : Table (List DqEntry) := []
  tqs : Table (List Token) := []
  epochs : List Epoch := []
  nextEpoch : Nat := 1
  ops : List AccessOp := []
  loads : List Load := []
  stores : List HeldStore := []
  /-- Acquires and fences that later accesses wait behind, oldest first. -/
  barriers : List Barrier := []
  accStall : Option (StallKind × Nat) := none
  exeStall : Option (StallKind × Nat) := none
  /-- Time of the last issue or retirement (R374). -/
  lastIssue : Nat := 0
  mark : BitVec 16 := 0
  spad : Mem := []
  tiles0 : Table Word32 := []
  tiles1 : Table Word32 := []
  tiles2 : Table Word32 := []
  tiles3 : Table Word32 := []
  cubes : Table Cube := []
  fill : List MvBatch := []
  gns : Gns := {}
  prefetchers : Table Prefetcher := []
  /-- The counters of R346 by index. -/
  counters : Table Word64 := []
  deriving DecidableEq, Repr

/-! ### Clusters -/

/-- The tag of a hoard line: a local line by its fabric local address, a remote line by context and address (R146). -/
inductive LineKey where
  | loc (addr : Nat)
  | remote (ctx : Nat) (va : Nat)
  deriving DecidableEq, Repr

/-- A line of a hoard (R146 to R149). -/
structure Line where
  key : LineKey
  way : Nat
  gen : BitVec 16
  data : List Byte
  /-- A held line: the context, the hold and the use count. -/
  hold : Option (Nat × Nat × Nat) := none
  prefetched : Bool := false
  deriving DecidableEq, Repr

/-- A gang work item (R90). -/
structure GangItem where
  id : Nat
  core : Nat
  ctx : Nat
  grid : Nat
  tile : Nat
  group : Nat
  /-- When it arrived, in ns (R91). -/
  arrived : Nat := 0
  /-- Where its operands lie in the issuing core's scratchpad: A's rows from its first, B's columns from its first of the columns of a row. -/
  aBase : Nat := 0
  aRow : Nat := 0
  bBase : Nat := 0
  bCol : Nat := 0
  width : Nat := 0
  /-- Element codes of A, row by row, and of B, row by row, as read when the item starts (R92); the destination's base. -/
  a : List Nat := []
  b : List Nat := []
  dBase : Nat
  k : Nat
  rows : Nat
  cols : Nat
  outFormat : Byte
  opFormat : Byte
  chain : Bool
  deriving DecidableEq, Repr

/-- A group of the gang unit (R89, R91). -/
structure GangGroup where
  running : Option GangItem := none
  draining : Option GangItem := none
  /-- The core for which CHAIN reserves the group. -/
  chain : Option Nat := none
  acc : Table Word32 := []
  done : Table Word32 := []
  /-- The core served last; at first, the one before core 0. -/
  lastServed : Nat := 16
  deriving DecidableEq, Repr

/-- A cluster's gang unit (R87 to R94). -/
structure Gang where
  holder : Option Nat := none
  shape : Nat := 0
  queue : List GangItem := []
  groups : Table GangGroup := []
  /-- Launches that wait: grid, GENERATE class, time of the first waiting item. -/
  waiting : List (Nat × Bool × Nat) := []
  /-- Cores whose gang instruction waits for the unit. -/
  asking : List Nat := []
  waitCycles : Word64 := 0
  deriving DecidableEq, Repr

/-- One cluster, by rank (R14, R346). -/
structure Cluster where
  hoard : List Line := []
  /-- Tree bits of the sets (R148). -/
  plru : Table Nat := []
  gen : BitVec 16 := 0
  holdRefused : Word64 := 0
  sweeps : Word64 := 0
  gang : Gang := {}
  retired : BitVec 17 := 0
  retiredCore : BitVec 5 := 0x1F
  standbyActive : Bool := false
  stallCycles : Word64 := 0
  /-- When its dispatcher last handed out a tile (R374). -/
  given : Nat := 0
  deriving DecidableEq, Repr

/-! ### Home, registrar and Surveyor -/

/-- Parcel states (R172). -/
inductive PState where
  | unmaterialised | resident | moving | pagingOut | paged | pagingIn
  deriving DecidableEq, Repr

/-- A Cadastre entry (R171), with what its registrar keeps beside it. -/
structure CadEntry where
  job : BitVec 16
  parcel : Nat
  state : PState
  policy : Nat
  attr : Byte
  home : BitVec 16 := 0xFFFF
  frame : BitVec 18 := 0
  gen : BitVec 16 := 0
  prevHome : BitVec 16 := 0xFFFF
  policyArg : Word32 := 0
  topReq : List (BitVec 16 × Word32) := []
  homeCount : Word32 := 0
  otherCount : Word32 := 0
  /-- The interleave list of its allocation and the first parcel (R174). -/
  list : List (BitVec 15) := []
  base : Nat := 0
  /-- Time of its last move or abandoned move, and of the last abandoned one (R182, R184). -/
  lastMove : Option Nat := none
  abandonedAt : Option Nat := none
  /-- The module and frame that a move goes to, and when holding began. -/
  moveTo : Option (BitVec 15 × BitVec 18) := none
  moveStart : Nat := 0
  deriving DecidableEq, Repr

/-- A parcel that this module is or was the home of: its frame's tag and how requests meet it (R172, R180). -/
structure HomeParcel where
  job : BitVec 16
  parcel : Nat
  frame : Nat
  gen : BitVec 16
  attr : Byte
  state : PState
  /-- Its slot in the backstore. -/
  slot : Option Nat := none
  /-- Its frame is read-only under a hold (R288). -/
  readOnly : Bool := false
  pinned : Bool := false
  /-- Arrived by a move whose drain-done has not come (R183). -/
  awaitDrain : Bool := false
  held : List Request := []
  /-- Requests in this tally epoch by module (R171). -/
  counts : Table Nat := []
  /-- Requests in the last epoch, every requester counted (R186). -/
  lastEpoch : Nat := 0
  cold : Bool := false
  deriving DecidableEq, Repr

/-- A forwarding record (R180). -/
structure FwdRec where
  job : BitVec 16
  parcel : Nat
  home : BitVec 15
  frame : BitVec 18
  gen : BitVec 16
  made : Nat
  /-- Past 10 ms of age: it may be reused. -/
  aged : Bool := false
  deriving DecidableEq, Repr

/-- A bearing (R178). -/
structure Bearing where
  job : BitVec 16
  parcel : Nat
  home : BitVec 15
  frame : BitVec 18
  gen : BitVec 16
  attr : Byte
  way : Nat
  deriving DecidableEq, Repr

/-- A frame that this module copies away, as the old home (R183). -/
structure Copy where
  job : BitVec 16
  parcel : Nat
  dst : BitVec 15
  frame : BitVec 18
  /-- The next line to send, 0 to 16,384. -/
  next : Nat := 0
  start : Nat
  deriving DecidableEq, Repr

/-- A frame that this module receives, as the new home (R183). -/
structure Incoming where
  job : BitVec 16
  parcel : Nat
  frame : Nat
  gen : BitVec 16
  /-- ATTR, with POLICY in bits 5 and 6. -/
  attr : Byte
  got : Nat := 0
  deriving DecidableEq, Repr

/-- The memory side of the module: home, registrar, bearing cache, backstore. -/
structure Home where
  cadastre : List CadEntry := []
  parcels : List HomeParcel := []
  forwards : List FwdRec := []
  bearings : List Bearing := []
  bearingPlru : Table Nat := []
  /-- Lent host range and its size in slots (R185). -/
  lentBase : Word64 := 0
  lentSlots : Nat := 0
  /-- Lines with an uncorrectable error, by line address (R153). -/
  ueLines : List Nat := []
  /-- Generations of entries that were deleted, which a re-allocation advances: job, parcel, GEN (R171). -/
  freed : List (BitVec 16 × Nat × BitVec 16) := []
  /-- Pages are going out until the low-water mark is met (R186). -/
  paging : Bool := false
  /-- Frames reserved at this module for moves in progress. -/
  reserved : List Nat := []
  copies : List Copy := []
  incoming : List Incoming := []
  bearingMisses : Word64 := 0
  bearingCorrections : Word64 := 0
  movesDone : Word64 := 0
  movesAbandoned : Word64 := 0
  moveRetries : Word64 := 0
  pageOuts : Word64 := 0
  pageIns : Word64 := 0
  pageOutsCancelled : Word64 := 0
  slicesLocalised : Word64 := 0
  slicesRemote : Word64 := 0
  preemptions : Word64 := 0
  movesDeferred : Word64 := 0
  lastEpochEnd : Nat := 0
  deriving DecidableEq, Repr

/-! ### Fabric -/

/-- For whom an access was made and what its answer does. -/
inductive Purpose where
  /-- Pieces of a load of a core. -/
  | load (core : Nat) (load : Nat) (pieces : List Piece)
  /-- One piece of a store. -/
  | store (core : Nat) (seq : Nat)
  /-- An atomic and its destination register. -/
  | atomic (core : Nat) (seq : Nat) (dest : Nat) (epoch : Nat)
  /-- A prefetch of a core into its cluster's hoard, and the stream prefetcher that made it. -/
  | prefetch (core : Nat) (unit : Option Nat)
  /-- A bearing asked of a registrar. -/
  | lookup
  /-- A tally report to a registrar (R171). -/
  | tally (parcel : Nat)
  /-- A line of a frame copy (R195). -/
  | moveLine (parcel : Nat)
  /-- The end of a move's held writes; the old frame is released when it is answered (R183). -/
  | drain (parcel : Nat) (frame : Nat)
  deriving DecidableEq, Repr

/-- Where an access stands. -/
inductive Stage where
  /-- Issued, and held back by an earlier acquire or fence of its core (R159, R161, R162). -/
  | ordered
  /-- Waiting for the bearing of its parcel (R179). -/
  | bearing
  /-- Waiting for a reply slot (R197). -/
  | slot
  /-- On its way, or at its home. -/
  | sent
  /-- Drew RETRY; sent again at the time given (R172). -/
  | retry (at_ : Nat)
  /-- Drew BEARING_MISS; the registrar is asked again (R180), and the repeat waits until the time given. -/
  | repeatAt (at_ : Nat)
  /-- Timed out; its reply slot stays reserved (R211). -/
  | timedOut (at_ : Nat)
  deriving DecidableEq, Repr

/-- An access of this module that has no answer yet. -/
structure Access where
  id : Nat
  ctx : Nat
  req : Request
  purpose : Purpose
  stage : Stage
  /-- It holds a reply slot (R197); a request to this module itself holds none. -/
  slot : Bool
  /-- When it first left (R210). -/
  sentAt : Nat
  /-- HOME and GEN that drew the last BEARING_MISS. -/
  missed : Option (BitVec 15 × BitVec 16) := none
  /-- A line drop passed while its fill was in flight (R208). -/
  keepOut : Bool := false
  /-- Its reader was squashed or reset: the answer is discarded (R60). -/
  discard : Bool := false
  /-- The cluster whose hoard it looks up and fills. -/
  rank : Nat
  /-- It reads from the home, not from the hoard (R159, REFRESH). -/
  bypass : Bool := false
  /-- Its first request has left the module (R210). -/
  left : Bool := false
  /-- It has joined a combining entry of this module's router (R205). -/
  joined : Bool := false
  /-- It has drawn RETRY or BEARING_MISS, so that it no longer reaches its home in issue order. -/
  resent : Bool := false
  /-- A read: what the stores of its core and cluster hold for its line as it misses, laid over what it delivers; and the stores of the
  cluster's outbound queue then and those that the hoard has accepted since, laid over what it fills (R147). Address and bytes, oldest first. -/
  seen : List (Nat × List Byte) := []
  patches : List (Nat × List Byte) := []
  /-- The grid whose tile issued it (R370). -/
  grid : Option Nat := none
  /-- The registrar of its parcel and the module-set CRC of its context, as it was made (R170). -/
  registrar : Nat × Word32 := (0, 0)
  deriving DecidableEq, Repr

/-- A combining entry (R201). -/
structure Combine where
  /-- The router half that keeps it. -/
  south : Bool
  /-- The request as it leaves: the first member's header with the operand of R203. -/
  lead : Request
  /-- Members in join order, each as it reached this router. -/
  members : List Packet
  /-- The merged request has left and its reply is awaited. -/
  sent : Bool
  deriving DecidableEq, Repr

/-- An INVALIDATE of this module that waits for its acknowledgements (R209). -/
structure Inval where
  id : Nat
  ctx : Nat
  va : Nat
  len : Nat
  /-- Subtrees still to acknowledge. -/
  left : Nat
  issuer : Option (Nat × Nat)
  /-- The command queue that issued it. -/
  cmd : Option Nat
  sentAt : Nat
  /-- Its reply slot (R197). -/
  tag : BitVec 16 := 0
  /-- The module set whose box it reaches (R207). -/
  mods : List (BitVec 15) := []
  /-- Since when it is answered to nobody: its slot stays reserved until every acknowledgement has come (R211). -/
  orphan : Option Nat := none
  deriving DecidableEq, Repr

/-- An INVALIDATE that this module relays for another (R207). -/
structure Relay where
  issuer : BitVec 15
  tag : BitVec 16
  /-- Whom to acknowledge. -/
  dst : BitVec 15
  left : Nat
  va : Nat
  len : Nat
  job : BitVec 16
  deriving DecidableEq, Repr

/-- The module's side of the fabric. -/
structure Fabric where
  accesses : List Access := []
  nextAccess : Nat := 0
  /-- Packets of this module that wait for its router. -/
  inject : List Packet := []
  /-- Packets delivered to this module and not yet handled. -/
  arrived : List Packet := []
  /-- Packets of the request network among them that still fill the input buffer of the port they came by (R213, R270). -/
  charged : List (Packet × Nat) := []
  combines : List Combine := []
  invals : List Inval := []
  relays : List Relay := []
  /-- Requests of the module itself that wait for a reply slot: context, target, request, purpose. -/
  ownWaiting : List (Nat × BitVec 15 × Request × Purpose) := []
  readsCombined0 : Word64 := 0
  readsCombined1 : Word64 := 0
  atomicsCombined0 : Word64 := 0
  atomicsCombined1 : Word64 := 0
  /-- Modules declared unreachable, and when (R395). -/
  unreachable : List (Nat × Nat) := []
  /-- Links that down notices have named since the plan was installed (R394, R395). -/
  downNotes : List DownNote := []
  /-- Forwarded requests at this home and the old home whose envelope brought each (R235). -/
  forwarded : List (Request × BitVec 15) := []
  /-- The PORT_PROFILE that waits for the ports it has retrained (R226). -/
  profile : Option (CmdSource × List Nat) := none
  /-- A router half has hung and forwards nothing more (R384). -/
  hungNorth : Bool := false
  hungSouth : Bool := false
  deriving DecidableEq, Repr

/-- A training group of eight lanes (R216 to R229, R345). -/
structure Group where
  /-- The profile byte (R218). -/
  role : Byte := 0x0F
  /-- 0 UNUSED, 1 TRAINING, 2 JOINED, 3 SPARE_READY, 4 FAILED, 5 QUARANTINED. -/
  state : Byte := 0
  reason : BitVec 4 := 0
  attempts : Nat := 0
  /-- Milestones passed in the present attempt. -/
  milestone : Nat := 0
  started : Nat := 0
  identityTries : Nat := 0
  /-- The identity block agreed with. -/
  agreed : Bool := false
  minor : Byte := 0
  peerFw : Word32 := 0
  linkDelay : Word32 := 0
  measured : Bool := false
  fecUncorrected : Word32 := 0
  fecCorrected : Word32 := 0
  replays : Word64 := 0
  /-- A healthy spare is training in for a failed group. -/
  takingOver : Bool := false
  deriving DecidableEq, Repr

/-- The LINK_CREDIT pool of a port (R389). -/
structure LinkPool where
  issued : Nat := 0
  /-- Drawn and not returned: held at the peer or in flight. -/
  outstanding : Nat := 0
  free : Nat := 0
  /-- A withdrawal that takes returned credits first (R393). -/
  pendingOut : Nat := 0
  /-- Outstanding units by pool index. -/
  byPool : Table Nat := []
  deriving DecidableEq, Repr

/-- A packet that waits to leave by a port: the flit times it has waited, and the 16-byte units that have left (0: not begun). -/
structure OutPkt where
  p : Packet
  waited : Nat := 0
  sent : Nat := 0
  deriving DecidableEq, Repr

/-- A flit that has been sent: the group that carried it, and the credit units drawn with it (R231). -/
structure SentFlit where
  group : Nat
  flit : Flit
  drawn : Nat
  deriving DecidableEq, Repr

/-- A port (R217, R230 to R240, R344). -/
structure Port where
  /-- 0 DOWN, 1 TRAINING, 2 ACTIVE, 3 QUARANTINED. -/
  state : Byte := 0
  reason : BitVec 2 := 0
  peerPhys : BitVec 16 := 0xFFFF
  peerPort : BitVec 4 := 0xF
  minor : Byte := 0
  wCollective : Byte := 8
  wExpert : Byte := 8
  wMemory : Byte := 8
  wManagement : Byte := 2
  discards : Table Word64 := []
  /-- Packets that wait to leave, oldest first. -/
  out : List OutPkt := []
  /-- Packets in the input buffer, oldest first, by pool (R237). -/
  inputs : Table (List Packet) := []
  /-- Credits to return to the peer by pool. -/
  owed : Table Nat := []
  pool : LinkPool := {}
  txSeq : BitVec 12 := 0
  /-- The next sequence number expected. -/
  rxSeq : BitVec 12 := 0
  /-- Flits sent and not yet acknowledged, oldest first (R231). -/
  retry : List SentFlit := []
  /-- Flits to send again. -/
  resend : List SentFlit := []
  /-- Credit units drawn since module reset (R391). -/
  drawn : Nat := 0
  nextGroup : Nat := 0
  /-- Flits in a row for which the request network was passed over, and the last 256 flits' GENERATE marks (R239). -/
  passedOver : Nat := 0
  genWindow : List Bool := []
  /-- The weighted round-robin: class served and flits left to it. -/
  wrrClass : Nat := 1
  wrrLeft : Nat := 8
  deriving DecidableEq, Repr

/-! ### Plats and collectives -/

/-- A plat (R241, R242). -/
structure Plat where
  owner : Nat
  members : List (BitVec 15)
  e0 : Nat
  e1 : Nat
  e2 : Nat
  reformable : Bool
  straggler : Nat
  listCrc : Word32
  setMask : BitVec 16
  slot : Nat
  collSeq : Word32 := 0
  epoch : BitVec 16 := 0
  excluded : Bool := false
  deriving DecidableEq, Repr

/-- The kinds of collective run by the engine (R252, R301, R360). -/
inductive CollKind where
  | barrier | broadcast | reduceScatter | allGather | allReduce | allToAll | datumBarrier | gns
  deriving DecidableEq, Repr

/-- One collective on this member (R248 to R256). -/
structure Coll where
  id : Nat
  ctx : Nat
  queue : Nat
  kind : CollKind
  platId : Nat
  seq : Word32
  epoch : BitVec 16
  members : List (BitVec 15)
  e0 : Nat
  e1 : Nat
  e2 : Nat
  /-- This member's index. -/
  me : Nat
  /-- 0 SUM, 1 MAX, 2 MIN. -/
  reduction : Nat := 0
  inFormat : Byte := 0
  outFormat : Byte := 0
  sr : Bool := false
  generate : Bool := false
  root : Nat := 0
  inAddr : Nat := 0
  outAddr : Nat := 0
  /-- Elements for a reduction, bytes otherwise. -/
  len : Nat := 0
  srStep : Word32 := 0
  /-- The Job ID of its stochastic rounding (R42, R305). -/
  srJob : BitVec 16 := 0
  hold : Option Hold := none
  straggler : Nat := 50000
  reformable : Bool := false
  /-- The list with which the collective began. -/
  first : List (BitVec 15) := []
  /-- 0 waits, 1 runs, 2 pre-empted, 3 ended. -/
  run : Nat := 0
  slotNo : Option Nat := none
  order : Nat := 0
  /-- The stage: dimension, gather phase, and the step awaited. -/
  dim : Nat := 0
  gather : Bool := false
  step : Nat := 1
  /-- Elements of the awaited step that have come. -/
  got : Nat := 0
  /-- The input as read, one entry per wire element. -/
  input : List Word64 := []
  /-- The values in hand by element index. -/
  work : Table Word64 := []
  /-- Segments that have landed and wait for their stage. -/
  landing : List Segment := []
  /-- Segments ready to leave and the member they go to. -/
  toSend : List (Nat × Segment) := []
  /-- Credits that receivers have granted to this member, by member index (R250). -/
  credits : Table Nat := []
  /-- Segments granted to each sender, by member index. -/
  granted : Table Nat := []
  /-- Time of the last segment or grant. -/
  lastHeard : Nat := 0
  lastReport : Option Nat := none
  /-- Wait reports that the coordinator or deputy holds: member, waits on, time first and last heard. -/
  reports : List (Nat × Nat × Nat × Nat) := []
  coordinatorHeard : Nat := 0
  acting : Bool := false
  /-- When it took its engine slot. -/
  started : Nat := 0
  /-- It gives its slot up at its next step boundary (R248). -/
  yields : Bool := false
  /-- Nothing is sent before this datum (R361). -/
  gate : Option Word64 := none
  deriving DecidableEq, Repr

/-! ### Experts -/

/-- A row in a landing region (R270). -/
structure Row where
  wave : Word32
  origin : Nat
  originModule : Nat
  token : Nat
  slot : Nat
  drop : Bool
  weight : Word32
  land : Nat
  got : Nat
  arrival : Nat
  /-- Its place in the order of batching (R273). -/
  order : Nat
  /-- The datum of its arrival. -/
  datum : Word64
  /-- Beyond the capacity of its wave: it runs after the capacity batches (R275). -/
  spilled : Bool := false
  /-- It has been put in a batch. -/
  batched : Bool := false
  deriving DecidableEq, Repr

/-- An open wave of an inbox (R272). -/
structure Wave where
  wave : Word32
  markers : List Nat := []
  /-- Batches closed so far. -/
  batches : Nat := 0
  /-- Rows taken against WAVE_CAPACITY. -/
  taken : Nat := 0
  /-- Per origin index: received, returned, dropped, refused (R279). -/
  counts : Table (Nat × Nat × Nat × Nat) := []
  cut : Bool := false
  deriving DecidableEq, Repr

/-- A batch that is closed: its wave, sequence, rows as landing slots, and the grid once launched (R271). -/
structure Batch where
  wave : Word32
  seq : Nat
  rows : List Nat
  grid : Option Nat
  descriptor : Nat
  deriving DecidableEq, Repr

/-- An inbox (R265, R266, R278, R348). -/
structure Inbox where
  owner : Nat := 0
  enable : Bool := false
  generate : Bool := false
  rowFormat : Byte := 0
  replayable : Bool := false
  rowUnits : Nat := 1
  batchRows : Nat := 8
  capacity : Nat := 0
  deadline : Nat := 0
  floor : Nat := 0
  listCrc : Word32 := 0
  origins : List (BitVec 15) := []
  expert : BitVec 16 := 0
  program : Word32 := 0
  kernel : Word32 := 0
  grid1 : Nat := 1
  landing : Nat := 0
  landingRows : Nat := 0
  outUnits : Nat := 1
  outFormat : Byte := 0
  argsAddr : Nat := 0
  rows : List Row := []
  waves : List Wave := []
  batches : List Batch := []
  nextArrival : Nat := 0
  received : Word64 := 0
  byCount : Word64 := 0
  byMarkers : Word64 := 0
  byFloor : Word64 := 0
  byDeadline : Word64 := 0
  spilled : Word64 := 0
  droppedRows : Word64 := 0
  refusedRows : Word64 := 0
  peak : Word64 := 0
  deriving DecidableEq, Repr

/-! ### DRAM stacks and test access -/

/-- One DRAM stack (R347). -/
structure Stack where
  temp : Byte := 0
  /-- 0 untrained, 1 training, 2 ready, 3 failed. -/
  train : BitVec 2 := 0
  ue : Word32 := 0
  ce : Word32 := 0
  moved : Word64 := 0
  /-- Times at which uncorrectable lines of the last second were found (R368). -/
  ueTimes : List Nat := []
  deriving DecidableEq, Repr

/-- What the test port's instruction register holds (R413). -/
inductive JtagIr where
  | bypass | idcode | samplePreload | extest
  deriving DecidableEq, Repr

/-- The test port (R413). -/
structure Jtag where
  ir : JtagIr := .bypass
  captured : List Bool := []
  driven : List Bool := []
  unlocked : Bool := false
  deriving DecidableEq, Repr

/-! ### What leaves the module -/

/-- Messages between Surveyors, registrars and homes that R195 gives no packet form. -/
inductive Ctrl where
  | slice (r : SliceRequest)
  | sliceReport (grid : Nat) (slice : Nat) (records : Nat) (dead : Bool)
  | frameAsk (job : BitVec 16) (parcel : Nat)
  | startMove (job : BitVec 16) (parcel : Nat) (dst : BitVec 15) (frame : BitVec 18)
  | switched (job : BitVec 16) (parcel : Nat) (home : BitVec 15) (frame : BitVec 18) (gen : BitVec 16)
  | copyDone (job : BitVec 16) (parcel : Nat)
  | abandon (job : BitVec 16) (parcel : Nat)
  | wantMove (job : BitVec 16) (parcel : Nat) (dst : BitVec 15)
  | materialise (job : BitVec 16) (parcel : Nat) (dst : BitVec 15)
  | unmaterialised (job : BitVec 16) (parcel : Nat)
  | allocEntry (job : BitVec 16) (parcel : Nat)
  | freeEntry (job : BitVec 16) (parcel : Nat)
  | pinEntry (job : BitVec 16) (parcel : Nat) (dst : BitVec 15)
  | paged (job : BitVec 16) (parcel : Nat)
  | pagedIn (job : BitVec 16) (parcel : Nat)
  deriving DecidableEq, Repr

/-- What the module has put out: signals, flits, sideband and BAR answers. -/
inductive Out where
  | msix (vector : Nat)
  /-- A flit (R231). -/
  | flit (port : Nat) (group : Nat) (f : Flit)
  | ctrl (dest : Nat) (m : Ctrl)
  | engineWrite (dest : Nat) (va : Nat) (bytes : List Byte)
  | engineAtomic (dest : Nat) (va : Nat) (op : Nat) (operand : Word64)
  | smbus (bytes : List Byte)
  | smbusNack
  | barRead (master : Master) (v : Word64)
  | bar4Read (bytes : List Byte)
  | jtag (bits : List Bool)
  | resetRequest
  | identityAgain (group : Nat)
  /-- This module's identity block, sent on a group (R224). -/
  | identity (group : Nat) (bytes : List Byte)
  | timestamp (group : Nat)
  | creditView (port : Nat)
  deriving DecidableEq, Repr

/-! ### The whole module -/

/-- The state of one OT-4800 module. -/
structure State where
  /-- The model's own clock: nanoseconds since reset (notes/assumptions/4.md). -/
  time : Nat := 0
  /-- The model's own counter of free values (notes/assumptions/5.md). -/
  free : Nat := 0
  fuses : Fuses := {}
  boot : Boot := {}
  power : Power := {}
  side : Sideband := {}
  regs : Regs := {}
  datum : Datum := {}
  errs : Errors := {}
  recov : Recov := {}
  /-- Contexts 0 to 63; unlisted: FREE. -/
  contexts : Table Context := []
  /-- Queues 0 to 255. -/
  queues : Table Queue := []
  /-- The queue the CP served last, and the number of commands decoded (R321). -/
  lastQueue : Nat := 255
  decoded : Nat := 0
  /-- Time of the last WAIT_CYCLE_CHECK (R325). -/
  lastCycleCheck : Nat := 0
  /-- The mailbox command that the HRP runs (R328). -/
  mboxCmd : Option Cmd := none
  nextHandle : Nat := 1
  grids : List Grid := []
  slices : List Slice := []
  nextGrid : Nat := 1
  nextSlice : Nat := 0
  clusters : Table Cluster := []
  /-- Cores by rank × 32 + core. -/
  cores : Table Core := []
  home : Home := {}
  /-- DRAM by fabric local address (R9), and host memory as the module reads and writes it. -/
  dram : Mem := []
  hostMem : Mem := []
  dramStacks : Table Stack := []
  fabric : Fabric := {}
  ports : Table Port := []
  groups : Table Group := []
  plats : Table Plat := []
  colls : List Coll := []
  nextColl : Nat := 1
  inboxes : Table Inbox := []
  jtag : Jtag := {}
  /-- What the module has put out, oldest first. -/
  out : List Out := []
  /-- The commands that wait, first in, first out. -/
  pending : List Instr := []
  deriving DecidableEq, Repr

/-- The module right after module reset, MOD_RESET# still low (R396, R397, R402). -/
def State.reset : State := {}

end Sys2Proof.Machine
end

