-- ==== Sys2Proof/Machine/Bits.lean ====
section
/-!
DEFINITION. Tables, memory, byte order and the small arithmetic that every part uses: little-endian bytes (R6), the CRC-32 of
R118, saturating and wrapping counters (R44), and the canonical form of memory.
-/
namespace Sys2Proof.Machine

/-! ### Tables -/

/-- What a table holds at a key, or the value given for an unlisted key. -/
def tget {α : Type} : Table α → Nat → α → α
  | [], _, d => d
  | (j, v) :: t, k, d => if j = k then v else tget t k d

/-- A table with one entry set, keys kept rising. -/
def tset {α : Type} : Table α → Nat → α → Table α
  | [], k, v => [(k, v)]
  | (j, w) :: t, k, v => if k < j then (k, v) :: (j, w) :: t else if k = j then (k, v) :: t else (j, w) :: tset t k v

/-- A table without one entry. -/
def terase {α : Type} (t : Table α) (k : Nat) : Table α := t.filter (fun e => e.1 != k)

/-- Whether a key is listed. -/
def tmem {α : Type} (t : Table α) (k : Nat) : Bool := t.any (fun e => e.1 == k)

/-! ### Memory -/

/-- The byte at an address. -/
def memRead : Mem → Nat → Byte
  | [], _ => 0
  | (j, b) :: m, a => if j = a then b else memRead m a

/-- Memory with one byte written, in its canonical form: rising addresses, no zero byte listed. -/
def memWrite : Mem → Nat → Byte → Mem
  | [], a, b => if b = 0 then [] else [(a, b)]
  | (j, c) :: m, a, b =>
    if a < j then (if b = 0 then (j, c) :: m else (a, b) :: (j, c) :: m)
    else if a = j then (if b = 0 then m else (a, b) :: m)
    else (j, c) :: memWrite m a b

/-- n bytes from an address on. -/
def memReadN (m : Mem) (a n : Nat) : List Byte := (List.range n).map (fun i => memRead m (a + i))

/-- Bytes written from an address on. -/
def memWriteN (m : Mem) (a : Nat) : List Byte → Mem
  | [] => m
  | b :: bs => memWriteN (memWrite m a b) (a + 1) bs

/-- A range set to zero. -/
def memClear (m : Mem) (a n : Nat) : Mem := m.filter (fun c => decide (c.1 < a) || decide (a + n ≤ c.1))

/-- The listed cells of a range, by offset. -/
def memCells (m : Mem) (a n : Nat) : List (Nat × Byte) :=
  (m.filter (fun c => decide (a ≤ c.1) && decide (c.1 < a + n))).map (fun c => (c.1 - a, c.2))

/-- A range of one memory copied over a range of another. -/
def memCopy (src : Mem) (a : Nat) (dst : Mem) (b n : Nat) : Mem :=
  (memCells src a n).foldl (fun m c => memWrite m (b + c.1) c.2) (memClear dst b n)

/-- The canonical form: addresses strictly rising and no entry zero. -/
def Memory.wf : Mem → Bool
  | [] => true
  | [(_, b)] => b != 0
  | (a, b) :: (a', b') :: m => b != 0 && decide (a < a') && Memory.wf ((a', b') :: m)

/-! ### Bytes and numbers -/

/-- The number that little-endian bytes spell (R6). -/
def leNat : List Byte → Nat
  | [] => 0
  | b :: bs => b.toNat + 256 * leNat bs

/-- k little-endian bytes of a number. -/
def natLE (n : Nat) : Nat → List Byte
  | 0 => []
  | k + 1 => BitVec.ofNat 8 n :: natLE (n / 256) k

/-- Bytes [off, off + n) of a list, zero beyond its end. -/
def slice (l : List Byte) (off n : Nat) : List Byte := (List.range n).map (fun i => l.getD (off + i) 0)

/-- The little-endian field of n bytes at an offset. -/
def field (l : List Byte) (off n : Nat) : Nat := leNat (slice l off n)

/-- A list with bytes replaced from an offset on. -/
def patch (l : List Byte) (off : Nat) (bs : List Byte) : List Byte :=
  l.take off ++ bs ++ l.drop (off + bs.length)

/-- Bits [lo + n − 1 : lo] of a number. -/
def bitsOf (v lo n : Nat) : Nat := v / 2 ^ lo % 2 ^ n

/-- Bit i of a number. -/
def bitOf (v i : Nat) : Bool := v / 2 ^ i % 2 == 1

/-- The number of a truth value. -/
def b2n (b : Bool) : Nat := if b then 1 else 0

/-- ceil(a ÷ b). -/
def ceilDiv (a b : Nat) : Nat := (a + b - 1) / b

/-- The signed value of an n-bit number. -/
def signedOf (v n : Nat) : Int := if bitOf v (n - 1) then (v % 2 ^ n : Nat) - (2 ^ n : Nat) else (v % 2 ^ n : Nat)

/-- A 32-bit tally that saturates at its maximum (R44). -/
def satAdd (w : Word32) (n : Nat) : Word32 := BitVec.ofNat 32 (min (w.toNat + n) 0xFFFFFFFF)

/-- One CRC-32 step over a byte, polynomial of IEEE 802.3, reflected. -/
def crcByte (crc : Nat) (b : Byte) : Nat :=
  (List.range 8).foldl (fun c _ => if c % 2 == 1 then (c / 2) ^^^ 0xEDB88320 else c / 2) (crc ^^^ b.toNat)

/-- The CRC-32 of R118. -/
def crc32 (bs : List Byte) : Word32 := BitVec.ofNat 32 ((bs.foldl crcByte 0xFFFFFFFF) ^^^ 0xFFFFFFFF)

/-- Zero bytes. -/
def zeros (n : Nat) : List Byte := List.replicate n 0

/-- A list in runs of n. -/
def chunksAux {α : Type} (n : Nat) : Nat → List α → List (List α)
  | 0, _ => []
  | f + 1, l => if l.isEmpty then [] else l.take n :: chunksAux n f (l.drop n)

/-- A list in runs of n, the last perhaps shorter. -/
def chunks {α : Type} (n : Nat) (l : List α) : List (List α) := chunksAux n l.length l

/-- The first element that meets a test, replaced. -/
def updateFirst {α : Type} (p : α → Bool) (f : α → α) : List α → List α
  | [] => []
  | a :: l => if p a then f a :: l else a :: updateFirst p f l

/-- The elements of a list that meet a test, replaced. -/
def updateAll {α : Type} (p : α → Bool) (f : α → α) (l : List α) : List α := l.map (fun a => if p a then f a else a)

/-- The last element. -/
def lastOf {α : Type} (l : List α) : Option α := l.getLast?

/-- The last element replaced. -/
def updateLast {α : Type} (f : α → α) : List α → List α
  | [] => []
  | [a] => [f a]
  | a :: b :: l => a :: updateLast f (b :: l)

/-! ### Outcomes -/

/-- The outcome of a step of this module. -/
abbrev Res := Host.Outcome State Fault Refusal

/-- A step that comes about only when its guard holds. -/
def when (step : String) (guard : Bool) (s : State) : Res :=
  if guard then .next s else .refused (.notOccurring step)

/-! ### Tree pseudo-LRU (R148, R178) -/

/-- Walks the tree of 2^depth ways from its root towards the way that is least recently used. Node n has children 2n and
2n + 1; a set bit points right. `skip` are ways that may not be chosen. -/
def plruVictim (bits : Nat) : Nat → Nat → Nat
  | 0, node => node
  | d + 1, node => plruVictim bits d (2 * node + b2n (bitOf bits node))

/-- The way that the tree of 2^depth ways points to. -/
def plruWay (bits depth : Nat) : Nat := plruVictim bits depth 1 - 2 ^ depth

/-- A bit of a number set to a truth value. -/
def setBit (v i : Nat) (b : Bool) : Nat := if bitOf v i == b then v else if b then v + 2 ^ i else v - 2 ^ i

/-- The tree after way w was used (away = true) or was entered as least recently used (away = false). -/
def plruTouch (depth w : Nat) (away : Bool) (bits : Nat) : Nat :=
  (List.range depth).foldl
    (fun acc i =>
      let node := (2 ^ depth + w) / 2 ^ (depth - i)
      let right := bitOf (2 ^ depth + w) (depth - i - 1)
      setBit acc node (if away then !right else right)) bits

end Sys2Proof.Machine
end

