-- ==== Sys2Proof/Machine/Fp.lean ====
section
/-!
DEFINITION. Formats, rounding and FP32 arithmetic (R31 to R51): every result is formed exactly on integers and rounded once.
-/
namespace Sys2Proof.Machine

/-! ### Values -/

/-- A floating-point operand: a NaN, an infinity, or (−1)^neg × m × 2^e. -/
inductive FVal where
  | poison
  | nan
  | inf (neg : Bool)
  | fin (neg : Bool) (m : Nat) (e : Int)
  deriving DecidableEq, Repr

/-- What a format does at the top of its range (R31). -/
inductive Top where
  | ieee | e4m3 | finite
  deriving DecidableEq, Repr

/-- A floating-point layout: exponent bits, mantissa bits, bias, top (R31). -/
structure Layout where
  eb : Nat
  mb : Nat
  bias : Nat
  top : Top
  deriving DecidableEq, Repr

def fp32L : Layout := ⟨8, 23, 127, .ieee⟩
def bf16L : Layout := ⟨8, 7, 127, .ieee⟩
def fp16L : Layout := ⟨5, 10, 15, .ieee⟩
def e4m3L : Layout := ⟨4, 3, 7, .e4m3⟩
def e5m2L : Layout := ⟨5, 2, 15, .ieee⟩
def e3m2L : Layout := ⟨3, 2, 3, .finite⟩
def e2m3L : Layout := ⟨2, 3, 1, .finite⟩
def e2m1L : Layout := ⟨2, 1, 1, .finite⟩

/-- The width of a layout. -/
def Layout.width (l : Layout) : Nat := 1 + l.eb + l.mb

/-- The exponent of the grid of the subnormals: 1 − bias − mantissa bits. -/
def Layout.grid (l : Layout) : Int := 1 - (l.bias : Int) - (l.mb : Int)

/-- The magnitude code of the largest finite value. -/
def Layout.maxCode (l : Layout) : Nat :=
  match l.top with
  | .ieee => (2 ^ l.eb - 1) * 2 ^ l.mb - 1
  | .e4m3 => 2 ^ (l.eb + l.mb) - 2
  | .finite => 2 ^ (l.eb + l.mb) - 1

/-- The magnitude of a finite code, as m × 2^e. -/
def Layout.mag (l : Layout) (code : Nat) : Nat × Int :=
  let ef := code / 2 ^ l.mb
  let m := code % 2 ^ l.mb
  if ef = 0 then (m, l.grid) else (2 ^ l.mb + m, l.grid + (ef : Int) - 1)

/-- The poison pattern of a layout that has one (R34), without its sign. -/
def Layout.poison (l : Layout) : Option Nat :=
  if l = fp32L then some 0x7FC00DEA else if l = bf16L then some 0x7FEA else if l = fp16L then some 0x7FEA else none

/-- The canonical NaN of a layout (R34). -/
def Layout.nanCode (l : Layout) : Nat :=
  if l = fp32L then 0x7FC00000 else if l = bf16L then 0x7FC0 else if l = fp16L then 0x7E00
  else if l = e4m3L then 0x7F else if l = e5m2L then 0x7E else 0

/-- The value of a code (R31). -/
def Layout.decode (l : Layout) (code : Nat) : FVal :=
  let neg := bitOf code (l.eb + l.mb)
  let c := code % 2 ^ (l.eb + l.mb)
  if l.poison = some (code % 2 ^ l.width) then .poison
  else if c ≤ l.maxCode then .fin neg (l.mag c).1 (l.mag c).2
  else if l.top = .ieee ∧ c % 2 ^ l.mb = 0 then .inf neg
  else .nan

/-- A subnormal E4M3, E5M2 or E2M1 operand flushed to zero of its sign (R37). -/
def Layout.decodeIn (l : Layout) (code : Nat) : FVal :=
  match l.decode code with
  | .fin neg m e => if (l = e4m3L ∨ l = e5m2L ∨ l = e2m1L) ∧ m < 2 ^ l.mb then .fin neg 0 0 else .fin neg m e
  | v => v

/-! ### Rounding -/

/-- The rounding modes of R38; SR carries its draw. -/
inductive RMode where
  | rne
  | rtz
  | sr (r : Nat)
  deriving DecidableEq, Repr

/-- floor(log2 n) for n above zero. -/
def log2N (n : Nat) : Nat := Nat.log2 n

/-- n × 2^k rounded down, and whether anything was lost. -/
def shiftN (n : Nat) (k : Int) : Nat × Bool :=
  match k with
  | .ofNat k => (n * 2 ^ k, false)
  | .negSucc k => (n / 2 ^ (k + 1), n % 2 ^ (k + 1) != 0)

/-- The integer q of grid units for m × 2^e (`more`: a little above it) on a grid of 2^g: truncated, then moved up as the
mode says (R38, R43). -/
def roundGrid (mode : RMode) (m : Nat) (e : Int) (more : Bool) (g : Int) : Nat :=
  let fine := shiftN m (e - g + 16)
  let t := fine.1 / 65536
  let f := fine.1 % 65536
  let rest := fine.2 || more
  match mode with
  | .rtz => t
  | .sr r => if f + r ≥ 65536 then t + 1 else t
  | .rne => if f > 32768 ∨ (f = 32768 ∧ (rest ∨ t % 2 = 1)) then t + 1 else t

/-- The exponent of the grid on which m × 2^e lies in a layout. -/
def Layout.gridOf (l : Layout) (m : Nat) (e : Int) : Int :=
  if m = 0 then l.grid else max l.grid ((log2N m : Int) + e - (l.mb : Int))

/-- The magnitude code that m × 2^e rounds to, not bounded by the layout's range. -/
def Layout.roundCode (l : Layout) (mode : RMode) (m : Nat) (e : Int) (more : Bool) : Nat :=
  let g := l.gridOf m e
  ((g - l.grid).toNat) * 2 ^ l.mb + roundGrid mode m e more g

/-- Whether m × 2^e is at least the largest finite value plus `num` ÷ 2 of its last place. -/
def Layout.atLeastMax (l : Layout) (num : Nat) (m : Nat) (e : Int) : Bool :=
  let (mm, me) := l.mag l.maxCode
  let k := min e (me - 1)
  decide ((shiftN m (e - k)).1 ≥ (shiftN (2 * mm + num) (me - 1 - k)).1)

/-- What a conversion or an operation made that R44 counts. -/
structure Made where
  nan : Nat := 0
  inf : Nat := 0
  sat : Nat := 0
  mx : Nat := 0
  deriving DecidableEq, Repr

/-- Two counts together. -/
def Made.add (a b : Made) : Made := ⟨a.nan + b.nan, a.inf + b.inf, a.sat + b.sat, a.mx + b.mx⟩

/-- A code with its sign. -/
def Layout.signed (l : Layout) (neg : Bool) (c : Nat) : Nat := b2n neg * 2 ^ (l.eb + l.mb) + c

/-- The infinity of a layout. -/
def Layout.infCode (l : Layout) : Nat := (2 ^ l.eb - 1) * 2 ^ l.mb

/-- What overflow gives, finite or by an infinite input (R39): the code, and what is counted for a finite input. -/
def Layout.excess (l : Layout) (sat : Bool) (neg : Bool) (wasInf : Bool) : Nat × Made :=
  match l.top with
  | .finite => (l.signed neg l.maxCode, if wasInf then {} else ⟨0, 0, 1, 0⟩)
  | .e4m3 => if sat then (l.signed neg l.maxCode, if wasInf then {} else ⟨0, 0, 1, 0⟩) else (l.nanCode, ⟨1, 0, 0, 0⟩)
  | .ieee =>
    if wasInf then (l.signed neg l.infCode, {})
    else if sat ∧ l = e5m2L then (l.signed neg l.maxCode, ⟨0, 0, 1, 0⟩)
    else (l.signed neg l.infCode, ⟨0, 1, 0, 0⟩)

/-- The magnitude code that m × 2^e takes by a draw (R43): t truncated onto the layout's grid, which ends at the largest finite value,
and f from the 16 bits directly below the grid's last place; one above the largest finite code stands for the carry out of it. -/
def Layout.srCode (l : Layout) (r m : Nat) (e : Int) : Nat :=
  let g := min (l.gridOf m e) (l.mag l.maxCode).2
  let fine := (shiftN m (e - g + 16)).1
  let t := min ((g - l.grid).toNat * 2 ^ l.mb + fine / 65536) l.maxCode
  if fine % 65536 + r ≥ 65536 then t + 1 else t

/-- Whether m × 2^e overflows in a mode (R40); SR overflows by the carry out of the largest finite code alone. -/
def Layout.overflows (l : Layout) (mode : RMode) (m : Nat) (e : Int) : Bool :=
  match mode with
  | .rne => l.atLeastMax 1 m e
  | .rtz => false
  | .sr r => decide (l.srCode r m e > l.maxCode)

/-- A finite value rounded into a layout (R38 to R40, R43). -/
def Layout.ofFin (l : Layout) (mode : RMode) (sat neg : Bool) (m : Nat) (e : Int) (more : Bool) : Nat × Made :=
  if m = 0 ∧ more = false then (l.signed neg 0, {})
  else if l.overflows mode m e then l.excess sat neg false
  else
    match mode with
    | .sr r => (l.signed neg (l.srCode r m e), {})
    | _ =>
      (l.signed neg (min (l.roundCode mode m e more) l.maxCode), ⟨0, 0, b2n (decide (mode = .rtz) && l.atLeastMax 2 m e), 0⟩)

/-- The poison or canonical NaN of a destination (R34, R35). -/
def Layout.nanOf (l : Layout) (isPoison : Bool) : Nat :=
  if isPoison then l.poison.getD l.nanCode else l.nanCode

/-- A value converted to a layout. -/
def Layout.ofVal (l : Layout) (mode : RMode) (sat : Bool) (v : FVal) : Nat × Made :=
  match v with
  | .poison => (l.nanOf true, {})
  | .nan => (l.nanOf false, {})
  | .inf neg => l.excess sat neg true
  | .fin neg m e => l.ofFin mode sat neg m e false

/-! ### FP32 operations -/

/-- An FP32 result and what R44 counts for it. -/
structure FRes where
  v : Word32
  made : Made := {}
  deriving DecidableEq, Repr

/-- The canonical and the poison NaN of FP32 (R34). -/
def nan32 : Word32 := 0x7FC00000
def poison32 : Word32 := 0x7FC00DEA

/-- The value of an FP32 pattern. -/
def val32 (w : Word32) : FVal := fp32L.decode w.toNat

/-- An invalid operation: the canonical NaN, counted (R35). -/
def invalid32 : FRes := ⟨nan32, ⟨1, 0, 0, 0⟩⟩

/-- ±∞, counted when it was made from finite operands. -/
def inf32 (neg : Bool) (counted : Bool) : FRes :=
  ⟨BitVec.ofNat 32 (fp32L.signed neg fp32L.infCode), ⟨0, b2n counted, 0, 0⟩⟩

/-- A finite result rounded to FP32 by RNE. -/
def fin32 (neg : Bool) (m : Nat) (e : Int) (more : Bool := false) : FRes :=
  let r := fp32L.ofFin .rne false neg m e more
  ⟨BitVec.ofNat 32 r.1, r.2⟩

/-- The NaN that operands force, poison first (R35). -/
def nanOf (vs : List FVal) : Option Word32 :=
  if vs.contains .poison then some poison32 else if vs.contains .nan then some nan32 else none

/-- The exact sum of two finite values: sign, magnitude and exponent; a zero sum is +0 unless both are −0 (R36). -/
def sumFin (n1 : Bool) (m1 : Nat) (e1 : Int) (n2 : Bool) (m2 : Nat) (e2 : Int) : Bool × Nat × Int :=
  let k := min e1 e2
  let a := (shiftN m1 (e1 - k)).1
  let b := (shiftN m2 (e2 - k)).1
  if n1 = n2 then (n1, a + b, k)
  else if a = b then (false, 0, k)
  else if a > b then (n1, a - b, k) else (n2, b - a, k)

/-- Addition of values (R35, R36). -/
def addVal (a b : FVal) : FRes :=
  match nanOf [a, b] with
  | some w => ⟨w, {}⟩
  | none =>
    match a, b with
    | .inf n1, .inf n2 => if n1 = n2 then inf32 n1 false else invalid32
    | .inf n, _ => inf32 n false
    | _, .inf n => inf32 n false
    | .fin n1 m1 e1, .fin n2 m2 e2 =>
      let r := sumFin n1 m1 e1 n2 m2 e2
      fin32 r.1 r.2.1 r.2.2
    | _, _ => ⟨nan32, {}⟩

/-- FP32 addition. -/
def fadd (a b : Word32) : FRes := addVal (val32 a) (val32 b)

/-- The sign changed; a NaN as R35 gives it. -/
def negVal : FVal → FVal
  | .inf n => .inf (!n)
  | .fin n m e => .fin (!n) m e
  | v => v

/-- FP32 subtraction. -/
def fsub (a b : Word32) : FRes := addVal (val32 a) (negVal (val32 b))

/-- Whether a value is zero. -/
def isZero : FVal → Bool
  | .fin _ 0 _ => true
  | _ => false

/-- The sign of a value. -/
def isNeg : FVal → Bool
  | .inf n => n
  | .fin n _ _ => n
  | _ => false

/-- The product of two values, exact or special: none when it is invalid. -/
def mulVal (a b : FVal) : Option FVal :=
  match a, b with
  | .fin n1 m1 e1, .fin n2 m2 e2 => some (.fin (n1 != n2) (m1 * m2) (e1 + e2))
  | a, b => if isZero a || isZero b then none else some (.inf (isNeg a != isNeg b))

/-- FP32 multiplication. -/
def fmul (a b : Word32) : FRes :=
  match nanOf [val32 a, val32 b] with
  | some w => ⟨w, {}⟩
  | none =>
    match mulVal (val32 a) (val32 b) with
    | none => invalid32
    | some (.fin n m e) => fin32 n m e
    | some v => inf32 (isNeg v) false

/-- a × b + c rounded once, on values. -/
def fmaVal (a b c : FVal) : FRes :=
  match nanOf [a, b, c] with
  | some w => ⟨w, {}⟩
  | none =>
    match mulVal a b with
    | none => invalid32
    | some p => addVal p c

/-- FP32 fused multiply-add. -/
def ffma (a b c : Word32) : FRes := fmaVal (val32 a) (val32 b) (val32 c)

/-- FP32 fused multiply-subtract: a × b − c rounded once. -/
def ffms (a b c : Word32) : FRes := fmaVal (val32 a) (val32 b) (negVal (val32 c))

/-- The FP32 pattern of a value that FP32 holds. -/
def enc32 (v : FVal) : Word32 := BitVec.ofNat 32 (fp32L.ofVal .rne false v).1

/-- Negation and magnitude; a NaN as R35 gives it. -/
def fneg (a : Word32) : FRes :=
  match nanOf [val32 a] with
  | some w => ⟨w, {}⟩
  | none => ⟨a ^^^ 0x80000000, {}⟩

def fabs (a : Word32) : FRes :=
  match nanOf [val32 a] with
  | some w => ⟨w, {}⟩
  | none => ⟨a &&& 0x7FFFFFFF, {}⟩

/-- Whether a is below b; both are ordered. -/
def ltVal (a b : FVal) : Bool :=
  match a, b with
  | .inf true, .inf true => false
  | .inf true, _ => true
  | _, .inf true => false
  | .inf false, _ => false
  | _, .inf false => true
  | .fin n1 m1 e1, .fin n2 m2 e2 =>
    let k := min e1 e2
    let x : Int := ((shiftN m1 (e1 - k)).1 : Int) * (if n1 then -1 else 1)
    let y : Int := ((shiftN m2 (e2 - k)).1 : Int) * (if n2 then -1 else 1)
    decide (x < y)
  | _, _ => false

/-- Whether a is below b in the order of the maximum and minimum operations, in which −0 lies below +0 (R36). -/
def ltOrd (a b : FVal) : Bool := ltVal a b || (isZero a && isZero b && isNeg a && !isNeg b)

/-- Whether a value is a NaN. -/
def isNan : FVal → Bool
  | .poison => true
  | .nan => true
  | _ => false

/-- Maximum (R35, R36): −0 lies below +0; with one NaN operand the NaN rules. -/
def fmax (a b : Word32) : FRes :=
  match nanOf [val32 a, val32 b] with
  | some w => ⟨w, {}⟩
  | none => if ltOrd (val32 a) (val32 b) then ⟨b, {}⟩ else ⟨a, {}⟩

/-- Minimum. -/
def fmin (a b : Word32) : FRes :=
  match nanOf [val32 a, val32 b] with
  | some w => ⟨w, {}⟩
  | none => if ltOrd (val32 b) (val32 a) then ⟨b, {}⟩ else ⟨a, {}⟩

/-- The exact quotient of finite nonzero values to 40 bits, with what is lost. -/
def divFin (m1 : Nat) (e1 : Int) (m2 : Nat) (e2 : Int) : Nat × Int × Bool :=
  let k := 64 + log2N m2
  let q := m1 * 2 ^ k / m2
  (q, e1 - e2 - (k : Int), m1 * 2 ^ k % m2 != 0)

/-- FP32 division (R105). -/
def fdiv (a b : Word32) : FRes :=
  let x := val32 a
  let y := val32 b
  match nanOf [x, y] with
  | some w => ⟨w, {}⟩
  | none =>
    let neg := isNeg x != isNeg y
    match x, y with
    | .inf _, .inf _ => invalid32
    | .inf _, _ => inf32 neg false
    | _, .inf _ => ⟨BitVec.ofNat 32 (fp32L.signed neg 0), {}⟩
    | .fin _ m1 e1, .fin _ m2 e2 =>
      if m2 = 0 then (if m1 = 0 then invalid32 else inf32 neg true)
      else if m1 = 0 then ⟨BitVec.ofNat 32 (fp32L.signed neg 0), {}⟩
      else
        let q := divFin m1 e1 m2 e2
        fin32 neg q.1 q.2.1 q.2.2
    | _, _ => ⟨nan32, {}⟩

/-- FP32 reciprocal. -/
def frcp (a : Word32) : FRes := fdiv 0x3F800000 a

/-- floor(√n), bit by bit from the top. -/
def isqrtTop (n : Nat) : Nat :=
  ((List.range (log2N n / 2 + 1)).reverse).foldl (fun r i => if (r + 2 ^ i) * (r + 2 ^ i) ≤ n then r + 2 ^ i else r) 0

/-- m × 2^e with an even exponent and at least 64 bits of root. -/
def sqrtFin (m : Nat) (e : Int) : Nat × Int × Bool :=
  let e' := e - 128 - (e % 2)
  let n := m * 2 ^ (e - e').toNat
  let r := isqrtTop n
  (r, e' / 2, r * r != n)

/-- FP32 square root (R105). -/
def fsqrt (a : Word32) : FRes :=
  match nanOf [val32 a] with
  | some w => ⟨w, {}⟩
  | none =>
    match val32 a with
    | .inf neg => if neg then invalid32 else ⟨a, {}⟩
    | .fin neg m e =>
      if m = 0 then ⟨a, {}⟩ else if neg then invalid32
      else
        let r := sqrtFin m e
        fin32 false r.1 r.2.1 r.2.2
    | _ => ⟨nan32, {}⟩

/-- FP32 reciprocal square root (R105). -/
def frsqrt (a : Word32) : FRes :=
  match nanOf [val32 a] with
  | some w => ⟨w, {}⟩
  | none =>
    match val32 a with
    | .inf neg => if neg then invalid32 else ⟨0, {}⟩
    | .fin neg m e =>
      if m = 0 then inf32 neg true else if neg then invalid32
      else
        let e' := e + (e % 2)
        let m' := m * 2 ^ (e - e' + 2).toNat
        let ee := e' - 2
        let n := 2 ^ 256 / m'
        let r := isqrtTop n
        fin32 false r (-(ee / 2) - 128) (r * r * m' != 2 ^ 256)
    | _ => ⟨nan32, {}⟩

/-- Fraction bits of the fixed-point work of EXP2 and LOG2 (notes/assumptions/9.md). -/
def fixBits : Nat := 256

/-- The roots for i = 1 to n, each from the one before. -/
def rootList : Nat → Nat → List Nat
  | 0, _ => []
  | n + 1, r =>
    let r' := isqrtTop (r * 2 ^ fixBits)
    r' :: rootList n r'

/-- 2^f in fixed point for the fraction f = n ÷ 2^52. -/
def exp2Frac (n : Nat) : Nat :=
  ((rootList 52 (2 * 2 ^ fixBits)).zipIdx).foldl
    (fun r p => if bitOf n (51 - p.2) then r * p.1 / 2 ^ fixBits else r) (2 ^ fixBits)

/-- EXP2 of an ordered finite value (R105). -/
def exp2Fin (neg : Bool) (m : Nat) (e : Int) : FRes :=
  let mag := shiftN m (e + 52)
  if m = 0 then ⟨0x3F800000, {}⟩
  else if mag.1 < 2 ^ 26 then ⟨0x3F800000, {}⟩
  else if mag.1 ≥ 256 * 2 ^ 52 then (if neg then ⟨0, {}⟩ else inf32 false true)
  else
    let x : Int := if neg then -(mag.1 : Int) else (mag.1 : Int)
    let k := x / (2 ^ 52 : Nat)
    let f := (x % (2 ^ 52 : Nat)).toNat
    fin32 false (exp2Frac f) (k - (fixBits : Int)) (f != 0)

/-- FP32 EXP2. -/
def fexp2 (a : Word32) : FRes :=
  match nanOf [val32 a] with
  | some w => ⟨w, {}⟩
  | none =>
    match val32 a with
    | .inf neg => if neg then ⟨0, {}⟩ else inf32 false false
    | .fin neg m e => exp2Fin neg m e
    | _ => ⟨nan32, {}⟩

/-- Binary digits of log2 of a fixed-point number in [1, 2), by repeated squaring. -/
def log2Digits : Nat → Nat → Nat → Nat
  | 0, _, acc => acc
  | n + 1, y, acc =>
    let z := y * y / 2 ^ fixBits
    if z ≥ 2 * 2 ^ fixBits then log2Digits n (z / 2) (2 * acc + 1) else log2Digits n z (2 * acc)

/-- FP32 LOG2 (R105). -/
def flog2 (a : Word32) : FRes :=
  match nanOf [val32 a] with
  | some w => ⟨w, {}⟩
  | none =>
    match val32 a with
    | .inf neg => if neg then invalid32 else inf32 false false
    | .fin neg m e =>
      if m = 0 then inf32 true true else if neg then invalid32
      else
        let l := log2N m
        let k : Int := (l : Int) + e
        if m = 2 ^ l then (fin32 (decide (k < 0)) k.natAbs 0)
        else
          let d := log2Digits 120 (m * 2 ^ (fixBits - l)) 0
          let v : Int := k * (2 ^ 120 : Nat) + (d : Int)
          if v < 0 then fin32 true (v.natAbs - 1) (-120) true else fin32 false v.natAbs (-120) true
    | _ => ⟨nan32, {}⟩

/-- FP32 EXP2S(x, m) (R105). A difference that overflows counts in INF_MADE, though the result is a zero or a counted infinity
(notes/assumptions/77.md). -/
def fexp2s (x m : Word32) : FRes :=
  match nanOf [val32 x, val32 m] with
  | some w => ⟨w, {}⟩
  | none =>
    if val32 m = .inf true then ⟨0, {}⟩
    else
      let d := fsub x m
      let r := fexp2 d.v
      ⟨r.v, d.made.add r.made⟩

/-- v × 2^k rounded once by RNE (R46). -/
def fscale (v : Word32) (k : Int) : FRes :=
  match val32 v with
  | .poison => ⟨poison32, {}⟩
  | .nan => ⟨nan32, {}⟩
  | .inf n => inf32 n false
  | .fin n m e => fin32 n m (e + k)

/-! ### Compensated sums (R49 to R51) -/

/-- two_sum of R50. -/
def twoSum (a b : Word32) : Word32 × Word32 :=
  let s := (fadd a b).v
  let bb := (fsub s a).v
  (s, (fadd (fsub a (fsub s bb).v).v (fsub b bb).v).v)

/-- Whether a pattern is an infinity. -/
def isInf32 (w : Word32) : Bool := match val32 w with | .inf _ => true | _ => false

/-- combine of R50, special values first. -/
def combine (s1 c1 s2 c2 : Word32) : Word32 × Word32 :=
  match nanOf [val32 s1, val32 c1, val32 s2, val32 c2] with
  | some n => (n, n)
  | none =>
    let t := (fadd s1 s2).v
    if isInf32 t then (t, 0)
    else if isNan (val32 t) then (t, t)
    else
      let p := twoSum s1 s2
      let c := (fadd (fadd c1 c2).v p.2).v
      let r := twoSum p.1 c
      if isInf32 r.1 then (r.1, 0) else r

/-- What a combine made that R44 counts: a sum that became infinite, or a NaN of opposite infinities, from operands of which none was. -/
def combineMade (s1 c1 s2 c2 : Word32) : Made :=
  if (nanOf [val32 s1, val32 c1, val32 s2, val32 c2]).isSome then {}
  else
    let r := val32 (combine s1 c1 s2 c2).1
    if isNan r then ⟨1, 0, 0, 0⟩
    else match r with
      | .inf _ => ⟨0, b2n !(isInf32 s1 || isInf32 s2), 0, 0⟩
      | _ => {}

/-- s + c exactly, as a value (R51). -/
def pairVal (s c : Word32) : FVal :=
  match val32 s, val32 c with
  | .fin n1 m1 e1, .fin n2 m2 e2 =>
    let r := sumFin n1 m1 e1 n2 m2 e2
    .fin r.1 r.2.1 r.2.2
  | .fin _ _ _, v => v
  | v, _ => v

/-! ### Formats of R123 -/

/-- The plain floating-point layout of a format code, 0 to 4. -/
def layoutOf (fmt : Nat) : Layout :=
  match fmt with
  | 0 => fp32L
  | 1 => bf16L
  | 2 => fp16L
  | 3 => e4m3L
  | 4 => e5m2L
  | 7 => e4m3L
  | 8 => e5m2L
  | 9 => e3m2L
  | 10 => e2m3L
  | _ => e2m1L

/-- An MX format (R123). -/
def isMx (fmt : Nat) : Bool := decide (7 ≤ fmt ∧ fmt ≤ 12)

/-- A format with integer elements: INT8, INT32, MXINT8. -/
def isIntFmt (fmt : Nat) : Bool := fmt == 5 || fmt == 6 || fmt == 12

/-- Bits per element (R31, R32). -/
def elemBits (fmt : Nat) : Nat :=
  match fmt with
  | 0 => 32
  | 6 => 32
  | 1 => 16
  | 2 => 16
  | 9 => 6
  | 10 => 6
  | 11 => 4
  | _ => 8

/-- Bytes that n elements take in memory (R32). -/
def elemBytes (fmt n : Nat) : Nat := ceilDiv (n * elemBits fmt) 8

/-- Element j of packed element bytes (R32): elements run from the low bits up. -/
def elemAt (fmt : Nat) (bs : List Byte) (j : Nat) : Nat :=
  let w := elemBits fmt
  if w ≥ 8 then field bs (j * (w / 8)) (w / 8)
  else bitsOf (field bs (j * w / 8) 2) (j * w % 8) w

/-- Codes packed into bytes (R32). -/
def packElems (fmt : Nat) (codes : List Nat) : List Byte :=
  let w := elemBits fmt
  natLE (codes.foldr (fun c acc => c % 2 ^ w + 2 ^ w * acc) 0) (elemBytes fmt codes.length)

/-- The value of an element code on its way into arithmetic (R37). Integers are exact values. -/
def elemVal (fmt code : Nat) : FVal :=
  if isIntFmt fmt then
    let v := signedOf code (elemBits fmt)
    .fin (decide (v < 0)) v.natAbs 0
  else (layoutOf fmt).decodeIn code

/-- A plain element widened to the 32 bits of a lane: exact (R102). INT8 and INT32 stay integers. -/
def widen (fmt code : Nat) : Word32 :=
  if isIntFmt fmt then BitVec.ofInt 32 (signedOf code (elemBits fmt)) else enc32 (elemVal fmt code)

/-- An MX element times its scale, one rounded FP32 multiplication (R32). -/
def widenMx (fmt code scale : Nat) : FRes :=
  if scale = 0xFF then ⟨nan32, {}⟩
  else
    match elemVal fmt code with
    | .fin n m e => fin32 n m (e + (scale : Int) - 127 - (if fmt = 12 then 6 else 0))
    | .poison => ⟨poison32, {}⟩
    | .nan => ⟨nan32, {}⟩
    | .inf n => inf32 n false

/-- An integer value taken into n bits with saturation; whether it was clamped. -/
def satInt (n : Nat) (v : Int) : Nat × Bool :=
  let hi : Int := (2 ^ (n - 1) : Nat) - 1
  let lo : Int := -((2 ^ (n - 1) : Nat) : Int)
  if v > hi then (hi.toNat, true)
  else if v < lo then (2 ^ (n - 1), true)
  else ((v % (2 ^ n : Nat)).toNat, false)

/-- FP32 to an n-bit integer: the mode, then saturation; NaN gives 0 (R39, R43). -/
def toInt (n : Nat) (mode : RMode) (v : FVal) : Nat × Made :=
  match v with
  | .poison => (0, {})
  | .nan => (0, {})
  | .inf neg => ((satInt n (if neg then -(2 ^ 40 : Nat) else (2 ^ 40 : Nat))).1, {})
  | .fin neg m e =>
    let q : Int := (roundGrid mode m e false 0 : Nat)
    let r := satInt n (if neg then -q else q)
    (r.1, ⟨0, 0, b2n r.2, 0⟩)

/-- A lane's FP32 value converted to a plain format (R39). -/
def narrow (fmt : Nat) (mode : RMode) (sat : Bool) (w : Word32) : Nat × Made :=
  if fmt = 5 then toInt 8 mode (val32 w)
  else if fmt = 6 then toInt 32 mode (val32 w)
  else if fmt = 0 then
    match nanOf [val32 w] with
    | some x => (x.toNat, {})
    | none => (w.toNat, {})
  else (layoutOf fmt).ofVal mode sat (val32 w)

/-- The exponent emax of R41 step 3. -/
def mxEmax (fmt : Nat) : Int :=
  match fmt with
  | 7 => 8
  | 8 => 15
  | 9 => 4
  | 10 => 2
  | 11 => 2
  | _ => 0

/-- The magnitude of a finite value as floor(log2), for a nonzero one. -/
def log2Val : FVal → Option Int
  | .fin _ m e => if m = 0 then none else some ((log2N m : Int) + e)
  | _ => none

/-- One element of a block under a scale exponent (R41 step 4); it always saturates. -/
def mxElem (fmt : Nat) (mode : RMode) (k : Int) (v : FVal) : Nat × Made :=
  match v with
  | .fin neg m e =>
    if fmt = 12 then toInt 8 mode (.fin neg m (e - k + 6))
    else (layoutOf fmt).ofFin mode true neg m (e - k) false
  | _ => (0, {})

/-- An FP32 block quantised into an MX block (R41): its scale, each element's code with what it made, and what the block made. `modes`
gives each element's rounding. -/
def quantiseElems (fmt : Nat) (modes : List RMode) (vs : List Word32) : Nat × List (Nat × Made) × Made :=
  let vals := vs.map val32
  if vals.any (fun v => match v with | .fin _ _ _ => false | _ => true) then (0xFF, vs.map (fun _ => (0, {})), ⟨0, 0, 0, 1⟩)
  else
    match (vals.filterMap log2Val).foldl (fun acc x => some (match acc with | none => x | some y => max x y)) none with
    | none => (0x7F, vals.map (fun v => (if fmt = 12 then 0 else (layoutOf fmt).signed (isNeg v) 0, {})), {})
    | some top =>
      let k := max (-127) (min 127 (top - mxEmax fmt))
      ((k + 127).toNat, (vals.zipIdx).map (fun p => mxElem fmt (modes.getD p.2 .rne) k p.1), {})

/-- An FP32 block quantised and written whole (R41): scale, element codes, what is counted. -/
def quantise (fmt : Nat) (modes : List RMode) (vs : List Word32) : Nat × List Nat × Made :=
  let q := quantiseElems fmt modes vs
  (q.1, q.2.1.map (·.1), q.2.1.foldl (fun acc r => acc.add r.2) q.2.2)

/-- mix of R42. -/
def srMix (x : Word64) : Word64 :=
  let x := x ^^^ (x >>> 30)
  let x := x * 0xBF58476D1CE4E5B9#64
  let x := x ^^^ (x >>> 27)
  let x := x * 0x94D049BB133111EB#64
  x ^^^ (x >>> 31)

/-- The 16-bit draw of R42. -/
def srDraw (job : BitVec 16) (step : Word32) (va : Nat) (stream : Nat) : Nat :=
  let key : Word64 := (BitVec.ofNat 64 job.toNat <<< 32) ||| BitVec.ofNat 64 step.toNat
  let ctr : Word64 := BitVec.ofNat 64 (va % 2 ^ 56) ||| (BitVec.ofNat 64 (stream % 4) <<< 62)
  (srMix (ctr ^^^ srMix (key ^^^ 0x9E3779B97F4A7C15#64))).toNat % 65536

/-! ### The cube step (R45, R46) -/

/-- One level of the pairwise tree. -/
def treeLevel : List FRes → List FRes
  | a :: b :: l =>
    let r := fadd a.v b.v
    ⟨r.v, (a.made.add b.made).add r.made⟩ :: treeLevel l
  | l => l

/-- The pairwise tree over 2^d values. -/
def treeSum : Nat → List FRes → FRes
  | 0, l => l.headD ⟨0, {}⟩
  | d + 1, l => treeSum d (treeLevel l)

/-- A product of two operands in FP32: exact in range, rounded outside it (R45). -/
def prodVal (a b : FVal) : FRes :=
  match nanOf [a, b] with
  | some w => ⟨w, {}⟩
  | none =>
    match mulVal a b with
    | none => invalid32
    | some (.fin n m e) => fin32 n m e
    | some v => inf32 (isNeg v) false

/-- The depth K of a step by format (R76). -/
def stepDepth (fmt : Nat) : Nat := if fmt = 11 then 32 else if fmt = 1 ∨ fmt = 2 then 8 else 16

/-- The plane depth by format (R76). -/
def planeDepth (fmt : Nat) : Nat := if fmt = 11 then 256 else if fmt = 1 ∨ fmt = 2 then 64 else 128

/-- log2 of the depth K. -/
def stepLog (fmt : Nat) : Nat := if fmt = 11 then 5 else if fmt = 1 ∨ fmt = 2 then 3 else 4

/-- What a step made for one element, in which every NaN made counts once (notes/assumptions/77.md). -/
def Made.once (m : Made) : Made := { m with nan := min m.nan 1 }

/-- What one step adds to one accumulator element, and the new element (R45, R46): formats of A and B, their codes in
ascending k, their scales, and the element. An element in whose step several operations are invalid counts one NAN_MADE, as chapter 2's
edge case has it for opposite infinities (notes/assumptions/77.md). -/
def cubeStep (fa fb : Nat) (a b : List Nat) (sa sb : Nat) (acc : Word32) : FRes :=
  if fb = 5 then
    let sum := ((a.zip b).map (fun p => signedOf p.1 8 * signedOf p.2 8)).foldl (· + ·) 0
    let r := satInt 32 (acc.toInt + sum)
    ⟨BitVec.ofNat 32 r.1, ⟨0, 0, b2n r.2, 0⟩⟩
  else
    let part : FRes :=
      if isMx fb ∧ (sa = 0xFF ∨ sb = 0xFF) then ⟨nan32, {}⟩
      else if fb = 12 then
        let sum := ((a.zip b).map (fun p => signedOf p.1 8 * signedOf p.2 8)).foldl (· + ·) 0
        fin32 (decide (sum < 0)) sum.natAbs ((sa : Int) + (sb : Int) - 254 - 12)
      else
        let t := treeSum (stepLog fb) ((a.zip b).map (fun p => prodVal (elemVal fa p.1) (elemVal fb p.2)))
        if isMx fb then
          let r := fscale t.v ((sa : Int) + (sb : Int) - 254)
          ⟨r.v, t.made.add r.made⟩
        else t
    let r := fadd acc part.v
    ⟨r.v, (part.made.add r.made).once⟩

end Sys2Proof.Machine
end

