-- ==== Sys2Proof/Machine/Ops.lean ====
section
/-!
DEFINITION. The named operations that the families share: parts of the state by number, free values, signals, error records
(R368 to R373, R385, R458), replies (R313), and DRAM and host memory.
-/
namespace Sys2Proof.Machine

/-! ### Parts of the state by number -/

/-- A context. -/
def State.ctx (s : State) (c : Nat) : Context := tget s.contexts c {}
def State.setCtx (s : State) (c : Nat) (x : Context) : State := { s with contexts := tset s.contexts c x }
def State.modCtx (s : State) (c : Nat) (f : Context → Context) : State := s.setCtx c (f (s.ctx c))

/-- A queue of the host interface. -/
def State.queue (s : State) (q : Nat) : Queue := tget s.queues q {}
def State.setQueue (s : State) (q : Nat) (x : Queue) : State := { s with queues := tset s.queues q x }
def State.modQueue (s : State) (q : Nat) (f : Queue → Queue) : State := s.setQueue q (f (s.queue q))

/-- A core, by rank × 32 + core. -/
def coreKey (c : CoreId) : Nat := c.rank.toNat * 32 + c.core.toNat
def State.core (s : State) (k : Nat) : Core := tget s.cores k {}
def State.setCore (s : State) (k : Nat) (x : Core) : State := { s with cores := tset s.cores k x }
def State.modCore (s : State) (k : Nat) (f : Core → Core) : State := s.setCore k (f (s.core k))

/-- A cluster, by rank. -/
def State.cluster (s : State) (r : Nat) : Cluster := tget s.clusters r {}
def State.setCluster (s : State) (r : Nat) (x : Cluster) : State := { s with clusters := tset s.clusters r x }
def State.modCluster (s : State) (r : Nat) (f : Cluster → Cluster) : State := s.setCluster r (f (s.cluster r))

/-- A port, a lane group, a stack, an inbox. -/
def State.port (s : State) (p : Nat) : Port := tget s.ports p {}
def State.setPort (s : State) (p : Nat) (x : Port) : State := { s with ports := tset s.ports p x }
def State.modPort (s : State) (p : Nat) (f : Port → Port) : State := s.setPort p (f (s.port p))
def State.group (s : State) (g : Nat) : Group := tget s.groups g {}
def State.setGroup (s : State) (g : Nat) (x : Group) : State := { s with groups := tset s.groups g x }
def State.modGroup (s : State) (g : Nat) (f : Group → Group) : State := s.setGroup g (f (s.group g))
def State.stack (s : State) (k : Nat) : Stack := tget s.dramStacks k {}
def State.modStack (s : State) (k : Nat) (f : Stack → Stack) : State := { s with dramStacks := tset s.dramStacks k (f (s.stack k)) }
def State.inbox (s : State) (i : Nat) : Inbox := tget s.inboxes i {}
def State.modInbox (s : State) (i : Nat) (f : Inbox → Inbox) : State :=
  { s with inboxes := tset s.inboxes i (f (s.inbox i)) }

/-- A grid and a slice that exist. -/
def State.grid? (s : State) (g : Nat) : Option Grid := s.grids.find? (fun x => x.id == g)
def State.modGrid (s : State) (g : Nat) (f : Grid → Grid) : State :=
  { s with grids := updateFirst (fun x => x.id == g) f s.grids }
def State.slice? (s : State) (n : Nat) : Option Slice := s.slices.find? (fun x => x.id == n)
def State.modSlice (s : State) (n : Nat) (f : Slice → Slice) : State :=
  { s with slices := updateFirst (fun x => x.id == n) f s.slices }

/-- The memory side, the fabric side, the recoveries. -/
def State.modHome (s : State) (f : Home → Home) : State := { s with home := f s.home }
def State.modFabric (s : State) (f : Fabric → Fabric) : State := { s with fabric := f s.fabric }
def State.modRecov (s : State) (f : Recov → Recov) : State := { s with recov := f s.recov }
def State.modErrs (s : State) (f : Errors → Errors) : State := { s with errs := f s.errs }
def State.modBoot (s : State) (f : Boot → Boot) : State := { s with boot := f s.boot }
def State.modPower (s : State) (f : Power → Power) : State := { s with power := f s.power }
def State.modDatum (s : State) (f : Datum → Datum) : State := { s with datum := f s.datum }

/-- Putting out a signal. -/
def State.emit (s : State) (o : Out) : State := { s with out := s.out ++ [o] }

/-! ### Who and where -/

/-- The module's own logical ID (R7, R340). -/
def State.self (s : State) : Nat := ((s.regs.installed.getD s.regs.plan).logicalId).toNat % 32768

/-- Bits set in an enabled-cluster mask, in ascending index. -/
def maskList (m : BitVec 38) : List Nat := (List.range 38).filter (fun i => m.getLsbD i)

/-- The enabled clusters as (quadrant, physical index), by rank (R191). -/
def Fuses.clusters (f : Fuses) : List (Nat × Nat) :=
  (maskList f.mask0).map (fun i => (0, i)) ++ (maskList f.mask1).map (fun i => (1, i)) ++
  (maskList f.mask2).map (fun i => (2, i)) ++ (maskList f.mask3).map (fun i => (3, i))

/-- The clusters that a grade enables on each quadrant: 36 of OT-4800-A, 144 in all, and 34 of OT-4800-C, 136 in all (R2). -/
def Fuses.perQuadrant (f : Fuses) : Nat := if f.gradeC then 34 else 36

/-- The fuses are those of a part of their grade (R2, R3). -/
def Fuses.gradeOk (f : Fuses) : Bool :=
  [f.mask0, f.mask1, f.mask2, f.mask3].all (fun m => (maskList m).length == f.perQuadrant)

/-- An OT-4800-C part: its grade, and a choice of 34 clusters on each quadrant. -/
def Fuses.exampleC : Fuses :=
  { gradeC := true, mask0 := 0x03_FFFF_FFFF, mask1 := 0x03_FFFF_FFFF, mask2 := 0x03_FFFF_FFFF, mask3 := 0x03_FFFF_FFFF }

/-- The module after reset with the fuses of a part: State.reset is one of grade A (R3; notes/assumptions/1.md). -/
def State.resetWith (f : Fuses) : State := { State.reset with fuses := f }

/-- The grade and stepping codes (R339). -/
def Fuses.grade (f : Fuses) : Byte := if f.gradeC then 0x0C else 0x0A
def steppingCode : Byte := 0xB0

/-- The enabled cluster count (R3). -/
def State.enabledClusters (s : State) : Nat := s.fuses.clusters.length

/-- The context that carries a job (R315, R199 check 1). -/
def State.ctxOf (s : State) (job : BitVec 16) : Option Nat :=
  (s.contexts.find? (fun e => e.2.state != 0 && e.2.job == job)).map (·.1)

/-- A context is ACTIVE and not frozen. -/
def State.ctxLive (s : State) (c : Nat) : Bool := (s.ctx c).state == 1 && !(s.ctx c).frozen

/-- The module's main rails are up and its firmware runs (R397). -/
def State.mainUp (s : State) : Bool :=
  s.boot.state == .init || s.boot.state == .running || s.boot.state == .stopped

/-- The sideband answers every command of R408 (R397). -/
def State.sideUp (s : State) : Bool :=
  [ModState.readyMain, .ramping, .init, .running, .stopped, .powerFault].contains s.boot.state

/-- The CP takes commands (R397, R384). -/
def State.cpUp (s : State) : Bool :=
  s.boot.state == .running && !s.recov.procs.any (fun p => p.proc == .cp)

/-- The module does work: running and not stopped (R384). -/
def State.works (s : State) : Bool := s.boot.state == .running

/-- A processor is held in reset while it restarts (R375). -/
def State.procDown (s : State) (p : Proc) : Bool := s.recov.procs.any (fun x => x.proc == p && x.started.isSome)

/-- The Surveyor and the LMP work: neither while it restarts. -/
def State.surveys (s : State) : Bool := s.works && !s.procDown .surveyor
def State.lmpUp (s : State) : Bool := s.mainUp && !s.procDown .lmp

/-! ### Free values -/

/-- A free value and the state that has used it (notes/assumptions/5.md). -/
def State.draw (s : State) : Word64 × State := (Config.freeWord s.free, { s with free := s.free + 1 })

/-- n free bytes. -/
def State.drawBytes (s : State) (n : Nat) : List Byte × State :=
  ((List.range n).map (fun i => BitVec.ofNat 8 (Config.freeWord (s.free + i)).toNat), { s with free := s.free + n })

/-- Core cycles in so many ns at the clock state in force (R404). -/
def State.coreCycles (s : State) (ns : Nat) : Nat :=
  ns * (if s.power.clock = 0 then 16 else if s.power.clock = 1 then 14 else if s.power.clock = 2 then 12 else 8) / 10

/-! ### Trace (R386) -/

/-- Entries that the 16 MiB trace ring holds. -/
def traceEntries : Nat := 524288

/-- One trace entry: the datum, and 24 bytes whose codes the spec does not give (notes/assumptions/13.md). -/
def State.trace (s : State) : State :=
  let d := s.drawBytes 24
  let t := s.recov.trace ++ [natLE s.datum.counter.toNat 8 ++ d.1]
  d.2.modRecov (fun r =>
    { r with trace := t.drop (t.length - traceEntries), tracePos := (r.tracePos + 1) % traceEntries })

/-! ### Error records -/

/-- What an error is attributed to (R370). -/
inductive Attrib where
  | none
  | grid (id : Nat)
  | cmd (src : CmdSource)
  deriving DecidableEq, Repr

/-- An error as its finder gives it; fields as in R371. -/
structure ErrSpec where
  code : Nat
  ctx : Option Nat := none
  va : Nat := 0
  len : Nat := 0
  target : Nat := 0xFFFF
  unitKind : Nat := 0
  unitIndex : Nat := 0
  detail : Nat := 0
  detail2 : Nat := 0
  unknown : Bool := false
  attr : Attrib := .none
  deriving DecidableEq, Repr

/-- The codes whose action is a context reset (R368). -/
def ctxResetCodes : List Nat :=
  [0x0101, 0x0102, 0x0103, 0x0104, 0x0105, 0x0106, 0x0107, 0x0109, 0x010A, 0x010B, 0x0304]

/-- The ACTION of a code: 0 record, 1 context reset, 2 core reset, 3 processor restart, 4 module stop, 5 power fault, 0xFF none
(R368, R371, R407). -/
def errAction (code : Nat) : Nat :=
  if ctxResetCodes.contains code then 1
  else if [0x0401, 0x0402, 0x0403].contains code then 2
  else if code = 0x0501 then 3
  else if [0x0405, 0x0406, 0x0701, 0x0702].contains code then 4
  else if code = 0x0903 then 5
  else if [0x0801, 0x0802, 0x0803].contains code then 0xFF
  else 0

/-- Whether a code is an alarm (R368, R407). -/
def errAlarm (code : Nat) : Bool :=
  [0x0304, 0x0401, 0x0402, 0x0403, 0x0405, 0x0406, 0x0501, 0x0601, 0x0602, 0x0603, 0x0701, 0x0702, 0x0802, 0x0803, 0x0901,
    0x0902, 0x0903, 0x0904, 0x0905, 0x0906].contains code

/-- UNIT_INDEX of a core: rank in [7:0], core in [12:8] (R371). -/
def coreUnit (k : Nat) : Nat := k / 32 + 256 * (k % 32)

/-- The core key of a UNIT_INDEX. -/
def unitCore (u : Nat) : Nat := (u % 256) * 32 + u / 256 % 32

/-- Queue number and SEQ of a command. -/
def Cmd.queueSeq (c : Cmd) : Nat × Nat :=
  ((match c.src with | .queue q => q.toNat | .mailbox => 0xFF), field c.slot 4 4)

/-- The command that runs for a source. -/
def State.cmdOf (s : State) (src : CmdSource) : Option Cmd :=
  match src with
  | .queue q => (s.queue q.toNat).cur
  | .mailbox => s.mboxCmd

/-- The command an error is attributed to. -/
def State.attrCmd (s : State) (a : Attrib) : Option Cmd :=
  match a with
  | .none => none
  | .grid g => (s.grid? g).bind (·.cmd)
  | .cmd src => s.cmdOf src

/-- The record of an error (R371). -/
def State.record (s : State) (e : ErrSpec) : ErrRec :=
  let qs := ((s.attrCmd e.attr).map Cmd.queueSeq).getD (0xFF, 0)
  { code := BitVec.ofNat 16 e.code
    alarm := errAlarm e.code
    action := BitVec.ofNat 8 (errAction e.code)
    job := (e.ctx.map (fun c => (s.ctx c).job)).getD 0
    context := BitVec.ofNat 8 (e.ctx.getD 0xFF)
    outcomeUnknown := e.unknown
    datum := s.datum.counter
    va := BitVec.ofNat 56 e.va
    len := BitVec.ofNat 8 e.len
    target := BitVec.ofNat 16 e.target
    unitKind := BitVec.ofNat 8 e.unitKind
    unitIndex := BitVec.ofNat 16 e.unitIndex
    queue := BitVec.ofNat 8 qs.1
    seq := BitVec.ofNat 32 qs.2
    detail := BitVec.ofNat 64 e.detail
    detail2 := BitVec.ofNat 64 e.detail2 }

/-- The 64 bytes of a record (R371). -/
def ErrRec.bytes (r : ErrRec) : List Byte :=
  natLE r.code.toNat 2 ++ [BitVec.ofNat 8 (b2n r.alarm), r.action] ++ natLE r.job.toNat 2 ++
  [r.context, BitVec.ofNat 8 (b2n r.outcomeUnknown + 2 * b2n r.huskValid + 4 * b2n r.redispatched + 8 * b2n r.summary +
    16 * b2n r.huskPartial)] ++
  natLE r.datum.toNat 8 ++ natLE r.va.toNat 7 ++ [r.len] ++ natLE r.target.toNat 2 ++ [r.unitKind, 0] ++
  natLE r.unitIndex.toNat 2 ++ [r.queue, 0] ++ natLE r.seq.toNat 4 ++ natLE r.husk.toNat 4 ++ natLE r.merged.toNat 4 ++
  natLE r.firstMerged.toNat 2 ++ zeros 2 ++ natLE r.detail.toNat 8 ++ natLE r.detail2.toNat 8

/-- Logs and alarms in the error queue. -/
def Errors.logs (e : Errors) : Nat := e.queue.countP (fun r => !r.alarm)
def Errors.alarmCount (e : Errors) : Nat := e.queue.countP (fun r => r.alarm)

/-- Log slots in use: logs, and alarms beyond the eight slots reserved to them (R372). -/
def Errors.logSlots (e : Errors) : Nat := e.logs + (e.alarmCount - 8)

/-- ERR_OVERFLOW advances and saturates (R350, R372). -/
def Errors.lost (e : Errors) : Errors := { e with overflow := min 65535 (e.overflow + 1) }

/-- The newest log taken out of the queue. -/
def dropNewestLog (q : List ErrRec) : List ErrRec :=
  match (q.zipIdx.filter (fun p => !p.1.alarm)).getLast? with
  | none => q
  | some p => q.eraseIdx p.2

/-- A log enters the queue, or is lost (R372). -/
def Errors.pushLog (e : Errors) (r : ErrRec) : Errors :=
  if e.logSlots < 56 then { e with queue := e.queue ++ [r] } else e.lost

/-- Two alarms of one code and unit (R372). -/
def sameUnit (a b : ErrRec) : Bool := a.code == b.code && a.unitKind == b.unitKind && a.unitIndex == b.unitIndex

/-- A record with one more error merged into it. -/
def ErrRec.mergeOne (r : ErrRec) (code : BitVec 16) : ErrRec :=
  { r with merged := satAdd r.merged 1, firstMerged := if r.firstMerged = 0 then code else r.firstMerged }

/-- An alarm stands in the queue: the alarm enters the queue, taking a log slot when its own are full (R372). -/
def Errors.pushAlarm (e : Errors) (r : ErrRec) : Errors :=
  if e.alarmCount < 8 ∨ e.logSlots < 56 then { e with queue := e.queue ++ [r] }
  else { e.lost with queue := dropNewestLog e.queue ++ [r] }

/-- An alarm that finds 64 alarms queued: backlog, merge, or the engine's own slot (R372). -/
def Errors.holdAlarm (e : Errors) (r : ErrRec) : Errors :=
  if e.backlog.length < 1024 then { e with backlog := e.backlog ++ [r] }
  else if e.queue.any (fun x => x.alarm && sameUnit x r) then
    { e with queue := updateFirst (fun x => x.alarm && sameUnit x r) (fun x => x.mergeOne r.code) e.queue }
  else if e.backlog.any (sameUnit r) then
    { e with backlog := updateFirst (sameUnit r) (fun x => x.mergeOne r.code) e.backlog }
  else if e.held.any (sameUnit r) then
    { e with held := updateFirst (sameUnit r) (fun x => x.mergeOne r.code) e.held }
  else { e with held := e.held ++ [r] }

/-- An engine whose two slots hold alarms of other codes has stopped (R372). -/
def Errors.stopped (e : Errors) (kind index : Nat) : Bool :=
  decide (e.held.countP (fun r => r.unitKind.toNat == kind && r.unitIndex.toNat == index) > 2)

/-- The sideband alert of an alarm: in the mailbox, or behind it while it is full (R385, R410). -/
def Errors.alert (e : Errors) (r : ErrRec) : Errors :=
  if e.alerts.length < 32 then { e with alerts := e.alerts ++ [r] } else { e with alertBacklog := e.alertBacklog ++ [r] }

/-- An alarm queued: MSI-X 256 and the sideband alert (R372, R385). -/
def State.alarm (s : State) (r : ErrRec) : State :=
  let e := { s.errs with alarms := min 65535 (s.errs.alarms + 1) }
  if e.alarmCount = 64 then { s with errs := e.holdAlarm r }
  else
    let e := e.pushAlarm r
    ({ s with errs := e.alert r }).emit (.msix 256)

/-- The duration of a log window: 1 ms of datum (R458). -/
def logWindow : Nat := 1000000

/-- The SUMMARY record of a window (R458). -/
def LogWin.summary (w : LogWin) (r : ErrRec) : ErrRec :=
  { r with summary := true, merged := BitVec.ofNat 32 (min w.suppressed 0xFFFFFFFF), firstMerged := 0 }

/-- A window closed: its SUMMARY is queued if it suppressed anything (R458). -/
def Errors.closeWin (e : Errors) (w : LogWin) : Errors :=
  let e := { e with windows := e.windows.filter (fun x => !(x.code == w.code && x.ctx == w.ctx)) }
  match w.first with
  | none => e
  | some r => e.pushLog (w.summary r)

/-- A log raised: counted in its window, suppressed beyond sixteen (R385, R458). -/
def Errors.log (e : Errors) (now : Nat) (r : ErrRec) : Errors :=
  let live := e.windows.find? (fun w => w.code == r.code && w.ctx == r.context)
  let e := match live with
    | some w => if now ≥ w.opened.toNat + logWindow then e.closeWin w else e
    | none => e
  match e.windows.find? (fun w => w.code == r.code && w.ctx == r.context) with
  | none => ({ e with windows := e.windows ++ [({ code := r.code, ctx := r.context, opened := BitVec.ofNat 64 now, count := 1, suppressed := 0, first := none } : LogWin)] } : Errors).pushLog r
  | some w =>
    let put := fun (w' : LogWin) =>
      { e with windows := updateFirst (fun x => x.code == r.code && x.ctx == r.context) (fun _ => w') e.windows }
    if w.count < 16 then (put { w with count := w.count + 1 }).pushLog r
    else put { w with suppressed := w.suppressed + 1, first := some (w.first.getD r) }

/-- A record queued (R372, R385). -/
def State.queueRec (s : State) (r : ErrRec) : State :=
  if r.alarm then s.alarm r else { s with errs := s.errs.log s.datum.counter.toNat r }

/-- Records that left the queue: alarms of the backlog and of the engines' slots move up, oldest first (R372). -/
def drainAlarms : Nat → State → State
  | 0, s => s
  | n + 1, s =>
    match s.errs.backlog with
    | [] => s
    | r :: rest =>
      if s.errs.alarmCount = 64 then s
      else
        let e := { s.errs with backlog := rest ++ s.errs.held.take 1, held := s.errs.held.drop 1 }
        let e := e.pushAlarm r
        let s := { s with errs := e.alert r }
        drainAlarms n (s.emit (.msix 256))

/-! ### The actions of R369 -/

/-- A context frozen: its queues, slices, cores, scatter engine and inboxes stop (first step of R379). -/
def State.freezeCtx (s : State) (c : Nat) : State := s.modCtx c (fun x => { x with frozen := true, state := 2 })

/-- A context reset asked for: one per context (R373, R379). -/
def State.askCtxReset (s : State) (c : Nat) (code : Nat) : State :=
  if (s.ctx c).state = 0 then s
  else if s.recov.ctxs.any (fun x => x.ctx == c) then s
  else (s.freezeCtx c).modRecov (fun r => { r with ctxs := r.ctxs ++ [{ ctx := c, code := BitVec.ofNat 16 code }] })

/-- A core reset asked for; the core's issue is frozen at once (R380). -/
def State.askCoreReset (s : State) (k : Nat) (code : Nat) : State :=
  (s.modCore k (fun x => { x with frozen := true })).modRecov
    (fun r => { r with cores := r.cores ++ [{ core := k, code := BitVec.ofNat 16 code }] })

/-- The number of a processor (R371). -/
def procIndex : Proc → Nat
  | .cp => 0
  | .surveyor => 1
  | .lmp => 2

/-- A module stop asked for (R383). -/
def State.askStop (s : State) (code : Nat) : State :=
  s.modRecov (fun r => { r with stopDue := some (r.stopDue.getD (BitVec.ofNat 16 code)) })

/-- A processor restart asked for; a second PROC_TIMEOUT of one processor within 1 s leads to module stop (R375). -/
def State.askRestart (s : State) (p : Proc) : State :=
  let last := s.recov.timeouts.find? (fun e => e.1 == procIndex p)
  let s' := s.modRecov (fun r => { r with timeouts := tset r.timeouts (procIndex p) s.time })
  match last with
  | some e => if s.time ≤ e.2 + 1000000000 then s'.askStop 0x0501
    else s'.modRecov (fun r => { r with procs := r.procs ++ [{ proc := p }] })
  | none => s'.modRecov (fun r => { r with procs := r.procs ++ [{ proc := p }] })

/-- A processor by number. -/
def procOf (n : Nat) : Proc := if n = 0 then .cp else if n = 1 then .surveyor else .lmp

/-- The action of an error (R369). -/
def State.act (s : State) (e : ErrSpec) : State :=
  match errAction e.code with
  | 1 => match e.ctx with | some c => s.askCtxReset c e.code | none => s
  | 2 => s.askCoreReset (unitCore e.unitIndex) e.code
  | 3 => s.askRestart (procOf e.unitIndex)
  | 4 => s.askStop e.code
  | _ => s

/-- One more record counted for a command or a launch (R370). -/
def State.attribute (s : State) (e : ErrSpec) : State :=
  let dead := e.code == 0x0205
  match e.attr with
  | .none => s
  | .grid g => s.modGrid g (fun x => { x with records := x.records + 1, dead := x.dead || dead })
  | .cmd (.queue q) => s.modQueue q.toNat (fun x =>
      { x with cur := x.cur.map (fun c => { c with records := c.records + 1, dead := c.dead || dead }) })
  | .cmd .mailbox => { s with mboxCmd := s.mboxCmd.map (fun c => { c with records := c.records + 1, dead := c.dead || dead }) }

/-- The context whose reset runs or waits and takes an error of this core (R373). -/
def State.coreInReset (s : State) (k : Nat) : Option Nat :=
  ((s.core k).tiles.find? (fun t => s.recov.ctxs.any (fun r => r.ctx == t.ctx))).map (·.ctx)

/-- An error merged into a context reset (R373). -/
def State.mergeCtx (s : State) (c : Nat) (code : Nat) (retire : Option Nat) : State :=
  s.modRecov (fun r => { r with ctxs := updateFirst (fun x => x.ctx == c) (fun x =>
    { x with merged := x.merged + 1,
             firstMerged := if x.firstMerged = 0 then BitVec.ofNat 16 code else x.firstMerged,
             retire := x.retire ++ retire.toList }) r.ctxs })

/-- An error merged into a core reset (R373). -/
def State.mergeCore (s : State) (k : Nat) (code : Nat) : State :=
  s.modRecov (fun r => { r with cores := updateFirst (fun x => x.core == k) (fun x =>
    { x with merged := x.merged + 1,
             firstMerged := if x.firstMerged = 0 then BitVec.ofNat 16 code else x.firstMerged }) r.cores })

/-- An error raised: merged into a running recovery, or queued and attributed, and its action set off (R368 to R373). -/
def State.raise (s : State) (e : ErrSpec) : State :=
  let core := if errAction e.code = 2 then some (unitCore e.unitIndex) else none
  match core with
  | some k =>
    if s.recov.cores.any (fun r => r.core == k) then s.mergeCore k e.code
    else
      match s.coreInReset k with
      | some c => s.mergeCtx c e.code (some k)
      | none => (((s.queueRec (s.record e)).attribute e).act e)
  | none =>
    match e.ctx.filter (fun c => s.recov.ctxs.any (fun r => r.ctx == c)) with
    | some c => s.mergeCtx c e.code none
    | none => (((s.queueRec (s.record e)).attribute e).act e)

/-- More than 64 uncorrectable lines of one stack within 1 s fail it (R368). -/
def State.watchStack (s : State) (k : Nat) : State :=
  let now := s.time
  let l := ((s.stack k).ueTimes ++ [now]).filter (fun t => decide (now < t + 1000000000))
  let s := s.modStack k (fun x => { x with ueTimes := l })
  if 64 < l.length then s.raise { code := 0x0405, unitKind := 3, unitIndex := k } else s

/-- Several errors in order. -/
def State.raiseAll (s : State) (es : List ErrSpec) : State := es.foldl (fun s e => s.raise e) s

/-! ### DRAM and host memory -/

/-- Bytes of a frame (R168). -/
def frameBytes : Nat := 2097152

/-- The stack of a fabric local address (R151). -/
def State.stackOf (s : State) (a : Nat) : Nat :=
  if s.regs.global.dramInterleave then a / frameBytes % 8 else a / 4096 % 8

/-- Bytes read and written, counted at their stack (R347). -/
def State.moved (s : State) (a n : Nat) : State :=
  s.modStack (s.stackOf a) (fun k => { k with moved := k.moved + BitVec.ofNat 64 n })

/-- n bytes of DRAM. -/
def State.getDram (s : State) (a n : Nat) : List Byte := memReadN s.dram a n

/-- Bytes written to DRAM; a whole line clears its uncorrectable error (R153). -/
def State.putDram (s : State) (a : Nat) (bs : List Byte) : State :=
  let s := { s with dram := memWriteN s.dram a bs }
  if a % 128 = 0 ∧ bs.length ≥ 128 then s.modHome (fun h => { h with ueLines := h.ueLines.filter (· != a) }) else s

/-- Bytes written to host memory. -/
def State.putHost (s : State) (a : Nat) (bs : List Byte) : State := { s with hostMem := memWriteN s.hostMem a bs }

/-- n bytes of host memory. -/
def State.getHost (s : State) (a n : Nat) : List Byte := memReadN s.hostMem a n

/-- The parcel number of an address (R168). -/
def parcelOf (va : Nat) : Nat := va / frameBytes

/-- A parcel held at this module. -/
def State.parcel? (s : State) (job : BitVec 16) (pn : Nat) : Option HomeParcel :=
  s.home.parcels.find? (fun p => p.job == job && p.parcel == pn)

/-- A parcel held here, changed. -/
def State.modParcel (s : State) (job : BitVec 16) (pn : Nat) (f : HomeParcel → HomeParcel) : State :=
  s.modHome (fun h => { h with parcels := updateFirst (fun p => p.job == job && p.parcel == pn) f h.parcels })

/-- The fabric local address of a job address of a parcel held here in a frame (R168). -/
def State.localAddr (s : State) (job : BitVec 16) (va : Nat) : Option Nat :=
  match s.parcel? job (parcelOf va) with
  | some p =>
    if p.state = .resident ∨ p.state = .moving ∨ p.state = .pagingOut then some (p.frame * frameBytes + va % frameBytes)
    else none
  | none => none

/-! ### Replies -/

/-- The parameter bytes of a slot: bytes beyond PLEN read as zero (R311). -/
def Cmd.params (c : Cmd) : List Byte :=
  let n := 8 * field c.slot 3 1
  (List.range 48).map (fun i => if i < n then c.slot.getD (16 + i) 0 else 0)

/-- A parameter of n bytes at an offset. -/
def Cmd.param (c : Cmd) (off n : Nat) : Nat := field c.params off n

/-- The opcode of a slot. -/
def Cmd.opcode (c : Cmd) : Nat := field c.slot 0 2

/-- Every parameter byte outside the listed ranges is zero (R315). -/
def Cmd.restZero (c : Cmd) (used : List (Nat × Nat)) : Bool :=
  (c.params.zipIdx).all (fun p => p.1 == 0 || used.any (fun u => decide (u.1 ≤ p.2) && decide (p.2 < u.1 + u.2)))

/-- The context of a command: its queue's, or none for the mailbox. -/
def srcCtx : CmdSource → Nat
  | .queue q => q.toNat / 4
  | .mailbox => 0xFF

/-- The 32 bytes of a reply slot (R313). -/
def replyBytes (slot : List Byte) (status detail : Nat) (result : List Byte) : List Byte :=
  slice slot 4 4 ++ natLE status 2 ++ [BitVec.ofNat 8 detail, 1] ++ slice result 0 24

/-- A reply written into a ring in job memory, which lies in a parcel of this module. A line of it with an uncorrectable error is not
written: the store fails (R153, R200). -/
def State.replyHere (s : State) (c a : Nat) (bs : List Byte) (att : Attrib) : State :=
  match s.localAddr (s.ctx c).job a with
  | some la =>
    if s.home.ueLines.contains (la - la % 128) then
      (s.modCtx c (fun x => { x with storesFailed := x.storesFailed + 1 })).raise
        { code := 0x0204, ctx := some c, va := a, len := bs.length - 1, attr := att }
    else (s.putDram la bs).moved la bs.length
  | none => s

/-- The reply written to its ring, and MSI-X vector q with IRQ (R311, R313). -/
def State.writeReply (s : State) (c : Cmd) (status detail : Nat) (result : List Byte) : State :=
  let bs := replyBytes c.slot status detail result
  match c.src with
  | .mailbox => { s with side := { s.side with mboxReply := bs, mbox := none }, mboxCmd := none }
  | .queue q =>
    let qu := s.queue q.toNat
    let a := qu.replyBase.toNat + 32 * field c.slot 10 2
    let s := if qu.replyDev then s.replyHere (q.toNat / 4) a bs (.cmd c.src) else s.putHost a bs
    if bitOf (field c.slot 2 1) 0 then s.emit (.msix q.toNat) else s

/-- The decode history marks a command completed (R377). -/
def histDone (h : List Hist) (order status : Nat) : List Hist :=
  updateFirst (fun x => x.order == order) (fun x => { x with state := 0, status := BitVec.ofNat 16 status }) h

/-- A command ends: reply, history, trace, and its queue is free for the next (R313, R320). -/
def State.finish (s : State) (c : Cmd) (status detail : Nat) (result : List Byte) : State :=
  let s := s.trace
  let s := s.writeReply c status detail result
  match c.src with
  | .mailbox => s
  | .queue q =>
    let s := s.modQueue q.toNat (fun x => { x with cur := if x.cur.map (·.order) = some c.order then none else x.cur })
    s.modCtx (q.toNat / 4) (fun x => { x with history := histDone x.history c.order status })

/-- Status codes of R314. -/
def stOk : Nat := 0
def stBusy : Nat := 1
def stBadOpcode : Nat := 2
def stBadParam : Nat := 3
def stDenied : Nat := 4
def stConflictLost : Nat := 5
def stWaitCycle : Nat := 6
def stCtxReset : Nat := 7
def stTimeout : Nat := 8
def stFabricDead : Nat := 9
def stNoSpace : Nat := 10
def stReformed : Nat := 11
def stAborted : Nat := 12
def stQuarantined : Nat := 13
def stVersion : Nat := 14

/-- A command ends OK, BAD_PARAM, or otherwise without results. -/
def State.ok (s : State) (c : Cmd) (result : List Byte := []) : State := s.finish c stOk 0 result
def State.badParam (s : State) (c : Cmd) : State := s.finish c stBadParam 0 []
def State.status (s : State) (c : Cmd) (st : Nat) : State := s.finish c st 0 []

/-- Result bytes 20–23: the records attributed, saturating (R370). -/
def recordBytes (result : List Byte) (n : Nat) : List Byte := slice result 0 20 ++ natLE (min n 0xFFFFFFFF) 4

/-- The opcode of the command row given, and the row is not yet handed on: the guard of every command row. A host's command needs the CP,
which writes its reply (R16). -/
def State.runs (s : State) (src : CmdSource) (opcode : Nat) : Bool :=
  (match src with | .queue _ => s.cpUp | .mailbox => (s.works || s.sideUp) && !s.recov.hrpStopped) &&
  (match s.cmdOf src with
   | some c => c.opcode == opcode && !c.handed && (match src with | .queue q => !(s.ctx (q.toNat / 4)).frozen | .mailbox => true)
   | none => false)

/-- The command that runs, for the meanings (their guard has found it). -/
def State.cmd! (s : State) (src : CmdSource) : Cmd := (s.cmdOf src).getD { src := src, slot := [] }

/-- A change of the command that runs. -/
def State.modCmd (s : State) (src : CmdSource) (f : Cmd → Cmd) : State :=
  match src with
  | .queue q => s.modQueue q.toNat (fun x => { x with cur := x.cur.map f })
  | .mailbox => { s with mboxCmd := s.mboxCmd.map f }

/-! ### The SMBus target -/

/-- An SMBus transfer (R397, R410, R444): performed where the target answers, not acknowledged where it does not, and open to either within
10 µs of the target's own timeout. -/
def State.smbus (s : State) (answers : Bool) (eff : State → State) : State :=
  if !answers then s.emit .smbusNack
  else
    match s.side.deafUntil with
    | some t =>
      if s.time < t then
        let x := s.draw
        if x.1.getLsbD 0 then x.2.emit .smbusNack else eff x.2
      else eff s
    | none => eff s

end Sys2Proof.Machine
end

