-- ==== Sys2Proof/Machine/Route.lean ====
section
/-!
DEFINITION. Routes on the torus (R7, R233 to R235, R238) and the order of nearness they give (R175).
-/
namespace Sys2Proof.Machine

/-- A position: physical x, y and z. -/
structure Pos where
  x : Nat
  y : Nat
  z : Nat
  deriving DecidableEq, Repr

/-- Ring sizes and live X positions of a plan. -/
def Plan.nx (p : Plan) : Nat := p.nxp.toNat
def Plan.live (p : Plan) : List Nat := (List.range p.nx).filter (fun i => p.xLive.getLsbD i)
def Plan.isLive (p : Plan) (i : Nat) : Bool := p.xLive.getLsbD i

/-- Logical x of a live physical position: the live positions below it (R340). -/
def Plan.logX (p : Plan) (i : Nat) : Nat := (p.live.filter (fun q => decide (q < i))).length

/-- The physical position of a logical x. -/
def Plan.physX (p : Plan) (x : Nat) : Nat := p.live.getD x 0

/-- The position of a logical module ID (R7). -/
def Plan.pos (p : Plan) (id : Nat) : Pos := ⟨p.physX (id % 32), id / 32 % 32, id / 1024 % 32⟩

/-- The logical ID of a position. -/
def Plan.idOf (p : Plan) (q : Pos) : Nat := p.logX q.x + 32 * q.y + 1024 * q.z

/-- The direction is + when the forward distance is at most half the ring (R234). -/
def goesPlus (cur dest n : Nat) : Bool := decide (2 * ((dest + n - cur) % n) ≤ n)

/-- x_next of R234. -/
def xNext (p : Plan) (cur dest : Nat) (plus : Bool) : Nat :=
  let n := p.nx
  let s := if plus then (dest + n - cur) % n else (cur + n - dest) % n
  let c := if plus then (cur + 2) % n else (cur + n - 2) % n
  if s ≥ 2 ∧ p.isLive c then c else if plus then (cur + 1) % n else (cur + n - 1) % n

/-- One hop: the port it leaves by, where it lands, and whether it crosses the dateline (R217, R238). -/
structure Hop where
  port : Nat
  pos : Pos
  dateline : Bool
  deriving DecidableEq, Repr

/-- A hop of a ring from i to j in a direction crosses the dateline. -/
def crosses (plus : Bool) (i j : Nat) : Bool := if plus then decide (j < i) else decide (j > i)

/-- The port code of an X hop. -/
def xPort (n : Nat) (plus : Bool) (i j : Nat) : Nat :=
  if plus then (if (i + 1) % n = j then 0 else 2) else (if (j + 1) % n = i then 1 else 3)

/-- The next hop of a request from a position to its destination (R234); none at the destination. -/
def nextHop (p : Plan) (cur dest : Pos) : Option Hop :=
  if cur.x ≠ dest.x then
    let plus := goesPlus (p.logX cur.x) (p.logX dest.x) p.live.length
    let j := xNext p cur.x dest.x plus
    some ⟨xPort p.nx plus cur.x j, { cur with x := j }, crosses plus cur.x j⟩
  else if cur.y ≠ dest.y then
    let plus := goesPlus cur.y dest.y p.ny.toNat
    let j := if plus then (cur.y + 1) % p.ny.toNat else (cur.y + p.ny.toNat - 1) % p.ny.toNat
    some ⟨if plus then 4 else 5, { cur with y := j }, crosses plus cur.y j⟩
  else if cur.z ≠ dest.z then
    let plus := goesPlus cur.z dest.z p.nz.toNat
    let j := if plus then (cur.z + 1) % p.nz.toNat else (cur.z + p.nz.toNat - 1) % p.nz.toNat
    some ⟨if plus then 6 else 7, { cur with z := j }, crosses plus cur.z j⟩
  else none

/-- The hops of a request route, at most as many as three rings have positions. -/
def routeAux (p : Plan) (dest : Pos) : Nat → Pos → List Hop
  | 0, _ => []
  | n + 1, cur =>
    match nextHop p cur dest with
    | none => []
    | some h => h :: routeAux p dest n h.pos

/-- The route between two logical IDs. -/
def route (p : Plan) (src dest : Nat) : List Hop := routeAux p (p.pos dest) 160 (p.pos src)

/-- Hops between two modules. -/
def hopCount (p : Plan) (src dest : Nat) : Nat := (route p src dest).length

/-- The peer's port of a port (R217). -/
def peerPort (c : Nat) : Nat := if c % 2 = 0 then c + 1 else c - 1

/-- The axis of a port: 0 X, 1 Y, 2 Z. -/
def portAxis (c : Nat) : Nat := if c < 4 then 0 else if c < 6 then 1 else 2

/-- The reply's next hop at a position (R235): back along the request route from the reply's destination to its source. -/
def replyHop (p : Plan) (src dest : Nat) (here : Pos) : Option Hop :=
  let r := route p dest src
  let steps := (p.pos dest :: r.map (·.pos)).zip r
  match steps.find? (fun e => e.2.pos == here) with
  | none => none
  | some e => some ⟨peerPort e.2.port, e.1, e.2.dateline⟩

/-- The plan in force. -/
def State.plan (s : State) : Plan := s.regs.installed.getD s.regs.plan

/-- Modules by nearness to one, ties to the lowest logical ID (R175). -/
def nearest (p : Plan) (src : Nat) (mods : List Nat) : Option Nat :=
  mods.foldl (fun best m =>
    match best with
    | none => some m
    | some b =>
      let hb := hopCount p src b
      let hm := hopCount p src m
      if hm < hb ∨ (hm = hb ∧ m < b) then some m else best) none

end Sys2Proof.Machine
end

