-- ==== Sys2Proof/Machine/Wire.lean ====
section
/-!
DEFINITION. What stands on the wire: the request and reply headers (R194 to R196), the packet envelope (R232), the segment headers of collectives
and rows (R249, R269, R276), flits with their check (R231), and the identity block (R224).
-/
namespace Sys2Proof
open Machine

/-! ### Codes -/

/-- The code of a class (R194). -/
def classCode : TClass → Nat
  | .generate => 0
  | .collective => 1
  | .expert => 2
  | .memory => 3
  | .management => 4

/-- The opcode of a request (R195). -/
def ReqOp.code : ReqOp → Nat
  | .read => 0x01
  | .write => 0x02
  | .atomic => 0x03
  | .invalidate => 0x04
  | .regLookup => 0x10
  | .tallyReport => 0x11
  | .moveData => 0x12
  | .drainDone => 0x13

/-- STATUS of a reply (R196). -/
def RStatus.code : RStatus → Nat
  | .ok => 0
  | .denied => 1
  | .bearingMiss => 2
  | .retry => 3
  | .poison => 4
  | .addrUnmapped => 5
  | .noFrame => 6

/-- KIND of a row segment, a marker, a return (R269, R276) and the reset notice of chapter 12. -/
def RowKind.code : RowKind → Nat
  | .row => 0
  | .marker => 1
  | .ret => 2
  | .resetNotice => 3

/-- The status of a return (R276). -/
def RetStatus.code : RetStatus → Nat
  | .ok => 0
  | .dropped => 1
  | .refused => 2

/-! ### Headers -/

/-- A 15-bit logical ID with its bit 15. -/
def idWord (m : BitVec 15) (top : Bool) : List Byte := natLE (m.toNat + 2 ^ 15 * b2n top) 2

/-- CTL of a request (R194). -/
def Request.ctl (r : Request) : Nat := classCode r.cls + 8 * b2n r.refresh + 16 * b2n r.prefetch + 32 * b2n r.noCombine

/-- The 32-byte header of a request (R194). -/
def Request.header (r : Request) : List Byte :=
  idWord r.dest r.fwd ++ idWord r.src false ++ natLE r.job.toNat 2 ++ natLE r.op.code 1 ++ natLE r.ctl 1 ++ natLE r.tag.toNat 2 ++
  natLE r.gen.toNat 2 ++ natLE r.frame.toNat 4 ++ natLE r.va.toNat 7 ++ natLE r.size.toNat 1 ++ natLE r.arg.toNat 8

/-- The 16-byte header of a reply (R196). -/
def Reply.header (r : Reply) : List Byte :=
  idWord r.dest false ++ idWord r.src false ++ natLE r.tag.toNat 2 ++ natLE r.status.code 1 ++ natLE (b2n r.correction) 1 ++
  natLE r.gen.toNat 2 ++ natLE r.home.toNat 2 ++ natLE (r.frame.toNat + 2 ^ 24 * r.reason.toNat) 4

/-- The 24-byte header of a collective segment (R249). -/
def Segment.header (g : Segment) : List Byte :=
  natLE g.platId.toNat 2 ++ natLE g.job.toNat 2 ++ natLE g.collSeq.toNat 4 ++ natLE g.op.toNat 1 ++
  natLE (g.dim.toNat + 4 * b2n g.gather) 1 ++ natLE g.step.toNat 2 ++ natLE g.offset.toNat 4 ++ natLE g.member.toNat 2 ++
  natLE g.epoch.toNat 2 ++ natLE g.wire.toNat 1 ++ zeros 3

/-- The 24-byte header of a row segment or return (R269, R276). -/
def RowSeg.header (g : RowSeg) : List Byte :=
  natLE g.job.toNat 2 ++ natLE g.inbox.toNat 1 ++ natLE g.kind.code 1 ++ natLE g.wave.toNat 4 ++ natLE g.token.toNat 4 ++
  natLE g.slot.toNat 1 ++ natLE (b2n g.drop) 1 ++ natLE (if g.kind = .ret then g.status.code else 0) 1 ++ zeros 1 ++
  natLE g.weight.toNat 4 ++ natLE g.offset.toNat 4

/-- The bytes behind an envelope. A body to which no rule gives a layout, and the count of a reset notice, has
open bytes (notes/assumptions/85.md). -/
def Body.bytes (b : Body) : List Byte :=
  match b with
  | .req r => r.header ++ r.payload
  | .rep r => r.header ++ r.data
  | .seg g => g.header ++ g.payload
  | .row g => g.header ++ (if g.kind = .resetNotice then Config.bodyBytes b else g.payload)
  | _ => Config.bodyBytes b

/-- The 8-byte envelope (R232). -/
def Envelope.bytes (e : Envelope) : List Byte :=
  idWord e.dest e.mcast ++ idWord e.src false ++ natLE (b2n e.isReply + 2 * b2n e.vc + 4 * classCode e.cls) 1 ++ natLE e.len.toNat 1 ++
  natLE (e.hopsPos.toNat + 64 * e.axis.toNat) 1 ++ natLE e.hopsNeg.toNat 1

/-- A packet as it stands in flit bodies: LEN units of 16 bytes (R231, R232). -/
def Packet.bytes (p : Packet) : List Byte := slice (p.env.bytes ++ p.body.bytes) 0 (16 * p.env.len.toNat)

/-- The pool index of a packet: network × 10 + VC × 5 + class (R237). -/
def poolOf (p : Packet) : Nat := b2n p.env.isReply * 10 + b2n p.env.vc * 5 + classCode p.env.cls

/-! ### Flits (R231) -/

/-- The 8-byte header of a flit. -/
def Flit.header (f : Flit) : List Byte :=
  natLE (f.seq.toNat + 2 ^ 12 * f.ack.toNat + 2 ^ 24 * f.count.toNat + 2 ^ 35 * f.pool.toNat + 2 ^ 40 * f.type.toNat) 8

/-- The CRC-32 over the header and the 256-byte body. -/
def Flit.crc (f : Flit) : Word32 := crc32 (f.header ++ slice f.body 0 256)

/-- A flit's check is right. -/
def Flit.checkOk (f : Flit) : Bool := f.check == f.crc

/-- A flit with its check. -/
def Flit.seal (f : Flit) : Flit := { f with check := f.crc }

/-- The 272 bytes of a flit. -/
def Flit.bytes (f : Flit) : List Byte := f.header ++ slice f.body 0 256 ++ natLE f.check.toNat 4 ++ zeros 4

/-- The 256-byte body that holds these units of packets; the bytes that no packet fills are open (notes/assumptions/85.md). -/
def flitBody (units : List Byte) : List Byte := units ++ (List.range (256 - units.length)).map Config.idleByte

/-! ### Identity (R224) -/

/-- The versions of Cathen this stepping speaks. -/
def cathenMajor : Nat := 1
def minorHigh : Nat := 3
def minorLow : Nat := 2

/-- The 64-byte identity block of a module: its physical ID, the port and group it goes out on, its logical ID and its firmware version. -/
def identityBlock (phys port group logical fw : Nat) : List Byte :=
  let b := natLE phys 2 ++ natLE (phys / 80) 2 ++ natLE (phys / 5 % 16) 1 ++ natLE (phys % 5) 1 ++ natLE port 1 ++ natLE group 1 ++
    natLE logical 2 ++ natLE cathenMajor 1 ++ natLE minorHigh 1 ++ natLE minorLow 1 ++ zeros 3 ++ natLE fw 4 ++ zeros 36
  b ++ natLE (crc32 b).toNat 4 ++ zeros 4

end Sys2Proof
end

