-- ==== Sys2Proof/Machine/HomeOps.lean ====
section
/-!
DEFINITION. The memory side of the module: frames (R168), registrars (R170), what a home checks and performs (R172, R180, R199,
R213, R214), placement (R174, R175), paging (R187), and the accesses of the module's engines (R150, R210, R212).
-/
namespace Sys2Proof.Machine

/-! ### Frames -/

/-- The frames held from boot (R168). They and the native code lie outside the frames that parcels are given. -/
def bootReserve : Nat := 1024

/-- Frames of native code (R168). -/
def State.nativeFrames (s : State) : Nat :=
  (s.contexts.map (fun e => (e.2.programs.map (·.nativeFrames)).foldl (· + ·) 0)).foldl (· + ·) 0

/-- FRAMES_AVAILABLE (R168, R339). -/
def State.framesAvailable (s : State) : Nat := 262144 - bootReserve - s.nativeFrames

/-- Whether a parcel occupies a frame in a state (R172). -/
def holdsFrame (p : PState) : Bool := p == .resident || p == .moving || p == .pagingOut || p == .pagingIn

/-- The frames in use: by parcels and by reservations of moves. -/
def State.usedFrames (s : State) : List Nat :=
  (s.home.parcels.filter (fun p => holdsFrame p.state)).map (·.frame) ++ s.home.reserved

/-- Frames free for parcels (R339). -/
def State.framesFree (s : State) : Nat := s.framesAvailable - s.usedFrames.length

/-- Used frames lie below the high-water mark (R175, R186). -/
def State.belowHigh (s : State) : Bool :=
  decide (s.usedFrames.length * 100 < s.regs.global.pageHigh.toNat * s.framesAvailable)

/-- The lowest frame number not in use (notes/assumptions/14.md). -/
def firstFree (used : List Nat) : Nat → Nat → Nat
  | 0, n => n
  | f + 1, n => if used.contains n then firstFree used f (n + 1) else n

/-- The frame that the module gives next. -/
def State.nextFrame (s : State) : Nat := firstFree s.usedFrames s.usedFrames.length bootReserve

/-! ### Registrars and the Cadastre -/

/-- registrar_index of R170. -/
def registrarIndex (pn n : Nat) : Nat :=
  let x : Word64 := BitVec.ofNat 64 pn * 0x9E3779B97F4A7C15#64
  let x := x ^^^ (x >>> 29)
  if n = 0 then 0 else (x >>> 32).toNat % n

/-- The registrar of a parcel of a context. -/
def State.registrar (s : State) (c pn : Nat) : Nat :=
  let set := (s.ctx c).moduleSet
  (set.getD (registrarIndex pn set.length) 0).toNat

/-- The entry of a parcel at this registrar. -/
def State.entry? (s : State) (job : BitVec 16) (pn : Nat) : Option CadEntry :=
  s.home.cadastre.find? (fun e => e.job == job && e.parcel == pn)

/-- An entry of this registrar, changed. -/
def State.modEntry (s : State) (job : BitVec 16) (pn : Nat) (f : CadEntry → CadEntry) : State :=
  s.modHome (fun h => { h with cadastre := updateFirst (fun e => e.job == job && e.parcel == pn) f h.cadastre })

/-- Entries that the Cadastre region holds (R171). -/
def cadastreSize : Nat := 1048576

/-- A bearing in the cache (R178). -/
def State.bearing? (s : State) (job : BitVec 16) (pn : Nat) : Option Bearing :=
  s.home.bearings.find? (fun b => b.job == job && b.parcel == pn)

/-- The set of a parcel in the bearing cache (R178). -/
def bearingSet (pn : Nat) : Nat := (pn % 512) ^^^ (pn / 512 % 512)

/-- A bearing used: its way becomes most recently used. -/
def State.touchBearing (s : State) (b : Bearing) : State :=
  let k := bearingSet b.parcel
  let bits := plruTouch 3 b.way true (tget s.home.bearingPlru k 0)
  s.modHome (fun h => { h with bearingPlru := tset h.bearingPlru k bits })

/-- GEN newer (R181). -/
def newer (new old : BitVec 16) : Bool := let d := (new - old).toNat; decide (1 ≤ d ∧ d ≤ 32767)

/-- A way for a new bearing: a free one, else the one the tree points to (R178). -/
def State.bearingWay (s : State) (pn : Nat) : Nat :=
  let used := (s.home.bearings.filter (fun b => bearingSet b.parcel == bearingSet pn)).map (·.way)
  match (List.range 8).find? (fun w => !used.contains w) with
  | some w => w
  | none => plruWay (tget s.home.bearingPlru (bearingSet pn) 0) 3

/-- A bearing entered or brought up to date, when its GEN is newer than that held (R181). -/
def State.putBearing (s : State) (job : BitVec 16) (pn : Nat) (home : BitVec 15) (frame : BitVec 18) (gen : BitVec 16)
    (attr : Byte) : State :=
  match s.bearing? job pn with
  | some b =>
    if newer gen b.gen then
      let new := updateFirst (fun x => x.job == job && x.parcel == pn)
        (fun x => { x with home := home, frame := frame, gen := gen, attr := attr }) s.home.bearings
      s.modHome (fun h => { h with bearings := new })
    else s
  | none =>
    let w := s.bearingWay pn
    let b : Bearing := { job := job, parcel := pn, home := home, frame := frame, gen := gen, attr := attr, way := w }
    let new := s.home.bearings.filter (fun x => !(bearingSet x.parcel == bearingSet pn && x.way == w)) ++ [b]
    (s.modHome (fun h => { h with bearings := new })).touchBearing b

/-- A bearing deleted (R180). -/
def State.dropBearing (s : State) (job : BitVec 16) (pn : Nat) : State :=
  s.modHome (fun h => { h with bearings := h.bearings.filter (fun b => !(b.job == job && b.parcel == pn)) })

/-! ### What a home does with a request -/

/-- Attribute bits (R171). -/
def attrRead (a : Byte) : Bool := a.getLsbD 0
def attrWrite (a : Byte) : Bool := a.getLsbD 1
def attrAtomic (a : Byte) : Bool := a.getLsbD 2
def attrNoSpec (a : Byte) : Bool := a.getLsbD 3
def attrNoMigrate (a : Byte) : Bool := a.getLsbD 4

/-- The byte in which a registrar's answer carries ATTR, with POLICY in its unused bits 5 and 6 (notes/assumptions/27.md). -/
def attrByte (attr : Byte) (policy : Nat) : Byte := (attr &&& 0x1F) ||| (BitVec.ofNat 8 policy <<< 5)
def byteAttr (b : Byte) : Byte := b &&& 0x1F
def bytePinned (b : Byte) : Bool := b >>> 5 == 2

/-- What the checks of R199 decide. -/
inductive HomeAct where
  | denied (reason : Nat)
  | away
  | hold
  | drop
  | poison
  | perform
  deriving DecidableEq, Repr

/-- Sub-operation and width of an ATOMIC (R194). -/
def atomCode (r : Request) : Nat := bitsOf r.size.toNat 0 4
def atomWide (r : Request) : Bool := bitOf r.size.toNat 4

/-- Check 5 of R199. -/
def shapeOk (r : Request) : Bool :=
  match r.op with
  | .atomic =>
    r.va.toNat % (if atomWide r then 8 else 4) == 0 && decide (atomCode r ≤ 9) && !(atomCode r == 9 && atomWide r)
  | .write => decide (r.va.toNat % 128 + r.size.toNat + 1 ≤ 128)
  | _ => true

/-- Check 4 of R199, and the read-only frames of a hold (R288). -/
def attrOk (p : HomeParcel) (r : Request) : Bool :=
  match r.op with
  | .read => attrRead p.attr
  | .invalidate => attrRead p.attr
  | .write => attrWrite p.attr && !p.readOnly
  | .atomic => attrAtomic p.attr && !p.readOnly
  | _ => true

/-- Whether an operation changes memory. -/
def changes (op : ReqOp) : Bool := op == .write || op == .atomic

/-- The line of an address. -/
def lineOf (a : Nat) : Nat := a - a % 128

/-- Check 7 of R199: the request meets a line with an uncorrectable error, which only a write of the whole line may (R153). -/
def State.meetsUe (s : State) (p : HomeParcel) (r : Request) : Bool :=
  s.home.ueLines.contains (lineOf (p.frame * frameBytes + r.va.toNat % frameBytes)) && !(r.op == .write && r.size == 127)

/-- The checks of R199 on READ, WRITE and ATOMIC. -/
def State.homeAct (s : State) (r : Request) : HomeAct :=
  match s.ctxOf r.job with
  | none => .denied 1
  | some _ =>
    match s.parcel? r.job (parcelOf r.va.toNat) with
    | none => .away
    | some p =>
      if !attrOk p r then .denied 2
      else if !shapeOk r then .denied 4
      else
        if p.awaitDrain ∧ r.fwd = false then .hold
        else
          match p.state with
          | .unmaterialised => .hold
          | .paged => if r.prefetch then .drop else .hold
          | .pagingIn => .hold
          | .moving => if changes r.op then .hold else if s.meetsUe p r then .poison else .perform
          | _ => if s.meetsUe p r then .poison else .perform

/-- Integer and floating atomic operations on the old value (R126, R203): the new value, and what R44 counts. -/
def atomApply (code : Nat) (wide : Bool) (old operand : Nat) : Nat × Made :=
  let n := if wide then 64 else 32
  let a := old % 2 ^ n
  let b := operand % 2 ^ n
  match code with
  | 0 => ((a + b) % 2 ^ n, {})
  | 1 => (if signedOf a n ≤ signedOf b n then a else b, {})
  | 2 => (if signedOf a n ≥ signedOf b n then a else b, {})
  | 3 => (min a b, {})
  | 4 => (max a b, {})
  | 5 => (a &&& b, {})
  | 6 => (a ||| b, {})
  | 7 => (a ^^^ b, {})
  | 8 => (b, {})
  | _ => let r := fadd (BitVec.ofNat 32 a) (BitVec.ofNat 32 b); (r.v.toNat, r.made)

/-- Numeric tallies of a context advanced (R44). -/
def State.tally (s : State) (c : Nat) (m : Made) : State :=
  s.modCtx c (fun x =>
    { x with nanMade := satAdd x.nanMade m.nan, infMade := satAdd x.infMade m.inf, satClamps := satAdd x.satClamps m.sat,
             mxNanBlocks := satAdd x.mxNanBlocks m.mx })

/-- A request counted at its home (R171). -/
def State.countReq (s : State) (job : BitVec 16) (pn module : Nat) : State :=
  s.modParcel job pn (fun p => { p with counts := tset p.counts module (tget p.counts module 0 + 1) })

/-- The reply of a home to a request; a forwarded request's reply carries the correction (R180, R196). -/
def State.answer (s : State) (r : Request) (st : RStatus) (reason : Nat) (data : List Byte) : Reply :=
  let p := s.parcel? r.job (parcelOf r.va.toNat)
  { dest := r.src, src := BitVec.ofNat 15 s.self, tag := r.tag, status := st
    correction := r.fwd && p.isSome
    gen := if r.fwd then (p.map (·.gen)).getD 0 else 0
    home := if r.fwd then BitVec.ofNat 16 s.self else 0
    frame := if r.fwd then (p.map (fun x => BitVec.ofNat 18 x.frame)).getD 0 else 0
    reason := BitVec.ofNat 8 reason, data := data }

/-- The slots of the backstore in use. -/
def State.usedSlots (s : State) : List Nat := s.home.parcels.filterMap (·.slot)

/-- The address in host memory of a backstore slot (R185). -/
def State.slotAddr (s : State) (slot : Nat) : Nat := s.home.lentBase.toNat + slot * frameBytes

/-- The lowest free backstore slot (R185). -/
def State.freeSlot (s : State) : Option Nat :=
  let used := s.usedSlots
  let n := firstFree used used.length 0
  if n < s.home.lentSlots then some n else none

/-- A parcel may be paged out: in a frame, not pinned, not in a move. -/
def pageable (p : HomeParcel) : Bool := p.state == .resident && !p.pinned && !p.awaitDrain

/-- Parcel b goes before parcel a: named cold, then fewer requests, then the lower frame (R186, R193). -/
def colder (a b : HomeParcel) : Bool :=
  if a.cold != b.cold then b.cold
  else if a.lastEpoch ≠ b.lastEpoch then decide (b.lastEpoch < a.lastEpoch) else decide (b.frame < a.frame)

/-- The parcel that is paged out first, of those that may be chosen (R186). -/
def State.coldestOf (s : State) (may : HomeParcel → Bool) : Option HomeParcel :=
  (s.home.parcels.filter (fun p => pageable p && may p)).foldl (fun best p =>
    match best with
    | none => some p
    | some b => if colder b p then some p else best) none
def State.coldest (s : State) : Option HomeParcel := s.coldestOf (fun _ => true)

/-- The coldest parcel of those that may be chosen starts its page-out, if there is one and a slot for it. -/
def State.pageOutOf (s : State) (may : HomeParcel → Bool) : State :=
  match s.coldestOf may, s.freeSlot with
  | some p, some slot =>
    (s.trace.modParcel p.job p.parcel (fun p => { p with state := .pagingOut, slot := some slot })).modEntry p.job p.parcel
      (fun e => { e with state := .pagingOut })
  | _, _ => s
def State.startPageOut (s : State) : State := s.pageOutOf (fun _ => true)

/-- Frames that will be in use when the page-outs in progress have ended. -/
def State.framesAfter (s : State) : Nat := s.usedFrames.length - s.home.parcels.countP (fun p => p.state == .pagingOut)

/-- Used frames exceed the high-water mark; they have fallen to the low-water mark (R186). -/
def State.aboveHigh (s : State) : Bool :=
  decide (s.usedFrames.length * 100 > s.regs.global.pageHigh.toNat * s.framesAvailable)
def State.atLow (s : State) : Bool := decide (s.framesAfter * 100 ≤ s.regs.global.pageLow.toNat * s.framesAvailable)

/-- Page-outs started until the marks are met. -/
def pageOuts : Nat → State → State
  | 0, s => s
  | n + 1, s => if s.atLow then s else pageOuts n s.startPageOut

/-- A page-in begins once a frame is free: the parcel takes it, and a module above its high-water mark first pages a colder parcel out
(R172, R187). -/
def State.beginPageIn (s : State) (job : BitVec 16) (pn : Nat) : State :=
  match s.parcel? job pn with
  | some p =>
    if p.state = .paged ∧ s.framesFree > 0 then
      let s := if s.aboveHigh then s.startPageOut else s
      let f := s.nextFrame
      (s.trace.modParcel job pn (fun p => { p with state := .pagingIn, frame := f })).modEntry job pn (fun e => { e with state := .pagingIn })
    else s
  | none => s

/-- Frames have become free: paging goes on until the low-water mark is met (R186), and parcels whose requests wait for a frame start
their page-ins (R187). -/
def State.framesFreed (s : State) : State :=
  let s := s.modHome (fun h =>
    { h with paging := h.paging && decide (s.usedFrames.length * 100 > s.regs.global.pageLow.toNat * s.framesAvailable) })
  (s.home.parcels.filter (fun p => p.state == .paged && !p.held.isEmpty)).foldl (fun s p => s.beginPageIn p.job p.parcel) s

/-- The home drops a page-out that a write meets, and the Surveyor chooses another parcel (R187). -/
def State.cancelPageOut (s : State) (job : BitVec 16) (pn : Nat) : State :=
  match s.parcel? job pn with
  | some p =>
    if p.state = .pagingOut then
      let s := ((s.modParcel job pn (fun p => { p with state := .resident, slot := none })).modEntry job pn
        (fun e => { e with state := .resident })).modHome (fun h => { h with pageOutsCancelled := h.pageOutsCancelled + 1 })
      if s.home.paging ∧ !s.atLow then s.pageOutOf (fun p => !(p.job == job && p.parcel == pn)) else s
    else s
  | none => s

/-- A WAIT_FLAG of this context on a device flag in a line reads it again at once: a SET_FLAG or an atomic of this module has reached
the line (R323). -/
def pokeCmd (now line : Nat) (c : Cmd) : Cmd :=
  if c.opcode = 2 ∧ lineOf (c.param 0 8) = line ∧ !bitOf (c.param 25 1) 0 then { c with lastRead := c.lastRead.map (fun x => (x.1, now)) }
  else c
def State.poke (s : State) (job : BitVec 16) (va : Nat) : State :=
  match s.ctxOf job with
  | some c => [4 * c, 4 * c + 1, 4 * c + 2, 4 * c + 3].foldl
      (fun s q => s.modQueue q (fun x => { x with cur := x.cur.map (pokeCmd s.time (lineOf va)) })) s
  | none => s

/-- A request performed at its frame, its 8-byte pieces one right after another (R157, R213; notes/assumptions/91.md). -/
def State.performAt (s : State) (r : Request) : Reply × State :=
  let pn := parcelOf r.va.toNat
  match s.localAddr r.job r.va.toNat with
  | none => (s.answer r .denied 1 [], s)
  | some la =>
    match r.op with
    | .read =>
      let l := lineOf la
      (s.answer r .ok 0 (s.getDram l 128), s.moved l 128)
    | .write =>
      let s := s.cancelPageOut r.job pn
      let n := r.size.toNat + 1
      (s.answer r .ok 0 [], (s.putDram la (slice r.payload 0 n)).moved la n)
    | .atomic =>
      let s := s.cancelPageOut r.job pn
      let n := if atomWide r then 8 else 4
      let old := leNat (s.getDram la n)
      let nw := atomApply (atomCode r) (atomWide r) old r.arg.toNat
      let s := (s.putDram la (natLE nw.1 n)).moved la (2 * n)
      let s := match s.ctxOf r.job with | some c => s.tally c nw.2 | none => s
      (s.answer r .ok 0 (natLE old 8), if r.src.toNat = s.self then s.poke r.job r.va.toNat else s)
    | _ => (s.answer r .ok 0 [], s)

/-- The answer to a request that meets an uncorrectable error (R153, R196). -/
def State.poisoned (s : State) (r : Request) : Reply :=
  s.answer r .poison 0 (if r.op = .read then List.replicate 128 0xFF else [])

/-- Two requests whose meeting is no timing-dependent choice: atomics of one width and one order-free sub-operation (R214). -/
def orderFree (a b : Request) : Bool :=
  a.op == .atomic && b.op == .atomic && a.size == b.size && decide (atomCode a ≤ 7)

/-- The requests that wait at this home: delivered and not handled, held, or of the module's own cores. -/
def State.waiting (s : State) : List Request :=
  s.fabric.arrived.filterMap (fun p => match p.body with | .req r => some r | _ => none) ++
  (s.home.parcels.map (·.held)).flatten ++
  (s.fabric.accesses.filter (fun a => a.stage == .sent && !a.slot)).map (·.req)

/-- A write or atomic that reaches the home while one of another module to its line waits there advances the slack counter
(R214). -/
def State.slackOn (s : State) (r : Request) : State :=
  if changes r.op ∧ s.waiting.any (fun q =>
      changes q.op && q.job == r.job && lineOf q.va.toNat == lineOf r.va.toNat && q.src != r.src && !orderFree q r) then
    match s.ctxOf r.job with
    | some c => s.modCtx c (fun x => { x with slack := x.slack + 1 })
    | none => s
  else s

/-- Credits that this module owes to the peer of a port. -/
def State.owe (s : State) (port pool n : Nat) : State :=
  s.modPort port (fun x => { x with owed := tset x.owed pool (tget x.owed pool 0 + n) })

/-- A packet of this module in the request or reply network. -/
def State.packet (s : State) (dest : BitVec 15) (isReply : Bool) (cls : TClass) (bytes : Nat) (b : Body) : Packet :=
  { env := { dest := dest, mcast := false, src := BitVec.ofNat 15 s.self, isReply := isReply, vc := false, cls := cls,
             len := BitVec.ofNat 8 ((8 + bytes + 15) / 16), hopsPos := 0, hopsNeg := 0, axis := 0 }
    body := b }

/-- A packet handed to the module's router. -/
def State.inject (s : State) (p : Packet) : State := s.modFabric (fun f => { f with inject := f.inject ++ [p] })

/-- A request handed on to the new home (R180). -/
def State.forwardReq (s : State) (r : Request) (home : BitVec 15) : State :=
  let q := { r with dest := home, fwd := true }
  s.inject (s.packet home false r.cls (32 + r.payload.length) (.req q))

/-- A request held at its home in arrival order (R172); a paged parcel starts its page-in (R187). -/
def State.holdReq (s : State) (r : Request) : State :=
  let pn := parcelOf r.va.toNat
  (s.modParcel r.job pn (fun p => { p with held := p.held ++ [r] })).beginPageIn r.job pn

/-- A request that finds the hold full draws RETRY (R172). -/
def State.holdOrRetry (s : State) (r : Request) : Option Reply × State :=
  if ((s.parcel? r.job (parcelOf r.va.toNat)).map (fun p => decide (p.held.length < 256))).getD false then (none, s.holdReq r)
  else (some (s.answer r .retry 0 []), s.modHome (fun h => { h with moveRetries := h.moveRetries + 1 }))

/-- A home handles a READ, WRITE or ATOMIC: performs, holds, forwards or refuses it (R199). The answer, if there is one now. -/
def State.serve (s : State) (r : Request) : Option Reply × State :=
  let pn := parcelOf r.va.toNat
  match s.homeAct r with
  | .denied n => (some (s.answer r .denied n []), s)
  | .hold => (s.countReq r.job pn r.src.toNat).holdOrRetry r
  | .drop => (some (s.answer r .noFrame 0 []), s)
  | .poison => (some (s.poisoned r), s.countReq r.job pn r.src.toNat)
  | .perform =>
    let x := (s.countReq r.job pn r.src.toNat).performAt r
    (some x.1, x.2)
  | .away =>
    match s.home.forwards.find? (fun f => f.job == r.job && f.parcel == pn) with
    | some f => if r.fwd then (some (s.answer r .bearingMiss 0 []), s) else (none, s.forwardReq r f.home)
    | none => (some (s.answer r .bearingMiss 0 []), s)

/-- A held request performed when its hold ends; its line may have failed meanwhile (R153, R199 check 7). -/
def State.performHeld (s : State) (r : Request) : Reply × State :=
  match s.parcel? r.job (parcelOf r.va.toNat) with
  | some p => if s.meetsUe p r then (s.poisoned r, s) else s.performAt r
  | none => s.performAt r

/-! ### Placement and paging -/

/-- What another module answered about a parcel, and about the line of an address. -/
def fabReg (fab : Fab) (pn : Nat) : Option RegAnswer := (fab.regs.find? (fun e => e.1 == pn)).map (·.2)
def fabLine (fab : Fab) (a : Nat) : Option LineAnswer := (fab.lines.find? (fun l => l.1 == lineOf a)).map (·.2)

/-- A frame released: its contents and errors are gone (R153). -/
def State.freeFrame (s : State) (frame : Nat) : State :=
  let a := frame * frameBytes
  { s with dram := memClear s.dram a frameBytes
           home := { s.home with ueLines := s.home.ueLines.filter (fun l => decide (l < a) || decide (a + frameBytes ≤ l)) } }

/-- A parcel placed here in a zero-filled frame (R175). -/
def State.placeHere (s : State) (job : BitVec 16) (pn : Nat) (attr : Byte) (gen : BitVec 16) (pinned : Bool) : State :=
  let f := s.nextFrame
  let p : HomeParcel :=
    { job := job, parcel := pn, frame := f, gen := gen, attr := attr, state := .resident, pinned := pinned }
  (s.freeFrame f).modHome (fun h => { h with parcels := h.parcels ++ [p] })

/-- A frame of this module that another registrar has reserved for a parcel, zero-filled (R175); `byte` carries its attributes and its
policy (R174). -/
def State.grantFrame (s : State) (job : BitVec 16) (pn : Nat) (frame : BitVec 18) (gen : BitVec 16) (byte : Byte) : State :=
  if (s.parcel? job pn).isSome then s
  else
    let p : HomeParcel :=
      { job := job, parcel := pn, frame := frame.toNat, gen := gen, attr := byteAttr byte, state := .resident, pinned := bytePinned byte }
    (s.freeFrame frame.toNat).modHome (fun h => { h with parcels := h.parcels ++ [p] })

/-- Where R175 places a parcel. -/
inductive Placed where
  | here
  | at_ (home : BitVec 15) (frame : BitVec 18)
  | noFrame
  deriving DecidableEq, Repr

/-- What module m has answered to a registrar that asks it for a frame: one that it gives below its high-water mark, or any free one; and to
one that asks whether it can give a parcel up (R175, R180, R182; notes/assumptions/83.md). -/
def frameAnswer (low : Bool) (m : Nat) : Nat := (if low then 2 ^ 36 else 2 ^ 37) + m
def recordAnswer (m : Nat) : Nat := 2 ^ 38 + m

/-- The frame that a module gives, below its high-water mark or at all. -/
def State.frameAt (s : State) (low : Bool) (fab : Fab) (m : Nat) : Option Nat :=
  if m = s.self then (if s.framesFree > 0 ∧ (!low ∨ s.belowHigh) then some s.nextFrame else none)
  else
    match fabReg fab (frameAnswer low m) with
    | some (.bearing h f _ _) => if h.toNat = m then some f.toNat else none
    | _ => none

/-- The module of a list nearest to one that gives a frame (R175). -/
def State.nearestFrame (s : State) (set : List Nat) (chosen : Nat) (low : Bool) (fab : Fab) : Option Nat :=
  nearest s.plan chosen (set.filter (fun m => m != chosen && (s.frameAt low fab m).isSome))

/-- The steps of R175: `chosen` is the home of R174, `set` the module set. -/
def State.placement (s : State) (set : List Nat) (chosen : Nat) (pinned : Bool) (fab : Fab) : Placed :=
  let give := fun (low : Bool) (m : Nat) => (s.frameAt low fab m).map (fun f => (m, f))
  let far := fun (low : Bool) => if pinned then none else (s.nearestFrame set chosen low fab).bind (give low)
  match (give true chosen).orElse (fun _ => (far true).orElse (fun _ => (give false chosen).orElse (fun _ => far false))) with
  | none => .noFrame
  | some (m, f) => if m = s.self then .here else .at_ (BitVec.ofNat 15 m) (BitVec.ofNat 18 f)

/-- The home that the policy chooses (R174). -/
def chosenHome (e : CadEntry) (toucher : Nat) : Nat :=
  match e.policy with
  | 1 => (e.list.getD ((e.parcel - e.base) % (max 1 e.list.length)) 0).toNat
  | 2 => e.policyArg.toNat % 32768
  | _ => toucher

/-- What a registrar elsewhere says of a parcel's ATTR and POLICY, where the row carries no answer of it: a free value. -/
def State.entryElsewhere (s : State) (job : BitVec 16) (pn : Nat) : Byte := Config.entryByte s.time s.free job.toNat pn

/-- The attributes of a parcel PINNED to this module: as its home holds it, as its registrar's entry names the module, or as another
registrar answers (R171, R174, R193). -/
def State.pinnedAttr (s : State) (c pn : Nat) (fab : Fab) : Option Byte :=
  let job := (s.ctx c).job
  match s.parcel? job pn with
  | some p => if p.pinned then some p.attr else none
  | none =>
    match s.entry? job pn with
    | some e => if e.policy = 2 ∧ e.state = .unmaterialised ∧ chosenHome e s.self = s.self then some e.attr else none
    | none =>
      match fabReg fab pn with
      | some (.bearing h _ _ byte) => if h.toNat = s.self ∧ bytePinned byte then some (byteAttr byte) else none
      | _ => none

/-- An unmaterialised parcel materialised by its registrar for a toucher (R175): whether it found a frame. -/
def State.materialise (s : State) (job : BitVec 16) (pn toucher : Nat) (fab : Fab) : Bool × State :=
  match s.entry? job pn with
  | none => (false, s)
  | some e =>
    let set := ((s.ctxOf job).map (fun c => (s.ctx c).moduleSet.map (·.toNat))).getD []
    match s.placement set (chosenHome e toucher) (decide (e.policy = 2)) fab with
    | .noFrame => (false, s)
    | .here =>
      let f := s.nextFrame
      let s := s.placeHere job pn e.attr e.gen (decide (e.policy = 2))
      (true, s.modEntry job pn (fun e =>
        { e with state := .resident, home := BitVec.ofNat 16 s.self, frame := BitVec.ofNat 18 f }))
    | .at_ h f =>
      let s := s.emit (.ctrl h.toNat (.frameAsk job pn))
      (true, s.modEntry job pn (fun e => { e with state := .resident, home := BitVec.ofNat 16 h.toNat, frame := f }))

/-- A page-in ends: the frame filled from its slot, GEN advanced, the held requests still waiting (R187). -/
def State.pageIn (s : State) (job : BitVec 16) (pn : Nat) : State :=
  match (s.parcel? job pn).filter (fun p => p.state == .pagingIn) with
  | none => s
  | some p =>
    let f := p.frame
    let s := { s with dram := memCopy s.hostMem (s.slotAddr (p.slot.getD 0)) s.dram (f * frameBytes) frameBytes }
    let g := p.gen + 1
    let s := s.modParcel job pn (fun p => { p with state := .resident, slot := none, gen := g })
    let s := s.modEntry job pn (fun e =>
      { e with state := .resident, frame := BitVec.ofNat 18 f, gen := g, home := BitVec.ofNat 16 s.self })
    let reg := match s.ctxOf job with | some c => s.registrar c pn | none => s.self
    let s := if reg = s.self then s else s.emit (.ctrl reg (.pagedIn job pn))
    s.trace.modHome (fun h => { h with pageIns := h.pageIns + 1 })

/-! ### Accesses of engines -/

/-- One 128-byte line or a part of one: start and length. -/
def lineParts : Nat → Nat → Nat → List (Nat × Nat)
  | 0, _, _ => []
  | f + 1, a, n =>
    if n = 0 then []
    else
      let k := min n (128 - a % 128)
      (a, k) :: lineParts f (a + k) (n - k)

/-- A range in its line parts (R195). -/
def linesIn (a n : Nat) : List (Nat × Nat) := lineParts (n / 128 + 2) a n

/-- An engine access to this module's own frames can be performed now, and finds a frame for each parcel that it pages in (R172, R187). -/
def State.rangeReady (s : State) (job : BitVec 16) (a n : Nat) (write : Bool) : Bool :=
  let ps := (List.range (parcelOf (a + n - 1) + 1 - parcelOf a)).filterMap (fun i => s.parcel? job (parcelOf a + i))
  ps.all (fun p => !p.awaitDrain && (p.state != .moving || !write)) && decide (ps.countP (fun p => p.state == .paged) ≤ s.framesFree)

/-- The fault that a home's refusal raises (R200). -/
def faultOf (st : RStatus) : Nat :=
  match st with
  | .addrUnmapped => 0x0202
  | .noFrame => 0x0203
  | .poison => 0x0204
  | _ => 0x0201

/-- The doorbell mirrors (R343). -/
def mirrorBase : Nat := 0xFFFFF000000000
def isMirror (va : Nat) : Bool := decide (mirrorBase ≤ va)
def mirrorModule (va : Nat) : Nat := (va - mirrorBase) / 0x200000
def mirrorOffset (va : Nat) : Nat := (va - mirrorBase) % 0x200000

/-- The error of a failed access (R200, R210). -/
def accessErr (code c a n target reason : Nat) (att : Attrib) : ErrSpec :=
  { code := code, ctx := some c, va := a, len := n - 1, target := target, detail := reason, attr := att }

/-- A failed store counted (R200). -/
def State.storeFailed (s : State) (c : Nat) : State := s.modCtx c (fun x => { x with storesFailed := x.storesFailed + 1 })

end Sys2Proof.Machine
end

