-- ==== Sys2Proof/Machine/MemPath.lean ====
section
/-!
DEFINITION. The path of a core's access: the hoard (R145 to R149), bearings (R178 to R181), reply slots (R197), the order of a
core's accesses (R155 to R162), and what an answer does (R200, R210, R212).
-/
namespace Sys2Proof.Machine

/-! ### The hoard -/

/-- The set of a line, in the hoard's 4,096 (R145; the index is open, notes/assumptions/10.md). -/
def lineSet (k : LineKey) : Nat :=
  match k with
  | .loc a => Config.hoardSet 0 (a / 128) % 4096
  | .remote c va => Config.hoardSet (c + 1) (va / 128) % 4096

/-- The key under which a context finds a line: local when its parcel is held here (R146). -/
def State.lineKey (s : State) (c va : Nat) : LineKey :=
  match s.localAddr (s.ctx c).job va with
  | some la => .loc (lineOf la)
  | none => .remote c (lineOf va)

/-- The line of a hoard under a key. -/
def Cluster.line? (x : Cluster) (k : LineKey) : Option Line := x.hoard.find? (fun l => l.key == k)

/-- The line's place in the replacement order of its set (R148). -/
def Cluster.touch (x : Cluster) (k : LineKey) (way : Nat) (recent : Bool) : Cluster :=
  { x with plru := tset x.plru (lineSet k) (plruTouch 4 way recent (tget x.plru (lineSet k) 0)) }

/-- Ways of a set in use, and the held ones. -/
def Cluster.ways (x : Cluster) (set : Nat) : List (Nat × Bool) :=
  (x.hoard.filter (fun l => lineSet l.key == set)).map (fun l => (l.way, l.hold.isSome))

/-- The way that a fill takes: a free one, else the one the tree points to, passing over held ways (R148). -/
def Cluster.victim (x : Cluster) (set : Nat) : Nat :=
  let ws := x.ways set
  match (List.range 16).find? (fun w => !ws.any (fun e => e.1 == w)) with
  | some w => w
  | none =>
    let v := plruWay (tget x.plru set 0) 4
    ((List.range 16).map (fun i => (v + i) % 16)).find? (fun w => !ws.any (fun e => e.1 == w && e.2)) |>.getD v

/-- A line filled or refilled, taking the current generation (R148, R149). -/
def Cluster.fill (x : Cluster) (k : LineKey) (data : List Byte) (prefetch : Bool) (hold : Option (Nat × Nat × Nat)) : Cluster :=
  match x.line? k with
  | some l =>
    let up := fun (l : Line) =>
      { l with data := data, gen := x.gen, prefetched := l.prefetched && prefetch,
               hold := if hold.isSome then hold else l.hold }
    let y := { x with hoard := updateFirst (fun l => l.key == k) up x.hoard }
    y.touch k l.way (!prefetch)
  | none =>
    let set := lineSet k
    let w := x.victim set
    let l : Line := { key := k, way := w, gen := x.gen, data := data, hold := hold, prefetched := prefetch }
    ({ x with hoard := x.hoard.filter (fun (l : Line) => !(lineSet l.key == set && l.way == w)) ++ [l] }).touch k w (!prefetch)

/-- Whether a core may use a line: its generation is not below the core's mark, or it is held (R149). -/
def lineFresh (l : Line) (mark : BitVec 16) : Bool := l.hold.isSome || decide (mark ≤ l.gen)

/-- The generation counter advances; when it wraps, unheld lines are invalidated and the cluster's marks return to zero (R149). -/
def State.advanceGen (s : State) (rank : Nat) : State :=
  let g := (s.cluster rank).gen + 1
  if g = 0 then
    let s := s.modCluster rank (fun x =>
      { x with gen := 0, sweeps := x.sweeps + 1, hoard := x.hoard.filter (fun l => l.hold.isSome) })
    (List.range 17).foldl (fun s i => s.modCore (rank * 32 + i) (fun c => { c with mark := 0 })) s
  else s.modCluster rank (fun x => { x with gen := g })

/-- A core's acquire mark moves past every line filled before: the counter advances, and the mark takes its new value (R149, R150, R163;
notes/assumptions/81.md). -/
def State.moveMark (s : State) (k : Nat) : State :=
  let t := s.advanceGen (k / 32)
  t.modCore k (fun c => { c with mark := (t.cluster (k / 32)).gen })

/-- A counter of R346 advances. -/
def State.count (s : State) (k i n : Nat) : State :=
  s.modCore k (fun c => { c with counters := tset c.counters i (tget c.counters i 0 + BitVec.ofNat 64 n) })

/-- A read of a cluster's line of a context that has missed the hoard and has no answer. -/
def Access.fills (a : Access) (rank ctx line : Nat) : Bool :=
  a.rank == rank && a.ctx == ctx && a.req.op == .read && lineOf a.req.va.toNat == line && a.stage != .ordered

/-- Changes the accesses that meet a test. -/
def State.modAccesses (s : State) (p : Access → Bool) (g : Access → Access) : State :=
  s.modFabric (fun f => { f with accesses := updateAll p g f.accesses })

/-- A hoard accepts a store: a line that is present is updated, and one that is being filled will be (R147). A held line is read-only
(R148): its home refuses the store (R288). -/
def State.hoardStore (s : State) (rank c va : Nat) (bs : List Byte) : State :=
  let k := s.lineKey c va
  let s := s.modAccesses (fun a => a.fills rank c (lineOf va)) (fun a => { a with patches := a.patches ++ [(va, bs)] })
  let put := fun (l : Line) => if l.hold.isSome then l else { l with data := patch l.data (va % 128) bs }
  s.modCluster rank (fun x => { x with hoard := updateFirst (fun l => l.key == k) put x.hoard })

/-- A line leaves the hoard of an issuing cluster, and a fill of it in flight is not kept: an atomic invalidates it (R147), and so does
a store that has failed after the hoard accepted it. A held line stays (R148). -/
def State.hoardDrop (s : State) (rank c va : Nat) : State :=
  let k := s.lineKey c va
  let s := s.modAccesses (fun a => a.fills rank c (lineOf va)) (fun a => { a with keepOut := true })
  s.modCluster rank (fun x => { x with hoard := x.hoard.filter (fun l => !(l.key == k) || l.hold.isSome) })

/-! ### Accesses -/

/-- Reply slots of the module, and those held: by requests, and by its INVALIDATEs (R197). -/
def replySlots : Nat := 8192
def State.slotsHeld (s : State) : Nat := s.fabric.accesses.countP (fun a => a.slot) + s.fabric.invals.length

/-- The lowest free reply slot. -/
def State.freeTag (s : State) : Nat :=
  let used := (s.fabric.accesses.filter (fun a => a.slot)).map (fun a => a.req.tag.toNat) ++ s.fabric.invals.map (fun x => x.tag.toNat)
  firstFree used used.length 0

/-- An access by its number. -/
def State.access? (s : State) (id : Nat) : Option Access := s.fabric.accesses.find? (fun a => a.id == id)
def State.modAccess (s : State) (id : Nat) (f : Access → Access) : State :=
  s.modFabric (fun x => { x with accesses := updateFirst (fun a => a.id == id) f x.accesses })
def State.dropAccess (s : State) (id : Nat) : State :=
  s.modFabric (fun x => { x with accesses := x.accesses.filter (fun a => a.id != id) })

/-- An access that has timed out. -/
def Access.timedOut (a : Access) : Bool := match a.stage with | .timedOut _ => true | _ => false

/-- Outstanding registrar requests (R179). -/
def State.lookups (s : State) : Nat := s.fabric.accesses.countP (fun a => a.purpose == .lookup && !a.timedOut)

/-- Whether an access to a line takes a reply slot (R197, R198). -/
def State.needsSlot (s : State) (ctx va : Nat) : Bool :=
  if isMirror va then mirrorModule va != s.self else (s.parcel? (s.ctx ctx).job (parcelOf va)).isNone

/-- A request goes to its home's bearing: into the fabric once it holds a reply slot (R197), or to this module's own home logic
(R198). -/
def State.sendTo (s : State) (a : Access) (home : BitVec 15) (frame : BitVec 18) (gen : BitVec 16) : State :=
  if home.toNat = s.self then
    let q := { a.req with dest := home, frame := frame, gen := gen }
    (s.slackOn q).modAccess a.id (fun a => { a with req := q, stage := .sent, slot := false })
  else if !a.slot ∧ s.slotsHeld ≥ replySlots then s.modAccess a.id (fun a => { a with stage := .slot })
  else
    let tag := if a.slot then a.req.tag else BitVec.ofNat 16 s.freeTag
    let q := { a.req with dest := home, frame := frame, gen := gen, tag := tag }
    let s := s.modAccess a.id (fun a => { a with req := q, stage := .sent, slot := true })
    s.inject (s.packet home false q.cls (32 + q.payload.length) (.req q))

/-- The registrar asked for a parcel's bearing (R179). -/
def State.lookup (s : State) (a : Access) : State :=
  let pn := parcelOf a.req.va.toNat
  let reg := a.registrar.1
  let busy := s.fabric.accesses.any (fun x =>
    x.purpose == .lookup && x.req.job == a.req.job && parcelOf x.req.va.toNat == pn && !x.timedOut)
  if busy ∨ s.lookups ≥ 64 ∨ (reg ≠ s.self ∧ s.slotsHeld ≥ replySlots) then s
  else
    let q := { a.req with dest := BitVec.ofNat 15 reg, op := .regLookup, payload := [], size := 0, frame := 0, gen := 0,
                          tag := BitVec.ofNat 16 s.freeTag, noCombine := false
                          arg := BitVec.ofNat 64 a.registrar.2.toNat }
    let x : Access := { id := s.fabric.nextAccess, ctx := a.ctx, req := q, purpose := .lookup, stage := .sent,
                        slot := decide (reg ≠ s.self), sentAt := s.time, rank := a.rank }
    let s := s.modFabric (fun f => { f with accesses := f.accesses ++ [x], nextAccess := f.nextAccess + 1 })
    let s := s.modHome (fun h => { h with bearingMisses := h.bearingMisses + 1 })
    if reg = s.self then s else s.inject (s.packet q.dest false q.cls 32 (.req q))

/-- A request made by a prefetch. -/
def Purpose.isPrefetch (p : Purpose) : Bool := match p with | .prefetch _ _ => true | _ => false

/-- An access routed: a mirror, this module's home, a cached bearing, or its registrar (R179, R198, R343). A prefetch asks no registrar: it
is dropped (R71). -/
def State.route (s : State) (a : Access) : State :=
  let va := a.req.va.toNat
  let pn := parcelOf va
  if isMirror va then s.sendTo a (BitVec.ofNat 15 (mirrorModule va)) 0 0
  else
    match s.parcel? a.req.job pn with
    | some p => s.sendTo a (BitVec.ofNat 15 s.self) (BitVec.ofNat 18 p.frame) p.gen
    | none =>
      match s.bearing? a.req.job pn with
      | some b => (s.touchBearing b).sendTo a b.home b.frame b.gen
      | none =>
        if a.purpose.isPrefetch then s.dropAccess a.id
        else (s.modAccess a.id (fun a => { a with stage := .bearing })).lookup a

/-- A new access, not yet routed. -/
def State.addAccess (s : State) (ctx rank : Nat) (req : Request) (p : Purpose) (bypass : Bool) : Access × State :=
  let a : Access :=
    { id := s.fabric.nextAccess, ctx := ctx, purpose := p, stage := .ordered, slot := false, sentAt := s.time, rank := rank,
      bypass := bypass, registrar := (s.registrar ctx (parcelOf req.va.toNat), (s.ctx ctx).setCrc)
      req := { req with tag := BitVec.ofNat 16 s.fabric.nextAccess, src := BitVec.ofNat 15 s.self } }
  (a, s.modFabric (fun f => { f with accesses := f.accesses ++ [a], nextAccess := f.nextAccess + 1 }))

/-! ### What an answer does -/

/-- The stores that a cluster's outbound queue holds for a line of a context, oldest first: each is an address and its bytes (R147). -/
def State.outbound (s : State) (rank ctx line : Nat) : List (Nat × List Byte) :=
  s.fabric.accesses.filterMap (fun a =>
    match a.purpose with
    | .store _ _ =>
      if a.rank = rank ∧ a.ctx = ctx ∧ lineOf a.req.va.toNat = line ∧ !a.timedOut then some (a.req.va.toNat, a.req.payload) else none
    | _ => none)

/-- The stores of a core before a point of program order that its hoard has not accepted, for a line. -/
def Core.heldFor (c : Core) (seq line : Nat) : List (Nat × List Byte) :=
  ((c.stores.filter (fun h => decide (h.seq < seq) && !h.isInv && !h.isAtomic)).map (fun h =>
    (h.reqs.filter (fun r => lineOf r.va.toNat == line)).map (fun r => (r.va.toNat, r.payload)))).flatten

/-- A read misses: it takes what the outbound queue holds for its line, and the stores of its own core (R147, R156). -/
def State.missed (s : State) (a : Access) (own : List (Nat × List Byte)) : State :=
  let q := s.outbound a.rank a.ctx (lineOf a.req.va.toNat)
  s.modAccess a.id (fun a => { a with seen := q ++ own, patches := q })

/-- A line with those bytes laid over it. -/
def overlay (line : Nat) (data : List Byte) (qs : List (Nat × List Byte)) : List Byte :=
  qs.foldl (fun d q => patch d (q.1 - line) q.2) data

/-- A core's scratchpad written. -/
def State.putSpad (s : State) (k a : Nat) (bs : List Byte) : State :=
  s.modCore k (fun c => { c with spad := memWriteN c.spad a bs })

/-- n bytes of a core's scratchpad. -/
def State.getSpad (s : State) (k a n : Nat) : List Byte := memReadN (s.core k).spad a n

/-- The load of a core by its number. -/
def Core.load? (c : Core) (id : Nat) : Option Load := c.loads.find? (fun l => l.id == id)
def State.modLoad (s : State) (k id : Nat) (f : Load → Load) : State :=
  s.modCore k (fun c => { c with loads := updateFirst (fun l => l.id == id) f c.loads })

/-- A pattern repeated over n bytes, in step with its length (R212). -/
def fillPattern (pat : List Byte) (n : Nat) : List Byte :=
  (List.range n).map (fun i => pat.getD (i % (max 1 pat.length)) 0xFF)

/-- Two scratchpad ranges share a byte. -/
def overlap (a n b m : Nat) : Bool := decide (a < b + m) && decide (b < a + n)

/-- A scratchpad byte lies in a 64-byte piece for which bytes are still due. -/
def pieceDue (due : List (Nat × Nat)) (b : Nat) : Bool := due.any (fun d => overlap d.1 d.2 (b / 64 * 64) 64)

/-- A load after bytes for scratchpad address a have come; and the bytes that are now written, each 64-byte piece of the scratchpad at
once (R66). -/
def Load.land (l : Load) (a : Nat) (bs : List Byte) : Load × List (Nat × Byte) :=
  let due := l.due.erase (a, bs.length)
  let all := l.landed ++ bs.zipIdx.map (fun p => (a + p.2, p.1))
  ({ l with missing := l.missing - 1, due := due, landed := all.filter (fun e => pieceDue due e.1) },
   all.filter (fun e => !pieceDue due e.1))

/-- One piece of a load lands: in the scratchpad, or in the transposing load's staging (R85). -/
def State.landPiece (s : State) (k id : Nat) (spad : Nat) (bs : List Byte) : State :=
  match (s.core k).load? id with
  | none => s
  | some l =>
    match l.tld with
    | none =>
      let r := l.land spad bs
      (s.modLoad k id (fun _ => r.1)).modCore k (fun c =>
        { c with spad := r.2.foldl (fun m e => memWrite m e.1 e.2) c.spad })
    | some t =>
      let s := s.modLoad k id (fun l => { l with missing := l.missing - 1 })
      let st := bs.zipIdx.foldl (fun m p => tset m (spad + p.2) p.1) t.staging
      s.modLoad k id (fun l => { l with tld := some { t with staging := st } })

/-- Whether an epoch is unconfirmed. -/
def Core.unconfirmed (c : Core) (e : Nat) : Bool := c.epochs.any (fun x => x.id == e)

/-- A fault of the access stream: raised, or kept with its unconfirmed epoch (R60, R65). -/
def State.coreFault (s : State) (k epoch : Nat) (e : ErrSpec) : State :=
  if (s.core k).unconfirmed epoch then
    s.modCore k (fun c =>
      { c with epochs := updateFirst (fun x => x.id == epoch) (fun x => { x with faults := x.faults ++ [s.record e] }) c.epochs })
  else s.raise e

/-- The grid of a core's tile, for attribution (R370). -/
def Core.gridOf (c : Core) (tile : Nat) : Attrib :=
  match c.tiles.find? (fun t => t.seq == tile) with
  | some t => .grid t.grid
  | none => .none

/-- The hoard takes a line that came for a read, with the stores of the cluster laid over it (R147, R148): a bypassing load refills it only
if present (R149). A read of the line that may have met its home earlier is not kept when it comes (R156). -/
def State.fillLine (s : State) (a : Access) (data : List Byte) (prefetch : Bool) : State :=
  let va := a.req.va.toNat
  let key := s.lineKey a.ctx va
  if a.keepOut then s
  else if a.bypass ∧ ((s.cluster a.rank).line? key).isNone then s
  else
    let s := s.modAccesses
      (fun b => b.fills a.rank a.ctx (lineOf va) && (decide (b.id < a.id) || a.resent || b.req.cls != a.req.cls))
      (fun b => { b with keepOut := true })
    s.modCluster a.rank (fun x => x.fill key (overlay (lineOf va) data a.patches) prefetch none)

/-- The value of a load is fixed: a FENCE.SC after it waits for every store that it may have taken its value from (R155). -/
def State.loadFixed (s : State) (k id : Nat) : State :=
  let later := fun (b : Barrier) => if id < b.seq then { b with upTo := s.fabric.nextAccess } else b
  s.modCore k (fun c => { c with barriers := c.barriers.map later })

/-- A load's line has come. -/
def State.loadData (s : State) (a : Access) (k id : Nat) (pieces : List Piece) (data : List Byte) : State :=
  let line := lineOf a.req.va.toNat
  let s := s.fillLine a data false
  if a.discard then s
  else
    let d := overlay line data a.seen
    pieces.foldl (fun s p => s.landPiece k id p.spad (slice d (p.va - line) p.len)) (s.loadFixed k id)

/-- A load's line has failed: the poison pattern, and the fault; both wait on an unconfirmed epoch (R65, R200, R210, R212). -/
def State.loadFailed (s : State) (a : Access) (k id : Nat) (pieces : List Piece) (e : ErrSpec) : State :=
  if a.discard then s
  else
    match (s.core k).load? id with
    | none => s
    | some l =>
      let s := s.coreFault k l.epoch { e with attr := (s.core k).gridOf l.tile }
      let bad := pieces.map (fun p => (p.spad, fillPattern l.pattern p.len))
      if (s.core k).unconfirmed l.epoch then s.modLoad k id (fun l => { l with poison := l.poison ++ bad })
      else bad.foldl (fun s p => s.landPiece k id p.1 p.2) (s.loadFixed k id)

/-- A register of a core's access stream; X0 reads as zero and discards writes (R123). -/
def Core.xreg (c : Core) (i : Nat) : Word64 := if i = 0 then 0 else tget c.x i 0
def Core.setX (c : Core) (i : Nat) (v : Word64) : Core := if i = 0 then c else { c with x := tset c.x i v }

/-- Whether other line accesses of one store remain. -/
def State.storeLeft (s : State) (k seq : Nat) : Bool :=
  s.fabric.accesses.any (fun a => a.purpose == .store k seq)

/-- A store or an atomic ends while the module drains for POWER_DOWN: it is counted, and so is one whose home did not answer (R166). -/
def State.drainOne (s : State) (dead : Bool) : State :=
  if s.power.down then s.modPower (fun p => { p with drain := (p.drain.1 + 1, p.drain.2 + b2n dead) }) else s

/-- A line piece of a store command ends: it counts as drained with its last piece. -/
def State.drainPiece (s : State) (k seq : Nat) (dead : Bool) : State :=
  if s.storeLeft k seq then (if dead then s.modPower (fun p => { p with drain := (p.drain.1, p.drain.2 + b2n s.power.down) }) else s)
  else s.drainOne dead

/-- An FADD32 of this module that other modules' routers may have merged: whether it joined an entry there is a free value, and a join
advances the slack counter (R205; notes/assumptions/84.md). -/
def State.joinedAway (s : State) (a : Access) : State :=
  if a.slot ∧ !a.joined ∧ !a.req.noCombine ∧ a.req.op = .atomic ∧ atomCode a.req = 9 then
    let x := s.draw
    if x.1.getLsbD 0 then x.2.modCtx a.ctx (fun c => { c with slack := c.slack + 1 }) else x.2
  else s

/-- An answer settles an access (R200, R210): `none` is no answer at all, with the error given. A store command counts as performed once,
when the last of its line pieces is acknowledged (R68; notes/assumptions/80.md). -/
def State.settle (s : State) (a : Access) (data : Option (List Byte)) (e : ErrSpec) : State :=
  let s := s.dropAccess a.id
  match a.purpose with
  | .load k id pieces =>
    match data with
    | some d => s.loadData a k id pieces d
    | none => s.loadFailed a k id pieces e
  | .store k seq =>
    let s := s.drainPiece k seq (data.isNone && e.code == 0x0205)
    if a.discard then s
    else
      match data with
      | some _ => if s.storeLeft k seq then s else s.count k 9 1
      | none =>
        let s := s.hoardDrop a.rank a.ctx a.req.va.toNat
        (s.storeFailed a.ctx).raise { e with attr := (a.grid.map Attrib.grid).getD .none }
  | .atomic k _ dest _ =>
    let s := (s.drainOne (data.isNone && e.code == 0x0205)).joinedAway a
    if a.discard then s
    else
      match data with
      | some d =>
        let v := if atomWide a.req then leNat d else leNat (d.take 4)
        (s.modCore k (fun c => c.setX dest (BitVec.ofNat 64 v))).count k 10 1
      | none =>
        let s := s.modCore k (fun c => c.setX dest (BitVec.allOnes 64))
        (s.storeFailed a.ctx).raise { e with attr := (a.grid.map Attrib.grid).getD .none }
  | .prefetch k _ =>
    match data with
    | some d => s.fillLine a d true
    | none => s.count k 6 1
  | .lookup => s
  | .tally _ => s
  | .moveLine _ => s
  | .drain _ _ => s

/-! ### The order of a core's accesses -/

/-- Loads before a point of program order whose value is not fixed (R155). -/
def State.loadsOpen (s : State) (k seq : Nat) : Bool :=
  (s.core k).loads.any (fun l => decide (l.id < seq) && decide (l.missing > 0) && !l.squashed)

/-- Atomics before a point that are not performed. -/
def State.atomicsOpen (s : State) (k seq : Nat) : Bool :=
  (s.core k).stores.any (fun h => h.isAtomic && decide (h.seq < seq)) ||
  s.fabric.accesses.any (fun a => !a.timedOut && (match a.purpose with | .atomic c n _ _ => c == k && decide (n < seq) | _ => false))

/-- Stores, atomics and invalidations before a point that are not performed at a scope (R155). -/
def State.storesOpen (s : State) (k seq scope : Nat) : Bool :=
  (s.core k).stores.any (fun h => decide (h.seq < seq)) ||
  (decide (scope ≥ 2) && s.fabric.accesses.any (fun a =>
    !a.timedOut &&
    (match a.purpose with
     | .store c n => c == k && decide (n < seq)
     | .atomic c n _ _ => c == k && decide (n < seq)
     | _ => false))) ||
  (decide (scope = 3) && s.fabric.invals.any (fun i => i.orphan.isNone && match i.issuer with | some (c, n) => c == k && decide (n < seq) | none => false))

/-- Stores of the cluster that a load of the core may have read before they are performed (R155, FENCE.SC). -/
def State.clusterOpen (s : State) (k upTo scope : Nat) : Bool :=
  decide (scope ≥ 2) && s.fabric.accesses.any (fun a =>
    decide (a.id < upTo) && a.rank == k / 32 && !a.timedOut &&
    (match a.purpose with
     | .store _ _ => true
     | .atomic _ _ _ _ => true
     | _ => false))

/-- The access of an acquire has been performed. -/
def State.acquireDone (s : State) (k seq : Nat) : Bool :=
  !(s.core k).loads.any (fun l => l.id == seq && decide (l.missing > 0)) &&
  !(s.core k).stores.any (fun h => h.seq == seq) &&
  !s.fabric.accesses.any (fun a => !a.timedOut && (match a.purpose with | .atomic c n _ _ => c == k && n == seq | _ => false))

/-- A barrier no longer holds later loads back (R159, R161, R162). -/
def State.freesLoads (s : State) (k : Nat) (b : Barrier) : Bool :=
  match b.kind with
  | .acquire => s.acquireDone k b.seq
  | .fence => !s.loadsOpen k b.seq && !s.atomicsOpen k b.seq
  | .fenceSc => !s.loadsOpen k b.seq && !s.storesOpen k b.seq b.scope && !s.clusterOpen k b.upTo b.scope

/-- A barrier no longer holds later stores back. -/
def State.freesStores (s : State) (k : Nat) (b : Barrier) : Bool :=
  match b.kind with
  | .acquire => s.acquireDone k b.seq
  | .fence => !s.loadsOpen k b.seq && !s.storesOpen k b.seq b.scope
  | .fenceSc => s.freesLoads k b

/-- An access at a point of program order is held back. -/
def State.loadHeld (s : State) (k seq : Nat) : Bool :=
  (s.core k).barriers.any (fun b => decide (b.seq < seq) && !s.freesLoads k b)
def State.storeHeld (s : State) (k seq : Nat) : Bool :=
  (s.core k).barriers.any (fun b => decide (b.seq < seq) && !s.freesStores k b)

/-- Two requests touch one line. -/
def sameLine (a b : Request) : Bool := a.job == b.job && lineOf a.va.toNat == lineOf b.va.toNat

/-- The place in program order of an access of a core, and whether it is a load. -/
def accessSeq (k : Nat) (a : Access) : Option (Nat × Bool) :=
  match a.purpose with
  | .load c id _ => if c = k then some (id, true) else none
  | .store c n => if c = k then some (n, false) else none
  | .atomic c n _ _ => if c = k then some (n, false) else none
  | _ => none

/-- Whether an access of a core, before a point of its program order, has yet to be performed on the line of a request: every access for a
store; loads and atomics for a load, which takes the bytes of stores itself (R156). -/
def State.lineBusy (s : State) (k seq : Nat) (load : Bool) (r : Request) : Bool :=
  s.fabric.accesses.any (fun a =>
    match accessSeq k a with
    | some (n, isLoad) => decide (n < seq) && !a.timedOut && !a.discard && sameLine a.req r && (!load || isLoad || a.req.op == .atomic)
    | none => false) ||
  (load && (s.core k).stores.any (fun h => h.isAtomic && decide (h.seq < seq) && h.reqs.any (sameLine r)))

/-- A held store may leave (R63, R156, R160, R161): its epoch is confirmed, its order is met, and an INVALIDATE finds a reply slot
(R197). -/
def State.storeReady (s : State) (k : Nat) (h : HeldStore) : Bool :=
  !(s.core k).unconfirmed h.epoch && !s.storeHeld k h.seq &&
  (match h.release with
   | some sc => !s.loadsOpen k h.seq && !s.storesOpen k h.seq sc
   | none => true) &&
  (if h.isInv then decide (s.slotsHeld < replySlots) else !h.reqs.any (s.lineBusy k h.seq false))

/-- Whether a context may read the parcel of an address, as far as this module knows; an unknown parcel's home decides (R199). -/
def State.mayRead (s : State) (job : BitVec 16) (va : Nat) : Bool :=
  match s.parcel? job (parcelOf va) with
  | some p => attrRead p.attr
  | none => ((s.bearing? job (parcelOf va)).map (fun b => attrRead b.attr)).getD true

/-- A load's access starts: a hit in the hoard, or its route (R145, R149, R159). On an unconfirmed path a load of a region that may not be
read is not performed (R65). -/
def State.startLoad (s : State) (a : Access) : State :=
  match a.purpose with
  | .load k id pieces =>
    let va := a.req.va.toNat
    if isMirror va then (s.dropAccess a.id).loadData { a with keepOut := true } k id pieces (zeros 128)
    else
      let key := s.lineKey a.ctx va
      let allowed := s.mayRead a.req.job va
      let own := (s.core k).heldFor id (lineOf va)
      let wrong := ((s.core k).load? id).any (fun l => (s.core k).unconfirmed l.epoch)
      let go := fun (s : State) =>
        if wrong && !allowed then (s.dropAccess a.id).loadFailed a k id pieces (accessErr 0x0201 a.ctx va 128 0xFFFF 2 .none)
        else (((s.count k 3 1).count k 1 (b2n (s.needsSlot a.ctx va))).missed a own).route a
      match (s.cluster a.rank).line? key with
      | some l =>
        if !a.bypass && allowed && lineFresh l (s.core k).mark then
          let s := s.count k 2 1
          let s := if l.prefetched then s.count k 5 1 else s
          let s := s.modCluster a.rank (fun x =>
            ({ x with hoard := updateFirst (fun l => l.key == key) (fun l => { l with prefetched := false }) x.hoard }).touch
              key l.way true)
          (s.dropAccess a.id).loadData { a with keepOut := true, seen := own } k id pieces l.data
        else go s
      | none => go s
  | _ => s.route a

/-- The line pieces of an invalidation dropped from a hoard: remote lines of the context, and local lines at the home of a parcel that may be
read (R199, R208; notes/assumptions/86.md). -/
def dropLines (s : State) (job : BitVec 16) (c : Option Nat) (a n : Nat) (x : Cluster) : Cluster :=
  let lo := lineOf a
  let hi := a + n
  { x with hoard := x.hoard.filter (fun l =>
      match l.key with
      | .remote cc va => !(some cc == c && decide (lo ≤ va) && decide (va < hi))
      | .loc la =>
        !(s.home.parcels.any (fun p => p.job == job && attrRead p.attr && decide (p.frame = la / frameBytes) &&
          decide (lo ≤ p.parcel * frameBytes + la % frameBytes) && decide (p.parcel * frameBytes + la % frameBytes < hi)))) }

/-- The drop of an INVALIDATE on this module: every hoard, and fills in flight are kept out (R208). -/
def State.invalidateHere (s : State) (job : BitVec 16) (a n : Nat) : State :=
  let c := s.ctxOf job
  match c with
  | none => s
  | some _ =>
    let cl := s.clusters.map (fun e => (e.1, dropLines s job c a n e.2))
    let acc := s.fabric.accesses.map (fun x =>
      if x.req.job = job ∧ x.req.op = .read ∧ lineOf a ≤ x.req.va.toNat ∧ x.req.va.toNat < a + n then
        { x with keepOut := true } else x)
    { s with clusters := cl, fabric := { s.fabric with accesses := acc } }

/-! ### The box of a job (R207) -/

/-- Whether an arc of a ring from `lo` of `len` steps holds a coordinate. -/
def onArc (n lo len q : Nat) : Bool := decide ((q + n - lo) % n ≤ len)

/-- The shortest arc of a ring that holds every coordinate, as its start and length; ties to the lowest start (R207). -/
def shortArc (n : Nat) (qs : List Nat) : Nat × Nat :=
  let cand := ((List.range n).map (fun len => (List.range n).map (fun lo => (lo, len)))).flatten
  (cand.find? (fun e => qs.all (fun q => onArc n e.1 e.2 q))).getD (0, n - 1)

/-- Coordinates of a logical module ID on an axis. -/
def coordOf (axis id : Nat) : Nat := if axis = 0 then id % 32 else if axis = 1 then id / 32 % 32 else id / 1024 % 32

/-- Positions of a ring by axis. -/
def State.ringSize (s : State) (axis : Nat) : Nat :=
  max 1 (if axis = 0 then s.plan.live.length else if axis = 1 then s.plan.ny.toNat else s.plan.nz.toNat)

/-- Steps of a line multicast from this module in the + and − directions on an axis (R207, R240). -/
def State.lineHops (s : State) (set : List (BitVec 15)) (axis : Nat) : Nat × Nat :=
  let n := s.ringSize axis
  let arc := shortArc n (set.map (fun m => coordOf axis m.toNat))
  let off := (coordOf axis s.self + n - arc.1) % n
  (arc.2 - off, off)

/-- The copies of an INVALIDATE that leave on an axis for so many steps in the + and − directions (R207, R240). -/
def State.lineCopies (s : State) (r : Request) (axis : Nat) (h : Nat × Nat) : List Packet :=
  let p := s.packet 0 false r.cls 32 (.req r)
  let mk := fun (pos neg : Nat) =>
    ({ p with env := { p.env with mcast := true, axis := BitVec.ofNat 2 axis, hopsPos := BitVec.ofNat 5 pos,
                                  hopsNeg := BitVec.ofNat 5 neg } } : Packet)
  (if h.1 > 0 then [mk h.1 0] else []) ++ (if h.2 > 0 then [mk 0 h.2] else [])

/-- The line multicast of an INVALIDATE on an axis over a job's box: its copies. -/
def State.multicast (s : State) (r : Request) (set : List (BitVec 15)) (axis : Nat) : List Packet :=
  s.lineCopies r axis (s.lineHops set axis)

/-- Modules that a line multicast reaches: each sends one acknowledgement (R209). -/
def State.lineMates (s : State) (set : List (BitVec 15)) (axis : Nat) : Nat := let h := s.lineHops set axis; h.1 + h.2

/-- The acknowledgements that a module gathers from the axes it sends on. -/
def State.subtree (s : State) (set : List (BitVec 15)) (axes : List Nat) : Nat :=
  (axes.map (s.lineMates set)).foldl (· + ·) 0

/-- An INVALIDATE issued by this module: the drop here, and the multicast along X, Y and Z lines; it holds a reply slot until the box has
acknowledged it (R197, R207, R209). -/
def State.issueInval (s : State) (c a n : Nat) (cls : TClass) (issuer : Option (Nat × Nat)) (cmd : Option Nat) : State :=
  let job := (s.ctx c).job
  let set := (s.ctx c).moduleSet
  let left := s.subtree set [0, 1, 2]
  let r : Request :=
    { dest := 0, fwd := false, src := BitVec.ofNat 15 s.self, job := job, op := .invalidate, cls := cls, refresh := false,
      prefetch := false, noCombine := false, tag := BitVec.ofNat 16 s.freeTag, gen := 0, frame := 0,
      va := BitVec.ofNat 56 a, size := 0, arg := BitVec.ofNat 64 n, payload := [] }
  let s := s.invalidateHere job a n
  let ps := ([0, 1, 2].map (s.multicast r set)).flatten
  let x : Inval := { id := s.fabric.nextAccess, ctx := c, va := a, len := n, left := left, issuer := issuer, cmd := cmd,
                     sentAt := s.time, tag := r.tag, mods := set }
  s.modFabric (fun f =>
    { f with inject := f.inject ++ ps, nextAccess := f.nextAccess + 1, invals := if left = 0 then f.invals else f.invals ++ [x] })

/-! ### The pump -/

/-- A store leaves the hold buffer: the hoard accepts it, and its requests go (R147). -/
def State.sendStore (s : State) (k : Nat) (h : HeldStore) : State :=
  let s := s.modCore k (fun c => { c with stores := c.stores.filter (fun g => g.seq != h.seq) })
  let rank := k / 32
  if h.isInv then
    match h.reqs with
    | [] => s
    | r :: _ => s.issueInval h.ctx r.va.toNat r.arg.toNat r.cls (some (k, h.seq)) none
  else
    let grid := ((s.core k).tiles.find? (fun t => t.seq == h.tile)).map (·.grid)
    h.reqs.foldl (fun s r =>
      let s := if h.isAtomic then s.hoardDrop rank h.ctx r.va.toNat else s.hoardStore rank h.ctx r.va.toNat r.payload
      let x := s.addAccess h.ctx rank r (if h.isAtomic then .atomic k h.seq h.dest h.epoch else .store k h.seq) false
      let a := { x.1 with grid := grid }
      (x.2.modAccess a.id (fun _ => a)).route a) s

/-- The number in program order of an access of a core. -/
def loadSeq (k : Nat) (a : Access) : Option Nat :=
  match a.purpose with
  | .load c id _ => if c = k then some id else none
  | _ => none

/-- Commands of the access stream that have retired leave the run-ahead count (R62). -/
def Core.retire (c : Core) : Core :=
  { c with ops := c.ops.filter (fun o => c.epochs.any (fun e => e.id == o.epoch) ||
      (match o.item with
       | some i => c.dqs.any (fun q => q.2.any (fun e => e.id == i)) || c.tqs.any (fun q => q.2.any (fun e => e.id == i))
       | none => false)) }

/-- One thing that can go on in a core's order of accesses: a mark moves, a barrier goes, the oldest held store leaves (R60), a load
starts. -/
def State.pumpOne (s : State) (k : Nat) : Option State :=
  let c := s.core k
  match c.barriers.find? (fun b => b.mark && s.freesLoads k b) with
  | some b => some ((s.modCore k (fun c =>
      { c with barriers := updateFirst (fun x => x.seq == b.seq) (fun x => { x with mark := false }) c.barriers })).moveMark k)
  | none =>
    match c.barriers.find? (fun b => s.freesLoads k b && s.freesStores k b) with
    | some b => some (s.modCore k (fun c => { c with barriers := c.barriers.filter (fun x => x.seq != b.seq) }))
    | none =>
      match c.stores.head?.filter (s.storeReady k) with
      | some h => some (s.sendStore k h)
      | none =>
        match s.fabric.accesses.find? (fun a =>
            a.stage == .ordered && (match loadSeq k a with | some n => !s.loadHeld k n && !s.lineBusy k n true a.req | none => false)) with
        | some a => some (s.startLoad a)
        | none => none

/-- As much as can go on. -/
def pumpN (k : Nat) : Nat → State → State
  | 0, s => s
  | n + 1, s => match s.pumpOne k with | some t => pumpN k n t | none => s

/-- A core's held work goes on as far as its order allows. -/
def State.pump (s : State) (k : Nat) : State :=
  let c := s.core k
  (pumpN k (2 * c.barriers.length + c.stores.length + s.fabric.accesses.length + 1) s).modCore k Core.retire

/-- The core that an access belongs to. -/
def purposeCore (p : Purpose) : Option Nat :=
  match p with
  | .load k _ _ => some k
  | .store k _ => some k
  | .atomic k _ _ _ => some k
  | _ => none

/-- An access settled, and its core's held work goes on. A FENCE.SC may wait for other cores of the cluster, so all of them
go on. -/
def State.settleAndPump (s : State) (a : Access) (data : Option (List Byte)) (e : ErrSpec) : State :=
  let s := s.settle a data e
  match purposeCore a.purpose with
  | some k => ((s.cores.map (·.1)).filter (fun j => j / 32 == k / 32)).foldl (fun s j => s.pump j) s
  | none => s

/-- Whether accesses of other kinds go on once a bearing is known. -/
def State.resumeParcel (s : State) (job : BitVec 16) (pn : Nat) : State :=
  (s.fabric.accesses.filter (fun a =>
    a.stage == .bearing && a.purpose != .lookup && a.req.job == job && parcelOf a.req.va.toNat == pn)).foldl (fun s a => s.route a) s

/-- Bearings that still wait for a registrar request ask for one (R179). -/
def State.moreLookups (s : State) : State :=
  (s.fabric.accesses.filter (fun a => a.stage == .bearing && a.purpose != .lookup)).foldl (fun s a => s.lookup a) s

end Sys2Proof.Machine
end

