-- ==== Sys2Proof/Machine/Operands.lean ====
section
/-!
DEFINITION. The operand forms of Skelun (R122 to R132): fields of an instruction word, selectors, scratchpad ranges, and what the
translator rejects in one word (R137).
-/
namespace Sys2Proof.Machine

/-! ### Fields of a word -/

/-- Modifier bits [lo + n − 1 : lo], numbered as in the base word (R122): lo is 16 or more. -/
def wm (w : InstrWord) (lo n : Nat) : Nat := bitsOf w.mod.toNat (lo - 16) n

/-- Immediate bits [lo + n − 1 : lo]. -/
def wi (w : InstrWord) (lo n : Nat) : Nat := bitsOf w.imm.toNat lo n

/-- Bits [lo + n − 1 : lo] of extension word k, zero without one (R130). -/
def wx (w : InstrWord) (k lo n : Nat) : Nat := bitsOf (w.exts.getD k 0).toNat lo n

/-- The selectors of a word. -/
def selD (w : InstrWord) : Nat := w.opd.toNat
def selA (w : InstrWord) : Nat := w.opa.toNat
def selB (w : InstrWord) : Nat := w.opb.toNat
def selC (w : InstrWord) : Nat := w.opc.toNat

/-- A branch target: a signed count of base words from the instruction after the branch (R122). -/
def wTarget (w : InstrWord) : Int := w.imm.toInt

/-- The 32-bit range of slot 0 or slot 1 (R124, R127, R129). -/
def slot0 (w : InstrWord) : Nat := wi w 0 32
def slot1 (w : InstrWord) : Nat := wi w 32 32

/-- Base and length in bytes of a range (R124). -/
def rangeBase (r : Nat) : Nat := bitsOf r 0 20
def rangeLen (r : Nat) : Nat := (bitsOf r 20 10 + 1) * 64

/-- The first scratchpad byte reserved to the translator (R124). -/
def spadReserved : Nat := 0xF0000

/-- A range with its reserved bits clear. -/
def rangeClean (r : Nat) : Bool := bitsOf r 30 2 == 0

/-- A range on its 64-byte boundary and clear of the reserved bytes (R124). -/
def rangeInside (r : Nat) : Bool := rangeBase r % 64 == 0 && decide (rangeBase r + rangeLen r ≤ spadReserved)

/-- The row length of LD2D, ST2D and TLD (R127). -/
def rowLen (w : InstrWord) : Nat := (wi w 32 10 + 1) * 64

/-- The signed displacement of LD and ST (R127). -/
def dispOf (w : InstrWord) : Int := signedOf (wi w 32 32) 32

/-! ### Selectors (R123) -/

/-- The kinds of operand that an instruction takes. -/
inductive SelKind where
  | none | xRead | xWrite | dqOrNone | tAccess | tExec | tExecOrNone | loop | loopOrNone | cube | gang | buf
  | dqOrSlot0 | slot0 | slot1 | dqOrSlot2 | dqOrSlot3 | lane | laneOrNone | bufOrGns
  deriving DecidableEq, Repr

/-- Selector classes. -/
def isX (s : Nat) : Bool := decide (s < 0x20)
def isTd (s : Nat) : Bool := decide (0x68 ≤ s ∧ s ≤ 0x6F)
def isDq (s : Nat) : Bool := decide (0x20 ≤ s ∧ s ≤ 0x2F)
def isTAccess (s : Nat) : Bool := decide (0x30 ≤ s ∧ s ≤ 0x33)
def isTExec (s : Nat) : Bool := decide (0x34 ≤ s ∧ s ≤ 0x37)
def isLoop (s : Nat) : Bool := decide (0x38 ≤ s ∧ s ≤ 0x3F)
def isBuf (s : Nat) : Bool := decide (0x40 ≤ s ∧ s ≤ 0x43)
def isShadow (s : Nat) : Bool := decide (0x44 ≤ s ∧ s ≤ 0x47)
def isLane (s : Nat) : Bool := isBuf s || isShadow s
def isCube (s : Nat) : Bool := decide (0x48 ≤ s ∧ s ≤ 0x4B)
def isGang (s : Nat) : Bool := decide (0x50 ≤ s ∧ s ≤ 0x57)
def isGns (s : Nat) : Bool := s == 0x58 || s == 0x59

/-- Whether a selector is of a kind. A token queue of the wrong direction passes here and fails R133. -/
def selOk (k : SelKind) (s : Nat) : Bool :=
  match k with
  | .none => s == 0
  | .xRead => isX s || isTd s
  | .xWrite => isX s
  | .dqOrNone => s == 0 || isDq s
  | .tAccess => isTAccess s || isTExec s
  | .tExec => isTAccess s || isTExec s
  | .tExecOrNone => s == 0 || isTAccess s || isTExec s
  | .loop => isLoop s
  | .loopOrNone => s == 0 || isLoop s
  | .cube => isCube s
  | .gang => isGang s
  | .buf => isBuf s
  | .dqOrSlot0 => isDq s || s == 0x60
  | .slot0 => s == 0x60
  | .slot1 => s == 0x61
  | .dqOrSlot2 => isDq s || s == 0x62
  | .dqOrSlot3 => isDq s || s == 0x63
  | .lane => isLane s
  | .laneOrNone => s == 0 || isLane s
  | .bufOrGns => isBuf s || isGns s

/-- Whether a token queue is used in its direction (R133). -/
def dirOk (k : SelKind) (s : Nat) : Bool :=
  match k with
  | .tAccess => isTAccess s
  | .tExec => isTExec s
  | .tExecOrNone => s == 0 || isTExec s
  | _ => true

/-! ### The opcodes (R126, R128, R130) -/

/-- What an opcode takes: its stream (access when true), its operand kinds, the extension counts allowed, the modifier bits it
uses as (high, low) pairs, and whether it needs minor 1. -/
structure OpSpec where
  access : Bool
  d : SelKind := .none
  a : SelKind := .none
  b : SelKind := .none
  c : SelKind := .none
  ext : List Nat := [0]
  mods : List (Nat × Nat) := []
  minor1 : Bool := false
  deriving DecidableEq, Repr

/-- Vector operations: unary, binary and ternary (R104, R105). -/
def vecUnary : List Nat := [0x05, 0x06, 0x1C, 0x1D, 0x1E, 0x21, 0x22, 0x23, 0x24, 0x25]
def vecBinary : List Nat :=
  [0x00, 0x01, 0x02, 0x08, 0x09, 0x0A, 0x0B, 0x0C, 0x0D, 0x10, 0x11, 0x12, 0x13, 0x14, 0x15, 0x16, 0x17, 0x18, 0x19, 0x20, 0x26]
def vecTernary : List Nat := [0x03, 0x04, 0x0E]

/-- The access-stream opcodes. -/
def accSpec (op : Nat) : Option OpSpec :=
  match op with
  | 0x0100 => some { access := true }
  | 0x0101 => some { access := true, d := .xWrite, a := .xRead, b := .xRead, mods := [(20, 16)] }
  | 0x0102 => some { access := true, d := .xWrite }
  | 0x0103 => some { access := true, a := .xRead, b := .xRead, mods := [(18, 16)] }
  | 0x0104 => some { access := true, a := .tExec, mods := [(17, 16)] }
  | 0x0105 => some { access := true }
  | 0x0106 => some { access := true }
  | 0x0200 => some { access := true, a := .xRead, b := .xRead, c := .dqOrNone, mods := [(20, 16)] }
  | 0x0201 => some { access := true, a := .xRead, b := .xRead, c := .dqOrNone, mods := [(20, 16)] }
  | 0x0202 => some { access := true, a := .xRead, b := .xRead, c := .dqOrNone, mods := [(20, 16), (23, 22)] }
  | 0x0203 => some { access := true, d := .xRead, a := .xRead, b := .xRead, c := .dqOrNone, mods := [(20, 16), (29, 24)] }
  | 0x0204 => some { access := true, a := .xRead, b := .xRead }
  | 0x0205 => some { access := true, a := .xRead, b := .xRead, c := .tExecOrNone, mods := [(19, 17)] }
  | 0x0206 => some { access := true, a := .xRead, b := .xRead, c := .tExecOrNone, mods := [(19, 17)] }
  | 0x0300 => some { access := true, d := .xWrite, a := .xRead, b := .xRead, mods := [(19, 17), (26, 22)] }
  | 0x0301 => some { access := true, a := .xRead, b := .xRead }
  | 0x0400 => some { access := true, mods := [(19, 18)] }
  | 0x0401 => some { access := true, mods := [(19, 18)] }
  | 0x0500 => some { access := true, d := .tAccess, b := .xRead }
  | 0x0501 => some { access := true, d := .xWrite, a := .tExec }
  | _ => none

/-- The execute-stream opcodes other than vector and reduction operations. -/
def exeSpec (op : Nat) : Option OpSpec :=
  match op with
  | 0x1000 => some { access := false }
  | 0x1001 => some { access := false, d := .loop }
  | 0x1002 => some { access := false, d := .loop }
  | 0x1003 => some { access := false, a := .tAccess }
  | 0x1004 => some { access := false }
  | 0x1100 => some { access := false, d := .cube, a := .dqOrSlot0, mods := [(20, 17), (27, 24)] }
  | 0x1101 => some { access := false, d := .cube, a := .dqOrSlot0, mods := [(27, 16)] }
  | 0x1102 => some { access := false, d := .cube }
  | 0x1103 => some { access := false, d := .cube, a := .slot0 }
  | 0x1104 => some { access := false, d := .cube, a := .slot0, b := .slot1, mods := [(21, 16), (27, 24)] }
  | 0x1105 => some { access := false }
  | 0x1200 => some { access := false, d := .gang, a := .dqOrSlot2, b := .dqOrSlot3, ext := [1], mods := [(24, 16)] }
  | 0x1500 => some { access := false, ext := [3], mods := [(25, 16)] }
  | 0x1501 => some { access := false, ext := [3], mods := [(25, 16)] }
  | 0x1600 => some { access := false, d := .tExec }
  | 0x1601 => some { access := false, d := .tExec, a := .buf, mods := [(18, 16)] }
  | 0x1602 => some { access := false, d := .loopOrNone, a := .tAccess }
  | _ => none

/-- The vector operations 0x13nn (R130). -/
def vecSpec (nn : Nat) : Option OpSpec :=
  if vecUnary.contains nn then
    some { access := false, d := .lane, a := .laneOrNone, b := .laneOrNone, ext := [0, 1], mods := [(29, 16)] }
  else if vecBinary.contains nn then
    some { access := false, d := .lane, a := .lane, b := .laneOrNone, ext := [0, 1], mods := [(29, 16)],
           minor1 := nn == 0x26 }
  else if vecTernary.contains nn then
    some { access := false, d := .lane, a := .lane, b := .laneOrNone, c := .lane, ext := [0, 1], mods := [(29, 16)] }
  else if nn = 0x30 then some { access := false, d := .lane, a := .dqOrSlot0, ext := [0, 1], mods := [(29, 16)] }
  else if nn = 0x31 then some { access := false, d := .dqOrSlot0, a := .lane, ext := [0, 1], mods := [(29, 16)] }
  else none

/-- The reduction operations 0x14nn (R130): of the modifiers they use the row count alone; they have no operand b, no format, no tap and
no rounding mode. -/
def redSpec (nn : Nat) : Option OpSpec :=
  if nn = 0x06 then some { access := false, d := .bufOrGns, a := .lane, ext := [0, 1], mods := [(21, 16)] }
  else if nn = 0x10 then some { access := false, ext := [0, 1], mods := [(21, 16)] }
  else if nn ≤ 0x08 then
    some { access := false, d := .buf, a := .lane, ext := [0, 1], mods := [(21, 16)], minor1 := decide (0x07 ≤ nn) }
  else none

/-- What an opcode takes, or none when it is unknown. -/
def opSpec (op : Nat) : Option OpSpec :=
  if op / 256 = 0x13 then vecSpec (op % 256)
  else if op / 256 = 0x14 then redSpec (op % 256)
  else match accSpec op with
    | some x => some x
    | none => exeSpec op

/-- Modifier bits outside those an opcode uses are zero (R137 reason 0x06). -/
def modsClean (mods : List (Nat × Nat)) (w : InstrWord) : Bool :=
  (List.range 14).all (fun i => !bitOf w.mod.toNat i || mods.any (fun p => decide (p.2 ≤ i + 16) && decide (i + 16 ≤ p.1)))

/-- The formats of cube operands and of the transposing load (R76, R85). -/
def cubeFormat (f : Nat) : Bool := decide ((1 ≤ f ∧ f ≤ 5) ∨ (7 ≤ f ∧ f ≤ 12))

/-- Bytes that a transposing load writes (R85). -/
def tldBytes (f : Nat) : Nat :=
  match f with
  | 1 => 8192
  | 2 => 8192
  | 3 => 4096
  | 4 => 4096
  | 5 => 4096
  | 9 => 3200
  | 10 => 3200
  | 11 => 2176
  | _ => 4224

/-- The static ranges of a word (R124, R127, R129 to R132). -/
def wordRanges (op : Nat) (w : InstrWord) : List Nat :=
  match op with
  | 0x0200 => [slot0 w]
  | 0x0201 => [slot0 w]
  | 0x0202 => [slot0 w, slot1 w]
  | 0x0203 => [slot0 w]
  | 0x0205 => [slot0 w]
  | 0x0206 => [slot0 w]
  | 0x1100 => if selA w = 0x60 then [slot0 w] else []
  | 0x1101 => if selA w = 0x60 then [slot0 w] else []
  | 0x1103 => [slot0 w]
  | 0x1104 => [slot0 w, slot1 w]
  | 0x1200 => [wx w 0 0 32] ++ (if selA w = 0x62 then [wx w 0 32 32] else []) ++ (if selB w = 0x63 then [wx w 0 64 32] else [])
  | 0x1330 => if selA w = 0x60 then [wx w 0 0 32] else []
  | 0x1331 => if selD w = 0x60 then [wx w 0 0 32] else []
  | 0x1500 => [wx w 0 0 32, wx w 0 32 32, wx w 0 64 32, wx w 0 96 32]
  | 0x1501 => [wx w 0 0 32, wx w 0 32 32, wx w 0 96 32]
  | _ => []

/-- Modifier values and fields defined for their place (R126 to R132, R137 reason 0x06); a broadcast is of a tile buffer (R99). Bits of
IMM and of extension words that no rule assigns and none calls reserved may be nonzero (notes/assumptions/79.md). -/
def fieldsDefined (op : Nat) (w : InstrWord) : Bool :=
  match op with
  | 0x0101 => decide (wm w 16 4 ≤ 12)
  | 0x0103 => decide (wm w 16 3 ≤ 5)
  | 0x0104 => decide (wm w 16 2 ≤ 2)
  | 0x0201 => wi w 42 22 == 0
  | 0x0203 => wi w 42 22 == 0 && cubeFormat (wm w 24 4)
  | 0x0206 => wi w 42 22 == 0
  | 0x0300 => decide (wm w 22 4 ≤ 9) && !(wm w 22 4 == 9 && wm w 26 1 == 1)
  | 0x1100 => decide (wm w 18 3 ≤ 3) && cubeFormat (wm w 24 4)
  | 0x1101 => cubeFormat (wm w 24 4)
  | 0x1104 => cubeFormat (wm w 24 4)
  | 0x1200 => decide (wm w 19 2 ≤ 2) && decide (wm w 21 4 ≤ 12)
  | 0x1500 => wx w 2 64 64 == 0 && decide (wm w 24 2 ≤ 2)
  | 0x1501 => wx w 2 64 64 == 0 && decide (wm w 24 2 ≤ 2)
  | 0x1601 => decide (wm w 16 3 ≤ 6)
  | _ =>
    if op = 0x1330 ∨ op = 0x1331 then decide (wm w 28 2 ≤ 2) && decide (wm w 24 4 ≤ 12)
    else if op / 256 = 0x13 then
      decide (wm w 28 2 ≤ 2) && decide (wm w 24 4 ≤ 9) &&
      (wm w 24 4 == 0 || selOk (if wm w 24 4 = 7 then .bufOrGns else .buf) (wx w 0 48 8)) &&
      (!(wm w 22 2 == 1 || wm w 22 2 == 2) || selB w == 0 || isBuf (selB w)) &&
      (if vecUnary.contains (op % 256) then
        (if selA w = 0 then wm w 22 2 == 3 || selB w != 0 else true)
       else wm w 22 2 == 3 || selB w != 0)
    else true

/-- Rows that do not fit their range (R127, R137 reason 0x0A). -/
def rowsBad (op : Nat) (w : InstrWord) : Bool :=
  (op == 0x0201 || op == 0x0203 || op == 0x0206) && rangeLen (slot0 w) % rowLen w != 0 ||
  op == 0x0203 && decide (rangeLen (slot0 w) < tldBytes (wm w 24 4))

/-- The reason for which the translator rejects a word of a stream, 0 for none: the opcode first, then reserved fields and
selectors, then the others in ascending order (R137, R455). Queue direction (0x09) is a check that spans the kernel. -/
def wordReason (access : Bool) (minor op : Nat) (w : InstrWord) : Nat :=
  match opSpec op with
  | none => 0x04
  | some sp =>
    let tap := if op / 256 = 0x13 ∧ op % 256 < 0x30 then wm w 24 4 else 0
    if minor = 0 ∧ (sp.minor1 ∨ tap = 8 ∨ tap = 9 ∨ ((op / 256 = 0x13 ∨ op / 256 = 0x14) ∧ wx w 0 57 1 = 1)) then 0x04
    else if sp.access ≠ access then 0x05
    else if !(selOk sp.d (selD w) && selOk sp.a (selA w) && selOk sp.b (selB w) && selOk sp.c (selC w) &&
        modsClean sp.mods w && fieldsDefined op w && (wordRanges op w).all rangeClean) then 0x06
    else if op = 0x1200 ∧ ¬(1 ≤ wm w 21 4 ∧ wm w 21 4 ≤ 4) then 0x08
    else if !(wordRanges op w).all rangeInside || rowsBad op w then 0x0A
    else if !sp.ext.contains w.exts.length then 0x0B
    else 0

/-- Token queues used in their direction (R133). -/
def wordDirOk (op : Nat) (w : InstrWord) : Bool :=
  match opSpec op with
  | none => false
  | some sp => dirOk sp.d (selD w) && dirOk sp.a (selA w) && dirOk sp.b (selB w) && dirOk sp.c (selC w)

/-- A word that a core can hold: no reason rejects it. -/
def wordOk (op : Nat) (w : InstrWord) : Bool :=
  wordReason (decide (op < 0x1000)) 1 op w == 0 && wordDirOk op w

/-- Opcodes whose IMM is a branch target (R126, R128). -/
def isBranch (op : Nat) : Bool := [0x0103, 0x0104, 0x0105, 0x1002, 0x1003].contains op

end Sys2Proof.Machine
end

