-- ==== Sys2Proof/Machine/Streams.lean ====
section
/-!
DEFINITION. What the two streams of a core share (R52 to R64, R122, R133): who may issue, what an issue does, stalls, registers,
data queues and token queues.
-/
namespace Sys2Proof.Machine

/-! ### Who may issue -/

/-- A tile run that stands for none. -/
def noTile : TileRun :=
  { seq := 0, grid := 0, slice := 0, ctx := 0, td0 := 0, td1 := 0, td2 := 0, td3 := 0, td4 := 0, td5 := 0, td6 := 0, td7 := 0 }

/-- The tile of the access stream and of the execute stream (R61). -/
def Core.accTile (c : Core) : TileRun := (c.tiles.getLast?).getD noTile
def Core.exeTile (c : Core) : TileRun := (c.tiles.head?).getD noTile

/-- The datum of a core's island in ps: the counter of its quadrant's die (R18, R354). -/
def State.islandDatum (s : State) (k : Nat) : Int :=
  1000 * (s.datum.counter.toNat : Int) + tget s.datum.dies (s.fuses.clusters.getD (k / 32) (0, 0)).1 0

/-- The comparator of a core's island no longer holds the first issue of a grid's tiles (R361). -/
def State.gateOpen (s : State) (k grid : Nat) : Bool :=
  match (s.grid? grid).bind (·.gate) with
  | some r => decide (1000 * (r.toNat : Int) ≤ s.islandDatum k)
  | none => true

/-- A core may issue: the module works, the core is no retired or frozen one and is not stopped by alarms that wait (R372), its context is
live. -/
def State.coreOpen (s : State) (k : Nat) (t : TileRun) : Bool :=
  s.works && !(s.core k).tiles.isEmpty && !(s.core k).frozen && !s.errs.stopped 1 (coreUnit k) && s.ctxLive t.ctx &&
  (t.issued || s.gateOpen k t.grid)

/-- The access stream may take an instruction. -/
def State.accReady (s : State) (c : CoreId) : Bool :=
  let x := s.core (coreKey c)
  s.coreOpen (coreKey c) x.accTile && !x.accTile.accEnd && x.accStall.isNone

/-- The execute stream may take an instruction. -/
def State.exeReady (s : State) (c : CoreId) : Bool :=
  let x := s.core (coreKey c)
  s.coreOpen (coreKey c) x.exeTile && !x.exeTile.exeEnd && x.exeStall.isNone

/-- An instruction of a core: its word must be one that the translator lets pass (R137), and the stream must be able to take it. -/
def onCore (row : String) (op : Nat) (w : InstrWord) (ready : Bool) (t : State) : Res :=
  if wordOk op w then when row ready t else .refused (.rejectedWord row)

/-! ### Issue and stall -/

/-- The path epoch that a command now carries: 0 when every branch is resolved (R58). -/
def Core.epoch (c : Core) : Nat := (c.epochs.getLast?.map (·.id)).getD 0

/-- The access stream has issued a command: its count (R62, R68), its place in program order, its next word. -/
def Core.issueAcc (c : Core) (item : Option Nat) (now : Nat) : Core :=
  let e := c.epoch
  { c with
    ops := if e = 0 ∧ item = none then c.ops else c.ops ++ [{ seq := c.nextId, epoch := e, item := item }]
    epochs := updateLast (fun x => { x with commands := x.commands + 1 }) c.epochs
    nextId := c.nextId + 1
    accPc := c.accPc + 1
    lastIssue := now
    tiles := updateLast (fun t => { t with issued := true }) c.tiles }

def State.issueAcc (s : State) (k : Nat) (item : Option Nat) : State := s.modCore k (fun c => c.issueAcc item s.time)

/-- The execute stream has issued a command. -/
def State.issueExe (s : State) (k : Nat) : State :=
  s.modCore k (fun c =>
    { c with exePc := c.exePc + 1, nextId := c.nextId + 1, lastIssue := s.time,
             tiles := match c.tiles with | t :: ts => { t with issued := true } :: ts | [] => [] })

/-- A stream stalls on a condition (R63). -/
def State.stallAcc (s : State) (k : Nat) (x : StallKind) : State := s.modCore k (fun c => { c with accStall := some (x, s.time) })
def State.stallExe (s : State) (k : Nat) (x : StallKind) : State := s.modCore k (fun c => { c with exeStall := some (x, s.time) })

/-- The first condition of a list that holds. -/
def firstStall (l : List (Bool × StallKind)) : Option StallKind := (l.find? (·.1)).map (·.2)

/-- An access instruction: it stalls, or has its effect. -/
def State.accOr (s : State) (k : Nat) (l : List (Bool × StallKind)) (eff : State) : State :=
  match firstStall ((decide ((s.core k).ops.length ≥ 512), StallKind.runAhead) :: l) with
  | some x => s.stallAcc k x
  | none => eff

/-- An execute instruction: it stalls, or has its effect. -/
def State.exeOr (s : State) (k : Nat) (l : List (Bool × StallKind)) (eff : State) : State :=
  match firstStall l with
  | some x => s.stallExe k x
  | none => eff

/-! ### Registers -/

/-- Tile descriptor value i (R125). -/
def TileRun.td (t : TileRun) (i : Nat) : Word64 :=
  match i with
  | 0 => t.td0
  | 1 => t.td1
  | 2 => t.td2
  | 3 => t.td3
  | 4 => t.td4
  | 5 => t.td5
  | 6 => t.td6
  | _ => t.td7

/-- A selector of the access stream read: X or TD (R123). -/
def State.accX (s : State) (k sel : Nat) : Word64 :=
  let c := s.core k
  if isTd sel then c.accTile.td (sel - 0x68) else c.xreg sel

/-! ### Token queues and data queues -/

/-- The tokens of a queue, the entries of a data queue. -/
def Core.tokens (c : Core) (q : Nat) : List Token := tget c.tqs q []
def Core.entries (c : Core) (q : Nat) : List DqEntry := tget c.dqs q []

/-- A queue is full (R54, R56). -/
def Core.tqFull (c : Core) (q : Nat) : Bool := decide ((c.tokens q).length ≥ 32)
def Core.dqFull (c : Core) (q : Nat) : Bool := decide ((c.entries q).length ≥ 64)

/-- The head of a queue for the execute stream: an entry of its own tile, on a path that is confirmed, for the execute stream never runs
wrong-path work (R67, R68). -/
def Core.headToken (c : Core) (q : Nat) : Option Token :=
  ((c.tokens q).head?).filter (fun t => t.tile == c.exeTile.seq && !c.unconfirmed t.epoch)
def Core.headEntry (c : Core) (q : Nat) : Option DqEntry :=
  ((c.entries q).head?).filter (fun e => e.tile == c.exeTile.seq && !c.unconfirmed e.epoch)

/-- The token that the access stream may pop: the queue's branches that are not resolved come first (R56, R58). -/
def Core.accToken (c : Core) (q : Nat) : Option Token :=
  if c.epochs.any (fun e => e.queue == q) then none
  else ((c.tokens q).head?).filter (fun t => t.tile == c.accTile.seq)

/-- A token pushed. -/
def Core.pushToken (c : Core) (q : Nat) (t : Token) : Core := { c with tqs := tset c.tqs q (c.tokens q ++ [t]) }

/-- The head of a queue popped; access commands that this lets retire, retire (R62). -/
def Core.popToken (c : Core) (q : Nat) : Core := Core.retire { c with tqs := tset c.tqs q ((c.tokens q).drop 1) }
def Core.popEntry (c : Core) (q : Nat) : Core := Core.retire { c with dqs := tset c.dqs q ((c.entries q).drop 1) }

/-- A token of T4 to T7 popped by the access stream; an unconfirmed epoch remembers it, for its squash (R60). -/
def Core.accPop (c : Core) (q : Nat) : Core :=
  match c.tokens q with
  | [] => c
  | t :: _ => { c.popToken q with epochs := updateLast (fun e => { e with popped := (q, t) :: e.popped }) c.epochs }

/-- A data queue's head is there and ready (R55). -/
def Core.headReady (c : Core) (q : Nat) : Bool := ((c.headEntry q).map (·.ready)).getD false

/-! ### Shifts and branch targets -/

/-- A shift of n-bit values: 0 left, 1 right, 2 arithmetic right; an amount of the width or more has no stated result
(notes/assumptions/2.md). -/
def shiftBy (op n a b : Nat) : Nat :=
  if b ≥ n then Config.bigShift op n a b % 2 ^ n
  else
    match op with
    | 0 => a * 2 ^ b % 2 ^ n
    | 1 => a / 2 ^ b
    | _ => ((signedOf a n / ((2 ^ b : Nat) : Int)) % ((2 ^ n : Nat) : Int)).toNat

/-- The word a branch leads to, taken or not (R122). -/
def branchTo (pc : Nat) (off : Int) (taken : Bool) : Nat := if taken then ((pc : Int) + 1 + off).toNat else pc + 1

/-- The kernel that a grid runs. -/
def State.kernelOf (s : State) (g : Grid) : Option Kernel :=
  ((s.ctx g.ctx).programs.find? (fun p => p.handle == g.program)).bind (fun p => p.kernels.find? (fun k => k.id == g.kernel))

/-- The Job ID that stochastic rounding draws with (R42, R305). -/
def State.drawJob (s : State) (c : Nat) : BitVec 16 := (s.ctx c).replayJob.getD (s.ctx c).job

/-- Errors of a core's tile. -/
def State.tileErr (_s : State) (k code : Nat) (t : TileRun) (va len : Nat) : ErrSpec :=
  { code := code, ctx := some t.ctx, va := va, len := len, unitKind := 1, unitIndex := coreUnit k, attr := .grid t.grid }

/-- A record kept with an epoch is raised once the epoch is confirmed (R60). -/
def State.raiseRec (s : State) (r : ErrRec) (att : Attrib) : State :=
  let c := r.context.toNat
  let e : ErrSpec := { code := r.code.toNat, ctx := if c < 64 then some c else none, unitIndex := r.unitIndex.toNat, attr := att }
  if s.recov.ctxs.any (fun x => x.ctx == c) then s.mergeCtx c r.code.toNat none
  else ((s.queueRec r).attribute e).act e

end Sys2Proof.Machine
end

