-- ==== Sys2Proof/Machine/Transpose.lean ====
section
/-!
DEFINITION. The tile of a transposing load (R83 to R86, R127, R439): what the unit makes of its source, and the tensors whose reads go
through it.
-/
namespace Sys2Proof.Machine

/-- The source codes of a transposing load: row i, column j. -/
def TldPlan.code (p : TldPlan) (i j : Nat) : Nat :=
  let row := (List.range p.rowLen).map (fun b => tget p.staging (i * p.rowLen + b) 0)
  elemAt p.format.toNat row j

/-- The rounding of a re-quantised element read from row i, column j (R38, R42, R103). An element of 4 or 6 bits has the address of the
byte in which its lowest bit lies, so that neighbours can share a draw (notes/assumptions/82.md). -/
def TldPlan.mode (p : TldPlan) (job : BitVec 16) (i j : Nat) : RMode :=
  if p.sr then .sr (srDraw job p.step ((p.base + i * p.pitch + j * elemBits p.format.toNat / 8) % 2 ^ 56) 3) else .rne

/-- Scales of the source that lie in the staging, behind its elements at the next 64-byte boundary (R124). -/
def TldPlan.stagedScales (p : TldPlan) : List Byte :=
  let off := ceilDiv (p.rows * p.rowLen) 64 * 64
  (List.range (p.rows * p.cols / 32)).map (fun b => tget p.staging (off + b) 0)

/-- The number of a source element's block, blocks running across the contraction when the tile is re-quantised (R33, R84). -/
def TldPlan.srcBlock (p : TldPlan) (i j : Nat) : Nat :=
  if (p.contract = 1) == p.requantise then i * (p.cols / 32) + j / 32 else i / 32 * p.cols + j

/-- The number of an element's block in the output, blocks running along the contraction. -/
def TldPlan.outBlock (p : TldPlan) (i j : Nat) : Nat :=
  if p.contract = 1 then j * (p.rows / 32) + i / 32
  else if p.keep then i * (p.cols / 32) + j / 32 else j / 32 * p.rows + i

/-- The source position of element m of output block b. -/
def TldPlan.cell (p : TldPlan) (b m : Nat) : Nat × Nat :=
  if p.contract = 1 then (b % (p.rows / 32) * 32 + m, b / (p.rows / 32))
  else if p.keep then (b / (p.cols / 32), b % (p.cols / 32) * 32 + m) else (b % p.rows, b / p.rows * 32 + m)

/-- Output block b re-quantised (R41, R85). -/
def TldPlan.block (p : TldPlan) (job : BitVec 16) (scales : List Byte) (b : Nat) : Nat × List Nat × Made :=
  let fmt := p.format.toNat
  let cells := (List.range 32).map (fun m =>
    let e := p.cell b m
    (widenMx fmt (p.code e.1 e.2) (scales.getD (p.srcBlock e.1 e.2) 0).toNat, p.mode job e.1 e.2))
  let made := cells.foldl (fun (acc : Made) x => acc.add x.1.made) {}
  let q := quantise fmt (cells.map (·.2)) (cells.map (·.1.v))
  (q.1, q.2.1, made.add q.2.2)

/-- Positions of the output in row order: the source's columns, each from the top, or its rows where they are kept. -/
def TldPlan.order (p : TldPlan) : List (Nat × Nat) :=
  if p.keep then ((List.range p.rows).map (fun i => (List.range p.cols).map (fun j => (i, j)))).flatten
  else ((List.range p.cols).map (fun j => (List.range p.rows).map (fun i => (i, j)))).flatten

/-- The bytes that a transposing load writes, and what it made. -/
def TldPlan.output (p : TldPlan) (job : BitVec 16) (scales : List Byte) : List Byte × Made :=
  let fmt := p.format.toNat
  let nb := p.rows * p.cols / 32
  if isMx fmt && p.requantise then
    let bs := (List.range nb).map (p.block job scales)
    let codes := p.order.map (fun e =>
      ((bs.getD (p.outBlock e.1 e.2) (0, [], {})).2.1).getD (if p.contract = 1 then e.1 % 32 else e.2 % 32) 0)
    (packElems fmt codes ++ bs.map (fun b => BitVec.ofNat 8 b.1), bs.foldl (fun (acc : Made) b => acc.add b.2.2) {})
  else
    let codes := p.order.map (fun e => p.code e.1 e.2)
    let out := (List.range nb).map (fun b => let e := p.cell b 0; scales.getD (p.srcBlock e.1 e.2) 0)
    (packElems fmt codes ++ (if isMx fmt then out else []), {})

/-! ### The tensors whose reads go through the unit (R83 to R85, R134, R136, R439) -/

/-- The kernel of a tile. -/
def State.tileKernel (s : State) (t : TileRun) : Option Kernel := (s.grid? t.grid).bind s.kernelOf

/-- A tensor slot that the translator reads through the transposing load. -/
def Kernel.fallTensor (kn : Kernel) (slot : Nat) : Option Tensor := if bitOf kn.fallback.toNat slot then kn.tensors[slot]? else none

/-- The transposing load of a range of such a tensor: one tile of 64 by n elements (notes/assumptions/18.md). An A operand that is in row
order already is only re-quantised (R83, R84). -/
def fallPlan (d : Tensor) (base len : Nat) : TldPlan :=
  let fmt := d.format.toNat
  let side := min (planeDepth fmt) (len * 8 / (64 * elemBits fmt))
  let shape := if d.contractDim = 1 then (side, 64) else (64, side)
  { format := d.format, requantise := isMx fmt && d.blockDim != d.contractDim, sr := false, step := 0, base := 0,
    pitch := 0, rowLen := elemBytes fmt shape.2, rows := shape.1, cols := shape.2, contract := d.contractDim,
    keep := d.role == 0 && d.contractDim == 0, scalesIn := true, dest := base, staging := [] }

/-- The slot whose tensor a data queue carries. -/
def Kernel.queueSlot (kn : Kernel) (q : Nat) : Option Nat := (kn.queues.find? (fun e => e.1 == q)).map (·.2)

/-- A scratchpad as an instruction reads it that names a tensor slot: a range of the word whose tensor goes through the unit has been turned
over as its loads would have (R83 to R85); a data queue's range holds what its loads have written. -/
def State.viewSlot (s : State) (k : Nat) (slot : Option Nat) (base len : Nat) : Core × Made :=
  let c := s.core k
  match slot.bind (fun n => (s.tileKernel c.exeTile).bind (fun kn => kn.fallTensor n)) with
  | none => (c, {})
  | some d =>
    let p := fallPlan d base len
    let p := { p with staging := (List.range len).map (fun i => (i, memRead c.spad (base + i))) }
    let o := p.output (s.drawJob c.exeTile.ctx) p.stagedScales
    ({ c with spad := memWriteN c.spad base o.1 }, o.2)

end Sys2Proof.Machine
end

