-- ==== Sys2Proof/Machine/AccessStream.lean ====
section
/-!
DEFINITION. The access stream (R126, R127): arithmetic and branches, path epochs (R58 to R60), loads, the transposing load (R85),
prefetches and stream prefetchers (R69 to R71), stores, atomics, invalidations, fences (R155 to R162) and tokens.
-/
namespace Sys2Proof.Machine

/-! ### Arithmetic and branches -/

/-- The operations of XALU (R126). -/
def xaluOp (op : Nat) (a b : Word64) : Word64 :=
  match op with
  | 0 => a + b
  | 1 => a - b
  | 2 => a * b
  | 3 => a &&& b
  | 4 => a ||| b
  | 5 => a ^^^ b
  | 6 => BitVec.ofNat 64 (shiftBy 0 64 a.toNat b.toNat)
  | 7 => BitVec.ofNat 64 (shiftBy 1 64 a.toNat b.toNat)
  | 8 => BitVec.ofNat 64 (shiftBy 2 64 a.toNat b.toNat)
  | 9 => if a.toInt ≤ b.toInt then a else b
  | 10 => if a.toInt ≥ b.toInt then a else b
  | 11 => if a.toNat ≤ b.toNat then a else b
  | _ => if a.toNat ≥ b.toNat then a else b

/-- The relations of BRX (R126). -/
def brxHolds (op : Nat) (a b : Word64) : Bool :=
  match op with
  | 0 => a == b
  | 1 => a != b
  | 2 => decide (a.toInt < b.toInt)
  | 3 => decide (a.toInt ≥ b.toInt)
  | 4 => decide (a.toNat < b.toNat)
  | _ => decide (a.toNat ≥ b.toNat)

/-- Access-stream NOP (R126). -/
def execAccessNop (c : CoreId) (w : InstrWord) (s : State) : Res :=
  let k := coreKey c
  onCore "ACCESS_NOP" 0x0100 w (s.accReady c) (s.accOr k [] (s.issueAcc k none))

/-- XALU (R126): MOD[20] takes IMM for b. -/
def execXalu (c : CoreId) (w : InstrWord) (s : State) : Res :=
  let k := coreKey c
  let b := if wm w 20 1 = 1 then w.imm else s.accX k (selB w)
  let v := xaluOp (wm w 16 4) (s.accX k (selA w)) b
  onCore "XALU" 0x0101 w (s.accReady c) (s.accOr k [] ((s.modCore k (fun c => c.setX (selD w) v)).issueAcc k none))

/-- XMOVI (R126). -/
def execXmovi (c : CoreId) (w : InstrWord) (s : State) : Res :=
  let k := coreKey c
  onCore "XMOVI" 0x0102 w (s.accReady c) (s.accOr k [] ((s.modCore k (fun c => c.setX (selD w) w.imm)).issueAcc k none))

/-- The access stream goes to a word after its issue. -/
def State.accGoto (s : State) (k pc : Nat) : State := s.modCore k (fun c => { c with accPc := pc })

/-- BRX (R126): resolved at once. -/
def execBrx (c : CoreId) (w : InstrWord) (s : State) : Res :=
  let k := coreKey c
  let taken := brxHolds (wm w 16 3) (s.accX k (selA w)) (s.accX k (selB w))
  onCore "BRX" 0x0103 w (s.accReady c)
    (s.accOr k [] ((s.issueAcc k none).accGoto k (branchTo (s.core k).accPc (wTarget w) taken)))

/-- JMP (R126). -/
def execJmp (c : CoreId) (w : InstrWord) (s : State) : Res :=
  let k := coreKey c
  onCore "JMP" 0x0105 w (s.accReady c)
    (s.accOr k [] ((s.issueAcc k none).accGoto k (branchTo (s.core k).accPc (wTarget w) true)))

/-- AEND (R61): the tile's access stream has issued its last command; while branches of it are unresolved it waits for their tokens
(R64). -/
def execAend (c : CoreId) (w : InstrWord) (s : State) : Res :=
  let k := coreKey c
  onCore "AEND" 0x0106 w (s.accReady c)
    (s.accOr k [] ((s.issueAcc k none).modCore k (fun c =>
      { c with tiles := updateLast (fun t => { t with accEnd := true }) c.tiles,
               accStall := if c.epochs.isEmpty then none else some (.outcome, s.time) })))

/-- The prediction of a data-dependent branch (R58). -/
def predictTaken (w : InstrWord) : Bool :=
  match wm w 16 2 with
  | 1 => true
  | 2 => false
  | _ => decide (wTarget w < 0)

/-- BRT (R58, R59): predicted, and a path epoch opened. -/
def execBrt (c : CoreId) (w : InstrWord) (s : State) : Res :=
  let k := coreKey c
  let x := s.core k
  let p := predictTaken w
  let e : Epoch :=
    { id := x.nextEpoch, tile := x.accTile.seq, queue := selA w - 0x30, predicted := p, altPc := branchTo x.accPc (wTarget w) (!p), savedX := x.x
      popped := [], faults := [], commands := 0 }
  let go := ((s.issueAcc k none).accGoto k (branchTo x.accPc (wTarget w) p)).modCore k (fun c =>
    { c with epochs := c.epochs ++ [e], nextEpoch := c.nextEpoch + 1 })
  onCore "BRT" 0x0104 w (s.accReady c) (s.accOr k [(decide (x.epochs.length ≥ 16), .branches)] go)

/-- The tallies of a confirmed epoch (R67). -/
def Epoch.made (e : Epoch) : Made := ⟨e.nan, e.inf, e.sat, e.mx⟩

/-- The poison that loads of an epoch have kept back lands (R65). -/
def State.landPoison (s : State) (k epoch : Nat) : State :=
  ((s.core k).loads.filter (fun l => l.epoch == epoch)).foldl
    (fun s l => l.poison.foldl (fun s p => s.landPiece k l.id p.1 p.2) (s.modLoad k l.id (fun x => { x with poison := [] }))) s

/-- The oldest branch is confirmed: its faults are raised, its tallies count, its held work goes on (R60). -/
def State.confirm (s : State) (k : Nat) (e : Epoch) : State :=
  let t := (s.core k).accTile
  let s := s.modCore k (fun c => { c with
    epochs := c.epochs.drop 1
    accStall := if c.epochs.length ≤ 1 ∧ c.accStall.map (·.1) = some .outcome then none else c.accStall })
  let s := (s.landPoison k e.id).tally t.ctx e.made
  let s := e.faults.foldl (fun s r => s.raiseRec r (.grid t.grid)) s
  s.pump k

/-- Items of squashed epochs leave a queue (R60). -/
def dropEpochs (es : List Epoch) (c : Core) : Core :=
  let dead := fun (n : Nat) => es.any (fun e => e.id == n)
  let gone := (c.stores.filter (fun h => dead h.epoch)).map (·.seq)
  { c with
    dqs := c.dqs.map (fun q => (q.1, q.2.filter (fun e => !dead e.epoch)))
    tqs := c.tqs.map (fun q => if q.1 < 4 then (q.1, q.2.filter (fun t => !dead t.epoch)) else q)
    stores := c.stores.filter (fun h => !dead h.epoch)
    barriers := c.barriers.filter (fun b => !gone.contains b.seq)
    loads := c.loads.filter (fun l => !dead l.epoch)
    ops := c.ops.filter (fun o => !dead o.epoch) }

/-- The tokens that squashed commands had popped go back, oldest first. -/
def unpop (c : Core) (ps : List (Nat × Token)) : Core :=
  ps.foldl (fun c p => { c with tqs := tset c.tqs p.1 (p.2 :: c.tokens p.1) }) c

/-- The oldest branch is refuted: its epoch and all younger are squashed, and the stream restarts (R60, R65, R68). EPOCHS_REFUTED counts
every epoch that is squashed (notes/assumptions/80.md). -/
def State.refute (s : State) (k : Nat) (e : Epoch) : State :=
  let c := s.core k
  let es := c.epochs
  let loads := (c.loads.filter (fun l => es.any (fun e => e.id == l.epoch))).map (·.id)
  let cmds := (es.map (·.commands)).foldl (· + ·) 0
  let popped := (es.reverse.map (·.popped)).flatten
  let back := unpop (dropEpochs es c) popped
  let s := s.setCore k { back with
    epochs := [], x := e.savedX, accPc := e.altPc, accStall := none
    tiles := updateLast (fun t => { t with accEnd := false }) back.tiles }
  let s := s.modFabric (fun f => { f with accesses := f.accesses.map (fun a =>
    match a.purpose with
    | .load c id _ => if c = k ∧ loads.contains id then { a with discard := true } else a
    | _ => a) })
  ((s.count k 7 es.length).count k 8 cmds).pump k

/-- BRANCH_OUTCOME (R60): the outcome token of the oldest unresolved branch has come. A token that comes first for a younger branch, on
another queue, waits until the older ones are resolved (notes/assumptions/80.md). -/
def execBranchOutcome (c : CoreId) (s : State) : Res :=
  let k := coreKey c
  let x := s.core k
  let t := x.epochs.head?.bind (fun e => ((x.tokens e.queue).head?).filter (fun t => t.tile == x.accTile.seq))
  let e := x.epochs.head?
  when "BRANCH_OUTCOME" (s.works && !x.frozen && t.isSome)
    (match e, t with
     | some e, some t =>
       let s := s.modCore k (fun c => { c.popToken e.queue with lastIssue := s.time })
       if (t.val != 0) == e.predicted then s.confirm k e else s.refute k e
     | _, _ => s)

/-! ### Addresses -/

/-- Bits [63:56] of every address of a range are zero (R127). -/
def addrOk (a n : Nat) : Bool := decide (a + (n - 1) < 2 ^ 56)

/-- A scratchpad range that an instruction reaches at run time (R124). -/
def spadOk (base len : Nat) : Bool := decide (base + len ≤ spadReserved)

/-- The class of a core's memory requests (R195). -/
def State.tileClass (s : State) (t : TileRun) : TClass :=
  if (s.grid? t.grid).map (·.cls) = some .generate then .generate else .memory

/-- A request of a core before it has a bearing and a slot. -/
def State.coreReq (s : State) (t : TileRun) (op : ReqOp) (va size arg : Nat) (payload : List Byte) : Request :=
  { dest := 0, fwd := false, src := BitVec.ofNat 15 s.self, job := (s.ctx t.ctx).job, op := op, cls := s.tileClass t,
    refresh := false, prefetch := false, noCombine := false, tag := 0, gen := 0, frame := 0, va := BitVec.ofNat 56 va,
    size := BitVec.ofNat 8 size, arg := BitVec.ofNat 64 arg, payload := payload }

/-- Memory ranges with the scratchpad bytes they meet, cut into pieces within one line (R195). -/
def cutPieces (rs : List (Nat × Nat × Nat)) : List Piece :=
  (rs.map (fun r => (linesIn r.1 r.2.1).map (fun p => { va := p.1, len := p.2, spad := r.2.2 + (p.1 - r.1) }))).flatten

/-- Pieces by line, in the order of their first piece. -/
def byLine : List Piece → List (Nat × List Piece)
  | [] => []
  | p :: ps =>
    let rest := byLine ps
    let l := lineOf p.va
    match rest.find? (fun g => g.1 == l) with
    | some g => (l, p :: g.2) :: rest.filter (fun h => h.1 != l)
    | none => (l, [p]) :: rest

/-- The wait of R63 for an access of an unconfirmed path: a no-speculate region, or a parcel that is not materialised and in memory. What
another module alone knows is a free value (notes/assumptions/15.md). -/
def State.specStall (s : State) (k ctx va : Nat) : Option StallKind :=
  let job := (s.ctx ctx).job
  let pn := parcelOf va
  if (s.core k).epochs.isEmpty then none
  else if isMirror va then some .noSpeculate
  else
    match s.parcel? job pn with
    | some p =>
      if attrNoSpec p.attr then some .noSpeculate
      else if p.state = .paged ∨ p.state = .pagingIn ∨ p.state = .unmaterialised then some .unmaterialised else none
    | none =>
      let away := if Config.remoteReady job.toNat pn s.fabric.nextAccess then none else some StallKind.unmaterialised
      match s.bearing? job pn with
      | some b => if attrNoSpec b.attr then some .noSpeculate else away
      | none =>
        match s.entry? job pn with
        | some e =>
          if attrNoSpec e.attr then some .noSpeculate
          else if e.state = .paged ∨ e.state = .pagingIn ∨ e.state = .unmaterialised then some .unmaterialised else none
        | none => if s.registrar ctx pn = s.self then none else away

/-- The first of those waits among several addresses. -/
def State.specStalls (s : State) (k ctx : Nat) (vas : List Nat) : List (Bool × StallKind) :=
  (vas.filterMap (s.specStall k ctx)).map (fun x => (true, x))

/-- A line that the hoard serves at once. -/
def State.hoardHit (s : State) (k ctx va : Nat) (bypass : Bool) : Bool :=
  !bypass && (match (s.cluster (k / 32)).line? (s.lineKey ctx va) with
    | some l => lineFresh l (s.core k).mark
    | none => false)

/-- A remote access meets the module with every reply slot held (R63, R197). -/
def State.slotsShort (s : State) (k ctx : Nat) (vas : List Nat) (bypass : Bool) : Bool :=
  vas.any (fun va => s.needsSlot ctx va && !s.hoardHit k ctx va bypass) && decide (s.slotsHeld ≥ replySlots)

/-- An earlier load has yet to write a byte of a range (R144). -/
def Core.loadPending (c : Core) (base len : Nat) : Bool :=
  c.loads.any (fun l => l.ranges.any (fun r => overlap r.1 r.2 base len))

/-! ### Stream prefetchers (R69 to R72) -/

/-- A line may be prefetched: readable, not no-speculate, and reachable without a registrar (R71). -/
def State.prefetchable (s : State) (ctx va : Nat) : Bool :=
  let job := (s.ctx ctx).job
  if isMirror va then false
  else
    match s.parcel? job (parcelOf va) with
    | some p => attrRead p.attr && !attrNoSpec p.attr && holdsFrame p.state
    | none =>
      match s.bearing? job (parcelOf va) with
      | some b => attrRead b.attr && !attrNoSpec b.attr
      | none => false

/-- A prefetch that would fault (R71): an address out of range, no parcel, or one that may not be read. -/
def State.prefetchFaults (s : State) (ctx va : Nat) : Bool :=
  let job := (s.ctx ctx).job
  if decide (va ≥ 2 ^ 56) then true
  else
    match s.parcel? job (parcelOf va) with
    | some p => !attrRead p.attr
    | none =>
      match s.bearing? job (parcelOf va) with
      | some b => !attrRead b.attr
      | none => s.registrar ctx (parcelOf va) == s.self && (s.entry? job (parcelOf va)).isNone

/-- One line prefetched into the hoard of the core's cluster (R71), by a stream prefetcher or by PF. A remote one counts as a remote read
too (R68, R451). -/
def State.prefetchLine (s : State) (k : Nat) (unit : Option Nat) (t : TileRun) (va : Nat) : State :=
  if s.prefetchFaults t.ctx va then s.count k 6 1
  else if !s.prefetchable t.ctx va then s
  else if ((s.cluster (k / 32)).line? (s.lineKey t.ctx va)).isSome then s
  else if s.needsSlot t.ctx va ∧ s.slotsHeld ≥ replySlots then s
  else
    let s := (s.count k 4 1).count k 1 (b2n (s.needsSlot t.ctx va))
    let r := { s.coreReq t .read (lineOf va) 0 0 [] with prefetch := true }
    let x := s.addAccess t.ctx (k / 32) r (.prefetch k unit) false
    (x.2.missed x.1 []).route x.1

/-- Lines prefetched in order. -/
def State.prefetchLines (s : State) (k : Nat) (unit : Option Nat) (t : TileRun) (vas : List Nat) : State :=
  vas.foldl (fun s va => s.prefetchLine k unit t va) s

/-- The stride of three consecutive addresses, newest first, when it is one that trains (R70). -/
def strideOf (l : List Nat) : Option Int :=
  match l with
  | a :: b :: c :: _ =>
    let d : Int := (a : Int) - b
    if d = (b : Int) - c ∧ d ≠ 0 ∧ d % 128 = 0 ∧ d.natAbs ≤ 2097152 then some d else none
  | _ => none

/-- The site of a load and its shape: a plain load has one row (R70). -/
structure Site where
  pc : Nat
  addr : Nat
  row : Nat
  pitch : Nat
  rows : Nat
  deriving DecidableEq, Repr

/-- A prefetcher has predicted an address. -/
def Prefetcher.predicts (p : Prefetcher) (x : Site) : Bool :=
  match p.last, p.stride, p.tilePitch with
  | a :: _, some d, _ => (a : Int) + d == (x.addr : Int)
  | a :: _, none, some d => p.twoD && (a : Int) + d == (x.addr : Int)
  | _, _, _ => false

/-- A prefetcher after a demand of its site at a moment: useful prefetches, training and untraining (R70). -/
def Prefetcher.see (p : Prefetcher) (now : Nat) (x : Site) : Prefetcher :=
  let hit := p.trained && p.predicts x
  let used := p.ahead.filter (fun l => decide (l = lineOf x.addr))
  let p := { p with useful := used.map (fun _ => now) ++ p.useful, ahead := p.ahead.filter (fun l => decide (l ≠ lineOf x.addr)) }
  let tile := (x.addr, x.row, x.pitch, x.rows)
  let two := match p.lastTile with
    | some (_, r, pt, n) => decide (x.rows > 1 ∧ r = x.row ∧ pt = x.pitch ∧ n = x.rows)
    | none => false
  let newPitch : Option Int := p.lastTile.map (fun q => (x.addr : Int) - (q.1 : Int))
  let last := (x.addr :: p.last).take 3
  let p := { p with last := last, lastTile := some tile }
  if p.trained ∧ hit then { p with misses := 0, tilePitch := if p.twoD then newPitch else p.tilePitch }
  else if p.trained ∧ p.misses = 0 then { p with misses := 1 }
  else
    let st := strideOf last
    if x.rows ≤ 1 then
      { p with trained := st.isSome, twoD := false, stride := st, tilePitch := none, misses := 0
               ahead := if st.isSome then p.ahead else [] }
    else
      let ok := two && p.tilePitch == newPitch && newPitch.isSome
      { p with trained := ok, twoD := ok, stride := none, tilePitch := if two then newPitch else none, misses := 0
               ahead := if ok then p.ahead else [] }

/-- The lines that a trained prefetcher now issues: up to 32 lines of the stride, or the next tile in at most 64 KiB (R70). -/
def Prefetcher.next (p : Prefetcher) (x : Site) : List Nat :=
  if !p.trained then []
  else
    match p.stride with
    | some d =>
      let all := (List.range 32).filterMap (fun (i : Nat) =>
        let a : Int := (x.addr : Int) + d * ((i : Int) + 1)
        if a < 0 then none else some (lineOf a.toNat))
      all.filter (fun l => !p.ahead.contains l)
    | none =>
      match p.tilePitch with
      | some d =>
        let base : Int := (x.addr : Int) + d
        if base < 0 then []
        else
          let rows := (List.range x.rows).map (fun i => (linesIn (base.toNat + i * x.pitch) x.row).map (fun q => lineOf q.1))
          (rows.flatten.eraseDups.take 512).filter (fun l => !p.ahead.contains l)
      | none => []

/-- A load site: an instruction of the code that a tile runs (R69). -/
def State.siteOf (s : State) (t : TileRun) (pc : Nat) : Nat × Nat × Nat :=
  match s.grid? t.grid with
  | some g => (g.program.toNat, g.kernel.toNat, pc)
  | none => (0, 0, pc)

/-- Useful prefetches of the last 4,096 core cycles (R69). -/
def State.recentUseful (s : State) (p : Prefetcher) : List Nat := p.useful.filter (fun t => decide (s.coreCycles (s.time - t) ≤ 4096))

/-- The prefetcher of a site: its own, a free one, or the one with the fewest useful prefetches of late (R69). -/
def State.prefetcherOf (s : State) (k : Nat) (site : Nat × Nat × Nat) : Nat :=
  let ps := (List.range 4).map (fun i => (i, tget (s.core k).prefetchers i {}))
  match ps.find? (fun p => p.2.site == some site) with
  | some p => p.1
  | none =>
    match ps.find? (fun p => p.2.site.isNone) with
    | some p => p.1
    | none => (ps.foldl (fun b p => if (s.recentUseful p.2).length < (s.recentUseful b.2).length then p else b) (ps.headD (0, {}))).1

/-- Lines of a stream prefetcher that are in flight (R70). -/
def State.prefetchesOpen (s : State) (k i : Nat) : Nat :=
  s.fabric.accesses.countP (fun a => a.purpose == .prefetch k (some i) && !a.timedOut)

/-- A load site trains its prefetcher, which issues (R69 to R71): of a 2D pattern, at most 64 KiB are in flight. -/
def State.train (s : State) (k : Nat) (t : TileRun) (x : Site) : State :=
  let site := s.siteOf t x.pc
  let i := s.prefetcherOf k site
  let old := tget (s.core k).prefetchers i {}
  let p := (if old.site = some site then old else { site := some site }).see s.time x
  let ls := if p.stride.isSome then p.next x else (p.next x).take (512 - s.prefetchesOpen k i)
  let p := { p with ahead := (p.ahead ++ ls).drop ((p.ahead ++ ls).length - 512), useful := s.recentUseful p }
  (s.modCore k (fun c => { c with prefetchers := tset c.prefetchers i p })).prefetchLines k (some i) t ls

/-! ### Loads -/

/-- What a load does (R127). -/
structure LoadSpec where
  ranges : List (Nat × Nat × Nat)
  base : Nat
  len : Nat
  /-- Scratchpad bytes that the load reads (the offsets of a GATHER). -/
  reads : Option (Nat × Nat) := none
  tld : Option TldPlan := none
  site : Site
  deriving DecidableEq, Repr

/-- The pattern that a failed load writes, by the tensor that its data queue carries (R134, R212). -/
def formatPattern (fmt : Nat) : List Byte :=
  match fmt with
  | 0 => natLE 0x7FC00DEA 4
  | 1 => natLE 0x7FEA 2
  | 2 => natLE 0x7FEA 2
  | 3 => [0x7F]
  | 4 => [0x7E]
  | _ => [0xFF]

/-- The pattern of a load of a tile into a data queue. -/
def State.loadPattern (s : State) (t : TileRun) (q : Option Nat) : List Byte :=
  match q, (s.grid? t.grid).bind s.kernelOf with
  | some q, some kn =>
    match kn.queues.find? (fun e => e.1 == q) with
    | some e => ((kn.tensors[e.2]?).map (fun t => formatPattern t.format.toNat)).getD [0xFF]
    | none => [0xFF]
  | _, _ => [0xFF]

/-- The data queue of a load, none for selector 0. -/
def loadQueue (w : InstrWord) : Option Nat := if selC w = 0 then none else some (selC w - 0x20)

/-- The line requests of a load, added in order. -/
def addLoads (k seq ctx rank : Nat) (bypass refresh : Bool) (t : TileRun) : List (Nat × List Piece) → State → State
  | [], s => s
  | g :: gs, s =>
    let r := { s.coreReq t .read g.1 0 0 [] with refresh := refresh }
    addLoads k seq ctx rank bypass refresh t gs (s.addAccess ctx rank r (.load k seq g.2) bypass).2

/-- A load issued (R54, R127, R145, R159): its entry pushed, its line requests started as far as the order allows. -/
def State.startLoads (s : State) (k : Nat) (w : InstrWord) (x : LoadSpec) (groups : List (Nat × List Piece)) : State :=
  let c := s.core k
  let t := c.accTile
  let seq := c.nextId
  let q := loadQueue w
  let refresh := wm w 20 1 = 1
  let acq := wm w 17 1 = 1
  let scope := wm w 18 2
  let bypass := decide refresh || (decide acq && decide (scope ≥ 2))
  let l : Load :=
    { id := seq, epoch := c.epoch, entry := q.map (fun _ => seq), missing := (groups.map (·.2.length)).foldl (· + ·) 0
      ranges := [(x.base, x.len)]
      due := (groups.map (fun g => g.2.map (fun p => (p.spad, p.len)))).flatten, pattern := s.loadPattern t q, tld := x.tld, tile := t.seq }
  let e : DqEntry := { id := seq, base := x.base, len := x.len, epoch := c.epoch, ready := false, tile := t.seq }
  let b : Barrier := { seq := seq, scope := scope, kind := .acquire, mark := decide refresh, upTo := s.fabric.nextAccess }
  let s := s.modCore k (fun c =>
    { c with loads := c.loads ++ [l],
             barriers := if acq then c.barriers ++ [b] else c.barriers,
             dqs := match q with | some q => tset c.dqs q (c.entries q ++ [e]) | none => c.dqs })
  let s := (s.issueAcc k (q.map (fun _ => seq))).count k 0 1
  let s := addLoads k seq t.ctx (k / 32) bypass (decide refresh) t groups s
  let s := s.pump k
  if wm w 16 1 = 1 then s else s.train k t x.site

/-- What holds a load back (R63), and what it raises (R124, R127). -/
def State.loadStep (s : State) (k : Nat) (w : InstrWord) (x : LoadSpec) (spad : Bool) : State :=
  let c := s.core k
  let t := c.accTile
  let bad : Option Nat := if !spad then some 0x0103
    else if x.ranges.any (fun r => !addrOk r.1 r.2.1) then some 0x0104 else none
  match bad with
  | some code =>
    s.accOr k [] ((s.issueAcc k none).coreFault k c.epoch
      (s.tileErr k code t (if code = 0x0104 then x.site.addr % 2 ^ 56 else 0) 0))
  | none =>
    let groups := byLine (cutPieces x.ranges)
    let vas := groups.map (·.1)
    let acq := wm w 17 1 = 1
    let bypass := decide (wm w 20 1 = 1) || (decide acq && decide (wm w 18 2 ≥ 2))
    let stalls :=
      (match loadQueue w with | some q => [(c.dqFull q, StallKind.dataQueueFull q)] | none => []) ++
      s.specStalls k t.ctx vas ++
      [(decide acq && !c.epochs.isEmpty, .acquireFence),
       (s.slotsShort k t.ctx vas bypass, .replySlots)] ++
      (match x.reads with | some r => [(c.loadPending r.1 r.2, .interlock r.1 r.2)] | none => [])
    s.accOr k stalls (s.startLoads k w x groups)

/-- The transposing load that the translator has put in place of a load that feeds a LATCH or a PASS of a tensor (R83 to R86, R134, R439):
none for the others. The range's bytes are staged and written back in their place as the unit leaves them (notes/assumptions/18.md). -/
def State.substitute (s : State) (k : Nat) (w : InstrWord) (base len : Nat) : Option TldPlan :=
  match loadQueue w, s.tileKernel (s.core k).accTile with
  | some q, some kn => ((kn.queueSlot q).bind kn.fallTensor).map (fun d => fallPlan d base len)
  | _, _ => none

/-- A load's pieces go to the staging of its transposing load when it has one. -/
def LoadSpec.staged (x : LoadSpec) (p : Option TldPlan) : LoadSpec :=
  match p with
  | none => x
  | some p => { x with tld := some p, ranges := x.ranges.map (fun r => (r.1, r.2.1, r.2.2 - x.base)) }

/-- LD (R127): the address is X[a] plus the displacement, the scratchpad base the range's plus the low 20 bits of X[b]. -/
def execLd (c : CoreId) (w : InstrWord) (s : State) : Res :=
  let k := coreKey c
  let r := slot0 w
  let a := (s.accX k (selA w) + BitVec.ofInt 64 (dispOf w)).toNat
  let base := rangeBase r + (s.accX k (selB w)).toNat % 2 ^ 20
  let n := rangeLen r
  let x : LoadSpec := { ranges := [(a, n, base)], base := base, len := n, site := ⟨(s.core k).accPc, a, n, 0, 1⟩ }
  onCore "LD" 0x0200 w (s.accReady c) (s.loadStep k w (x.staged (s.substitute k w base n)) (spadOk base n))

/-- The rows of LD2D and ST2D: memory address, length, scratchpad address (R127). -/
def rows2d (a pitch row base n : Nat) : List (Nat × Nat × Nat) :=
  (List.range (n / row)).map (fun i => ((a + i * pitch) % 2 ^ 64, row, base + i * row))

/-- LD2D (R127). -/
def execLd2d (c : CoreId) (w : InstrWord) (s : State) : Res :=
  let k := coreKey c
  let r := slot0 w
  let a := (s.accX k (selA w)).toNat
  let pitch := (s.accX k (selB w)).toNat
  let n := rangeLen r
  let x : LoadSpec :=
    { ranges := rows2d a pitch (rowLen w) (rangeBase r) n, base := rangeBase r, len := n
      site := ⟨(s.core k).accPc, a, rowLen w, pitch, n / rowLen w⟩ }
  onCore "LD2D" 0x0201 w (s.accReady c) (s.loadStep k w (x.staged (s.substitute k w (rangeBase r) n)) true)

/-- The element sizes of GATHER (R126). -/
def gatherSize (w : InstrWord) : Nat :=
  match wm w 22 2 with
  | 0 => 4
  | 1 => 8
  | 2 => 16
  | _ => 64

/-- GATHER (R126, R127): offsets from slot 1, elements into slot 0. -/
def execGather (c : CoreId) (w : InstrWord) (s : State) : Res :=
  let k := coreKey c
  let a := (s.accX k (selA w)).toNat
  let cnt := (s.accX k (selB w)).toNat
  let sz := gatherSize w
  let r0 := slot0 w
  let r1 := slot1 w
  let fits := decide (cnt ≤ rangeLen r1 / 4) && decide (cnt ≤ rangeLen r0 / sz)
  let offs := if fits then (List.range cnt).map (fun i => leNat (s.getSpad k (rangeBase r1 + 4 * i) 4)) else []
  let x : LoadSpec :=
    { ranges := offs.zipIdx.map (fun o => ((a + o.1) % 2 ^ 64, sz, rangeBase r0 + o.2 * sz)), base := rangeBase r0, len := rangeLen r0
      reads := some (rangeBase r1, rangeLen r1), site := ⟨(s.core k).accPc, a, sz, 0, 1⟩ }
  onCore "GATHER" 0x0202 w (s.accReady c) (s.loadStep k w (x.staged (s.substitute k w (rangeBase r0) (rangeLen r0))) fits)

/-- TLD (R85, R127): 64 rows, each of the row length, read into the unit, which takes 64 elements of each. -/
def execTld (c : CoreId) (w : InstrWord) (s : State) : Res :=
  let k := coreKey c
  let r := slot0 w
  let a := (s.accX k (selA w)).toNat
  let pitch := (s.accX k (selB w)).toNat
  let fmt := wm w 24 4
  let n := rowLen w
  let p : TldPlan :=
    { format := BitVec.ofNat 8 fmt, requantise := wm w 28 1 == 1, sr := wm w 29 1 == 1
      step := BitVec.ofNat 32 (s.accX k (selD w)).toNat, base := a, pitch := pitch, rowLen := n, rows := 64, cols := 64
      contract := 1, keep := false, scalesIn := false, dest := rangeBase r, staging := [] }
  let x : LoadSpec :=
    { ranges := (List.range 64).map (fun i => ((a + i * pitch) % 2 ^ 64, n, i * n)), base := rangeBase r, len := rangeLen r
      tld := some p, site := ⟨(s.core k).accPc, a, n, pitch, 64⟩ }
  onCore "TLD" 0x0203 w (s.accReady c) (s.loadStep k w x true)

/-- What an unconfirmed epoch has made counts when it is confirmed (R67). -/
def State.tallyOn (s : State) (k epoch ctx : Nat) (m : Made) : State :=
  if (s.core k).unconfirmed epoch then
    let add := fun (e : Epoch) => { e with nan := e.nan + m.nan, inf := e.inf + m.inf, sat := e.sat + m.sat, mx := e.mx + m.mx }
    s.modCore k (fun c => { c with epochs := updateFirst (fun e => e.id == epoch) add c.epochs })
  else s.tally ctx m

/-- The entry of a load becomes ready (R54). -/
def entryReady (id : Option Nat) (es : List DqEntry) : List DqEntry :=
  updateAll (fun (e : DqEntry) => some e.id == id) (fun (e : DqEntry) => { e with ready := true }) es

/-- LOAD_DATA_WRITTEN (R54): the last byte of a load's range has been written, and its entry is ready. -/
def execLoadDataWritten (c : CoreId) (load : Nat) (s : State) : Res :=
  let k := coreKey c
  let l := (s.core k).load? load
  when "LOAD_DATA_WRITTEN" (s.works && (l.map (fun l => l.missing == 0)).getD false)
    (match l with
     | none => s
     | some l =>
       let ctx := (((s.core k).tiles.find? (fun t => t.seq == l.tile)).getD noTile).ctx
       let s := match l.tld with
         | none => s
         | some p =>
           let d := if !isMx p.format.toNat then ([], s) else if p.scalesIn then (p.stagedScales, s) else s.drawBytes 128
           let o := p.output (s.drawJob ctx) d.1
           (d.2.putSpad k p.dest o.1).tallyOn k l.epoch ctx o.2
       (s.modCore k (fun c =>
         { c with loads := c.loads.filter (fun x => x.id != load),
                  dqs := c.dqs.map (fun q => (q.1, entryReady l.entry q.2)) })).pump k)

/-- PF (R71): the lines of a range prefetched into the hoard. -/
def execPf (c : CoreId) (w : InstrWord) (s : State) : Res :=
  let k := coreKey c
  let a := (s.accX k (selA w)).toNat
  let n := (s.accX k (selB w)).toNat
  let t := (s.core k).accTile
  onCore "PF" 0x0204 w (s.accReady c)
    (s.accOr k [] ((s.issueAcc k none).prefetchLines k none t ((linesIn a n).map (fun p => lineOf p.1))))

/-! ### Stores, atomics and invalidations -/

/-- The store hold buffer is full of unconfirmed entries (R63). -/
def Core.holdFull (c : Core) : Bool := decide (c.stores.countP (fun h => c.unconfirmed h.epoch) ≥ 64)

/-- A store, atomic or invalidation issued: it goes to the hold buffer and leaves when its epoch and its order let it. -/
def State.putHeld (s : State) (k : Nat) (w : InstrWord) (reqs : List Request) (isInv isAtomic : Bool) (dest : Nat) : State :=
  let c := s.core k
  let t := c.accTile
  let h : HeldStore :=
    { seq := c.nextId, epoch := c.epoch, tile := t.seq, ctx := t.ctx, reqs := reqs, isInv := isInv, isAtomic := isAtomic
      dest := dest, release := if !isInv && decide (wm w 17 1 = 1) then some (wm w 18 2) else none }
  let b : Barrier := { seq := c.nextId, scope := wm w 18 2, kind := .acquire, mark := false, upTo := s.fabric.nextAccess }
  let s := s.modCore k (fun c =>
    { c with stores := c.stores ++ [h],
             barriers := if isAtomic && decide (wm w 17 1 = 1) then c.barriers ++ [b] else c.barriers })
  (s.issueAcc k none).pump k

/-- The waits of an access that is held on an unconfirmed path (R63). -/
def State.heldStalls (s : State) (k ctx : Nat) (vas : List Nat) : List (Bool × StallKind) :=
  let c := s.core k
  [(!c.epochs.isEmpty && c.holdFull, StallKind.holdBuffer)] ++ s.specStalls k ctx vas ++
  [(s.slotsShort k ctx vas true, .replySlots)]

/-- A store of scratchpad rows: it waits for its token, for the loads that write its bytes, and for a place (R53, R63, R144). -/
def State.storeStep (s : State) (k : Nat) (w : InstrWord) (rows : List (Nat × Nat × Nat)) (base len addr : Nat) : State :=
  let c := s.core k
  let t := c.accTile
  let q := if selC w = 0 then none else some (selC w - 0x30)
  let pop := fun (s : State) => match q with | some q => s.modCore k (fun c => c.accPop q) | none => s
  let noTok := match q with | some q => [((c.accToken q).isNone, StallKind.tokenEmpty q)] | none => []
  let bad : Option Nat := if !spadOk base len then some 0x0103
    else if rows.any (fun r => !addrOk r.1 r.2.1) then some 0x0104 else none
  match bad with
  | some code =>
    s.accOr k noTok (((pop s).issueAcc k none).coreFault k c.epoch
      (s.tileErr k code t (if code = 0x0104 then addr % 2 ^ 56 else 0) 0))
  | none =>
    let pieces := cutPieces rows
    let reqs := pieces.map (fun p => s.coreReq t .write p.va (p.len - 1) 0 (s.getSpad k p.spad p.len))
    let vas := pieces.map (·.va)
    s.accOr k (s.heldStalls k t.ctx vas ++ noTok ++ [(c.loadPending base len, .interlock base len)])
      ((pop s).putHeld k w reqs false false 0)

/-- ST (R127). -/
def execSt (c : CoreId) (w : InstrWord) (s : State) : Res :=
  let k := coreKey c
  let r := slot0 w
  let a := (s.accX k (selA w) + BitVec.ofInt 64 (dispOf w)).toNat
  let base := rangeBase r + (s.accX k (selB w)).toNat % 2 ^ 20
  onCore "ST" 0x0205 w (s.accReady c) (s.storeStep k w [(a, rangeLen r, base)] base (rangeLen r) a)

/-- ST2D (R127). -/
def execSt2d (c : CoreId) (w : InstrWord) (s : State) : Res :=
  let k := coreKey c
  let r := slot0 w
  let a := (s.accX k (selA w)).toNat
  let pitch := (s.accX k (selB w)).toNat
  onCore "ST2D" 0x0206 w (s.accReady c)
    (s.storeStep k w (rows2d a pitch (rowLen w) (rangeBase r) (rangeLen r)) (rangeBase r) (rangeLen r) a)

/-- What an ATOM raises before it leaves the core: an address out of range, a misaligned one, FADD32 in STRICT (R126, R127, R363). -/
def atomBad (strict wide : Bool) (code a : Nat) : Option Nat :=
  if !addrOk a 1 then some 0x0104
  else if a % (if wide then 8 else 4) ≠ 0 then some 0x0105
  else if strict && decide (code = 9) then some 0x0107 else none

/-- ATOM (R126, R155, R160, R205). With a destination register the stream waits for the old value (notes/assumptions/17.md). -/
def execAtom (c : CoreId) (w : InstrWord) (s : State) : Res :=
  let k := coreKey c
  let x := s.core k
  let t := x.accTile
  let a := (s.accX k (selA w)).toNat
  let code := wm w 22 4
  let wide := wm w 26 1 == 1
  let v := (s.accX k (selB w)).toNat % (if wide then 2 ^ 64 else 2 ^ 32)
  let r := { s.coreReq t .atomic a (code + 16 * b2n wide) v [] with
             noCombine := decide (code = 9) && !(s.ctx t.ctx).fpCombine }
  let eff := match atomBad (s.ctx t.ctx).strict wide code a with
    | some e => s.accOr k [] ((s.issueAcc k none).coreFault k x.epoch (s.tileErr k e t (a % 2 ^ 56) (if wide then 7 else 3)))
    | none =>
      let go := s.putHeld k w [r] false true (selD w)
      s.accOr k (s.heldStalls k t.ctx [a])
        (if selD w ≠ 0 ∧ go.atomicsOpen k (x.nextId + 1) then go.stallAcc k .ordering else go)
  onCore "ATOM" 0x0300 w (s.accReady c) eff

/-- INV (R126, R207): INVALIDATE over a range. -/
def execInv (c : CoreId) (w : InstrWord) (s : State) : Res :=
  let k := coreKey c
  let x := s.core k
  let t := x.accTile
  let a := (s.accX k (selA w)).toNat
  let n := (s.accX k (selB w)).toNat
  let eff :=
    if !addrOk a 1 ∨ !addrOk a n then
      s.accOr k [] ((s.issueAcc k none).coreFault k x.epoch (s.tileErr k 0x0104 t (a % 2 ^ 56) 0))
    else
      s.accOr k [(!x.epochs.isEmpty && x.holdFull, .holdBuffer), (decide (s.slotsHeld ≥ replySlots), .replySlots)]
        (s.putHeld k w [s.coreReq t .invalidate a 0 n []] true false 0)
  onCore "INV" 0x0301 w (s.accReady c) eff

/-- A fence issued: later accesses wait behind it as R161 or R162 says, and at module or system scope it moves the mark (R149). -/
def State.fenceStep (s : State) (k : Nat) (w : InstrWord) (kind : BarrierKind) : State :=
  let c := s.core k
  let scope := wm w 18 2
  let b : Barrier := { seq := c.nextId, scope := scope, kind := kind, mark := decide (scope ≥ 2), upTo := s.fabric.nextAccess }
  s.accOr k [(!c.epochs.isEmpty, .acquireFence)]
    (((s.modCore k (fun c => { c with barriers := c.barriers ++ [b] })).issueAcc k none).pump k)

/-- FENCE (R161). -/
def execFence (c : CoreId) (w : InstrWord) (s : State) : Res :=
  onCore "FENCE" 0x0400 w (s.accReady c) (s.fenceStep (coreKey c) w .fence)

/-- FENCE.SC (R162). -/
def execFenceSc (c : CoreId) (w : InstrWord) (s : State) : Res :=
  onCore "FENCE_SC" 0x0401 w (s.accReady c) (s.fenceStep (coreKey c) w .fenceSc)

/-! ### Tokens -/

/-- TPUSH (R56, R126): X[b], or IMM[31:0] when b is none. -/
def execTpush (c : CoreId) (w : InstrWord) (s : State) : Res :=
  let k := coreKey c
  let x := s.core k
  let q := selD w - 0x30
  let v := if selB w = 0 then wi w 0 32 else (s.accX k (selB w)).toNat
  let t : Token := { id := x.nextId, val := BitVec.ofNat 32 v, epoch := x.epoch, tile := x.accTile.seq }
  onCore "TPUSH" 0x0500 w (s.accReady c)
    (s.accOr k [(x.tqFull q, .tokenFull q)] ((s.modCore k (fun c => c.pushToken q t)).issueAcc k (some x.nextId)))

/-- TPOP (R56, R126): zero-extended. -/
def execTpop (c : CoreId) (w : InstrWord) (s : State) : Res :=
  let k := coreKey c
  let x := s.core k
  let q := selA w - 0x30
  let v := ((x.accToken q).map (fun t => t.val.toNat)).getD 0
  onCore "TPOP" 0x0501 w (s.accReady c)
    (s.accOr k [((x.accToken q).isNone, .tokenEmpty q)]
      ((s.modCore k (fun c => (c.accPop q).setX (selD w) (BitVec.ofNat 64 v))).issueAcc k none))

/-! ### The end of a stall -/

/-- A stall condition of the access stream no longer holds (R63). -/
def State.accFree (s : State) (k : Nat) (x : StallKind) : Bool :=
  let c := s.core k
  match x with
  | .runAhead => decide (c.ops.length < 512)
  | .dataQueueFull q => !c.dqFull q
  | .tokenFull q => !c.tqFull q
  | .branches => decide (c.epochs.length < 16)
  | .holdBuffer => !c.holdFull
  | .noSpeculate => c.epochs.isEmpty
  | .acquireFence => c.epochs.isEmpty
  | .unmaterialised => c.epochs.isEmpty
  | .tokenEmpty q => (c.accToken q).isSome
  | .replySlots => decide (s.slotsHeld < replySlots)
  | .interlock b n => !c.loadPending b n
  | .ordering => !s.atomicsOpen k c.nextId
  | .outcome => c.epochs.isEmpty
  | _ => true

/-- A wait of the execute stream no longer holds (R55, R56, R77, R90, R94). -/
def State.exeFree (s : State) (k : Nat) (x : StallKind) : Bool :=
  let c := s.core k
  match x with
  | .dataQueueEmpty q => c.headReady q
  | .tokenEmpty q => (c.headToken q).isSome
  | .tokenFull q => !c.tqFull q
  | .gangUnit => (s.cluster (k / 32)).gang.holder == some c.exeTile.grid || (s.cluster (k / 32)).gang.holder.isNone
  | .gangQueue => decide ((s.cluster (k / 32)).gang.queue.length < 32)
  | .planeLoad i => !(tget c.cubes i {}).loading
  | _ => true

/-- The core cycles that a gang instruction has waited (R94). -/
def State.countGangWait (s : State) (k : Nat) : State :=
  match (s.core k).exeStall with
  | some (.gangUnit, since) =>
    s.modCluster (k / 32) (fun c =>
      { c with gang := { c.gang with waitCycles := c.gang.waitCycles + BitVec.ofNat 64 (s.coreCycles (s.time - since)) } })
  | _ => s

/-- STALL_CLEARED (R63): the condition a stream waits on has gone, and the stream goes on. -/
def execStallCleared (c : CoreId) (stream : Stream) (s : State) : Res :=
  let k := coreKey c
  let x := s.core k
  match stream with
  | .access =>
    when "STALL_CLEARED" (s.works && !x.frozen && (x.accStall.map (fun p => s.accFree k p.1)).getD false)
      (s.modCore k (fun c => { c with accStall := none }))
  | .execute =>
    when "STALL_CLEARED" (s.works && !x.frozen && (x.exeStall.map (fun p => s.exeFree k p.1)).getD false)
      ((s.countGangWait k).modCore k (fun c => { c with exeStall := none }))

end Sys2Proof.Machine
end

