-- ==== Sys2Proof/Machine/ExecuteStream.lean ====
section
/-!
DEFINITION. The execute stream's scalar instructions (R128): loop counters, branches on tokens, tokens pushed and popped. The buffers,
accumulators and ranges that the execute instructions read and write.
-/
namespace Sys2Proof.Machine

/-! ### Buffers and accumulators -/

/-- Element (r, c) of a 64 × 64 tile. -/
def at64 (t : Table Word32) (r c : Nat) : Word32 := tget t (64 * r + c) 0
def put64 (t : Table Word32) (r c : Nat) (v : Word32) : Table Word32 := tset t (64 * r + c) v

/-- A tile buffer. -/
def Core.buf (c : Core) (i : Nat) : Table Word32 :=
  match i with
  | 0 => c.tiles0
  | 1 => c.tiles1
  | 2 => c.tiles2
  | _ => c.tiles3

def Core.setBuf (c : Core) (i : Nat) (t : Table Word32) : Core :=
  match i with
  | 0 => { c with tiles0 := t }
  | 1 => { c with tiles1 := t }
  | 2 => { c with tiles2 := t }
  | _ => { c with tiles3 := t }

/-- A cube. -/
def Core.cube (c : Core) (i : Nat) : Cube := tget c.cubes i {}
def Core.setCube (c : Core) (i : Nat) (x : Cube) : Core := { c with cubes := tset c.cubes i x }

/-- The tile of a lane selector: a tile buffer or a cube's shadow accumulator tile; others read as zero (R99, R123). -/
def Core.lane (c : Core) (sel : Nat) : Table Word32 :=
  if isBuf sel then c.buf (sel - 0x40) else if isShadow sel then (c.cube (sel - 0x44)).shadow else []

def Core.setLane (c : Core) (sel : Nat) (t : Table Word32) : Core :=
  if isBuf sel then c.setBuf (sel - 0x40) t
  else if isShadow sel then c.setCube (sel - 0x44) { c.cube (sel - 0x44) with shadow := t } else c

/-! ### Tallies and ranges -/

/-- What a tile's arithmetic made, counted for its context and its launch (R44, R286). -/
def State.tallyTile (s : State) (t : TileRun) (m : Made) : State :=
  (s.tally t.ctx m).modGrid t.grid (fun g => { g with nans := g.nans + m.nan })

/-- A range operand of the execute stream: the head of a data queue, or a range in the word. -/
def Core.source (c : Core) (sel range : Nat) : Nat × Nat :=
  if isDq sel then ((c.headEntry (sel - 0x20)).map (fun e => (e.base, e.len))).getD (0, 0)
  else (rangeBase range, rangeLen range)

/-- The wait for a data-queue operand (R55). -/
def Core.sourceWait (c : Core) (sel : Nat) : List (Bool × StallKind) :=
  if isDq sel then [(!c.headReady (sel - 0x20), .dataQueueEmpty (sel - 0x20))] else []

/-- A data-queue operand popped. -/
def State.popSource (s : State) (k sel : Nat) (pop : Bool) : State :=
  if isDq sel && pop then s.modCore k (fun c => c.popEntry (sel - 0x20)) else s

/-- n scratchpad bytes of a core; beyond its range a source has no stated bytes and reads as the scratchpad holds them. -/
def Core.bytes (c : Core) (a n : Nat) : List Byte := memReadN c.spad a n

/-! ### Scalars -/

/-- A loop counter (R128). -/
def Core.loop (c : Core) (i : Nat) : Word32 := tget c.loops i 0

/-- Execute-stream NOP (R128). -/
def execExecuteNop (c : CoreId) (w : InstrWord) (s : State) : Res :=
  onCore "EXECUTE_NOP" 0x1000 w (s.exeReady c) (s.issueExe (coreKey c))

/-- LOOPI (R128). -/
def execLoopi (c : CoreId) (w : InstrWord) (s : State) : Res :=
  let k := coreKey c
  onCore "LOOPI" 0x1001 w (s.exeReady c)
    ((s.modCore k (fun c => { c with loops := tset c.loops (selD w - 0x38) (BitVec.ofNat 32 (wi w 0 32)) })).issueExe k)

/-- The execute stream goes to a word after its issue. -/
def State.exeGoto (s : State) (k pc : Nat) : State := s.modCore k (fun c => { c with exePc := pc })

/-- BNZD (R128): decrement, and branch if the result is nonzero. -/
def execBnzd (c : CoreId) (w : InstrWord) (s : State) : Res :=
  let k := coreKey c
  let x := s.core k
  let i := selD w - 0x38
  let v := x.loop i - 1
  onCore "BNZD" 0x1002 w (s.exeReady c)
    (((s.modCore k (fun c => { c with loops := tset c.loops i v })).issueExe k).exeGoto k (branchTo x.exePc (wTarget w) (v != 0)))

/-- The wait for a token of T0 to T3 (R56). -/
def Core.tokenWait (c : Core) (q : Nat) : List (Bool × StallKind) := [((c.headToken q).isNone, .tokenEmpty q)]

/-- The value of the token at the head of a queue. -/
def Core.headVal (c : Core) (q : Nat) : Word32 := ((c.headToken q).map (·.val)).getD 0

/-- BRTX (R128): pops a token, and branches if it is nonzero. -/
def execBrtx (c : CoreId) (w : InstrWord) (s : State) : Res :=
  let k := coreKey c
  let x := s.core k
  let q := selA w - 0x30
  onCore "BRTX" 0x1003 w (s.exeReady c)
    (s.exeOr k (x.tokenWait q)
      (((s.modCore k (fun c => c.popToken q)).issueExe k).exeGoto k (branchTo x.exePc (wTarget w) (x.headVal q != 0))))

/-- A token for the access stream (R56). -/
def Core.exeToken (c : Core) (v : Nat) : Token := { id := c.nextId, val := BitVec.ofNat 32 v, epoch := 0, tile := c.exeTile.seq }

/-- TPUSHX (R128). -/
def execTpushx (c : CoreId) (w : InstrWord) (s : State) : Res :=
  let k := coreKey c
  let x := s.core k
  let q := selD w - 0x30
  onCore "TPUSHX" 0x1600 w (s.exeReady c)
    (s.exeOr k [(x.tqFull q, .tokenFull q)] ((s.modCore k (fun c => c.pushToken q (x.exeToken (wi w 0 32)))).issueExe k))

/-- The relations of TPUSHE (R128). -/
def relHolds (r : Nat) (a b : Word32) : Bool :=
  let x := val32 a
  let y := val32 b
  let un := isNan x || isNan y
  let lt := !un && ltVal x y
  let gt := !un && ltVal y x
  match r with
  | 0 => !un && !lt && !gt
  | 1 => un || lt || gt
  | 2 => lt
  | 3 => !un && !gt
  | 4 => gt
  | 5 => !un && !lt
  | _ => un

/-- TPUSHE (R128): 1 if the element stands in the relation to the value, 0 otherwise. -/
def execTpushe (c : CoreId) (w : InstrWord) (s : State) : Res :=
  let k := coreKey c
  let x := s.core k
  let q := selD w - 0x30
  let e := at64 (x.buf (selA w - 0x40)) (wi w 32 6) (wi w 40 6)
  let v := b2n (relHolds (wm w 16 3) e (BitVec.ofNat 32 (wi w 0 32)))
  onCore "TPUSHE" 0x1601 w (s.exeReady c)
    (s.exeOr k [(x.tqFull q, .tokenFull q)] ((s.modCore k (fun c => c.pushToken q (x.exeToken v))).issueExe k))

/-- TPOPX (R128): into a loop counter, or discarded. -/
def execTpopx (c : CoreId) (w : InstrWord) (s : State) : Res :=
  let k := coreKey c
  let x := s.core k
  let q := selA w - 0x30
  let put := fun (c : Core) => if selD w = 0 then c else { c with loops := tset c.loops (selD w - 0x38) (x.headVal q) }
  onCore "TPOPX" 0x1602 w (s.exeReady c)
    (s.exeOr k (x.tokenWait q) ((s.modCore k (fun c => put (c.popToken q))).issueExe k))

end Sys2Proof.Machine
end

