-- ==== Sys2Proof/Machine/Cube.lean ====
section
/-!
DEFINITION. The cubes (R45, R46, R76 to R84, R129), the K-split of their contractions (R48) and the fill buffer for thin work (R73 to R75), with the end-of-wave and
end-of-tile markers that close its batches.
-/
namespace Sys2Proof.Machine

/-- The next 64-byte boundary (R124). -/
def up64 (n : Nat) : Nat := ceilDiv n 64 * 64

/-! ### Planes -/

/-- A plane read from the scratchpad (R77, R82): depth rows of 64 elements, or 64 rows of depth elements. The scales of a plane read NORMAL
lie block row by block row, 64 columns each (notes/assumptions/82.md). -/
def readPlane (c : Core) (base fmt : Nat) (transposed : Bool) : Plane :=
  let depth := planeDepth fmt
  let bs := c.bytes base (elemBytes fmt (64 * depth))
  let sb := base + up64 (elemBytes fmt (64 * depth))
  let code := fun (k j : Nat) => BitVec.ofNat 16 (elemAt fmt bs (if transposed then j * depth + k else k * 64 + j))
  let elems := ((List.range depth).map (fun k => (List.range 64).map (fun j => (64 * k + j, code k j)))).flatten
  let nb := depth / 32
  let scale := fun (b j : Nat) => memRead c.spad (sb + (if transposed then j * nb + b else b * 64 + j))
  let scales := ((List.range nb).map (fun b => (List.range 64).map (fun j => (64 * b + j, scale b j)))).flatten
  { format := BitVec.ofNat 8 fmt, elems := elems, scales := if isMx fmt then scales else [] }

/-- Whether a LATCH reads TRANSPOSED (R129, R136, R439): as the layout of the tensor it names says, turned over where its loads
transpose; as given, and NORMAL for AUTO, when it names none. -/
def State.latchTransposed (s : State) (k : Nat) (w : InstrWord) : Bool :=
  let o := wm w 18 3
  if wi w 35 1 = 0 then decide (o = 2)
  else
    let slot := wi w 32 3
    match (s.grid? (s.core k).exeTile.grid).bind s.kernelOf with
    | none => decide (o = 2)
    | some kn =>
      let direct := ((kn.tensors[slot]?).map (fun t => t.contractDim == 0)).getD (decide (o = 2))
      if bitOf kn.fallback.toNat slot then !direct else direct

/-- The tensor slot that a LATCH or a PASS names for a range of its word; the loads of a data queue see to theirs (R129, R134). -/
def wordSlot (w : InstrWord) : Option Nat := if wi w 35 1 = 1 ∧ !isDq (selA w) then some (wi w 32 3) else none

/-- LATCH (R77, R129): a latch load of a plane into the shadow plane. -/
def execLatch (c : CoreId) (w : InstrWord) (s : State) : Res :=
  let k := coreKey c
  let x := s.core k
  let i := selD w - 0x48
  let src := x.source (selA w) (slot0 w)
  let v := s.viewSlot k (wordSlot w) src.1 src.2
  let p := readPlane v.1 src.1 (wm w 24 4) (s.latchTransposed k w)
  onCore "LATCH" 0x1100 w (s.exeReady c)
    (s.exeOr k (x.sourceWait (selA w) ++ [((x.cube i).loading, .planeLoad i)])
      ((((s.modCore k (fun c => c.setCube i { c.cube i with planeShadow := p, loading := true, fresh := true })).tallyTile x.exeTile
        v.2).popSource k (selA w) (wm w 17 1 == 1)).issueExe k))

/-- LATCH_LOAD_DONE (R77): the latch load has copied its plane. -/
def execLatchLoadDone (c : CoreId) (cube : BitVec 2) (s : State) : Res :=
  let k := coreKey c
  let i := cube.toNat
  when "LATCH_LOAD_DONE" (s.works && ((s.core k).cube i).loading)
    (s.modCore k (fun c => c.setCube i { c.cube i with loading := false }))

/-! ### Steps and passes -/

/-- Formats that one cube product may take (R46). -/
def mixable (fa fb : Nat) : Bool :=
  fa == fb || (decide (fa = 3 ∨ fa = 4) && decide (fb = 3 ∨ fb = 4)) ||
  (decide (fa = 7 ∨ fa = 8) && decide (fb = 7 ∨ fb = 8)) || (decide (fa = 9 ∨ fa = 10) && decide (fb = 9 ∨ fb = 10))

/-- One element over all k-steps of a plane, in ascending k (R45 to R47, R79). -/
def accumulate (fa fb : Nat) (a b : List Nat) (sa sb : List Nat) (acc : Word32) : FRes :=
  let d := stepDepth fb
  (List.range (planeDepth fb / d)).foldl
    (fun r i =>
      let q := i * d / 32
      let t := cubeStep fa fb ((a.drop (i * d)).take d) ((b.drop (i * d)).take d) (sa.getD q 127) (sb.getD q 127) r.v
      ⟨t.v, r.made.add t.made⟩)
    ⟨acc, {}⟩

/-- A column of a plane, and its scales. -/
def Plane.col (p : Plane) (j : Nat) : List Nat :=
  (List.range (planeDepth p.format.toNat)).map (fun k => (tget p.elems (64 * k + j) 0).toNat)
def Plane.colScales (p : Plane) (j : Nat) : List Nat :=
  (List.range (planeDepth p.format.toNat / 32)).map (fun b => (tget p.scales (64 * b + j) 0).toNat)

/-- Rows of A: codes and scales of row i, rows packed from a base, scales behind the rows given (R78, R83, R124). -/
def rowCodes (c : Core) (base fmt i : Nat) : List Nat :=
  let depth := planeDepth fmt
  let bs := c.bytes (base + elemBytes fmt (i * depth)) (elemBytes fmt depth)
  (List.range depth).map (fun k => elemAt fmt bs k)
def rowScales (c : Core) (base fmt rows i : Nat) : List Nat :=
  let nb := planeDepth fmt / 32
  let sb := base + up64 (elemBytes fmt (rows * planeDepth fmt))
  (List.range nb).map (fun b => (memRead c.spad (sb + i * nb + b)).toNat)

/-- One row of A against the first columns of a plane, into one row of an accumulator tile. -/
def rowPass (p : Plane) (fa : Nat) (a sa : List Nat) (cols row : Nat) (clear : Bool) (acc : Table Word32 × Made) :
    Table Word32 × Made :=
  (List.range cols).foldl
    (fun x j =>
      let r := accumulate fa p.format.toNat a (p.col j) sa (p.colScales j) (if clear then 0 else at64 x.1 row j)
      (put64 x.1 row j r.v, x.2.add r.made))
    acc

/-- An accumulator row whose values no rule gives: operand formats that may not meet (R46, notes/assumptions/19.md). -/
def freeRow (n : Nat) (cols row : Nat) (t : Table Word32) : Table Word32 :=
  (List.range cols).foldl (fun t j => put64 t row j (BitVec.ofNat 32 (Config.freeWord (n + 64 * row + j)).toNat)) t

/-- The rows of a pass (R78). -/
def passRows (c : Core) (p : Plane) (base fa rows cols : Nat) (clear : Bool) (acc : Table Word32) : Table Word32 × Made :=
  (List.range rows).foldl
    (fun x i =>
      rowPass p fa (rowCodes c base fa i) (if isMx fa then rowScales c base fa rows i else []) cols i clear x)
    (acc, {})

/-- Cube steps of rows and columns against a plane (R78). -/
def stepsOf (fmt rows cols : Nat) : Nat := planeDepth fmt / stepDepth fmt * ceilDiv rows 8 * ceilDiv cols 8

/-- The plane a pass runs against: the shadow plane when it has been loaded since the last pass (notes/assumptions/20.md). -/
def Cube.takePlane (c : Cube) : Cube :=
  if c.fresh then { c with planeActive := c.planeShadow, planeShadow := c.planeActive, fresh := false } else c

/-! ### The K-split (R48) -/

/-- The parts of the contraction of the kernel that a core's execute stream runs. -/
def State.kParts (s : State) (k : Nat) : List Nat := ((s.tileKernel (s.core k).exeTile).map (·.parts)).getD []

/-- The active tile as a pass finds it: with CLEAR a new contraction begins; a pass that is the first of a part keeps the tile as the partial
of the part before and starts from zero. -/
def Cube.enterPart (c : Cube) (parts : List Nat) (clear : Bool) : Cube :=
  if clear then { c with planes := 0, partials := [] }
  else if parts.contains c.planes then { c with active := [], partials := c.partials ++ [c.active] } else c

/-- A partial tile added to the sum of those before it: one FP32 RNE addition per element; an INT32 tile is added as integers
(notes/assumptions/12.md). -/
def addTiles (int : Bool) (x : Table Word32 × Made) (t : Table Word32) : Table Word32 × Made :=
  (List.range 4096).foldl
    (fun y n =>
      let a := tget x.1 n 0
      let b := tget t n 0
      let r : FRes := if int then ⟨a + b, {}⟩ else fadd a b
      (tset y.1 n r.v, y.2.add r.made)) ([], x.2)

/-- The whole tile: ((P0 + P1) + P2) + …, by the vector engine. -/
def Cube.whole (c : Cube) : Table Word32 × Made :=
  match c.partials ++ [c.active] with
  | [] => ([], {})
  | p :: ps => ps.foldl (addTiles (c.planeActive.format == 5)) (p, {})

/-! ### The fill buffer -/

/-- A batch runs as one block (R73, R74): each row against its plane of B, into its accumulator row. -/
def State.runBatch (s : State) (k : Nat) (b : MvBatch) : State :=
  let c := s.core k
  let fmt := b.format.toNat
  let r := b.rows.foldl (fun x e => rowPass e.plane fmt e.a e.scales 64 e.acc false x) ((c.cube b.cube).active, ({} : Made))
  let s := s.modCore k (fun c => c.setCube b.cube { c.cube b.cube with active := r.1 })
  (s.tallyTile c.exeTile r.2).count k 12 (stepsOf fmt 8 64)

/-- Batches that meet a test close, oldest first (R74). -/
def State.closeBatches (s : State) (k : Nat) (p : MvBatch → Bool) : State :=
  let go := (s.core k).fill.filter p
  go.foldl (fun s b => s.runBatch k b) (s.modCore k (fun c => { c with fill := c.fill.filter (fun b => !p b) }))

/-- A batch that is of one B operand on one cube (R73). -/
def MvBatch.sharesB (b : MvBatch) (cube base len fmt : Nat) : Bool :=
  b.cube == cube && b.bBase == base && b.bLen == len && b.format.toNat == fmt

/-- The row of a matrix-vector request: its operands are taken as it finds them, so that its bits are those it would have alone (R75). -/
def mvRow (c : Core) (w : InstrWord) : MvRow :=
  let fmt := wm w 24 4
  let a := rangeBase (slot0 w)
  { a := rowCodes c a fmt 0, scales := if isMx fmt then rowScales c a fmt 1 0 else [], plane := readPlane c (rangeBase (slot1 w)) fmt false
    acc := wm w 16 6 }

/-- A batch writes an accumulator row of a cube below a bound, or a row of its own. -/
def MvBatch.below (b : MvBatch) (cube rows : Nat) : Bool := b.cube == cube && b.rows.any (fun r => decide (r.acc < rows))
def MvBatch.writes (b : MvBatch) (cube row : Nat) : Bool := b.cube == cube && b.rows.any (fun r => r.acc == row)

/-- MV (R73, R74): a batch that writes its accumulator row closes first; then the row joins the open batch of its B operand on its cube, or
opens one, for which the oldest closes when four are open. -/
def execMv (c : CoreId) (w : InstrWord) (s : State) : Res :=
  let k := coreKey c
  let cube := selD w - 0x48
  let fmt := wm w 24 4
  let row := mvRow (s.core k) w
  let mine := fun (b : MvBatch) => b.sharesB cube (rangeBase (slot1 w)) (rangeLen (slot1 w)) fmt
  let new : MvBatch :=
    { cube := cube, bBase := rangeBase (slot1 w), bLen := rangeLen (slot1 w), format := BitVec.ofNat 8 fmt, rows := [row] }
  let eff :=
    let s := s.closeBatches k (fun b => b.writes cube row.acc)
    if (s.core k).fill.any mine then
      let s := s.modCore k (fun c => { c with fill := updateFirst mine (fun b => { b with rows := b.rows ++ [row] }) c.fill })
      s.closeBatches k (fun b => mine b && decide (b.rows.length ≥ 8))
    else
      let old := ((s.core k).fill.head?).filter (fun _ => decide ((s.core k).fill.length ≥ 4))
      let s := match old with | some o => s.closeBatches k (fun b => b == o) | none => s
      s.modCore k (fun c => { c with fill := c.fill ++ [new] })
  onCore "MV" 0x1104 w (s.exeReady c) (eff.issueExe k)

/-- EOW (R74): every open batch closes. -/
def execEow (c : CoreId) (w : InstrWord) (s : State) : Res :=
  let k := coreKey c
  onCore "EOW" 0x1105 w (s.exeReady c) ((s.closeBatches k (fun _ => true)).issueExe k)

/-- XEND (R57, R74): the tile's execute stream has issued its last command; open batches close. -/
def execXend (c : CoreId) (w : InstrWord) (s : State) : Res :=
  let k := coreKey c
  let last := fun (c : Core) =>
    { c with tiles := match c.tiles with | t :: ts => { t with exeEnd := true } :: ts | [] => [] }
  onCore "XEND" 0x1004 w (s.exeReady c) (((s.closeBatches k (fun _ => true)).issueExe k).modCore k last)

/-! ### Passes, swaps, starting values -/

/-- PASS (R48, R78 to R81, R129): up to 64 rows and columns against the active plane. -/
def execPass (c : CoreId) (w : InstrWord) (s : State) : Res :=
  let k := coreKey c
  let x := s.core k
  let i := selD w - 0x48
  let rows := 8 * (wm w 18 3 + 1)
  let cols := 8 * (wm w 21 3 + 1)
  let fa := wm w 24 4
  let src := x.source (selA w) (slot0 w)
  let eff :=
    let s := s.closeBatches k (fun b => b.below i rows)
    let x := s.core k
    let q := ((x.cube i).takePlane).enterPart (s.kParts k) (wm w 16 1 == 1)
    let fb := q.planeActive.format.toNat
    let v := s.viewSlot k (wordSlot w) src.1 src.2
    let s :=
      if mixable fa fb then
        let r := passRows v.1 q.planeActive src.1 fa rows cols (wm w 16 1 == 1) q.active
        (s.modCore k (fun c => c.setCube i { q with active := r.1, planes := q.planes + 1 })).tallyTile x.exeTile (v.2.add r.2)
      else
        let r := (List.range rows).foldl (fun t r => freeRow s.free cols r t) q.active
        { s.modCore k (fun c => c.setCube i { q with active := r, planes := q.planes + 1 }) with free := s.free + 4096 }
    (s.count k 12 (stepsOf fb rows cols)).popSource k (selA w) (wm w 17 1 == 1)
  onCore "PASS" 0x1101 w (s.exeReady c)
    (s.exeOr k (x.sourceWait (selA w) ++ [((x.cube i).loading, .planeLoad i)]) (eff.issueExe k))

/-- SWAP (R80): the accumulator tiles change places; the parts of a split contraction are added first (R48). -/
def execSwap (c : CoreId) (w : InstrWord) (s : State) : Res :=
  let k := coreKey c
  let i := selD w - 0x48
  let eff :=
    let s := s.closeBatches k (fun b => b.cube == i)
    let r := ((s.core k).cube i).whole
    (s.modCore k (fun c =>
      c.setCube i { c.cube i with active := (c.cube i).shadow, shadow := r.1, planes := 0, partials := [] })).tallyTile
      (s.core k).exeTile r.2
  onCore "SWAP" 0x1102 w (s.exeReady c) (eff.issueExe k)

/-- ACCLD (R80): a starting value of 64 × 64 words into the shadow tile. -/
def execAccld (c : CoreId) (w : InstrWord) (s : State) : Res :=
  let k := coreKey c
  let i := selD w - 0x48
  let x := s.core k
  let tile := (List.range 4096).map (fun n => (n, BitVec.ofNat 32 (leNat (x.bytes (rangeBase (slot0 w) + 4 * n) 4))))
  onCore "ACCLD" 0x1103 w (s.exeReady c)
    ((s.modCore k (fun c => c.setCube i { c.cube i with shadow := tile })).issueExe k)

end Sys2Proof.Machine
end

