-- ==== Sys2Proof/Machine/GangUnit.lean ====
section
/-!
DEFINITION. The gang unit of a cluster (R87 to R94, R131): its queue, groups, chains, drains, and its passage between launches.
-/
namespace Sys2Proof.Machine

/-- Groups of a shape, and a group's rows and columns (R89). -/
def gangGroups (shape : Nat) : Nat :=
  match shape with
  | 0 => 8
  | 1 => 4
  | 2 => 2
  | 3 => 2
  | _ => 1
def gangRows (shape : Nat) : Nat :=
  match shape with
  | 0 => 16
  | 1 => 32
  | 2 => 64
  | 3 => 32
  | 4 => 128
  | _ => 64
def gangCols (shape : Nat) : Nat :=
  match shape with
  | 3 => 64
  | 5 => 64
  | _ => 32

/-- A group of a unit. -/
def Gang.group (g : Gang) (i : Nat) : GangGroup := tget g.groups i {}
def Gang.setGroup (g : Gang) (i : Nat) (x : GangGroup) : Gang := { g with groups := tset g.groups i x }
def State.modGang (s : State) (rank : Nat) (f : Gang → Gang) : State := s.modCluster rank (fun c => { c with gang := f c.gang })

/-- A launch holds the unit while items of it are queued, running or chained there, and from when it is passed on until the instructions
that waited for it have queued theirs (R94). -/
def Gang.busy (g : Gang) (s : State) (grid : Nat) : Bool :=
  g.asking.any (fun k => (s.core k).exeTile.grid == grid) || g.queue.any (fun i => i.grid == grid) ||
  g.groups.any (fun e => (e.2.running.map (fun i => i.grid == grid)).getD false ||
    (e.2.chain.map (fun c => (s.core c).exeTile.grid == grid)).getD false)

/-- The waiting launch that the unit passes to: of GENERATE class the earliest, or else the earliest (R94). -/
def Gang.next (g : Gang) : Option Nat :=
  match g.waiting.find? (fun w => w.2.1) with
  | some w => some w.1
  | none => g.waiting.head?.map (·.1)

/-- The unit taken by a launch, in its shape. -/
def State.takeGang (s : State) (rank grid : Nat) : State :=
  let shape := ((s.grid? grid).map (fun g => g.shape.toNat)).getD 0
  s.modGang rank (fun g => { g with holder := some grid, shape := shape, waiting := g.waiting.filter (fun w => w.1 != grid) })

/-- The unit passes on when its holder has nothing left there (R94). -/
def State.handGang (s : State) (rank : Nat) : State :=
  let g := (s.cluster rank).gang
  match g.holder with
  | none => s
  | some h =>
    if g.busy s h then s
    else
      match g.next with
      | some n => s.takeGang rank n
      | none => s.modGang rank (fun g => { g with holder := none })

/-- Places at which n rows or columns are cut into pieces of at most g: first and length. -/
def gangCuts (n g : Nat) : List (Nat × Nat) := (List.range (ceilDiv n g)).map (fun i => (i * g, min g (n - i * g)))

/-- The items of an instruction (R90, R95, R131): one for each part of its rows and columns that fits a group of the shape, on the groups from
the one it names on (notes/assumptions/21.md). Rows used and columns used are 7-bit counts: 0 asks for none, and the 128 rows of GANG_TALL
cannot be asked for at once. -/
def gangItems (c : Core) (k shape now : Nat) (t : TileRun) (w : InstrWord) (a b : Nat) : List GangItem :=
  let cols := wi w 23 7
  let cells := ((gangCuts (wi w 16 7) (gangRows shape)).map (fun r => (gangCuts cols (gangCols shape)).map (fun q => (r, q)))).flatten
  cells.zipIdx.map (fun e =>
    { id := c.nextId + e.2, core := k, ctx := t.ctx, grid := t.grid, tile := t.seq
      group := (selD w - 0x50 + e.2) % gangGroups shape, arrived := now, aBase := a, aRow := e.1.1.1, bBase := b, bCol := e.1.2.1
      width := cols, dBase := rangeBase (wx w 0 0 32), k := wi w 0 16 + 1, rows := e.1.1.2, cols := e.1.2.2
      outFormat := BitVec.ofNat 8 (wm w 19 2), opFormat := BitVec.ofNat 8 (wm w 21 4), chain := wm w 16 1 == 1 })

/-- GANG (R90, R94, R131): work items for the cluster's unit. -/
def execGang (c : CoreId) (w : InstrWord) (s : State) : Res :=
  let k := coreKey c
  let rank := k / 32
  let x := s.core k
  let t := x.exeTile
  let g := (s.cluster rank).gang
  let a := x.source (selA w) (wx w 0 32 32)
  let b := x.source (selB w) (wx w 0 64 32)
  let mine := g.holder == some t.grid || g.holder.isNone
  let ask := s.modGang rank (fun g =>
    { g with
      asking := if g.asking.contains k then g.asking else g.asking ++ [k]
      waiting := if g.waiting.any (fun e => e.1 == t.grid) then g.waiting
                 else g.waiting ++ [(t.grid, decide ((s.grid? t.grid).map (·.cls) = some .generate), s.time)] })
  let its := gangItems x k (((s.grid? t.grid).map (fun g => g.shape.toNat)).getD 0) s.time t w a.1 b.1
  let eff :=
    match firstStall (x.sourceWait (selA w) ++ x.sourceWait (selB w)) with
    | some f => s.stallExe k f
    | none =>
      if !mine then ask.stallExe k .gangUnit
      else if g.queue.length + its.length > 32 then s.stallExe k .gangQueue
      else
        let s := if g.holder.isNone then s.takeGang rank t.grid else s
        let s := s.modGang rank (fun g => { g with queue := g.queue ++ its, asking := g.asking.filter (· != k) })
        let s := s.modCore k (fun c => { c with nextId := c.nextId + its.length })
        (((s.popSource k (selA w) (wm w 17 1 == 1)).popSource k (selB w) (wm w 18 1 == 1)).issueExe k).handGang rank
  onCore "GANG" 0x1200 w (s.exeReady c) eff

/-- The item that a group takes next: in arrival order, those that arrived at one moment round-robin by core index after the core served
last, and while a chain is open only the chain's core's (R91). -/
def Gang.nextItem (g : Gang) (i : Nat) : Option GangItem :=
  let p := g.group i
  let mine := g.queue.filter (fun x => x.group == i && ((p.chain.map (fun c => c == x.core)).getD true))
  let turn := fun (x : GangItem) => (x.core % 32 + 33 - p.lastServed) % 17
  match mine.head? with
  | none => none
  | some f => some ((mine.filter (fun x => x.arrived == f.arrived)).foldl (fun b x => if turn x < turn b then x else b) f)

/-- An item as it starts: its operands read from the issuing core's scratchpad (R92). -/
def State.gangRead (s : State) (x : GangItem) : GangItem :=
  let c := s.core x.core
  let fmt := x.opFormat.toNat
  let codes := fun (base first n : Nat) =>
    (let bs := c.bytes base (elemBytes fmt (first + n)); (List.range n).map (fun i => elemAt fmt bs (first + i)))
  { x with a := codes x.aBase (x.aRow * x.k) (x.rows * x.k)
           b := ((List.range x.k).map (fun r => codes x.bBase (r * x.width + x.bCol) x.cols)).flatten }

/-- GANG_ITEM_START (R91): an idle group takes its next item; a chain's cells go on, others start from zero (R87). -/
def execGangItemStart (rank : BitVec 8) (group : BitVec 3) (s : State) : Res :=
  let r := rank.toNat
  let i := group.toNat
  let g := (s.cluster r).gang
  let it := g.nextItem i
  when "GANG_ITEM_START"
    (s.works && decide (i < gangGroups g.shape) && (g.group i).running.isNone && it.isSome)
    (match it with
     | none => s
     | some x => s.modGang r (fun g =>
         let p := g.group i
         { g.setGroup i { p with running := some (s.gangRead x), acc := if p.chain.isSome then p.acc else [], lastServed := x.core % 32 } with
           queue := g.queue.filter (fun y => y.id != x.id || y.core != x.core) }))

/-- The cells after an item: each adds its products in ascending k, one FP32 RNE addition each (R47, R87). -/
def gangCells (x : GangItem) (acc : Table Word32) : Table Word32 × Made :=
  let fmt := x.opFormat.toNat
  let va := x.a.map (elemVal fmt)
  let vb := x.b.map (elemVal fmt)
  (List.range (x.rows * x.cols)).foldl
    (fun p n =>
      let i := n / x.cols
      let j := n % x.cols
      let r := (List.range x.k).foldl
        (fun (r : FRes) k =>
          let q := prodVal (va.getD (i * x.k + k) .nan) (vb.getD (k * x.cols + j) .nan)
          let t := fadd r.v q.v
          ⟨t.v, (r.made.add q.made).add t.made⟩)
        (⟨at64 p.1 i j, {}⟩ : FRes)
      (put64 p.1 i j r.v, p.2.add r.made))
    (acc, {})

/-- GANG_ITEM_END (R91, R93, R94): a chained item keeps its results and the group; another starts its drain. -/
def execGangItemEnd (rank : BitVec 8) (group : BitVec 3) (s : State) : Res :=
  let r := rank.toNat
  let i := group.toNat
  let p := (s.cluster r).gang.group i
  when "GANG_ITEM_END"
    (s.works && (match p.running with | some x => x.chain || p.draining.isNone | none => false))
    (match p.running with
     | none => s
     | some x =>
       let res := gangCells x p.acc
       let q : GangGroup :=
         if x.chain then { p with running := none, acc := res.1, chain := some x.core }
         else { p with running := none, acc := [], done := res.1, draining := some x, chain := none }
       let s := s.modGang r (fun g => g.setGroup i q)
       let s := (s.tally x.ctx res.2).modGrid x.grid (fun g => { g with nans := g.nans + res.2.nan })
       s.handGang r)

/-- The bytes of one row of a drained result (R90): FP32, or bfloat16 or binary16 by RNE. -/
def drainRow (x : GangItem) (t : Table Word32) (i : Nat) : List Byte × Made :=
  let rs := (List.range x.cols).map (fun j => narrow x.outFormat.toNat .rne true (at64 t i j))
  (packElems x.outFormat.toNat (rs.map (·.1)), rs.foldl (fun (m : Made) r => m.add r.2) {})

/-- A drained result in the issuing core's scratchpad: row by row, in its place among the columns of the instruction. -/
def State.drainItem (s : State) (x : GangItem) (t : Table Word32) : State :=
  (List.range x.rows).foldl
    (fun s i =>
      let o := drainRow x t i
      (s.putSpad x.core (x.dBase + elemBytes x.outFormat.toNat ((x.aRow + i) * x.width + x.bCol)) o.1).tally x.ctx o.2) s

/-- GANG_DRAIN_DONE (R93): the results are in the issuing core's scratchpad. -/
def execGangDrainDone (rank : BitVec 8) (group : BitVec 3) (s : State) : Res :=
  let r := rank.toNat
  let i := group.toNat
  let p := (s.cluster r).gang.group i
  when "GANG_DRAIN_DONE" (s.works && p.draining.isSome)
    (match p.draining with
     | none => s
     | some x => (s.drainItem x p.done).modGang r (fun g => g.setGroup i { p with draining := none, done := [] }))

/-- Gang items of the cores that meet a test leave a unit, with their chains (R94). -/
def State.dropGang (s : State) (rank : Nat) (p : Nat → Bool) : State :=
  let drop := fun (g : GangGroup) =>
    { g with
      running := g.running.filter (fun x => !p x.core)
      draining := g.draining.filter (fun x => !p x.core)
      chain := g.chain.filter (fun c => !p c)
      acc := if (g.chain.map p).getD false || (g.running.map (fun x => p x.core)).getD false then [] else g.acc }
  (s.modGang rank (fun g =>
    { g with queue := g.queue.filter (fun x => !p x.core), asking := g.asking.filter (fun k => !p k), groups := g.groups.map (fun e => (e.1, drop e.2)) })).handGang rank

end Sys2Proof.Machine
end

