-- ==== Sys2Proof/Machine/Sender.lean ====
section
/-!
DEFINITION. What a sender does with an answer (R172, R180, R181, R200, R210 to R212), the frame copies of moves (R183), and the
acknowledgements of INVALIDATE (R209).
-/
namespace Sys2Proof.Machine

/-! ### Requests of the module itself -/

/-- A request of the module itself to another module takes a reply slot and leaves, or waits for one (R197); one to this module
stands before its own home and registrar logic (R198). -/
def State.sendOwn (s : State) (c : Nat) (dest : BitVec 15) (r : Request) (p : Purpose) : State :=
  let here := dest.toNat == s.self
  if !here ∧ s.slotsHeld ≥ replySlots then s.modFabric (fun f => { f with ownWaiting := f.ownWaiting ++ [(c, dest, r, p)] })
  else
    let tag := BitVec.ofNat 16 (if here then s.fabric.nextAccess else s.freeTag)
    let q := { r with dest := dest, src := BitVec.ofNat 15 s.self, tag := tag }
    let a : Access :=
      { id := s.fabric.nextAccess, ctx := c, req := q, purpose := p, stage := .sent, slot := !here, sentAt := s.time, rank := 0 }
    let s := s.modFabric (fun f => { f with accesses := f.accesses ++ [a], nextAccess := f.nextAccess + 1 })
    if here then s.modFabric (fun f => { f with arrived := f.arrived ++ [s.packet dest false q.cls 32 (.req q)] })
    else s.inject (s.packet dest false q.cls (32 + q.payload.length) (.req q))

/-- The oldest access that waits for a reply slot goes when one is free. -/
def State.slotNext (s : State) : State :=
  match s.fabric.accesses.find? (fun a => a.stage == .slot) with
  | some a => if s.slotsHeld < replySlots then s.route a else s
  | none => s

/-- So does the oldest waiting request of the module itself. -/
def State.ownFirst (s : State) : State :=
  match s.fabric.ownWaiting with
  | [] => s
  | (c, d, r, p) :: rest =>
    if s.slotsHeld ≥ replySlots then s
    else (s.modFabric (fun f => { f with ownWaiting := rest })).sendOwn c d r p

/-- What waits for a reply slot goes on as far as slots are free (R197): accesses, held INVALIDATEs, requests of the module itself, and
bearing requests. -/
def State.ownNext (s : State) : State :=
  let s := (List.range (s.fabric.accesses.countP (fun a => a.stage == .slot))).foldl (fun s _ => s.slotNext) s
  let s := (List.range s.fabric.ownWaiting.length).foldl (fun s _ => s.ownFirst) s
  let s := (s.cores.filter (fun e => (e.2.stores.head?.map (·.isInv)).getD false)).foldl (fun s e => s.pump e.1) s
  s.moreLookups

/-- A request of the Surveyor about a parcel, in the MEMORY class. -/
def moduleReq (job : BitVec 16) (op : ReqOp) (va arg : Nat) (gen : BitVec 16) (frame : BitVec 18) (payload : List Byte) : Request :=
  { dest := 0, fwd := false, src := 0, job := job, op := op, cls := .memory, refresh := false, prefetch := false,
    noCombine := false, tag := 0, gen := gen, frame := frame, va := BitVec.ofNat 56 va, size := 0, arg := BitVec.ofNat 64 arg,
    payload := payload }

/-! ### Frame copies (R183) -/

/-- Lines of a frame, and the lines of one copy that may be without an answer (notes/assumptions/7.md). -/
def frameLines : Nat := 16384
def copyWindow : Nat := 64

/-- Lines of a copy that have no answer yet. -/
def State.linesOpen (s : State) (job : BitVec 16) (pn : Nat) : Nat :=
  s.fabric.accesses.countP (fun a => a.purpose == .moveLine pn && a.req.job == job)

/-- One more line of a copy leaves, if its window and the reply slots have room. -/
def State.copyLine (s : State) (job : BitVec 16) (pn : Nat) : State :=
  match s.home.copies.find? (fun c => c.job == job && c.parcel == pn), s.parcel? job pn with
  | some c, some p =>
    if c.next < frameLines ∧ s.linesOpen job pn < copyWindow ∧ s.slotsHeld < replySlots then
      let r := moduleReq job .moveData (pn * frameBytes + 128 * c.next) 0 p.gen c.frame
        (s.getDram (p.frame * frameBytes + 128 * c.next) 128)
      let up := fun (h : Home) =>
        { h with copies := updateFirst (fun c => c.job == job && c.parcel == pn) (fun c => { c with next := c.next + 1 }) h.copies }
      (s.modHome up).sendOwn ((s.ctxOf job).getD 0) c.dst r (.moveLine pn)
    else s
  | _, _ => s

/-- As many lines of a copy leave as may. -/
def State.copyOn (s : State) (job : BitVec 16) (pn : Nat) : State :=
  (List.range copyWindow).foldl (fun s _ => s.copyLine job pn) s

/-- The old home starts to hold writes and to copy (R183 step 2). -/
def State.startCopy (s : State) (job : BitVec 16) (pn : Nat) (dst : BitVec 15) (frame : BitVec 18) : State :=
  match s.parcel? job pn with
  | some p =>
    if p.state = .resident then
      let s := s.modParcel job pn (fun p => { p with state := .moving })
      (s.modHome (fun h =>
        { h with copies := h.copies ++ [{ job := job, parcel := pn, dst := dst, frame := frame, start := s.time }] })).copyOn job pn
    else s
  | none => s

/-! ### What an answer does -/

/-- The parcel of an access. -/
def Access.parcel (a : Access) : Nat := parcelOf a.req.va.toNat

/-- The accesses that wait for a parcel's bearing go on; one that drew BEARING_MISS from the bearing now given waits 1 µs (R180). -/
def State.wakeParcel (s : State) (job : BitVec 16) (pn : Nat) (home : BitVec 15) (gen : BitVec 16) : State :=
  (s.fabric.accesses.filter (fun a => a.stage == .bearing && a.purpose != .lookup && a.req.job == job && a.parcel == pn)).foldl
    (fun s a =>
      if a.missed = some (home, gen) then s.modAccess a.id (fun a => { a with stage := .repeatAt (s.time + 1000), missed := none })
      else s.route a) s

/-- Core work that a settled access lets go on. -/
def State.pumpFor (s : State) (p : Purpose) : State :=
  match purposeCore p with
  | some k => ((s.cores.map (·.1)).filter (fun j => j / 32 == k / 32)).foldl (fun s j => s.pump j) s
  | none => s

/-- The accesses that wait for a parcel's bearing fail as the registrar refused it. -/
def State.failParcel (s : State) (job : BitVec 16) (pn : Nat) (code target reason : Nat) : State :=
  (s.fabric.accesses.filter (fun a => a.stage == .bearing && a.purpose != .lookup && a.req.job == job && a.parcel == pn)).foldl
    (fun s a => s.settleAndPump a none (accessErr code a.ctx a.req.va.toNat 128 target reason .none)) s

/-- The bytes that a request of a core concerns. -/
def reqLen (r : Request) : Nat :=
  match r.op with
  | .write => r.size.toNat + 1
  | .atomic => if atomWide r then 8 else 4
  | _ => 128

/-- A bearing learned from a registrar (R179): the parcel's frame here, or a bearing for the cache. -/
def State.learn (s : State) (job : BitVec 16) (pn : Nat) (home : BitVec 15) (frame : BitVec 18) (gen : BitVec 16) (attr : Byte) :
    State :=
  if home.toNat = s.self then s.grantFrame job pn frame gen attr else s.putBearing job pn home frame gen (byteAttr attr)

/-- A registrar's answer (R179, R199). -/
def State.lookupDone (s : State) (a : Access) (r : Reply) : State :=
  let s := s.dropAccess a.id
  let job := a.req.job
  let pn := a.parcel
  let s := match r.status with
    | .ok =>
      let h := BitVec.ofNat 15 r.home.toNat
      ((s.learn job pn h r.frame r.gen r.reason).wakeParcel job pn h r.gen)
    | st =>
      let s := if r.status = RStatus.denied ∧ r.reason = 3 then s.raise { code := 0x0109, ctx := some a.ctx } else s
      s.failParcel job pn (faultOf st) 0xFFFF r.reason.toNat
  s.moreLookups

/-- A correction is applied when it is newer (R181). -/
def State.correct (s : State) (job : BitVec 16) (pn : Nat) (r : Reply) : State :=
  match s.bearing? job pn with
  | some b =>
    if r.correction && newer r.gen b.gen then
      (s.putBearing job pn (BitVec.ofNat 15 r.home.toNat) r.frame r.gen b.attr).modHome
        (fun h => { h with bearingCorrections := h.bearingCorrections + 1 })
    else s
  | none => s

/-- A core's access has its answer (R172, R180, R200). -/
def State.accessDone (s : State) (a : Access) (r : Reply) : State :=
  let s := s.correct a.req.job a.parcel r
  match r.status with
  | .ok => s.settleAndPump a (some r.data) { code := 0 }
  | .retry => s.modAccess a.id (fun a => { a with stage := .retry (s.time + 1000), slot := false, resent := true })
  | .bearingMiss =>
    let s := s.dropBearing a.req.job a.parcel
    match a.purpose with
    | .prefetch _ _ => s.dropAccess a.id
    | _ => s.modAccess a.id (fun a =>
        { a with stage := .repeatAt s.time, slot := false, resent := true, missed := some (a.req.dest, a.req.gen) })
  | st => s.settleAndPump a none (accessErr (faultOf st) a.ctx a.req.va.toNat (reqLen a.req) 0xFFFF r.reason.toNat .none)

/-- An old frame released once its move has ended (R183 step 6). -/
def State.releaseOld (s : State) (frame : Nat) : State :=
  ((s.freeFrame frame).modHome (fun h => { h with reserved := h.reserved.filter (· != frame) })).framesFreed

/-- An answer reaches its access (R200); one for a timed-out request is discarded and counted (R211). -/
def State.answered (s : State) (a : Access) (r : Reply) : State :=
  match a.stage with
  | .timedOut _ => (s.dropAccess a.id).modCtx a.ctx (fun c => { c with orphanReplies := c.orphanReplies + 1 })
  | _ =>
    match a.purpose with
    | .lookup =>
      if a.discard then (s.dropAccess a.id).moreLookups
      else if r.status = .retry then s.modAccess a.id (fun a => { a with stage := .retry (s.time + 1000), slot := false })
      else s.lookupDone a r
    | .tally pn =>
      let s := s.dropAccess a.id
      if r.status = .denied ∧ r.reason = 3 then s.raise { code := 0x0109, ctx := some a.ctx }
      else if r.status = .ok ∧ r.correction then s.startCopy a.req.job pn (BitVec.ofNat 15 r.home.toNat) r.frame
      else s
    | .moveLine pn => (s.dropAccess a.id).copyOn a.req.job pn
    | .drain _ frame => (s.dropAccess a.id).releaseOld frame
    | _ => s.accessDone a r

/-- A reply of this module's home or registrar goes to its sender: to an access of this module, or into the reply network. -/
def State.sendReply (s : State) (r : Request) (rep : Reply) : State :=
  match s.fabric.accesses.find? (fun a => !a.slot && a.stage == .sent && a.req == r) with
  | some a => s.answered a rep
  | none =>
    if r.src.toNat = s.self then
      match s.fabric.accesses.find? (fun a => a.slot && a.req.tag == r.tag) with
      | some a => s.answered a rep
      | none => s
    else
      let dst := if r.fwd then (s.fabric.forwarded.find? (fun e => e.1 == r)).map (·.2) else none
      let s := s.modFabric (fun f => { f with forwarded := f.forwarded.filter (fun e => e.1 != r) })
      s.inject (s.packet (dst.getD rep.dest) true r.cls (16 + rep.data.length) (.rep rep))

/-- Replies to held requests, in order. -/
def State.sendReplies (s : State) (rs : List Request) (reps : List Reply) : State :=
  (rs.zip reps).foldl (fun s e => s.sendReply e.1 e.2) s

/-- The requests that a parcel holds are performed in arrival order and answered (R172, R183, R187); a bearing request that waited
is answered with the bearing. -/
def State.releaseHeld (s : State) (job : BitVec 16) (pn : Nat) : State :=
  match s.parcel? job pn with
  | none => s
  | some p =>
    let reqs := p.held
    let s := s.modParcel job pn (fun p => { p with held := [] })
    reqs.foldl (fun s r =>
      if r.op = .regLookup then
        let p := s.parcel? job pn
        s.sendReply r { s.answer r .ok 0 [] with
          home := BitVec.ofNat 16 s.self, frame := BitVec.ofNat 18 ((p.map (·.frame)).getD 0)
          gen := (p.map (·.gen)).getD 0, reason := (p.map (fun p => attrByte p.attr (if p.pinned then 2 else 0))).getD 0 }
      else let x := s.performHeld r; x.2.sendReply r x.1) s

/-! ### Arrivals -/

/-- A packet that has been delivered to this module. -/
def State.hasArrived (s : State) (p : Packet → Bool) : Bool := s.fabric.arrived.any p

/-- The first such packet taken away. -/
def takeFirst {α : Type} (p : α → Bool) : List α → List α
  | [] => []
  | a :: l => if p a then l else a :: takeFirst p l

/-- A packet that has left the place it waited in gives its input buffer back (R213). -/
def State.discharge (s : State) (q : Packet) : State :=
  match s.fabric.charged.find? (fun e => e.1 == q) with
  | some e => (s.modFabric (fun f => { f with charged := takeFirst (· == e) f.charged })).owe e.2 (poolOf q) q.env.len.toNat
  | none => s
def State.takeArrived (s : State) (p : Packet → Bool) : State :=
  match s.fabric.arrived.find? p with
  | some q => (s.modFabric (fun f => { f with arrived := takeFirst p f.arrived })).discharge q
  | none => s

/-- A packet that carries this request, this body. -/
def isReq (r : Request) (p : Packet) : Bool := p.body == .req r
def isBody (b : Body) (p : Packet) : Bool := p.body == b

/-- A request of a packet. -/
def reqOf (p : Packet) : Option Request := match p.body with | .req r => some r | _ => none

/-- Arrived requests ahead of one that touch its line (R152, R198): the one itself ends the search. -/
def aheadClear (r : Request) : List Packet → Bool
  | [] => true
  | p :: ps =>
    match reqOf p with
    | some q => if q == r then true else if sameLine q r && q.op != .regLookup then false else aheadClear r ps
    | none => aheadClear r ps

/-- A request of this module's own cores that stands before its home logic. -/
def State.ownSent (s : State) (r : Request) : Bool :=
  s.fabric.accesses.any (fun a => !a.slot && a.stage == .sent && a.req == r)

/-- No older access of the same core to the line stands before the home logic (R152, R156). -/
def State.ownOldest (s : State) (r : Request) : Bool :=
  match s.fabric.accesses.find? (fun a => !a.slot && a.stage == .sent && a.req == r) with
  | none => true
  | some a => !s.fabric.accesses.any (fun b =>
      decide (b.id < a.id) && !b.slot && b.stage == .sent && purposeCore b.purpose == purposeCore a.purpose &&
      sameLine b.req a.req && !s.home.parcels.any (fun p => p.held.any (· == b.req)))

/-- A held request is not handled a second time. -/
def State.isHeld (s : State) (r : Request) : Bool := s.home.parcels.any (fun p => p.held.any (· == r))

/-- A request can reach this module's home logic now: delivered, of this module's own, or from outside. -/
def State.canReach (s : State) (r : Request) : Bool :=
  s.mainUp && r.dest.toNat == s.self && aheadClear r s.fabric.arrived && !s.isHeld r &&
  (s.hasArrived (isReq r) || (if r.src.toNat = s.self then s.ownSent r && s.ownOldest r else true))

/-- The old home that a forwarded request's envelope names is kept for its reply (R235). -/
def State.keepOld (s : State) (r : Request) : State :=
  match s.fabric.arrived.find? (isReq r) with
  | some p => if r.fwd then s.modFabric (fun f => { f with forwarded := f.forwarded ++ [(r, p.env.src)] }) else s
  | none => s

/-- The request is taken in; one that comes from outside meets the waiting ones as it arrives (R214). -/
def State.takeIn (s : State) (r : Request) : State :=
  if s.hasArrived (isReq r) then (s.keepOld r).takeArrived (isReq r) else if r.src.toNat = s.self then s else s.slackOn r

/-! ### Acknowledgements of INVALIDATE -/

/-- An acknowledgement to the module that a copy came from. -/
def State.sendAck (s : State) (dst : BitVec 15) (cls : TClass) (va : Nat) (tag : BitVec 16) (issuer : BitVec 15) : State :=
  s.inject (s.packet dst true cls 16 (.invAck (BitVec.ofNat 56 va) tag issuer))

/-- Whether cores wait for it: their held work goes on. -/
def State.pumpCore (s : State) (x : Option (Nat × Nat)) : State :=
  match x with
  | some (k, _) => s.pump k
  | none => s

/-- The command that issued an INVALIDATE ends (R315). -/
def State.endInval (s : State) (x : Inval) (st : Nat) : State :=
  match x.cmd with
  | some q =>
    match (s.queue q).cur with
    | some c => s.finish c st 0 []
    | none => s
  | none => s

end Sys2Proof.Machine
end

