-- ==== Sys2Proof/Machine/Engines.lean ====
section
/-!
DEFINITION. The accesses of the module's engines to job memory (R150, R187, R210 to R212): each is made whole within the step of the
command that makes it.
-/
namespace Sys2Proof.Machine

/-- An engine's access brings its parcel in: a local registrar materialises it, the home pages it in (R175, R187). -/
def State.touch (s : State) (c pn : Nat) (fab : Fab) : State :=
  let job := (s.ctx c).job
  match s.parcel? job pn with
  | some p =>
    if p.state = .paged ∨ p.state = .pagingIn then ((s.beginPageIn job pn).pageIn job pn).releaseHeld job pn else s
  | none =>
    match s.entry? job pn with
    | some e => if e.state = .unmaterialised then (s.materialise job pn s.self fab).2 else s
    | none =>
      match fabReg fab pn with
      | some (.bearing h f g a) => if h.toNat = s.self then s.grantFrame job pn f g a else s
      | _ => s

/-- The module to which an engine's access to another home goes. -/
def State.homeOf (s : State) (c pn : Nat) (fab : Fab) : Nat :=
  let job := (s.ctx c).job
  match s.bearing? job pn with
  | some b => b.home.toNat
  | none =>
    match fabReg fab pn with
    | some (.bearing h _ _ _) => h.toNat
    | _ => s.registrar c pn

/-- The bearing of an engine's access: used, or counted as missed and entered from its registrar's answer (R178, R179, R181). -/
def State.engineBearing (s : State) (c pn : Nat) (fab : Fab) : State :=
  let job := (s.ctx c).job
  match s.bearing? job pn with
  | some b => s.touchBearing b
  | none =>
    let s := s.modHome (fun h => { h with bearingMisses := h.bearingMisses + 1 })
    match s.entry? job pn, fabReg fab pn with
    | some e, _ => s.putBearing job pn (BitVec.ofNat 15 e.home.toNat) e.frame e.gen e.attr
    | none, some (.bearing h f g a) => s.putBearing job pn h f g (byteAttr a)
    | none, _ => s

/-- An access that the mirrors discard (R309): counted at the addressed module. -/
def State.ignoreDoorbell (s : State) : State :=
  { s with regs := { s.regs with global := { s.regs.global with doorbellIgnored := satAdd s.regs.global.doorbellIgnored 1 } } }
def State.mirrorDiscard (s : State) (a : Nat) (bs : List Byte) : State :=
  if mirrorModule a = s.self then s.ignoreDoorbell else s.emit (.engineWrite (mirrorModule a) a bs)

/-- A request of an engine of this module. -/
def State.engineReq (s : State) (c : Nat) (op : ReqOp) (a n arg size : Nat) (payload : List Byte) : Request :=
  { dest := BitVec.ofNat 15 s.self, fwd := false, src := BitVec.ofNat 15 s.self, job := (s.ctx c).job, op := op,
    cls := .memory, refresh := false, prefetch := false, noCombine := false, tag := 0, gen := 0, frame := 0,
    va := BitVec.ofNat 56 a, size := BitVec.ofNat 8 (if op = .atomic then size else n - 1), arg := BitVec.ofNat 64 arg,
    payload := payload }

/-- How an engine's access to one line ends: discarded by a mirror, performed here or at another home, or failed with an error. -/
inductive PartEnd where
  | mirror
  | here
  | there (home : Nat) (line : List Byte)
  | failed (code target reason : Nat)
  deriving DecidableEq, Repr

/-- An engine's access goes to another home: its answer, or none within the timeout (R210). -/
def State.reachAway (s : State) (c pn a : Nat) (fab : Fab) : PartEnd :=
  match fabLine fab a with
  | some (.ok bs) => .there (s.homeOf c pn fab) bs
  | some (.failed st reason) => .failed (faultOf st) 0xFFFF reason.toNat
  | none => .failed 0x0205 (s.homeOf c pn fab) 0

/-- An engine's access reaches its line: at this module's home logic, or at another home (R198, R199, R210). -/
def State.reach (s : State) (c : Nat) (fab : Fab) (r : Request) : PartEnd × State :=
  let a := r.va.toNat
  let pn := parcelOf a
  let s := s.touch c pn fab
  if isMirror a then (.mirror, s)
  else
    match s.parcel? r.job pn, s.entry? r.job pn with
    | some _, _ =>
      (match s.homeAct r with
       | .perform => .here
       | .poison => .failed 0x0204 0xFFFF 0
       | .denied n => .failed 0x0201 0xFFFF n
       | _ => .failed 0x0201 0xFFFF 0, s)
    | none, some e =>
      if e.state = .unmaterialised then (.failed 0x0203 0xFFFF 0, s)
      else let t := s.engineBearing c pn fab; (t.reachAway c pn a fab, t)
    | none, none =>
      let t := s.engineBearing c pn fab
      if s.registrar c pn = s.self then (.failed 0x0202 0xFFFF 0, t) else (t.reachAway c pn a fab, t)

/-- An engine's request performed at this module's frame: it counts at the home, and meets what waits there (R171, R214). -/
def State.performOwn (s : State) (r : Request) : Reply × State :=
  ((s.countReq r.job (parcelOf r.va.toNat) s.self).slackOn r).performAt r

/-- One line part read by an engine: none when it fails, which raises its fault (R210, R212). -/
def State.readPart (s : State) (c : Nat) (att : Attrib) (fab : Fab) (part : Nat × Nat) : Option (List Byte) × State :=
  let r := s.engineReq c .read (lineOf part.1) 1 0 0 []
  let x := s.reach c fab r
  match x.1 with
  | .mirror => (some (zeros part.2), x.2)
  | .here => let y := x.2.performOwn r; (some (slice y.1.data (part.1 % 128) part.2), y.2)
  | .there _ bs => (some (slice bs (part.1 % 128) part.2), x.2)
  | .failed code target reason => (none, x.2.raise (accessErr code c part.1 part.2 target reason att))

/-- Line parts read in order; a failed part reads as the integer pattern of R212. -/
def readParts (c : Nat) (att : Attrib) (fab : Fab) : List (Nat × Nat) → State → List Byte × Bool × State
  | [], s => ([], true, s)
  | p :: ps, s =>
    let x := s.readPart c att fab p
    let y := readParts c att fab ps x.2
    ((x.1.getD (List.replicate p.2 0xFF)) ++ y.1, x.1.isSome && y.2.1, y.2.2)

/-- An engine reads job memory at the home, never a hoard (R150): the bytes, and whether every line came. -/
def State.engineRead (s : State) (c : Nat) (att : Attrib) (fab : Fab) (a n : Nat) : List Byte × Bool × State :=
  readParts c att fab (linesIn a n) s

/-- An engine's store or atomic has failed; without an answer its outcome is unknown (R200, R211). -/
def State.engineFailed (s : State) (c a n code target reason : Nat) (att : Attrib) : State :=
  (s.storeFailed c).raise { accessErr code c a n target reason att with unknown := code == 0x0205 }

/-- One line part written by an engine: whether it was performed. -/
def State.writePart (s : State) (c : Nat) (att : Attrib) (fab : Fab) (a : Nat) (bs : List Byte) : Bool × State :=
  let r := s.engineReq c .write a bs.length 0 0 bs
  let x := s.reach c fab r
  match x.1 with
  | .mirror => (true, x.2.mirrorDiscard a bs)
  | .here => (true, (x.2.performOwn r).2)
  | .there home _ => (true, x.2.emit (.engineWrite home a bs))
  | .failed code target reason => (false, x.2.engineFailed c a bs.length code target reason att)

/-- Line parts written in order. -/
def writeParts (c : Nat) (att : Attrib) (fab : Fab) : List (Nat × Nat) → List Byte → State → Bool × State
  | [], _, s => (true, s)
  | p :: ps, bs, s =>
    let x := s.writePart c att fab p.1 (bs.take p.2)
    let y := writeParts c att fab ps (bs.drop p.2) x.2
    (x.1 && y.1, y.2)

/-- An engine writes job memory: whether every part was performed. -/
def State.engineWrite (s : State) (c : Nat) (att : Attrib) (fab : Fab) (a : Nat) (bs : List Byte) : Bool × State :=
  writeParts c att fab (linesIn a bs.length) bs s

/-- An engine's 64-bit atomic ADD: the old value when it was performed (R324). -/
def State.engineAdd (s : State) (c : Nat) (att : Attrib) (fab : Fab) (a v : Nat) : Option Nat × State :=
  let r := s.engineReq c .atomic a 8 v 16 []
  let x := s.reach c fab r
  match x.1 with
  | .mirror => (some 0, x.2.mirrorDiscard a (natLE v 8))
  | .here => let y := x.2.performOwn r; (some (leNat y.1.data), y.2)
  | .there home bs => (some (field bs (a % 128) 8), x.2.emit (.engineAtomic home a 0 (BitVec.ofNat 64 v)))
  | .failed code target reason => (none, x.2.engineFailed c a 8 code target reason att)

end Sys2Proof.Machine
end

