-- ==== Sys2Proof/Machine/HomeRows.lean ====
section
/-!
DEFINITION. The memory side's steps: requests at their home (R172, R199), replies and what follows from them (R200, R210, R211,
R395), INVALIDATE (R207 to R209).
-/
namespace Sys2Proof.Machine

/-! ### Requests at their home -/

/-- A request of this module itself finds its parcel gone: it goes to the new home (R180). -/
def State.ownAway (s : State) (r : Request) : State :=
  match s.fabric.accesses.find? (fun a => !a.slot && a.stage == .sent && a.req == r) with
  | some a =>
    match s.home.forwards.find? (fun f => f.job == r.job && f.parcel == a.parcel) with
    | some f => s.sendTo a f.home f.frame f.gen
    | none => s.route a
  | none => s

/-- A READ, WRITE or ATOMIC that reaches this module's home logic (R199); a stopped module discards it (R384). -/
def State.homeRequest (s : State) (r : Request) : State :=
  let own := s.ownSent r
  let t := s.takeIn r
  if s.boot.state = .stopped then t
  else if own ∧ t.homeAct r = .away then t.ownAway r
  else
    match t.serve r with
    | (some rep, u) => u.sendReply r rep
    | (none, u) => u

/-- The guard of the three: the request can reach the home logic. -/
def State.homeReady (s : State) (r : Request) : Bool :=
  !isMirror r.va.toNat && s.canReach r && (!s.ownSent r || s.works)

/-- READ (R199). -/
def execRead (r : Request) (s : State) : Res := when "READ" (r.op == .read && s.homeReady r) (s.homeRequest r)

/-- WRITE (R199). -/
def execWrite (r : Request) (s : State) : Res := when "WRITE" (r.op == .write && s.homeReady r) (s.homeRequest r)

/-- ATOMIC (R199). -/
def execAtomic (r : Request) (s : State) : Res := when "ATOMIC" (r.op == .atomic && s.homeReady r) (s.homeRequest r)

/-! ### INVALIDATE -/

/-- An INVALIDATE from a copy, and the axis on which it came. -/
def invalidateOf (p : Packet) : Option Request :=
  match p.body with
  | .req r => if r.op = .invalidate then some r else none
  | _ => none

/-- The steps of a job's box in the + and − directions from this module on an axis (R207). A module outside the job relays too, and
nothing that reaches it names the box: its steps are a free value (notes/assumptions/8.md). -/
def State.boxHops (s : State) (job : BitVec 16) (axis : Nat) : Nat × Nat :=
  match s.ctxOf job with
  | some c => s.lineHops (s.ctx c).moduleSet axis
  | none => let h := Config.boxHops job.toNat axis; (h.1 % s.ringSize axis, h.2 % s.ringSize axis)

/-- The axes on which a module relays a copy that came on an axis (R207). -/
def relayAxes (axis : Nat) : List Nat := if axis = 0 then [1, 2] else if axis = 1 then [2] else []

/-- INVALIDATE_REQUEST (R207, R208): the copy is relayed, the range dropped, and the acknowledgement sent or awaited. -/
def State.invalidated (s : State) (p : Packet) (r : Request) : State :=
  let axes := relayAxes p.env.axis.toNat
  let hops := axes.map (fun x => (x, s.boxHops r.job x))
  let left := (hops.map (fun h => h.2.1 + h.2.2)).foldl (· + ·) 0
  let copies := (hops.map (fun h => s.lineCopies r h.1 h.2)).flatten
  let s := s.invalidateHere r.job r.va.toNat r.arg.toNat
  let s := copies.foldl (fun s q => s.inject q) s
  if left = 0 then s.sendAck p.env.src r.cls r.va.toNat r.tag r.src
  else
    let x : Relay := { issuer := r.src, tag := r.tag, dst := p.env.src, left := left, va := r.va.toNat, len := r.arg.toNat, job := r.job }
    s.modFabric (fun f => { f with relays := f.relays ++ [x] })

def execInvalidateRequest (p : Packet) (s : State) : Res :=
  let t := s.takeArrived (· == p)
  when "INVALIDATE_REQUEST" (s.mainUp && (invalidateOf p).isSome)
    (match invalidateOf p with
     | some r => if s.boot.state = .stopped then t else t.invalidated p r
     | none => s)

/-- The acknowledgement of a packet: the TAG of the INVALIDATE and its issuer. -/
def ackOf (p : Packet) : Option (BitVec 16 × BitVec 15) := match p.body with | .invAck _ tag issuer => some (tag, issuer) | _ => none

/-- The whole box has acknowledged an INVALIDATE: its slot is free, and it ends, or counts as an orphan when it had timed out or was
reset (R209, R211). -/
def State.invalDone (s : State) (x : Inval) : State :=
  let s := s.modFabric (fun f => { f with invals := f.invals.filter (fun y => y.id != x.id) })
  if x.orphan.isSome then (s.modCtx x.ctx (fun c => { c with orphanReplies := c.orphanReplies + 1 })).ownNext
  else ((s.endInval x stOk).pumpCore x.issuer).ownNext

/-- INVALIDATE_ACK (R209): counted at a relay, which passes one on when its subtree is complete, or at the issuer. -/
def State.acked (s : State) (p : Packet) (tag : BitVec 16) (issuer : BitVec 15) : State :=
  if issuer.toNat = s.self then
    match s.fabric.invals.find? (fun x => x.tag == tag) with
    | some x =>
      if x.left ≤ 1 then s.invalDone x
      else s.modFabric (fun f => { f with invals := updateFirst (fun y => y.id == x.id) (fun y => { y with left := y.left - 1 }) f.invals })
    | none => s
  else
    match s.fabric.relays.find? (fun x => x.tag == tag && x.issuer == issuer && x.left != 0) with
    | some x =>
      if x.left = 1 then
        (s.modFabric (fun f => { f with relays := takeFirst (· == x) f.relays })).sendAck x.dst p.env.cls x.va x.tag x.issuer
      else s.modFabric (fun f => { f with relays := updateFirst (· == x) (fun y => { y with left := y.left - 1 }) f.relays })
    | none => s

def execInvalidateAck (p : Packet) (s : State) : Res :=
  let t := s.takeArrived (· == p)
  when "INVALIDATE_ACK" (s.mainUp && (ackOf p).isSome && p.env.dest.toNat == s.self)
    (match ackOf p with
     | some a => t.acked p a.1 a.2
     | none => s)

/-! ### Replies -/

/-- The reply of a packet. -/
def isRep (r : Reply) (p : Packet) : Bool := p.body == .rep r

/-- REPLY (R200): delivered to this module or coming from outside; it reaches the access that holds its slot. -/
def State.replied (s : State) (r : Reply) : State :=
  match s.fabric.accesses.find? (fun a => a.slot && a.req.tag == r.tag) with
  | some a => (s.answered a r).ownNext
  | none => s

def execReply (r : Reply) (s : State) : Res :=
  when "REPLY" (s.mainUp && r.dest.toNat == s.self) ((s.takeArrived (isRep r)).replied r)

/-- Whether an access may be sent again at a moment; a bearing request needs a reply slot for it (R197). -/
def dueAt (s : State) (a : Access) (t : Nat) : Bool :=
  decide (t ≤ s.time) && (a.purpose != .lookup || decide (s.slotsHeld < replySlots))

/-- A bearing request sent again to its registrar (R172). -/
def State.lookupAgain (s : State) (a : Access) : State :=
  let here := a.req.dest.toNat == s.self
  let q := { a.req with tag := if here then a.req.tag else BitVec.ofNat 16 s.freeTag }
  let s := s.modAccess a.id (fun a => { a with req := q, stage := .sent, slot := !here })
  if here then s else s.inject (s.packet q.dest false q.cls 32 (.req q))

/-- RETRY_RESEND (R172): 1 µs after RETRY, the request takes a slot and goes again. -/
def execRetryResend (access : Nat) (s : State) : Res :=
  match s.access? access with
  | some a =>
    (match a.stage with
     | .retry t => when "RETRY_RESEND" (s.mainUp && dueAt s a t) (if a.purpose = .lookup then s.lookupAgain a else s.route a)
     | _ => .refused (.notOccurring "RETRY_RESEND"))
  | none => .refused (.notOccurring "RETRY_RESEND")

/-- The repeat of an access: a bearing unchanged since its BEARING_MISS waits 1 µs (R180). -/
def State.repeatNow (s : State) (a : Access) : State :=
  match s.bearing? a.req.job a.parcel with
  | some b =>
    if a.missed = some (b.home, b.gen) then
      s.modAccess a.id (fun a => { a with stage := .repeatAt (s.time + 1000), missed := none })
    else s.route a
  | none => s.route a

/-- BEARING_MISS_REPEAT (R180): the registrar is asked again, and the request repeated; a repeat to an unchanged bearing has waited
1 µs. -/
def execBearingMissRepeat (access : Nat) (s : State) : Res :=
  match s.access? access with
  | some a =>
    (match a.stage with
     | .repeatAt t => when "BEARING_MISS_REPEAT" (s.mainUp && dueAt s a t) (s.repeatNow a)
     | _ => .refused (.notOccurring "BEARING_MISS_REPEAT"))
  | none => .refused (.notOccurring "BEARING_MISS_REPEAT")

/-! ### Dead targets -/

/-- The fabric timeout of a context in ns (R210). -/
def State.fabricTimeout (s : State) (c : Nat) : Nat := (s.ctx c).fabricTimeout.toNat * 1000

/-- The access has left the module and waits for an answer. -/
def Access.waits (a : Access) : Bool :=
  a.left && (match a.stage with | .sent => true | .retry _ => true | .repeatAt _ => true | .bearing => true | _ => false)

/-- A slot that stays reserved to a timed-out request (R211). -/
def State.keepSlot (s : State) (a : Access) : State :=
  if a.slot then s.modFabric (fun f => { f with accesses := f.accesses ++ [{ a with stage := .timedOut s.time }] }) else s

/-- The error of a request without an answer (R210, R211). -/
def deadErr (a : Access) (target : Nat) : ErrSpec :=
  { accessErr 0x0205 a.ctx a.req.va.toNat (reqLen a.req) target 0 .none with unknown := changes a.req.op }

/-- An access times out (R210). -/
def State.timeOut (s : State) (a : Access) : State :=
  let target := a.req.dest.toNat
  match a.purpose with
  | .lookup =>
    let s := (s.dropAccess a.id).keepSlot a
    let s := (s.fabric.accesses.filter (fun b => b.stage == .bearing && b.purpose != .lookup && b.req.job == a.req.job && b.parcel == a.parcel)).foldl
      (fun s b => s.settleAndPump b none (deadErr b target)) s
    s.moreLookups
  | .tally _ => ((s.dropAccess a.id).keepSlot a)
  | .moveLine _ => ((s.dropAccess a.id).keepSlot a)
  | .drain _ frame => ((s.dropAccess a.id).keepSlot a).releaseOld frame
  | _ => ((s.settle a none (deadErr a target)).keepSlot a).pumpFor a.purpose

/-- An INVALIDATE times out: no module is known (R210); its slot stays reserved (R211). -/
def State.timeOutInval (s : State) (x : Inval) : State :=
  let s := s.modFabric (fun f =>
    { f with invals := updateFirst (fun y => y.id == x.id) (fun y => { y with orphan := some s.time }) f.invals })
  let att := match x.cmd with | some q => Attrib.cmd (.queue (BitVec.ofNat 8 q)) | none => .none
  let s := s.raise { code := 0x0205, ctx := some x.ctx, va := x.va, len := 0xFF, detail := x.len, attr := att }
  (s.endInval x stFabricDead).pumpCore x.issuer

/-- FABRIC_TIMEOUT (R210): the access or the INVALIDATE of this number has had no answer within its context's timeout. -/
def execFabricTimeout (access : Nat) (s : State) : Res :=
  match s.access? access with
  | some a =>
    when "FABRIC_TIMEOUT" (s.mainUp && a.waits && decide (a.sentAt + s.fabricTimeout a.ctx ≤ s.time)) (s.timeOut a)
  | none =>
    match s.fabric.invals.find? (fun x => x.id == access) with
    | some x =>
      when "FABRIC_TIMEOUT" (s.mainUp && x.orphan.isNone && decide (x.sentAt + s.fabricTimeout x.ctx ≤ s.time)) (s.timeOutInval x)
    | none => .refused (.notOccurring "FABRIC_TIMEOUT")

/-- REPLY_SLOT_RECLAIM (R395): the later of the timeout and 100 µs after the target was declared unreachable has passed. -/
def execReplySlotReclaim (access : Nat) (s : State) : Res :=
  let lost := fun (t : Nat) (m : Nat) => s.fabric.unreachable.any (fun u => u.1 == m && decide (max t (u.2 + 100000) ≤ s.time))
  match s.access? access with
  | some a =>
    (match a.stage with
     | .timedOut t => when "REPLY_SLOT_RECLAIM" (s.mainUp && lost t a.req.dest.toNat) (s.dropAccess access).ownNext
     | _ => .refused (.notOccurring "REPLY_SLOT_RECLAIM"))
  | none =>
    match s.fabric.invals.find? (fun x => x.id == access) with
    | some x =>
      when "REPLY_SLOT_RECLAIM" (s.mainUp && (x.orphan.map (fun t => x.mods.any (fun m => lost t m.toNat))).getD false)
        (s.modFabric (fun f => { f with invals := f.invals.filter (fun y => y.id != x.id) })).ownNext
    | none => .refused (.notOccurring "REPLY_SLOT_RECLAIM")

end Sys2Proof.Machine
end

