-- ==== Sys2Proof/Machine/Registrar.lean ====
section
/-!
DEFINITION. The registrar's and the Surveyor's steps on parcels: bearing requests (R179), tallies and moves (R171, R182 to R184), and
paging (R186, R187).
-/
namespace Sys2Proof.Machine

/-! ### Bearing requests -/

/-- A refusal of a request. -/
def State.refuse (s : State) (r : Request) (st : RStatus) (reason : Nat) : State := s.sendReply r (s.answer r st reason [])

/-- The registrar's answer: the entry's fields, with ATTR and POLICY in the REASON byte (R179; notes/assumptions/27.md). -/
def State.bearingReply (s : State) (r : Request) (e : CadEntry) : Reply :=
  { s.answer r .ok 0 [] with home := e.home, frame := e.frame, gen := e.gen, reason := attrByte e.attr e.policy }

/-- A bearing request waits at the parcel's home for its page-in, or draws RETRY (R172). -/
def State.holdLookup (s : State) (r : Request) : State :=
  match s.holdOrRetry r with
  | (some rep, t) => t.sendReply r rep
  | (none, t) => t

/-- The module that a HINT PREFER names for the first touch of a parcel (R193). -/
def State.preferred (s : State) (c pn : Nat) : Option Nat :=
  ((s.ctx c).prefers.find? (fun p => decide (p.1 ≤ pn) && decide (pn < p.1 + p.2.1))).map (fun p => p.2.2.toNat)

/-- A registrar answers once it has materialised or paged in the parcel (R172, R175, R187). -/
def State.lookedUp (s : State) (c : Nat) (r : Request) (e : CadEntry) (fab : Fab) : State :=
  let pn := e.parcel
  match e.state with
  | .unmaterialised =>
    let x := s.materialise r.job pn ((s.preferred c pn).getD r.src.toNat) fab
    match x.1, x.2.entry? r.job pn with
    | true, some e' => x.2.sendReply r (x.2.bearingReply r e')
    | _, _ => s.refuse r .noFrame 0
  | .paged =>
    if e.home.toNat = s.self then s.holdLookup r
    else
      match fabReg fab pn with
      | some (.bearing h f g _) =>
        let up := fun (e : CadEntry) => { e with state := .resident, home := BitVec.ofNat 16 h.toNat, frame := f, gen := g }
        let s := s.modEntry r.job pn up
        s.sendReply r (s.bearingReply r (up e))
      | _ => s
  | .pagingIn => if e.home.toNat = s.self then s.holdLookup r else s
  | _ => s.sendReply r (s.bearingReply r e)

/-- REG_LOOKUP (R179, R199). -/
def State.regLookup (s : State) (r : Request) (fab : Fab) : State :=
  let s := s.takeIn r
  if s.boot.state = .stopped then s
  else
    match s.ctxOf r.job with
    | none => s.refuse r .denied 1
    | some c =>
      if r.arg.toNat % 2 ^ 32 ≠ (s.ctx c).setCrc.toNat then (s.refuse r .denied 3).raise { code := 0x0109, ctx := some c }
      else
        match s.entry? r.job (parcelOf r.va.toNat) with
        | none => s.refuse r .addrUnmapped 0
        | some e => s.lookedUp c r e fab

/-- A bearing request of this module to its own registrar stands before it. -/
def State.registrarReach (s : State) (r : Request) : Bool :=
  s.mainUp && !s.procDown .surveyor && r.dest.toNat == s.self && !s.isHeld r && (s.hasArrived (isReq r) || r.src.toNat != s.self || s.ownSent r)

def execRegLookup (r : Request) (fab : Fab) (s : State) : Res :=
  when "REG_LOOKUP" (r.op == .regLookup && s.registrarReach r) (s.regLookup r fab)

/-! ### Tallies and the decision to move -/

/-- Request counts in the order of TOP_REQ: most requests first, ties to the lowest module (R171). -/
def insertCount (e : Nat × Nat) : List (Nat × Nat) → List (Nat × Nat)
  | [] => [e]
  | x :: xs => if e.2 > x.2 ∨ (e.2 = x.2 ∧ e.1 < x.1) then e :: x :: xs else x :: insertCount e xs
def sortCounts (l : List (Nat × Nat)) : List (Nat × Nat) := l.foldr insertCount []

/-- The 40 bytes of a tally report (R171, R195). -/
def reportBytes (self : Nat) (counts : List (Nat × Nat)) : List Byte :=
  let remote := sortCounts (counts.filter (fun e => e.1 != self))
  let top := remote.take 4
  let rest := (remote.drop 4).foldl (fun n e => n + e.2) 0
  let recs := (List.range 4).map (fun i => top.getD i (0, 0))
  (recs.map (fun e => natLE e.1 2 ++ natLE e.2 4 ++ zeros 2)).flatten ++ natLE (tget counts self 0) 4 ++ natLE rest 4

/-- One parcel's epoch ends. -/
def State.endEpoch (s : State) (p : HomeParcel) : State :=
  let total := p.counts.foldl (fun n e => n + e.2) 0
  let s := s.modParcel p.job p.parcel (fun q => { q with counts := [], lastEpoch := total })
  match s.ctxOf p.job with
  | some c =>
    if p.counts.any (fun e => e.1 != s.self && e.2 != 0) then
      let r := moduleReq p.job .tallyReport (p.parcel * frameBytes) (s.ctx c).setCrc.toNat p.gen 0 (reportBytes s.self p.counts)
      s.sendOwn c (BitVec.ofNat 15 (s.registrar c p.parcel)) r (.tally p.parcel)
    else s
  | none => s

/-- TALLY_EPOCH_END (R171): 1 ms after the last. -/
def execTallyEpochEnd (s : State) : Res :=
  let t := s.home.parcels.foldl (fun s p => s.endEpoch p) s
  when "TALLY_EPOCH_END" (s.surveys && decide (s.home.lastEpochEnd + 1000000 ≤ s.time))
    (t.modHome (fun h => { h with lastEpochEnd := s.time }))

/-- The least count of requests in an epoch that moves a parcel (R174, R182). -/
def State.moveThreshold (s : State) (e : CadEntry) : Nat := if e.policy = 3 then 1024 else s.regs.global.migrateThreshold.toNat

/-- A forwarding record may be reused (R180). -/
def State.reusable (s : State) (f : FwdRec) : Bool := f.aged || decide (f.made + 10000000 < s.time)

/-- This module can make a forwarding record (R180, R182). -/
def State.canForward (s : State) : Bool := decide (s.home.forwards.length < 1024) || s.home.forwards.any s.reusable

/-- Whether a module can make a forwarding record, as it answers; none when it does not (R180, R182). -/
def State.canForwardAt (s : State) (fab : Fab) (m : Nat) : Option Bool :=
  if m = s.self then some s.canForward
  else
    match fabReg fab (recordAnswer m) with
    | some .done => some true
    | some _ => some false
    | none => none

/-- The free frame below its high-water mark of the module that a parcel would move to, as it answers (R182). -/
def State.moveFrame (s : State) (m : Nat) (fab : Fab) : Option Nat := s.frameAt true fab m

/-- Moves in progress out of and into a module that this registrar knows of. -/
def State.movesFrom (s : State) (m : Nat) : Nat :=
  max (s.home.cadastre.countP (fun e => e.state == .moving && e.home.toNat == m)) (if m = s.self then s.home.copies.length else 0)
def State.movesTo (s : State) (m : Nat) : Nat :=
  max (s.home.cadastre.countP (fun e => e.state == .moving && (match e.moveTo with | some x => x.1.toNat == m | none => false)))
    (if m = s.self then s.home.incoming.length else 0)

/-- The records of TOP_REQ, most requests first (R171, R182). -/
def CadEntry.ranked (e : CadEntry) : List (Nat × Nat) := sortCounts (e.topReq.map (fun x => (x.1.toNat, x.2.toNat)))

/-- The conditions of R182 on the counts, policy, state and time of an entry. -/
def State.wantsMove (s : State) (e : CadEntry) : Bool :=
  match e.ranked with
  | t :: rest =>
    let n := t.2
    e.state == .resident && (e.policy == 0 || e.policy == 3) && !attrNoMigrate e.attr &&
    decide (n ≥ s.moveThreshold e) && decide (n ≥ 2 * e.homeCount.toNat) &&
    decide (n ≥ 2 * ((rest.head?.map (fun x => x.2)).getD 0)) && decide (t.1 ≠ e.home.toNat) &&
    (match e.lastMove with | some l => decide (l + s.regs.global.migrateCooldown.toNat * 1000000 ≤ s.time) | none => true) &&
    decide (s.movesFrom e.home.toNat < 4) && decide (s.movesTo t.1 < 4)
  | [] => false

/-- A move is begun by its registrar: the entry MOVING, the new home asked for a frame (R183 step 1). -/
def State.beginMove (s : State) (e : CadEntry) (m frame : Nat) : State :=
  let s := s.trace.modEntry e.job e.parcel (fun e =>
    { e with state := .moving, moveTo := some (BitVec.ofNat 15 m, BitVec.ofNat 18 frame), moveStart := s.time })
  if m = s.self then
    s.modHome (fun h => { h with
      reserved := h.reserved ++ [frame]
      incoming := h.incoming ++ [{ job := e.job, parcel := e.parcel, frame := frame, gen := e.gen, attr := attrByte e.attr e.policy }] })
  else s.emit (.ctrl m (.frameAsk e.job e.parcel))

/-- The decision of R182 and R183 at a tally report: the state, and where the parcel goes. -/
def State.decideMove (s : State) (e : CadEntry) (fab : Fab) : State × Option (Nat × Nat) :=
  if !s.wantsMove e then (s, none)
  else
    let m := (e.ranked.head?.map (fun x => x.1)).getD 0
    match s.moveFrame m fab, s.canForwardAt fab e.home.toNat with
    | some f, some true => (s.beginMove e m f, some (m, f))
    | some _, some false => (s.modHome (fun h => { h with movesDeferred := h.movesDeferred + 1 }), none)
    | _, _ => (s, none)

/-- TALLY_REPORT (R171, R182, R199): the counts replaced, and the move decided. The answer to the old home carries the start of its move
as a correction (notes/assumptions/28.md). -/
def State.tallied (s : State) (r : Request) (fab : Fab) : State :=
  let s := s.takeIn r
  if s.boot.state = .stopped then s
  else
    match s.ctxOf r.job with
    | none => s.refuse r .denied 1
    | some c =>
      if r.arg.toNat % 2 ^ 32 ≠ (s.ctx c).setCrc.toNat then (s.refuse r .denied 3).raise { code := 0x0109, ctx := some c }
      else
        let pn := parcelOf r.va.toNat
        let recs := (List.range 4).map (fun i => (BitVec.ofNat 16 (field r.payload (8 * i) 2), BitVec.ofNat 32 (field r.payload (8 * i + 2) 4)))
        let up := fun (e : CadEntry) =>
          { e with topReq := recs.filter (fun x => x.2 != 0), homeCount := BitVec.ofNat 32 (field r.payload 32 4),
                   otherCount := BitVec.ofNat 32 (field r.payload 36 4) }
        match s.entry? r.job pn with
        | none => s.refuse r .addrUnmapped 0
        | some e =>
          let x := (s.modEntry r.job pn up).decideMove (up e) fab
          match x.2 with
          | some (m, f) =>
            x.1.sendReply r { x.1.answer r .ok 0 [] with
              correction := true, home := BitVec.ofNat 16 m, frame := BitVec.ofNat 18 f, gen := e.gen }
          | none => x.1.refuse r .ok 0

def execTallyReport (r : Request) (fab : Fab) (s : State) : Res :=
  when "TALLY_REPORT" (r.op == .tallyReport && s.registrarReach r) (s.tallied r fab)

/-! ### Moves -/

/-- The attributes and the policy of a parcel that arrives, by its entry (R171, R183 step 1); `told` is what a registrar elsewhere has told
this module (notes/assumptions/28.md). -/
def State.incomingAttr (s : State) (job : BitVec 16) (pn : Nat) (told : Byte) : Byte :=
  match s.entry? job pn with
  | some e => attrByte e.attr e.policy
  | none => told

/-- The frame of an arriving copy, reserved with its first line if it is free. -/
def State.openIncoming (s : State) (r : Request) : State :=
  let pn := parcelOf r.va.toNat
  if s.home.incoming.any (fun x => x.job == r.job && x.parcel == pn) then s
  else if s.usedFrames.contains r.frame.toNat then s
  else
    let told := ((s.bearing? r.job pn).map (·.attr)).getD (s.entryElsewhere r.job pn)
    s.modHome (fun h => { h with
      reserved := h.reserved ++ [r.frame.toNat]
      incoming := h.incoming ++ [{ job := r.job, parcel := pn, frame := r.frame.toNat, gen := r.gen, attr := s.incomingAttr r.job pn told }] })

/-- The last line of a copy has come: the parcel stands here behind its drain (R183 steps 3 and 5). -/
def State.closeIncoming (s : State) (x : Incoming) : State :=
  let byte := s.incomingAttr x.job x.parcel x.attr
  let p : HomeParcel :=
    { job := x.job, parcel := x.parcel, frame := x.frame, gen := x.gen + 1, attr := byteAttr byte, state := .resident
      pinned := bytePinned byte, awaitDrain := true }
  let s := s.modHome (fun h => { h with
    incoming := h.incoming.filter (fun y => !(y.job == x.job && y.parcel == x.parcel))
    reserved := h.reserved.filter (· != x.frame)
    parcels := h.parcels ++ [p] })
  match s.ctxOf x.job with
  | some c => let reg := s.registrar c x.parcel; if reg = s.self then s else s.emit (.ctrl reg (.copyDone x.job x.parcel))
  | none => s

/-- A line of a copy written at its new home (R195). -/
def State.moveLine (s : State) (r : Request) : State :=
  let s := s.takeIn r
  if s.boot.state = .stopped then s
  else if (s.ctxOf r.job).isNone then s.refuse r .denied 1
  else
    let pn := parcelOf r.va.toNat
    let s := s.openIncoming r
    match s.home.incoming.find? (fun x => x.job == r.job && x.parcel == pn) with
    | none => s.refuse r .bearingMiss 0
    | some x =>
      let la := x.frame * frameBytes + lineOf (r.va.toNat % frameBytes)
      let s := (s.putDram la (slice r.payload 0 128)).moved la 128
      let x := { x with got := x.got + 1 }
      let s := s.modHome (fun h =>
        { h with incoming := updateFirst (fun y => y.job == x.job && y.parcel == x.parcel) (fun _ => x) h.incoming })
      let s := if x.got = frameLines then s.closeIncoming x else s
      s.refuse r .ok 0

/-- MOVE_DATA (R195, R183). -/
def execMoveData (r : Request) (s : State) : Res :=
  when "MOVE_DATA" (r.op == .moveData && s.registrarReach r) (s.moveLine r)

/-- A held request leaves for the new home, marked as forwarded (R183 step 4); one of this module takes a slot. -/
def State.forwardHeld (s : State) (dst : BitVec 15) (frame : BitVec 18) (gen : BitVec 16) (r : Request) : State :=
  match s.fabric.accesses.find? (fun a => !a.slot && a.stage == .sent && a.req == r) with
  | some a =>
    let q := { r with dest := dst, fwd := true, tag := BitVec.ofNat 16 s.freeTag, frame := frame, gen := gen }
    (s.modAccess a.id (fun a => { a with req := q, slot := true })).inject (s.packet dst false q.cls (32 + q.payload.length) (.req q))
  | none => s.forwardReq r dst

/-- A forwarding record made, in place of the oldest that may be reused when the table is full (R180). -/
def State.addForward (s : State) (f : FwdRec) : State :=
  let old := s.home.forwards.filter (fun x => !(x.job == f.job && x.parcel == f.parcel))
  let keep := if old.length < 1024 then old else
    match old.find? s.reusable with
    | some x => takeFirst (· == x) old
    | none => old
  s.modHome (fun h => { h with forwards := keep ++ [f] })

/-- The old home hears of the switch (R183 steps 4 and 6): its held writes go to the new home, DRAIN_DONE follows them, and the frame is
released once that is answered. -/
def State.giveUp (s : State) (job : BitVec 16) (pn : Nat) (dst : BitVec 15) (frame : BitVec 18) (gen : BitVec 16) : State :=
  match s.parcel? job pn with
  | none => s
  | some p =>
    let s := p.held.foldl (fun s r => s.forwardHeld dst frame gen r) s
    let s := s.modHome (fun h => { h with
      parcels := h.parcels.filter (fun q => !(q.job == job && q.parcel == pn))
      copies := h.copies.filter (fun q => !(q.job == job && q.parcel == pn))
      reserved := h.reserved ++ [p.frame] })
    let s := s.addForward { job := job, parcel := pn, home := dst, frame := frame, gen := gen, made := s.time }
    s.sendOwn ((s.ctxOf job).getD 0) dst (moduleReq job .drainDone (pn * frameBytes) 0 gen frame []) (.drain pn p.frame)

/-- Held requests of this module's own, which need a slot each to leave. -/
def State.ownHeld (s : State) (p : HomeParcel) : Nat := p.held.countP s.ownSent

/-- The parcel moves away from this module: its held requests can leave, and there is room for a forwarding record (R180). -/
def State.canGive (s : State) (job : BitVec 16) (pn : Nat) : Bool :=
  match s.parcel? job pn with
  | some p => p.state == .moving && decide (s.slotsHeld + s.ownHeld p ≤ replySlots) && s.canForward
  | none => false

/-- A move is still within its bound at a moment, by the clock of its copy where this module makes it (R184): the switch comes at most
`late` after the 50 µs of the copy. -/
def State.moveInTime (s : State) (job : BitVec 16) (pn start late : Nat) : Bool :=
  let t := ((s.home.copies.find? (fun x => x.job == job && x.parcel == pn)).map (·.start)).getD start
  decide (s.time ≤ t + 50000 + late)

/-- The registrar switches the entry (R183 step 3). -/
def State.switchEntry (s : State) (e : CadEntry) (m : BitVec 15) (f : BitVec 18) : State :=
  let up := fun (e : CadEntry) =>
    { e with state := .resident, prevHome := e.home, home := BitVec.ofNat 16 m.toNat, frame := f, gen := e.gen + 1, moveTo := none
             lastMove := some s.time }
  let s := (s.trace.modEntry e.job e.parcel up).modHome (fun h => { h with movesDone := h.movesDone + 1 })
  if e.home.toNat = s.self then s.giveUp e.job e.parcel m f (e.gen + 1)
  else s.emit (.ctrl e.home.toNat (.switched e.job e.parcel m f (e.gen + 1)))

/-- The copy to this module is complete. -/
def State.arrivedHere (s : State) (job : BitVec 16) (pn : Nat) : Bool := ((s.parcel? job pn).map (·.awaitDrain)).getD false

/-- MOVE_COPY_COMPLETE (R183): at the registrar, or at the old home that hears of the switch. -/
def execMoveCopyComplete (m : MoveSwitch) (s : State) : Res :=
  match m with
  | .registrar job parcel =>
    (match s.entry? job parcel.toNat with
     | some e =>
       (match e.moveTo with
        | some (dst, f) =>
          when "MOVE_COPY_COMPLETE"
            (s.surveys && e.state == .moving && s.moveInTime job e.parcel e.moveStart 1000 && (dst.toNat != s.self || s.arrivedHere job e.parcel) &&
             (e.home.toNat != s.self || s.canGive job e.parcel))
            (s.switchEntry e dst f)
        | none => .refused (.notOccurring "MOVE_COPY_COMPLETE"))
     | none => .refused (.notOccurring "MOVE_COPY_COMPLETE"))
  | .oldHome job parcel home frame gen =>
    when "MOVE_COPY_COMPLETE" (s.surveys && s.canGive job parcel.toNat && s.moveInTime job parcel.toNat s.time 2000)
      (s.giveUp job parcel.toNat home frame gen)

/-- DRAIN_DONE (R183 step 5): the new home performs what it has held, in arrival order. -/
def State.drained (s : State) (r : Request) : State :=
  let s := s.takeIn r
  let pn := parcelOf r.va.toNat
  if s.boot.state = .stopped then s
  else if (s.ctxOf r.job).isNone then s.refuse r .denied 1
  else if s.arrivedHere r.job pn then
    ((s.modParcel r.job pn (fun p => { p with awaitDrain := false, gen := r.gen })).releaseHeld r.job pn).refuse r .ok 0
  else s.refuse r .bearingMiss 0

def execDrainDone (r : Request) (s : State) : Res :=
  when "DRAIN_DONE" (r.op == .drainDone && s.registrarReach r) (s.drained r)

/-- The registrar's part of an abandoned move (R184). -/
def State.abandonEntry (s : State) (job : BitVec 16) (pn : Nat) : State :=
  match s.entry? job pn with
  | some e =>
    if e.state = .moving then
      let s := s.trace.modEntry job pn (fun e => { e with state := .resident, moveTo := none, lastMove := some s.time, abandonedAt := some s.time })
      let s := s.modHome (fun h => { h with movesAbandoned := h.movesAbandoned + 1 })
      let tell := fun (s : State) (m : Nat) => if m = s.self then s else s.emit (.ctrl m (.abandon job pn))
      let s := match e.moveTo with | some (m, _) => tell s m.toNat | none => s
      tell s e.home.toNat
    else s
  | none => s

/-- The new home's part: its frame released. -/
def State.abandonIncoming (s : State) (job : BitVec 16) (pn : Nat) : State :=
  match s.home.incoming.find? (fun x => x.job == job && x.parcel == pn) with
  | some x => (s.releaseOld x.frame).modHome (fun h => { h with incoming := takeFirst (· == x) h.incoming })
  | none =>
    match s.parcel? job pn with
    | some p =>
      if p.awaitDrain then
        let held := p.held
        let s := (s.freeFrame p.frame).modHome (fun h => { h with parcels := h.parcels.filter (fun q => !(q.job == job && q.parcel == pn)) })
        (held.foldl (fun s r => s.refuse r .bearingMiss 0) s).framesFreed
      else s
    | none => s

/-- The old home's part: it performs its held writes itself. -/
def State.abandonCopy (s : State) (job : BitVec 16) (pn : Nat) : State :=
  if s.home.copies.any (fun x => x.job == job && x.parcel == pn) then
    let s := s.modHome (fun h => { h with copies := h.copies.filter (fun x => !(x.job == job && x.parcel == pn)) })
    (s.modParcel job pn (fun p => { p with state := .resident })).releaseHeld job pn
  else s

/-- When the move has been in progress for 50 µs, as far as this module measures it (R184). -/
def State.moveOverdue (s : State) (job : BitVec 16) (pn : Nat) : Bool :=
  match s.entry? job pn, s.home.copies.find? (fun x => x.job == job && x.parcel == pn) with
  | some e, c =>
    if e.state = .moving then decide (e.moveStart + 50000 ≤ s.time) else (match c with | some c => decide (c.start + 50000 ≤ s.time) | none => false)
  | none, some c => decide (c.start + 50000 ≤ s.time)
  | none, none => s.home.incoming.any (fun x => x.job == job && x.parcel == pn) || s.arrivedHere job pn

/-- MOVE_ABANDON (R184). -/
def execMoveAbandon (job : BitVec 16) (parcel : BitVec 35) (s : State) : Res :=
  let pn := parcel.toNat
  when "MOVE_ABANDON" (s.surveys && s.moveOverdue job pn) (((s.abandonEntry job pn).abandonIncoming job pn).abandonCopy job pn)

/-- FORWARDING_RECORD_AGED (R180). -/
def execForwardingRecordAged (job : BitVec 16) (parcel : BitVec 35) (s : State) : Res :=
  let mine := fun (f : FwdRec) => f.job == job && f.parcel == parcel.toNat && !f.aged && decide (f.made + 10000000 ≤ s.time)
  when "FORWARDING_RECORD_AGED" (s.surveys && s.home.forwards.any mine)
    (s.modHome (fun h => { h with forwards := updateFirst mine (fun f => { f with aged := true }) h.forwards }))

/-! ### Paging -/

/-- PAGE_OUT_START (R186): above the high-water mark, or on the way from there to the low-water mark. -/
def execPageOutStart (s : State) : Res :=
  when "PAGE_OUT_START" (s.surveys && (s.aboveHigh || s.home.paging) && !s.atLow && s.coldest.isSome && s.freeSlot.isSome)
    (pageOuts s.usedFrames.length (s.modHome (fun h => { h with paging := true })))

/-- PAGE_OUT_DONE (R187): the frame lies in its slot, and is released. -/
def State.pagedOut (s : State) (p : HomeParcel) : State :=
  let s := { s with hostMem := memCopy s.dram (p.frame * frameBytes) s.hostMem (s.slotAddr (p.slot.getD 0)) frameBytes }
  let s := s.modParcel p.job p.parcel (fun p => { p with state := .paged })
  let s := s.modEntry p.job p.parcel (fun e => { e with state := .paged })
  let s := (s.trace.freeFrame p.frame).modHome (fun h => { h with pageOuts := h.pageOuts + 1 })
  let reg := match s.ctxOf p.job with | some c => s.registrar c p.parcel | none => s.self
  (if reg = s.self then s else s.emit (.ctrl reg (.paged p.job p.parcel))).framesFreed

def execPageOutDone (job : BitVec 16) (parcel : BitVec 35) (s : State) : Res :=
  match s.parcel? job parcel.toNat with
  | some p => when "PAGE_OUT_DONE" (s.surveys && p.state == .pagingOut) (s.pagedOut p)
  | none => .refused (.notOccurring "PAGE_OUT_DONE")

/-- PAGE_IN_DONE (R187): the parcel's frame is filled, and its held requests are performed; above the high-water mark the page-out of a
colder parcel ends first. -/
def execPageInDone (job : BitVec 16) (parcel : BitVec 35) (s : State) : Res :=
  let pn := parcel.toNat
  let ready := ((s.parcel? job pn).map (fun p => p.state == .pagingIn)).getD false
  let first := s.aboveHigh && s.home.parcels.any (fun p => p.state == .pagingOut)
  when "PAGE_IN_DONE" (s.surveys && ready && !first) ((s.pageIn job pn).releaseHeld job pn)

end Sys2Proof.Machine
end

