-- ==== Sys2Proof/Machine/CmdOps.lean ====
section
/-!
DEFINITION. What the command rows share: addresses, the commands that run (R320 to R322), deferred groups (R293), STRICT runs (R365),
and the release of whole parcels (R177) and of holds (R289).
-/
namespace Sys2Proof.Machine

/-! ### Addresses -/

/-- A job virtual address and a range of them (R9; notes/assumptions/29.md). -/
def vaOk (a : Nat) : Bool := decide (a < 2 ^ 56)
def vaRange (a n : Nat) : Bool := decide (a + n ≤ 2 ^ 56)

/-- A range of whole parcels. -/
def wholeParcels (a n : Nat) : Bool := a % frameBytes == 0 && n % frameBytes == 0 && vaRange a n

/-- The parcels of such a range. -/
def parcelsIn (a n : Nat) : List Nat := (List.range (n / frameBytes)).map (fun i => parcelOf a + i)

/-- An engine's read or write of a range does not wait for a move of its parcels (R172). -/
def State.readable (s : State) (c a n : Nat) : Bool := s.rangeReady (s.ctx c).job a n false
def State.writable (s : State) (c a n : Nat) : Bool := s.rangeReady (s.ctx c).job a n true

/-! ### The commands that run -/

/-- Records attributed to a command in its result, and its status (R370). -/
def Cmd.statusOr (c : Cmd) (st : Nat) : Nat := if c.dead then stFabricDead else st

/-- A command that touched memory ends: its status and its count of records (R370). -/
def State.finishCounted (s : State) (src : CmdSource) (st : Nat) (result : List Byte) : State :=
  let c := s.cmd! src
  s.finish c (c.statusOr st) 0 (recordBytes result c.records)

/-- Queues of a context. -/
def ctxQueues (c : Nat) : List Nat := [4 * c, 4 * c + 1, 4 * c + 2, 4 * c + 3]

/-- The commands of a context that have been decoded and have no reply yet. -/
def State.openCmds (s : State) (c : Nat) : List Cmd :=
  ((ctxQueues c).map (fun q => (s.queue q).cur.toList ++ (s.queue q).barrier.toList)).flatten ++
  (s.grids.filter (fun g => g.ctx == c && g.deferred.isSome)).filterMap (·.cmd)

/-- Deferred launches of the groups of a mask decoded before a place in the order (R293). -/
def State.deferredOpen (s : State) (c mask before : Nat) : List Grid :=
  s.grids.filter (fun g => g.ctx == c && decide (g.order < before) &&
    (match g.deferred with | some i => bitOf mask i | none => false))

/-- Their promotion, each counted once (R293). -/
def State.promote (s : State) (c mask before : Nat) : State :=
  let ids := ((s.deferredOpen c mask before).filter (fun g => !g.promoted)).map (·.id)
  let s := ids.foldl (fun s i => s.modGrid i (fun g => { g with promoted := true })) s
  s.modCtx c (fun x => { x with deferPromotions := satAdd x.deferPromotions ids.length })

/-- A command with a DEFER_MASK waits and promotes, or goes on (R293). -/
def State.afterDeferred (s : State) (src : CmdSource) (mask : Nat) (go : State) : State :=
  let c := s.cmd! src
  if s.deferredOpen (srcCtx src) mask c.order = [] then go else s.promote (srcCtx src) mask c.order

/-- Families whose commands make a STRICT run (R365). -/
def strictFamily (opcode : Nat) : Bool := [2, 4, 5, 6].contains (opcode / 256)

/-- A context is in a STRICT run: a command of those families, an inbox batch or an expert wave of it runs (R322, R365). -/
def State.inStrictRun (s : State) (c : Nat) : Bool :=
  (s.ctx c).strict && (s.ctx c).state != 0 &&
  ((s.openCmds c).any (fun x => strictFamily x.opcode) || s.grids.any (fun g => g.ctx == c) || (s.ctx c).replay.isSome ||
   (s.ctx c).waves.any (fun w => !w.receipt) || s.inboxes.any (fun e => e.2.owner == c && e.2.enable && !e.2.waves.isEmpty))

/-- Some STRICT context of the module is in a STRICT run. -/
def State.strictRuns (s : State) : Bool := s.contexts.any (fun e => s.inStrictRun e.1)

/-! ### Parcels released (R177) -/

/-- An entry deleted; its generation stays with the registrar for a re-allocation (R171). -/
def State.deleteEntry (s : State) (job : BitVec 16) (pn : Nat) : State :=
  match s.entry? job pn with
  | some e => s.modHome (fun h => { h with
      cadastre := h.cadastre.filter (fun x => !(x.job == job && x.parcel == pn))
      freed := h.freed.filter (fun x => !(x.1 == job && x.2.1 == pn)) ++ [(job, pn, e.gen)] })
  | none => s

/-- The home's part: frame and backstore slot released. -/
def State.releaseHome (s : State) (job : BitVec 16) (pn : Nat) : State :=
  match s.parcel? job pn with
  | some p =>
    let s := if holdsFrame p.state then s.freeFrame p.frame else s
    (s.modHome (fun h => { h with parcels := h.parcels.filter (fun x => !(x.job == job && x.parcel == pn)) })).framesFreed
  | none => s

/-- What the registrar of a parcel answers to FREE: no entry, an entry, or nothing; and whether it answers the second pass too. -/
inductive FreeAns where
  | missing | ok | firstOnly | silent
  deriving DecidableEq, Repr

def State.freeAns (s : State) (c pn : Nat) (fab : Fab) : FreeAns :=
  if s.registrar c pn = s.self then (if (s.entry? (s.ctx c).job pn).isSome then .ok else .missing)
  else
    match fabReg fab pn with
    | none => .silent
    | some .unmapped => .missing
    | some (.bearing _ _ _ _) => .firstOnly
    | some _ => .ok

/-- A move or page operation in progress on a parcel, as far as this module knows (R177). -/
def State.parcelBusy (s : State) (job : BitVec 16) (pn : Nat) : Bool :=
  ((s.entry? job pn).map (fun e => e.state == .moving || e.state == .pagingOut || e.state == .pagingIn)).getD false ||
  ((s.parcel? job pn).map (fun p => p.state == .moving || p.state == .pagingOut || p.state == .pagingIn || p.awaitDrain ||
    (p.state == .paged && !p.held.isEmpty))).getD false

/-- One parcel freed at its registrar and its home. -/
def State.freeParcel (s : State) (c pn : Nat) : State :=
  let job := (s.ctx c).job
  let reg := s.registrar c pn
  let home := (s.entry? job pn).map (fun e => e.home)
  let s := s.releaseHome job pn
  if reg = s.self then
    let s := s.deleteEntry job pn
    match home with
    | some h => if h.toNat = s.self ∨ h = 0xFFFF then s else s.emit (.ctrl h.toNat (.freeEntry job pn))
    | none => s
  else s.emit (.ctrl reg (.freeEntry job pn))

/-- FREE of a range: its status and the state (R177). -/
def State.freeRange (s : State) (c : Nat) (att : Attrib) (fab : Fab) (base size : Nat) : Nat × State :=
  let pns := parcelsIn base size
  let ans := pns.map (fun pn => (pn, s.freeAns c pn fab))
  let dead := fun (s : State) (pn : Nat) =>
    s.raise { code := 0x0205, ctx := some c, va := pn * frameBytes, target := s.registrar c pn, attr := att }
  if ans.any (fun e => e.2 == .missing) then (stBadParam, s)
  else
    match ans.find? (fun e => e.2 == .silent) with
    | some e => (stFabricDead, dead s e.1)
    | none =>
      let s := (ans.filter (fun e => e.2 == .ok)).foldl (fun s e => s.freeParcel c e.1) s
      match ans.find? (fun e => e.2 == .firstOnly) with
      | some e => (stFabricDead, dead s e.1)
      | none => (stOk, s)

/-! ### Holds (R287 to R289) -/

/-- Held lines of one hold: their use count set, or released as ordinary least recently used lines. -/
def Cluster.holdUses (x : Cluster) (c h uses : Nat) : Cluster :=
  let mine := x.hoard.filter (fun l => match l.hold with | some (c', h', _) => c' == c && h' == h | none => false)
  let up := fun (l : Line) =>
    match l.hold with
    | some (c', h', _) => if c' = c ∧ h' = h then { l with hold := if uses = 0 then none else some (c, h, uses) } else l
    | none => l
  let y := { x with hoard := x.hoard.map up }
  if uses = 0 then mine.foldl (fun y l => y.touch l.key l.way false) y else y

/-- A hold's lines in every hoard. -/
def State.holdLines (s : State) (c h uses : Nat) : State :=
  { s with clusters := s.clusters.map (fun e => (e.1, e.2.holdUses c h uses)) }

/-- The frames of a hold read-only or writable. -/
def State.holdFrames (s : State) (c : Nat) (x : Hold) (ro : Bool) : State :=
  (parcelsIn x.base.toNat (x.parcels * frameBytes)).foldl
    (fun s pn => s.modParcel (s.ctx c).job pn (fun p => { p with readOnly := ro })) s

/-- One use of a hold released; at zero the hold drops (R289). -/
def State.releaseHold (s : State) (c : Nat) (att : Attrib) (fab : Fab) (h : Nat) : State :=
  match (s.ctx c).holds.find? (fun x => x.index == h) with
  | none => s.modCtx c (fun x => { x with holdUnderflows := satAdd x.holdUnderflows 1 })
  | some x =>
    if x.uses > 1 then
      (s.holdLines c h (x.uses - 1)).modCtx c (fun y =>
        { y with holds := updateFirst (fun z => z.index == h) (fun z => { z with uses := z.uses - 1 }) y.holds })
    else
      let s := (s.holdLines c h 0).holdFrames c x false
      let s := s.modCtx c (fun y =>
        { y with holds := y.holds.filter (fun z => z.index != h), holdsDropped := satAdd y.holdsDropped 1 })
      if x.freeOnDrop then (s.freeRange c att fab x.base.toNat (x.parcels * frameBytes)).2 else s

/-- The holds of a RELEASE_MASK (R289). -/
def State.releaseMask (s : State) (c : Nat) (att : Attrib) (fab : Fab) (mask : Word64) : State :=
  ((List.range 64).filter (fun i => mask.getLsbD i)).foldl (fun s h => s.releaseHold c att fab h) s

/-- The reply of a launch is about to be written, whatever its status: the holds that its slot names are released (R289). -/
def State.releaseLaunch (s : State) (c : Cmd) (fab : Fab) : State :=
  if [0x0201, 0x0202, 0x0600].contains c.opcode then s.releaseMask (srcCtx c.src) (.cmd c.src) fab (BitVec.ofNat 64 (c.param 24 8)) else s

end Sys2Proof.Machine
end

