-- ==== Sys2Proof/Machine/Launch.lean ====
section
/-!
DEFINITION. Grids: LAUNCH, LAUNCH_DEFERRED and OPT_STEP (R284 to R286, R291, R295 to R297, R317), the cut into slices (R188 to R192, R456),
tiles on cores (R57, R61, R125, R143, R150, R191, R292), and completion (R20, R21).
-/
namespace Sys2Proof.Machine

/-! ### The command -/

/-- The class of a code, for launches (R317). -/
def launchClass (n : Nat) : Option TClass :=
  match n with
  | 0 => some .generate
  | 2 => some .expert
  | 3 => some .memory
  | _ => none

/-- A program of a context and one of its kernels. -/
def State.findKernel (s : State) (c handle kernel : Nat) : Option (Program × Kernel) :=
  match (s.ctx c).programs.find? (fun p => p.handle.toNat == handle) with
  | some p => (p.kernels.find? (fun k => k.id.toNat == kernel)).map (fun k => (p, k))
  | none => none

/-- The number of segments, and the tokens and first token of segment i (R295). -/
def segCountOf (tokens segLen : Nat) : Nat := if tokens = 0 then 1 else ceilDiv tokens segLen
def segUnits (tokens n i : Nat) : Nat := let u := ceilDiv tokens 64; u / n + (if i < u % n then 1 else 0)
def segFirst (tokens n i : Nat) : Nat := 64 * ((List.range i).map (segUnits tokens n)).foldl (· + ·) 0
def segTokens (tokens n i : Nat) : Nat :=
  if i + 1 = n then tokens - segFirst tokens n i else 64 * segUnits tokens n i

/-- Which of the three launches a command is. -/
inductive LaunchKind where
  | launch | deferred | opt
  deriving DecidableEq, Repr

/-- The SEG_LEN in force (R295). -/
def State.segLenOf (s : State) (c : Nat) (cmd : Cmd) : Nat :=
  let v := cmd.param 36 4
  if v = 0 then (s.ctx c).segLen.toNat else v

/-- The parameter checks of a launch (R89, R136, R295, R317). -/
def State.launchOk (s : State) (c : Nat) (k : LaunchKind) (cmd : Cmd) : Option (Program × Kernel) :=
  match s.findKernel c (cmd.param 0 4) (cmd.param 4 4) with
  | none => none
  | some pk =>
    let shape := bitsOf (cmd.param 14 1) 0 3
    let b15 := cmd.param 15 1
    let ext := fun (o : Nat) => decide (1 ≤ cmd.param o 2)
    let segLen := cmd.param 36 4
    let ok := ext 8 && ext 10 && ext 12 && decide (shape ≤ 5) &&
      (if pk.2.engine = 1 then shape == pk.2.shape.toNat else shape == 0) &&
      (launchClass (bitsOf (cmd.param 14 1) 3 3)).isSome && bitsOf (cmd.param 14 1) 6 2 == 0 && bitsOf b15 2 2 == 0 &&
      (k == .deferred || bitsOf b15 4 4 == 0) && vaOk (cmd.param 16 8) &&
      (match k with
       | .opt => cmd.restZero [(0, 42)] && cmd.param 32 8 % 64 == 0 && vaOk (cmd.param 32 8)
       | _ => decide (cmd.param 32 4 ≤ 16777216) && (segLen == 0 || (segLen % 64 == 0 && decide (64 ≤ segLen ∧ segLen ≤ 65536))) &&
              vaOk (cmd.param 40 8))
    if ok then some pk else none

/-- The constants of a block (R285). -/
def optConst (b : List Byte) : OptConst :=
  let w := fun (o : Nat) => BitVec.ofNat 32 (field b o 4)
  { s := w 0, lr := w 4, wd := w 8, gscale := w 12, b1 := w 16, omb1 := w 20, b2 := w 24, omb2 := w 28, bc1 := w 32, bc2 := w 36,
    eps := w 40, mu := w 44 }

/-- The grid of a launch (R317). -/
def State.gridOf (s : State) (c : Nat) (k : LaunchKind) (cmd : Cmd) (pk : Program × Kernel) (args : List Word64)
    (opt : Option OptConst) (gate : Option Word64) : Grid :=
  let tokens := if k = .opt then 0 else cmd.param 32 4
  let segLen := s.segLenOf c cmd
  let n := segCountOf tokens segLen
  let b15 := cmd.param 15 1
  { id := s.nextGrid, ctx := c, cmd := some { cmd with handed := true }, program := pk.1.handle, kernel := pk.2.id
    g0 := if tokens = 0 then cmd.param 8 2 else ceilDiv (segTokens tokens n 0) pk.2.extM.toNat
    g1 := cmd.param 10 2, g2 := cmd.param 12 2
    cls := (launchClass (bitsOf (cmd.param 14 1) 3 3)).getD .memory
    shape := BitVec.ofNat 8 (bitsOf (cmd.param 14 1) 0 3)
    localOnly := bitOf b15 0 || k == .opt || k == .deferred
    replayable := bitOf b15 1
    deferred := if k = .deferred then some (bitsOf b15 4 4) else none
    order := cmd.order, argBlock := BitVec.ofNat 64 (cmd.param 16 8), args := args
    releaseMask := BitVec.ofNat 64 (cmd.param 24 8), tokens := tokens, segLen := segLen
    segFlag := if k = .opt then 0 else BitVec.ofNat 56 (cmd.param 40 8), segCount := n, opt := opt
    records := cmd.records, dead := cmd.dead, gate := gate }

/-- A launch ends with BAD_PARAM, its holds released as with any other reply (R289). -/
def State.launchBad (s : State) (src : CmdSource) (fab : Fab) : State :=
  let mask := BitVec.ofNat 64 ((s.cmd! src).param 24 8)
  let s := s.releaseMask (srcCtx src) (.cmd src) fab mask
  s.finish (s.cmd! src) stBadParam 0 []

/-- A launch handed to the Surveyor: it reads the argument block once (R125), and the constant block of OPT_STEP (R284). -/
def State.handLaunch (s : State) (src : CmdSource) (k : LaunchKind) (pk : Program × Kernel) (fab : Fab) : State :=
  let c := srcCtx src
  let cmd := s.cmd! src
  let x := s.engineRead c (.cmd src) fab (cmd.param 16 8) (32 + 8 * pk.2.tensors.length)
  let args := (List.range (4 + pk.2.tensors.length)).map (fun i => BitVec.ofNat 64 (field x.1 (8 * i) 8))
  let s := x.2.2
  let y := if k = .opt then s.engineRead c (.cmd src) fab (cmd.param 32 8) 64 else (zeros 64, true, s)
  let s := y.2.2
  if k = .opt ∧ (!y.2.1 ∨ slice y.1 48 16 ≠ zeros 16) then s.launchBad src fab
  else
    let cmd := s.cmd! src
    let q := match src with | .queue q => s.queue q.toNat | .mailbox => {}
    let g := s.gridOf c k cmd pk args (if k = .opt then some (optConst y.1) else none) (q.release.map (·.1))
    let s := { s with grids := s.grids ++ [g], nextGrid := s.nextGrid + 1 }
    match src with
    | .queue q =>
      if k = .deferred then s.modQueue q.toNat (fun x => { x with cur := none })
      else s.modCmd src (fun c => { c with handed := true })
    | .mailbox => s

/-- A launch: its checks, and the grid (R317). -/
def State.launchCmd (s : State) (src : CmdSource) (k : LaunchKind) (fab : Fab) : State :=
  let cmd := s.cmd! src
  match s.launchOk (srcCtx src) k cmd with
  | none => s.launchBad src fab
  | some pk =>
    if k = .opt then s.afterDeferred src (cmd.param 40 2) (s.handLaunch src k pk fab) else s.handLaunch src k pk fab

/-- Nothing that a launch reads waits for a move. -/
def State.launchReady (s : State) (src : CmdSource) (k : LaunchKind) : Bool :=
  let c := s.cmd! src
  s.readable (srcCtx src) (c.param 16 8) 96 && (k != .opt || s.readable (srcCtx src) (c.param 32 8) 64)

/-- LAUNCH (R317). -/
def execLaunch (src : CmdSource) (fab : Fab) (s : State) : Res :=
  when "LAUNCH" (s.runs src 0x0201 && s.launchReady src .launch) (s.launchCmd src .launch fab)

/-- LAUNCH_DEFERRED (R291). -/
def execLaunchDeferred (src : CmdSource) (fab : Fab) (s : State) : Res :=
  when "LAUNCH_DEFERRED" (s.runs src 0x0202 && s.launchReady src .deferred) (s.launchCmd src .deferred fab)

/-- OPT_STEP (R284). -/
def execOptStep (src : CmdSource) (fab : Fab) (s : State) : Res :=
  when "OPT_STEP" (s.runs src 0x0600 && s.launchReady src .opt) (s.launchCmd src .opt fab)

/-! ### The cut (R188 to R192) -/

/-- Tiles of a grid in grid order: dimension 0 first (R191). -/
def gridTiles (g : Grid) : List (Nat × Nat × Nat) :=
  ((List.range g.g2).map (fun z => ((List.range g.g1).map (fun y => (List.range g.g0).map (fun x => (x, y, z)))).flatten)).flatten

/-- Sizes and starts of k bands of n: they differ by at most one, the larger first (R190). -/
def bandSize (n k i : Nat) : Nat := n / k + (if i < n % k then 1 else 0)
def bandStart (n k i : Nat) : Nat := i * (n / k) + min i (n % k)
def bandMax (n k : Nat) : Nat := ceilDiv n k
def bandsAtMax (n k : Nat) : Nat := if n % k = 0 then k else n % k

/-- What R190 compares of a split into rb × cb bands: the largest slice, how many have that size, and its height plus width. -/
def splitKey (g0 g1 c rb : Nat) : Nat × Nat × Nat :=
  let cb := c / rb
  (bandMax g0 rb * bandMax g1 cb, bandsAtMax g0 rb * bandsAtMax g1 cb, bandMax g0 rb + bandMax g1 cb)

/-- One split is no worse than another. -/
def keyLe (a b : Nat × Nat × Nat) : Bool :=
  if a.1 ≠ b.1 then decide (a.1 < b.1) else if a.2.1 ≠ b.2.1 then decide (a.2.1 < b.2.1) else decide (a.2.2 ≤ b.2.2)

/-- The row bands that the Surveyor keeps: the best split, ties to the largest rb (R190). -/
def bestSplit (g0 g1 c : Nat) : Nat :=
  ((List.range c).map (· + 1)).foldl
    (fun best rb => if best = 0 then rb else if keyLe (splitKey g0 g1 c rb) (splitKey g0 g1 c best) then rb else best) 0

/-- The slices of a module's tiles with their numbers in band order, rows first; empty ones left out (R190, R191). -/
def cutTiles (c : Nat) (tiles : List (Nat × Nat × Nat)) : List (Nat × List (Nat × Nat × Nat)) :=
  match tiles with
  | [] => []
  | t :: _ =>
    let lo0 := tiles.foldl (fun m x => min m x.1) t.1
    let hi0 := tiles.foldl (fun m x => max m x.1) t.1
    let lo1 := tiles.foldl (fun m x => min m x.2.1) t.2.1
    let hi1 := tiles.foldl (fun m x => max m x.2.1) t.2.1
    let n0 := hi0 + 1 - lo0
    let n1 := hi1 + 1 - lo1
    let rb := bestSplit n0 n1 c
    let cb := c / rb
    let cell := fun (i j : Nat) => tiles.filter (fun x =>
      decide (lo0 + bandStart n0 rb i ≤ x.1) && decide (x.1 < lo0 + bandStart n0 rb i + bandSize n0 rb i) &&
      decide (lo1 + bandStart n1 cb j ≤ x.2.1) && decide (x.2.1 < lo1 + bandStart n1 cb j + bandSize n1 cb j))
    (((List.range rb).map (fun i => (List.range cb).map (fun j => (i * cb + j, cell i j)))).flatten).filter (fun e => !e.2.isEmpty)

/-- Declared bytes of a tensor (R189). -/
def Tensor.bytes (t : Tensor) : Nat := elemBytes t.format.toNat (t.extents.foldl (· * ·) 1)

/-- The anchor slot of a kernel: as hinted, or the largest tensor of role A or B, ties to the lowest slot (R189). -/
def State.anchorSlot (s : State) (c : Nat) (g : Grid) (k : Kernel) : Option Nat :=
  match (s.ctx c).anchors.find? (fun a => a.1 == g.program && a.2.1 == g.kernel) with
  | some a => if a.2.2 < k.tensors.length then some a.2.2 else none
  | none =>
    (k.tensors.zipIdx.filter (fun e => e.1.role == 0 || e.1.role == 1)).foldl
      (fun (best : Option (Nat × Nat)) e =>
        match best with
        | none => some (e.1.bytes, e.2)
        | some b => if e.1.bytes > b.1 then some (e.1.bytes, e.2) else best) none |>.map (·.2)

/-- The address of the first byte of a tile's range of a tensor slot (R189; notes/assumptions/11.md). -/
def State.tileVa (s : State) (g : Grid) (slot : Nat) (t : Nat × Nat × Nat) : Nat :=
  let crc := (((s.ctx g.ctx).programs.find? (fun p => p.handle == g.program)).map (fun p => p.crc.toNat)).getD 0
  ((g.args.getD (4 + slot) 0).toNat + Config.tileOffset crc s.enabledClusters g.kernel.toNat slot t) % 2 ^ 56

/-- The parcels of a tile's range of a tensor slot (R456). -/
def State.tileParcels (s : State) (g : Grid) (slot : Nat) (t : Nat × Nat × Nat) : List Nat :=
  let crc := (((s.ctx g.ctx).programs.find? (fun p => p.handle == g.program)).map (fun p => p.crc.toNat)).getD 0
  let a := s.tileVa g slot t
  let n := Config.tileLength crc s.enabledClusters g.kernel.toNat slot t
  if n = 0 then [] else (List.range (parcelOf (a + n - 1) + 1 - parcelOf a)).map (fun i => parcelOf a + i)

/-- The home of a parcel as the bearing cache or the registrar gives it, else this module (R189). -/
def State.anchorHome (s : State) (c pn : Nat) (fab : Fab) : Nat :=
  let job := (s.ctx c).job
  if (s.parcel? job pn).isSome then s.self
  else
    match s.bearing? job pn with
    | some b => b.home.toNat
    | none =>
      match s.entry? job pn with
      | some e => if e.state = .unmaterialised then s.self else e.home.toNat
      | none =>
        match fabReg fab pn with
        | some (.bearing h _ _ _) => h.toNat
        | _ => s.self

/-- The module of a tile (R189). -/
def State.tileModule (s : State) (g : Grid) (k : Kernel) (fab : Fab) (t : Nat × Nat × Nat) : Nat :=
  if g.localOnly then s.self
  else
    match s.anchorSlot g.ctx g k with
    | some slot => s.anchorHome g.ctx (parcelOf (s.tileVa g slot t)) fab
    | none => s.self

/-- A peer may run slices of the grid (R192): it is in the module set, and it accepts. -/
def State.peerRuns (s : State) (c m : Nat) (fab : Fab) : Bool :=
  (s.ctx c).moduleSet.any (fun x => x.toNat == m) && fabReg fab (2 ^ 35 + m) == some .done

/-- The quadrant of a rank, and of the stacks that hold a frame under PARCEL interleave (R11, R191). -/
def State.quadOfRank (s : State) (r : Nat) : Nat := (s.fuses.clusters.getD r (0, 0)).1
def State.anchorQuad (s : State) (g : Grid) (anchor : Option Nat) (t : Nat × Nat × Nat) : Option Nat :=
  match anchor with
  | some slot => ((s.localAddr (s.ctx g.ctx).job (s.tileVa g slot t))).map (fun a => s.stackOf a / 2)
  | none => none

/-- The rank of slice number n: n itself, or under PARCEL interleave the next free rank of the quadrant of its anchor frame (R191). -/
def State.sliceRank (s : State) (g : Grid) (anchor : Option Nat) (n : Nat) (tiles : List (Nat × Nat × Nat)) : Nat :=
  let used := (s.slices.filter (fun x => x.grid == g.id)).filterMap (·.rank)
  if s.regs.global.dramInterleave then
    match tiles.head?.bind (s.anchorQuad g anchor) with
    | some q => ((List.range s.enabledClusters).find? (fun r => s.quadOfRank r == q && !used.contains r)).getD n
    | none => n
  else n

/-- Slices on a cluster's deferred queue (R292). -/
def State.deferredQueued (s : State) (r : Nat) : Nat :=
  s.slices.countP (fun x => x.rank == some r && x.queued && !x.tiles.isEmpty &&
    ((s.grid? x.grid).map (fun g => g.deferred.isSome)).getD false)

/-- FOLLOW_WORK parcels that a slice covers are materialised on its module (R456). -/
def State.followWork (s : State) (g : Grid) (k : Kernel) (m : Nat) (tiles : List (Nat × Nat × Nat)) (fab : Fab) : State :=
  let job := (s.ctx g.ctx).job
  let outs := (k.tensors.zipIdx.filter (fun e => e.1.role == 2)).map (·.2)
  let pns := ((tiles.map (fun t => (outs.map (fun slot => s.tileParcels g slot t)).flatten)).flatten).eraseDups
  pns.foldl (fun s pn =>
    match s.entry? job pn with
    | some e => if e.state = .unmaterialised ∧ e.policy = 3 then (s.materialise job pn m fab).2 else s
    | none =>
      let reg := s.registrar g.ctx pn
      if reg = s.self ∨ (s.parcel? job pn).isSome then s else s.emit (.ctrl reg (.materialise job pn (BitVec.ofNat 15 m)))) s

/-- A slice assigned on this module. -/
def State.assignHere (s : State) (g : Grid) (k : Kernel) (n : Nat) (tiles : List (Nat × Nat × Nat)) (fab : Fab) : State :=
  let r := s.sliceRank g (s.anchorSlot g.ctx g k) n tiles
  let queued := g.deferred.isNone || decide (s.deferredQueued r < 512)
  let x : Slice := { id := s.nextSlice, grid := g.id, rank := some r, tiles := tiles, queued := queued, since := s.time }
  ({ s.trace with slices := s.slices ++ [x], nextSlice := s.nextSlice + 1 }).followWork g k s.self tiles fab

/-- The number under which a slice is known to a peer: its own, with its place in the cut (notes/assumptions/30.md). -/
def wireSlice (id n : Nat) : Nat := id * 256 + n

/-- A slice handed to a peer (R20, R192). -/
def State.assignThere (s : State) (g : Grid) (p : Program) (k : Kernel) (m n : Nat) (tiles : List (Nat × Nat × Nat)) (fab : Fab) :
    State :=
  let b16 := fun (n : Nat) => BitVec.ofNat 16 n
  let r : SliceRequest :=
    { job := (s.ctx g.ctx).job, issuer := BitVec.ofNat 15 s.self, grid := g.id, slice := wireSlice s.nextSlice n, imageCrc := p.crc
      buildId := p.buildId, clusters := s.enabledClusters, kernelId := k.id, cls := g.cls, replayable := g.replayable
      shape := g.shape, tokens := g.tokens, segIndex := g.segIndex, segCount := g.segCount, anchor := s.anchorSlot g.ctx g k
      argBlock := g.argBlock, args := g.args, tiles := tiles.map (fun t => (b16 t.1, b16 t.2.1, b16 t.2.2)) }
  let x : Slice := { id := s.nextSlice, grid := g.id, rank := none, module := some m, tiles := [] }
  let s := { s.trace with slices := s.slices ++ [x], nextSlice := s.nextSlice + 1 }
  let s := s.modHome (fun h => { h with slicesRemote := h.slicesRemote + 1 })
  ((s.emit (.ctrl m (.slice r))).modGrid g.id (fun g => { g with remotes := g.remotes + 1 })).followWork g k m tiles fab

/-- The slices of one module's tiles, assigned there or, when it may not run them, here (R192). -/
def State.assignModule (s : State) (g : Grid) (p : Program) (k : Kernel) (fab : Fab) (e : Nat × List (Nat × Nat × Nat)) : State :=
  let cuts := cutTiles s.enabledClusters e.2
  let s := s.modGrid g.id (fun g => { g with slices := g.slices + cuts.length })
  if e.1 = s.self then cuts.foldl (fun s x => s.assignHere g k x.1 x.2 fab) s
  else if s.peerRuns g.ctx e.1 fab then cuts.foldl (fun s x => s.assignThere g p k e.1 x.1 x.2 fab) s
  else
    let s := s.modHome (fun h => { h with slicesLocalised := h.slicesLocalised + BitVec.ofNat 64 cuts.length })
    cuts.foldl (fun s x => s.assignHere g k x.1 x.2 fab) s

/-- Tiles by module, the modules in the order in which they first come. -/
def byModule (l : List (Nat × Nat × Nat × Nat)) : List (Nat × List (Nat × Nat × Nat)) :=
  ((l.map (·.1)).eraseDups).map (fun m => (m, (l.filter (fun e => e.1 == m)).map (·.2)))

/-- SLICE_ASSIGNMENT (R188 to R192). -/
def State.assign (s : State) (g : Grid) (fab : Fab) : State :=
  match s.findKernel g.ctx g.program.toNat g.kernel.toNat with
  | none => s
  | some pk =>
    let tiles := (gridTiles g).map (fun t => (s.tileModule g pk.2 fab t, t))
    let s := (byModule tiles).foldl (fun s e => s.assignModule g pk.1 pk.2 fab e) s
    s.modGrid g.id (fun g => { g with assigned := true })

def execSliceAssignment (grid : Nat) (fab : Fab) (s : State) : Res :=
  match s.grid? grid with
  | some g => when "SLICE_ASSIGNMENT" (s.surveys && s.ctxLive g.ctx && !g.assigned && g.peer.isNone) (s.assign g fab)
  | none => .refused (.notOccurring "SLICE_ASSIGNMENT")

/-! ### Slices run for a peer -/

/-- The grid under which slices of a peer's grid run here. -/
def State.peerGrid (s : State) (r : SliceRequest) : Option Grid := s.grids.find? (fun g => g.peer == some (r.issuer.toNat, r.grid))

/-- A slice of a peer is dispatched here (R20), on the cluster that R191 gives it; it has the gang shape and the segment of its launch
(R192). -/
def State.takeSlice (s : State) (c : Nat) (p : Program) (r : SliceRequest) : State :=
  let s := match s.peerGrid r with
    | some _ => s
    | none =>
      let g : Grid :=
        { id := s.nextGrid, ctx := c, program := p.handle, kernel := r.kernelId, cls := r.cls, replayable := r.replayable, shape := r.shape
          tokens := r.tokens, segIndex := r.segIndex, segCount := r.segCount, order := s.decoded, argBlock := r.argBlock, args := r.args, assigned := true, peer := some (r.issuer.toNat, r.grid) }
      { s with grids := s.grids ++ [g], nextGrid := s.nextGrid + 1 }
  match s.peerGrid r with
  | none => s
  | some g =>
    let tiles := r.tiles.map (fun t => (t.1.toNat, t.2.1.toNat, t.2.2.toNat))
    let rank := s.sliceRank g r.anchor (r.slice % 256 % max 1 s.enabledClusters) tiles
    let x : Slice := { id := s.nextSlice, grid := g.id, rank := some rank, wire := r.slice, tiles := tiles, since := s.time }
    { s.trace with slices := s.slices ++ [x], nextSlice := s.nextSlice + 1 }

/-- The program of a context that a peer's slice runs (R192). -/
def State.peerProgram (s : State) (c : Nat) (r : SliceRequest) : Option Program :=
  (s.ctx c).programs.find? (fun p => p.crc == r.imageCrc && p.buildId == r.buildId && p.kernels.any (fun k => k.id == r.kernelId))

/-- REMOTE_SLICE_REQUEST (R20, R192): only under the conditions of R192 does an issuing module send one. -/
def execRemoteSliceRequest (r : SliceRequest) (s : State) : Res :=
  match s.ctxOf r.job with
  | some c =>
    (match s.peerProgram c r with
     | some p => when "REMOTE_SLICE_REQUEST" (s.surveys && s.ctxLive c && r.clusters == s.enabledClusters) (s.takeSlice c p r)
     | none => .refused (.notOccurring "REMOTE_SLICE_REQUEST"))
  | none => .refused (.notOccurring "REMOTE_SLICE_REQUEST")

/-! ### Tiles -/

/-- A core that may work: not retired or frozen; the standby core only once enabled (R382). -/
def State.coreUsable (s : State) (k : Nat) : Bool :=
  !(s.core k).retired && !(s.core k).frozen && (decide (k % 32 < 16) || (decide (k % 32 = 16) && (s.cluster (k / 32)).standbyActive))

/-- The rank of a slice in the choice of R292: 0 GENERATE, 1 not deferred or promoted, 2 deferred. -/
def tileRank (g : Grid) : Nat :=
  if g.cls = .generate then 0 else if g.deferred.isNone ∨ g.promoted then 1 else 2

/-- A slice can give a tile to a core of its cluster. -/
def State.canGiveTile (s : State) (rank : Nat) (x : Slice) : Bool :=
  x.rank == some rank && !x.tiles.isEmpty && x.queued && ((s.grid? x.grid).map (fun g => s.ctxLive g.ctx)).getD false

/-- Slice a goes before slice b: by rank, then a tile handed back by a core reset, then by the arrival of the launch, then as assigned
(R191, R292, R381). -/
def State.sliceBefore (s : State) (a b : Slice) : Bool :=
  match s.grid? a.grid, s.grid? b.grid with
  | some g, some h =>
    if tileRank g ≠ tileRank h then decide (tileRank g < tileRank h)
    else if (a.redo > 0) != (b.redo > 0) then decide (a.redo > 0)
    else if g.order ≠ h.order then decide (g.order < h.order)
    else if g.id ≠ h.id then decide (g.id < h.id) else decide (a.id < b.id)
  | _, _ => false

/-- The slice whose tile is handed out next on a cluster. -/
def State.nextSliceOn (s : State) (rank : Nat) : Option Slice :=
  (s.slices.filter (s.canGiveTile rank)).foldl (fun best x =>
    match best with
    | none => some x
    | some b => if s.sliceBefore x b then some x else best) none

/-- The core that has been free longest, ties to the lowest index (R191). -/
def State.freeCore (s : State) (rank : Nat) : Option Nat :=
  (((List.range 17).map (fun i => rank * 32 + i)).filter (fun k => s.coreUsable k && (s.core k).tiles.isEmpty)).foldl (fun best k =>
    match best with
    | none => some k
    | some b => if (s.core k).freeSince < (s.core b).freeSince then some k else best) none

/-- A core whose access stream has ended its tile of the same launch and can go on to the next (R61). -/
def State.aheadCore (s : State) (rank grid : Nat) : Option Nat :=
  ((List.range 17).map (fun i => rank * 32 + i)).find? (fun k =>
    s.coreUsable k && decide ((s.core k).tiles.length = 1) && (s.core k).accTile.accEnd && (s.core k).accTile.grid == grid &&
    (s.core k).epochs.isEmpty)

/-- The core that takes the next tile of a grid. -/
def State.coreFor (s : State) (rank grid : Nat) : Option Nat :=
  match s.freeCore rank with
  | some k => some k
  | none => s.aheadCore rank grid

/-- A core's gradient-noise registers folded into its context's accumulator, and cleared (R299). -/
def State.foldGns (s : State) (c k : Nat) : State :=
  let g := (s.core k).gns
  let a := (s.ctx c).gns
  let l := combine a.localS a.localC g.localS g.localC
  let r := combine a.redS a.redC g.redS g.redC
  let n : Gns := { localS := l.1, localC := l.2, redS := r.1, redC := r.2, count := satAdd a.count g.count.toNat }
  (s.modCtx c (fun x => { x with gns := n })).modCore k (fun x => { x with gns := {} })

/-- A core cleared for a tile of another context (R143, R299). -/
def State.switchCore (s : State) (k c : Nat) : State :=
  if (s.core k).prevCtx = some c then s
  else
    let s := match (s.core k).prevCtx with | some p => s.foldGns p k | none => s
    s.modCore k (fun x => { x with
      prevCtx := some c, spad := [], tiles0 := [], tiles1 := [], tiles2 := [], tiles3 := []
      cubes := x.cubes.map (fun e => (e.1, { e.2 with active := [], shadow := [], planes := 0, partials := [] })) })

/-- The first tile of a command on a cluster moves every core's acquire mark past the lines filled before (R150;
notes/assumptions/81.md). -/
def State.setMarks (s : State) (rank : Nat) : State :=
  let t := s.advanceGen rank
  (List.range 17).foldl (fun s i => s.modCore (rank * 32 + i) (fun c => { c with mark := (t.cluster rank).gen })) t

/-- TD0 to TD7 of a tile (R125, R296). -/
def tileTds (g : Grid) (t : Nat × Nat × Nat) : List Word64 :=
  let w := fun (n : Nat) => BitVec.ofNat 64 n
  let seg := g.tokens != 0
  [w t.1, w t.2.1, w t.2.2, g.argBlock, g.args.getD 0 0, g.args.getD 1 0,
   if seg then w (g.segIndex + 2 ^ 32 * g.segCount) else g.args.getD 2 0,
   if seg then w (segFirst g.tokens g.segCount g.segIndex + 2 ^ 32 * segTokens g.tokens g.segCount g.segIndex) else g.args.getD 3 0]

/-- A tile handed to a core: TD0 to TD7 written, X1 to X31 zero, the access stream at its first word (R125). -/
def State.startTile (s : State) (k : Nat) (g : Grid) (x : Slice) (t : Nat × Nat × Nat) : State :=
  let d := tileTds g t
  let run : TileRun :=
    { seq := (s.core k).nextId, grid := g.id, slice := x.id, ctx := g.ctx, td0 := d.getD 0 0, td1 := d.getD 1 0, td2 := d.getD 2 0
      td3 := d.getD 3 0, td4 := d.getD 4 0, td5 := d.getD 5 0, td6 := d.getD 6 0, td7 := d.getD 7 0
      deferredRun := tileRank g == 2 }
  let s := s.switchCore k g.ctx
  let s := s.modCore k (fun c => { c with
    tiles := c.tiles ++ [run], nextId := c.nextId + 1, accPc := 0, x := [], lastIssue := s.time
    exePc := if c.tiles.isEmpty then 0 else c.exePc })
  let s := s.modSlice x.id (fun y => { y with tiles := y.tiles.drop 1, redo := y.redo - 1, running := y.running + 1 })
  if tileRank g = 2 then s.modCtx g.ctx (fun c => { c with deferTiles := satAdd c.deferTiles 1 }) else s

/-- A deferred slice that waits at the Surveyor takes a free place of its cluster's deferred queue (R292). -/
def State.fillDeferred (s : State) (rank : Nat) : State :=
  if s.deferredQueued rank < 512 then
    match s.slices.find? (fun x => x.rank == some rank && !x.queued) with
    | some x => s.modSlice x.id (fun y => { y with queued := true })
    | none => s
  else s

/-- The tile that TILE_START hands out on a cluster, and to which core. -/
def State.tileChoice (s : State) (rank : Nat) : Option (Slice × Grid × (Nat × Nat × Nat) × Nat) :=
  match s.nextSliceOn rank with
  | none => none
  | some x =>
    match s.grid? x.grid, x.tiles.head?, s.coreFor rank x.grid with
    | some g, some t, some k => some (x, g, t, k)
    | _, _, _ => none

/-- TILE_START (R191, R292). -/
def State.tileStart (s : State) (rank : Nat) (x : Slice) (g : Grid) (t : Nat × Nat × Nat) (k : Nat) : State :=
  let s := if g.marked.contains rank then s
    else (s.setMarks rank).modGrid g.id (fun g => { g with marked := g.marked ++ [rank] })
  ((s.startTile k g x t).modCluster rank (fun y => { y with given := s.time })).fillDeferred rank

def execTileStart (rank : BitVec 8) (s : State) : Res :=
  match s.tileChoice rank.toNat with
  | some (x, g, t, k) =>
    when "TILE_START" (s.works && decide (rank.toNat < s.enabledClusters) && !s.errs.stopped 2 rank.toNat) (s.tileStart rank.toNat x g t k)
  | none => .refused (.notOccurring "TILE_START")

/-- Work of a tile that is not done: loads, held stores, open batches, gang items (R57). -/
def State.tileOpen (s : State) (k seq : Nat) : Bool :=
  let c := s.core k
  c.loads.any (fun l => l.tile == seq && !l.squashed) || c.stores.any (fun h => h.tile == seq) || !c.fill.isEmpty ||
  c.cubes.any (fun e => e.2.loading) ||
  (let g := (s.cluster (k / 32)).gang
   g.queue.any (fun i => i.core == k) || g.groups.any (fun e => (e.2.running.map (fun i => i.core == k)).getD false ||
     (e.2.draining.map (fun i => i.core == k)).getD false))

/-- Entries that a tile leaves in its queues, or an open gang chain (R57). -/
def State.residue (s : State) (k seq : Nat) : Bool :=
  let c := s.core k
  c.dqs.any (fun q => q.2.any (fun e => e.tile == seq)) || c.tqs.any (fun q => q.2.any (fun e => e.tile == seq)) ||
  (s.cluster (k / 32)).gang.groups.any (fun e => e.2.chain == some k)

/-- A tile leaves its core; leftover entries are discarded (R57). The cycles it was busy for are a free value
(notes/assumptions/44.md). -/
def State.endTile (s : State) (k : Nat) (t : TileRun) : State :=
  let bad := s.residue k t.seq
  let busy := s.draw
  let s := busy.2.count k 11 busy.1.toNat
  let s := s.modCore k (fun c =>
    let c := Core.retire { c with
      tiles := c.tiles.drop 1, exePc := 0, freeSince := s.time, lastIssue := s.time
      dqs := c.dqs.map (fun q => (q.1, q.2.filter (fun e => e.tile != t.seq)))
      tqs := c.tqs.map (fun q => (q.1, q.2.filter (fun e => e.tile != t.seq))) }
    if c.tiles.isEmpty then { c with accPc := 0 } else c)
  let s := s.modGang (k / 32) (fun g =>
    { g with asking := g.asking.filter (· != k)
             groups := g.groups.map (fun e => (e.1, if e.2.chain = some k then { e.2 with chain := none } else e.2)) })
  let s := s.handGang (k / 32)
  let s := s.modSlice t.slice (fun x => { x with running := x.running - 1 })
  let s := s.modGrid t.grid (fun g => { g with upTo := s.fabric.nextAccess })
  if bad then s.raise (s.tileErr k 0x0101 t 0 0) else s

/-- TILE_END (R57): both streams have ended the tile, its branches are resolved (R61), and its work is done. -/
def execTileEnd (c : CoreId) (s : State) : Res :=
  let k := coreKey c
  let x := s.core k
  let t := x.exeTile
  when "TILE_END"
    (s.works && !x.tiles.isEmpty && !x.frozen && t.accEnd && t.exeEnd && !x.epochs.any (fun e => e.tile == t.seq) && s.ctxLive t.ctx && !s.tileOpen k t.seq)
    (s.endTile k t)

/-! ### Completion -/

/-- Stores and atomics of a grid's ended tiles that no home has acknowledged (R21). -/
def State.gridStoresOpen (s : State) (g : Grid) : Bool :=
  s.fabric.accesses.any (fun a => a.ctx == g.ctx && decide (a.id < g.upTo) &&
    (match a.stage with | .timedOut _ => false | _ => true) &&
    (match a.purpose with | .store _ _ => true | .atomic _ _ _ _ => true | _ => false))

/-- A slice of this module has run all its tiles. -/
def sliceDone (x : Slice) : Bool := x.rank.isSome && x.tiles.isEmpty && x.running == 0 && !x.reported

/-- A slice reported by its dispatcher; one of a peer's grid is reported to the issuer with its records (R20, R370). -/
def State.reportSlice (s : State) (x : Slice) (g : Grid) : State :=
  match g.peer with
  | some (m, n) =>
    let s := s.emit (.ctrl m (.sliceReport n x.wire g.records g.dead))
    let s := { s with slices := s.slices.filter (fun y => y.id != x.id) }
    let s := s.modGrid g.id (fun g => { g with records := 0, dead := false })
    if s.slices.any (fun y => y.grid == g.id) then s else { s with grids := s.grids.filter (fun h => h.id != g.id) }
  | none => s.modSlice x.id (fun y => { y with reported := true })

/-- SLICE_COMPLETE (R20). -/
def execSliceComplete (r : SliceReport) (s : State) : Res :=
  match r with
  | .own n =>
    (match s.slice? n with
     | some x =>
       (match s.grid? x.grid with
        | some g =>
          when "SLICE_COMPLETE" (s.surveys && s.ctxLive g.ctx && sliceDone x && (g.peer.isNone || !s.gridStoresOpen g))
            (s.reportSlice x g)
        | none => .refused (.notOccurring "SLICE_COMPLETE"))
     | none => .refused (.notOccurring "SLICE_COMPLETE"))
  | .peer grid n records dead =>
    (match s.slices.find? (fun x => x.grid == grid && x.module.isSome && x.id == n / 256 && !x.reported), s.grid? grid with
     | some x, some g =>
       when "SLICE_COMPLETE" (s.surveys && s.ctxLive g.ctx)
         ((s.modSlice x.id (fun y => { y with reported := true })).modGrid grid
           (fun g => { g with records := g.records + records, dead := g.dead || dead }))
     | _, _ => .refused (.notOccurring "SLICE_COMPLETE"))

/-- Every slice of a grid is reported and its stores are performed (R20, R21). -/
def State.gridDone (s : State) (g : Grid) : Bool :=
  s.surveys && s.ctxLive g.ctx && g.assigned && g.peer.isNone && g.inbox.isNone &&
  !s.slices.any (fun x => x.grid == g.id && !x.reported) && !s.gridStoresOpen g

/-- The slices of a grid leave the Surveyor. -/
def State.dropSlices (s : State) (grid : Nat) : State := { s with slices := s.slices.filter (fun x => x.grid != grid) }

/-- SEGMENT_COMPLETE (R296, R297): the flag, and the next segment's grid. -/
def State.endSegment (s : State) (g : Grid) (fab : Fab) : State :=
  let i := g.segIndex + 1
  let s := if g.segFlag = 0 then s else (s.engineWrite g.ctx (.grid g.id) fab g.segFlag.toNat (natLE i 8)).2
  let s := (s.dropSlices g.id).modCtx g.ctx (fun c => { c with segmentsRun := satAdd c.segmentsRun 1 })
  let m := ((s.findKernel g.ctx g.program.toNat g.kernel.toNat).map (fun p => p.2.extM.toNat)).getD 1
  s.modGrid g.id (fun g => { g with
    segIndex := i
    assigned := i == g.segCount
    marked := []
    g0 := if i < g.segCount then ceilDiv (segTokens g.tokens g.segCount i) m else g.g0 })

def execSegmentComplete (grid : Nat) (fab : Fab) (s : State) : Res :=
  match s.grid? grid with
  | some g =>
    when "SEGMENT_COMPLETE"
      (s.gridDone g && g.tokens != 0 && decide (g.segIndex < g.segCount) &&
       (g.segFlag == 0 || s.rangeReady (s.ctx g.ctx).job g.segFlag.toNat 8 true))
      (s.endSegment g fab)
  | none => .refused (.notOccurring "SEGMENT_COMPLETE")

/-- The results of a launch (R286, R297, R315). -/
def gridResult (g : Grid) : List Byte :=
  let w := fun (n : Nat) => natLE (min n 0xFFFFFFFF) 4
  match g.opt with
  | some _ => w g.skips ++ w g.nans
  | none => w g.segCount ++ w g.slices ++ w g.remotes

/-- GRID_COMPLETE (R21): the holds released, the reply written. -/
def State.completeGrid (s : State) (g : Grid) (fab : Fab) : State :=
  let s := s.releaseMask g.ctx (.grid g.id) fab g.releaseMask
  let g := (s.grid? g.id).getD g
  let s := { s.dropSlices g.id with grids := s.grids.filter (fun h => h.id != g.id) }
  match g.cmd with
  | some c => s.finish c (if g.dead then stFabricDead else stOk) 0 (recordBytes (gridResult g) g.records)
  | none => s

def execGridComplete (grid : Nat) (fab : Fab) (s : State) : Res :=
  match s.grid? grid with
  | some g =>
    when "GRID_COMPLETE" (s.gridDone g && (g.tokens == 0 || g.segIndex == g.segCount)) (s.completeGrid g fab)
  | none => .refused (.notOccurring "GRID_COMPLETE")

end Sys2Proof.Machine
end

