-- ==== Sys2Proof/Machine/Queues.lean ====
section
/-!
DEFINITION. Rings, doorbells and the CP: R308 to R316, R320 to R326, and the commands of family 0x00 (R315).
-/
namespace Sys2Proof.Machine

/-! ### Doorbells -/

/-- The host interface answers (R401). -/
def State.hostUp (s : State) : Bool := s.mainUp && s.boot.hostIfUp && s.boot.linkUp

/-- Slots of a queue's ring. -/
def Queue.size (q : Queue) : Nat := 2 ^ q.ringLog2.toNat

/-- Slots published and not fetched, modulo 2^32 (R310). -/
def Queue.distance (q : Queue) : Nat := (q.tail - q.head).toNat

/-- A queue halts with a reason; QUEUE_HALTED is raised for it (R310, R312, R368). -/
def State.halt (s : State) (q reason : Nat) (att : Attrib) : State :=
  (s.modQueue q (fun x => { x with haltReason := BitVec.ofNat 8 reason })).raise
    { code := 0x010C, ctx := some (q / 4), detail := reason, attr := att }

/-- A new TAIL; a distance beyond the ring size halts the queue (R309, R310). -/
def State.doorbell (s : State) (q : Nat) (v : Word32) : State :=
  let s := s.modQueue q (fun x => { x with tail := v })
  let x := s.queue q
  if x.distance > x.size ∧ x.haltReason = 0 then s.halt q 1 .none else s

/-- DOORBELL_WRITE (R309). -/
def execDoorbellWrite (q : BitVec 8) (v : Word32) (s : State) : Res := when "DOORBELL_WRITE" s.hostUp (s.doorbell q.toNat v)

/-- The page offset of a mirror address, its queue, and whether it lies in this module's pages (R343). -/
def mirrorQueue (va : Nat) : Nat := mirrorOffset va / 0x1000
def isDoorbell (va size : Nat) : Bool := isMirror va && decide (mirrorQueue va < 4) && va % 0x1000 == 0 && size == 4

/-- The write of this job, address and length that has come to this module for its mirrors: a delivered one, or one of its own. -/
def mirrorWrite (job : BitVec 16) (va : Nat) (r : Request) (size : Nat) : Bool :=
  r.op == .write && r.job == job && r.va.toNat == va && r.size.toNat + 1 == size

def State.mirrorReq (s : State) (job : BitVec 16) (va size : Nat) (v : Option Word32) : Option Request :=
  let fits := fun (r : Request) => mirrorWrite job va r size && (match v with | some v => r.payload == natLE v.toNat 4 | none => true)
  match (s.fabric.arrived.filterMap reqOf).find? fits with
  | some r => some r
  | none => ((s.fabric.accesses.filter (fun a => !a.slot && a.stage == .sent)).map (·.req)).find? fits

/-- A store to this module's mirrors is answered, if it came as a request. -/
def State.mirrorDone (s : State) (r : Option Request) (st : RStatus) (reason : Nat) : State :=
  match r with
  | some r => (s.takeArrived (isReq r)).sendReply r (s.answer r st reason [])
  | none => s

/-- DOORBELL_MIRROR_STORE (R309, R343): the queue n of the job's context here. -/
def execDoorbellMirrorStore (job : BitVec 16) (va : Va) (v : Word32) (s : State) : Res :=
  let a := va.toNat
  let r := s.mirrorReq job a 4 (some v)
  when "DOORBELL_MIRROR_STORE" (s.mainUp && isDoorbell a 4 && mirrorModule a == s.self)
    (match s.ctxOf job with
     | some c => (s.doorbell (4 * c + mirrorQueue a) v).mirrorDone r .ok 0
     | none => s.mirrorDone r .denied 1)

/-- DOORBELL_DISCARDED_ACCESS (R309): counted; an atomic returns zero. -/
def execDoorbellDiscardedAccess (a : BadDoorbell) (s : State) : Res :=
  match a with
  | .pageWrite _ offset size => when "DOORBELL_DISCARDED_ACCESS" (s.hostUp && !(offset == 0 && size == 4)) s.ignoreDoorbell
  | .mirrorStore job va size =>
    when "DOORBELL_DISCARDED_ACCESS"
      (s.mainUp && isMirror va.toNat && mirrorModule va.toNat == s.self && !isDoorbell va.toNat size)
      (s.ignoreDoorbell.mirrorDone (s.mirrorReq job va.toNat size none) .ok 0)
  | .mirrorAtomic r =>
    when "DOORBELL_DISCARDED_ACCESS"
      (isMirror r.va.toNat && mirrorModule r.va.toNat == s.self && r.op == .atomic && s.canReach r)
      ((s.ignoreDoorbell.takeArrived (isReq r)).sendReply r (s.answer r .ok 0 (zeros 8)))

/-! ### Decoding (R310 to R312, R316, R321) -/

/-- The opcodes of R315. -/
def knownOpcodes : List Nat :=
  [0x0000, 0x0001, 0x0002, 0x0003, 0x0004, 0x0100, 0x0101, 0x0102, 0x0103, 0x0200, 0x0201, 0x0202, 0x0300, 0x0301, 0x0302, 0x0303,
   0x0304, 0x0305, 0x0306, 0x0307, 0x0400, 0x0401, 0x0402, 0x0403, 0x0500, 0x0501, 0x0600, 0x0601, 0x0602, 0x0603, 0x0700, 0x0701,
   0x0800, 0x0801, 0x0802, 0x0803, 0x0900, 0x0901, 0x0A00, 0x0A01, 0x0A02, 0x0F00, 0x0F01, 0x0F02]

/-- A queue has a command ready: enabled, not halted, HEAD behind TAIL, nothing running, its context not frozen (R310, R320, R379). -/
def State.queueReady (s : State) (q : Nat) : Bool :=
  let x := s.queue q
  x.enable && x.haltReason == 0 && x.head != x.tail && x.cur.isNone && x.barrier.isNone && !(s.ctx (q / 4)).frozen &&
  ((s.ctx (q / 4)).replay.map (fun r => r.cmd.src != .queue (BitVec.ofNat 8 q))).getD true

/-- The queue that the CP serves next: round-robin after the last (R321). -/
def State.nextQueue (s : State) : Option Nat :=
  ((List.range 256).map (fun i => (s.lastQueue + 1 + i) % 256)).find? s.queueReady

/-- The slot at HEAD: in host memory, or in a parcel of this module (R308, R309). -/
def State.fetchSlot (s : State) (q : Nat) : List Byte × State :=
  let x := s.queue q
  let a := x.ringBase.toNat + 64 * (x.head.toNat % x.size)
  if x.ringDev then let r := s.engineRead (q / 4) .none { lines := [], regs := [] } a 64; (r.1, r.2.2) else (s.getHost a 64, s)

/-- HEAD advanced and shown to the host (R310). -/
def State.advanceHead (s : State) (q : Nat) : State :=
  let s := s.modQueue q (fun x => { x with head := x.head + 1 })
  s.putHost (s.queue q).headShadow.toNat (natLE (s.queue q).head.toNat 8)

/-- Header checks of step 2 of R312. -/
def headerOk (q : Nat) (slot : List Byte) : Bool :=
  field slot 8 1 == q / 4 && field slot 9 1 == q && decide (field slot 2 1 < 2) && field slot 12 4 == 0 && decide (field slot 3 1 ≤ 6)

/-- The DENIED detail of step 4 of R312, if the command is not allowed (R316). -/
def State.deniedDetail (s : State) (q : Nat) (c : Cmd) : Option Nat :=
  let own := q / 4
  let family := c.opcode / 256
  if (s.ctx own).state = 0 ∧ ¬(c.opcode = 0x0100 ∧ c.param 0 1 = own) then some 1
  else if !(s.queue q).priv ∧ ((family = 1 ∧ c.param 0 1 ≠ own) ∨ family = 8 ∨ family = 9 ∨ family = 15) then some 2
  else none

/-- The decode history of a context: the last 64 commands (R377). -/
def addHist (h : List Hist) (c : Cmd) (q : Nat) : List Hist :=
  let l := h ++ [{ slot := c.slot, datum := c.datum, queue := q, state := 1, status := 0, order := c.order }]
  l.drop (l.length - 64)

/-! ### Recording (R303, R304) -/

/-- The block that a command names by pointer: where it lies and its length (R304). The length of a plat descriptor stands in its
header. -/
def State.blockOf (s : State) (x : Nat) (c : Cmd) (fab : Fab) : Option (Nat × Nat) × State :=
  let plat := fun (a : Nat) =>
    let r := s.engineRead x (.cmd c.src) fab a 8
    (some (a, 64 + 2 * min (field r.1 4 4) 32768), r.2.2)
  match c.opcode with
  | 0x0200 => (some (c.param 0 8, c.param 8 8), s)
  | 0x0400 => plat (c.param 0 8)
  | 0x0403 => plat (c.param 8 8)
  | 0x0500 =>
    (if c.param 0 1 = 0 then some (c.param 8 8, 64) else if c.param 0 1 = 1 then some (c.param 8 8, 4 * c.param 4 4)
     else some (c.param 16 8, 128 + 32 * 2 ^ min (c.param 1 1) 16), s)
  | 0x0600 => (some (c.param 32 8, 64), s)
  | _ => (none, s)

/-- Whether a family is recorded (R303). -/
def recordedFamily (opcode : Nat) : Bool := [0, 2, 3, 4, 5, 6, 7].contains (opcode / 256)

/-- One entry appended; a region that cannot hold it is full and ends the recording (R303). A block longer than its length field can
say is cut there (notes/assumptions/31.md). -/
def State.recordEntry (s : State) (q : Nat) (c : Cmd) (fab : Fab) : State :=
  let x := q / 4
  match (s.ctx x).recording with
  | none => s
  | some r =>
    if !r.active ∨ !recordedFamily c.opcode then s
    else
      let blk := s.blockOf x c fab
      let s := blk.2
      let len := match blk.1 with | some (_, n) => min (ceilDiv n 8) 65535 | none => 0
      if r.used + 80 + 8 * len > r.size then
        s.modCtx x (fun y => { y with recording := some { r with active := false, full := true } })
      else
        let b := match blk.1 with
          | some (a, _) => s.engineRead x (.cmd c.src) fab a (8 * len)
          | none => ([], true, s)
        let bytes := natLE c.datum.toNat 8 ++ [BitVec.ofNat 8 q, 0] ++ natLE len 2 ++ zeros 4 ++ slice c.slot 0 64 ++ b.1
        let s := (b.2.2.engineWrite x (.cmd c.src) fab (r.region.toNat + r.used) bytes).2
        let s := (s.engineWrite x (.cmd c.src) fab (r.region.toNat + 24) (natLE (r.entries + 1) 4)).2
        s.modCtx x (fun y => { y with
          recording := some { r with used := r.used + 80 + 8 * len, entries := r.entries + 1 }
          replayEntries := satAdd y.replayEntries 1 })

/-- The owner of a command restarts (R16, R375). -/
def State.ownerDown (s : State) (opcode : Nat) : Bool :=
  ((opcode / 256 == 3 || opcode == 0x0201 || opcode == 0x0202) && s.procDown .surveyor) ||
  ((opcode / 256 == 7 || opcode / 256 == 9) && s.procDown .lmp)

/-- The plat slot that a command names, if it names one (R246, R301, R360). -/
def platSlotOf (c : Cmd) : Option Nat :=
  match c.opcode with
  | 0x0402 => some (c.param 0 1)
  | 0x0700 => some (c.param 0 1)
  | 0x0601 => if bitOf (c.param 0 1) 1 then some (c.param 1 1) else none
  | _ => none

/-- A PLATSET_ACTIVATE of the context decoded before a place in the order has not switched yet (R247). -/
def State.activateWaits (s : State) (c before : Nat) : Bool :=
  (ctxQueues c).any (fun q =>
    match (s.queue q).cur with | some a => a.opcode == 0x0401 && decide (a.order < before) | none => false)

/-- A command with its plat slot bound to the active set, unless an activation holds it (R246, R247). -/
def State.bindPlat (s : State) (x : Nat) (c : Cmd) : Cmd :=
  match platSlotOf c with
  | some n =>
    if s.activateWaits x c.order || c.bound.isSome then c
    else { c with bound := some (((s.ctx x).setSlots.find? (fun e => e.1 == 256 * (s.ctx x).activeSet + n)).map (·.2)) }
  | none => c

/-- A command decoded: its slot checked in the order of R312, and the command set running or answered. -/
def State.startCmd (s : State) (q : Nat) (c : Cmd) (fab : Fab) : State :=
  let src := CmdSource.queue (BitVec.ofNat 8 q)
  let slot := c.slot
  let s := { s with decoded := s.decoded + 1 }
  let s := s.modQueue q (fun x => { x with cur := some c })
  if field slot 10 2 ≥ 2 ^ (s.queue q).replyLog2.toNat then (s.halt q 2 (.cmd src)).modQueue q (fun x => { x with cur := none })
  else
    let s := (s.modCtx (q / 4) (fun x => { x with history := addHist x.history c q })).trace
    if !headerOk q slot then (s.releaseLaunch c fab).badParam c
    else if !knownOpcodes.contains c.opcode then s.status c stBadOpcode
    else
      match s.deniedDetail q c with
      | some d => (s.releaseLaunch c fab).finish c stDenied d []
      | none =>
        if s.power.down || s.ownerDown c.opcode then (s.releaseLaunch c fab).status c stBusy else s.recordEntry q c fab

/-- A fetched slot decoded. -/
def State.decodeSlot (s : State) (q : Nat) (slot : List Byte) (fab : Fab) : State :=
  let src := CmdSource.queue (BitVec.ofNat 8 q)
  let c := s.bindPlat (q / 4) { src := src, slot := slot, datum := s.datum.counter, time := s.time, order := s.decoded + 1 }
  ({ s with lastQueue := q }).startCmd q c fab

/-- COMMAND_FETCH (R310, R321). -/
def State.fetch (s : State) (q : Nat) (fab : Fab) : State :=
  let x := s.fetchSlot q
  (x.2.advanceHead q).decodeSlot q x.1 fab

def execCommandFetch (fab : Fab) (s : State) : Res :=
  match s.nextQueue with
  | some q => when "COMMAND_FETCH" s.cpUp (s.fetch q fab)
  | none => .refused (.notOccurring "COMMAND_FETCH")

/-! ### Queue control -/

/-- NOP (R315). -/
def execNop (src : CmdSource) (s : State) : Res :=
  let c := s.cmd! src
  when "NOP" (s.runs src 0x0000) (if c.restZero [] then s.ok c else s.badParam c)

/-- Commands that a FENCE waits for: earlier ones of its queue, of the context with CONTEXT, and the deferred groups (R322). -/
def State.fenceOpen (s : State) (src : CmdSource) (c : Cmd) : Bool :=
  let x := srcCtx src
  s.grids.any (fun g => g.ctx == x && decide (g.order < c.order) && ((g.cmd.map (·.src)) == some src)) ||
  (bitOf (c.param 0 1) 0 && (s.openCmds x).any (fun d => decide (d.order < c.order))) ||
  !(s.deferredOpen x (c.param 2 2) c.order).isEmpty

/-- FENCE_COMMAND (R322, R293): it promotes what it waits for, and ends when nothing is left to wait for. -/
def execFenceCommand (src : CmdSource) (s : State) : Res :=
  let c := s.cmd! src
  when "FENCE_COMMAND" (s.runs src 0x0001)
    (if !c.restZero [(0, 1), (2, 2)] || decide (c.param 0 1 > 1) then s.badParam c
     else if s.fenceOpen src c then s.promote (srcCtx src) (c.param 2 2) c.order
     else s.ok c)

/-- The relation of a WAIT_FLAG (R323). -/
def flagHolds (c : Cmd) (w : Nat) : Bool :=
  let mask := if c.param 16 8 = 0 then 2 ^ 64 - 1 else c.param 16 8
  let a := w &&& mask
  let v := c.param 8 8
  match c.param 24 1 with
  | 0 => a == v
  | 1 => a != v
  | 2 => decide (a ≥ v)
  | _ => decide (a < v)

/-- The parameters of a WAIT_FLAG. -/
def waitFlagOk (c : Cmd) : Bool :=
  c.param 0 8 % 8 == 0 && decide (c.param 24 1 ≤ 3) && decide (c.param 25 1 ≤ 1) && c.restZero [(0, 26), (28, 4)] &&
  (bitOf (c.param 25 1) 0 || vaOk (c.param 0 8))

/-- A WAIT_FLAG reads its flag: it ends, or reads again 1 µs later, 2 µs for a host flag (R323). -/
def State.readFlag (s : State) (src : CmdSource) (fab : Fab) : State :=
  let c := s.cmd! src
  let host := bitOf (c.param 25 1) 0
  let a := c.param 0 8
  let x := if host then (s.getHost a 8, true, s) else s.engineRead (srcCtx src) (.cmd src) fab a 8
  let s := x.2.2
  let w := leNat x.1
  let c := s.cmd! src
  if c.dead then s.finish c stFabricDead 0 (natLE w 8)
  else if flagHolds c w then s.finish c stOk 0 (natLE w 8)
  else s.modCmd src (fun c => { c with lastRead := some (BitVec.ofNat 64 w, s.time + (if host then 2000 else 1000)) })

/-- A device flag can be read now. -/
def State.flagReady (s : State) (src : CmdSource) : Bool :=
  let c := s.cmd! src
  bitOf (c.param 25 1) 0 || s.readable (srcCtx src) (c.param 0 8) 8

/-- WAIT_FLAG (R323): the first read. -/
def execWaitFlag (src : CmdSource) (fab : Fab) (s : State) : Res :=
  let c := s.cmd! src
  when "WAIT_FLAG" (s.runs src 0x0002 && c.lastRead.isNone && s.flagReady src)
    (if waitFlagOk c then s.readFlag src fab else s.badParam c)

/-- WAIT_FLAG_REREAD (R323): the flag is read again when due. -/
def execWaitFlagReread (src : CmdSource) (fab : Fab) (s : State) : Res :=
  let due := match (s.cmd! src).lastRead with | some x => decide (x.2 ≤ s.time) | none => false
  when "WAIT_FLAG_REREAD" (s.runs src 0x0002 && due && s.flagReady src) (s.readFlag src fab)

/-- WAIT_FLAG_TIMEOUT (R323): TIMEOUT_US has passed; the last value read is the result. -/
def execWaitFlagTimeout (src : CmdSource) (s : State) : Res :=
  let c := s.cmd! src
  let us := c.param 28 4
  when "WAIT_FLAG_TIMEOUT" (s.runs src 0x0002 && c.lastRead.isSome && us != 0 && decide (c.time + us * 1000 ≤ s.time))
    (s.finish c stTimeout 0 (natLE ((c.lastRead.map (fun x => x.1.toNat)).getD 0) 8))

/-- SET_FLAG's store or addition (R324): the result and the state. -/
def State.setFlag (s : State) (src : CmdSource) (c : Cmd) (fab : Fab) : List Byte × State :=
  let a := c.param 0 8
  let v := c.param 8 8
  let x := srcCtx src
  if bitOf (c.param 17 1) 0 then
    let old := leNat (s.getHost a 8)
    if c.param 16 1 = 1 then (natLE old 8, s.putHost a (natLE (old + v) 8)) else ([], s.putHost a (natLE v 8))
  else if c.param 16 1 = 1 then
    let r := s.engineAdd x (.cmd src) fab a v
    (natLE (r.1.getD (2 ^ 64 - 1)) 8, r.2)
  else ([], ((s.engineWrite x (.cmd src) fab a (natLE v 8)).2).poke (s.ctx x).job a)

/-- SET_FLAG (R324). -/
def execSetFlag (src : CmdSource) (fab : Fab) (s : State) : Res :=
  let c := s.cmd! src
  let okP := decide (c.param 16 1 ≤ 1) && decide (c.param 17 1 ≤ 1) && c.restZero [(0, 18)] &&
    (bitOf (c.param 17 1) 0 || vaRange (c.param 0 8) 8)
  when "SET_FLAG" (s.runs src 0x0003 && (bitOf (c.param 17 1) 0 || s.writable (srcCtx src) (c.param 0 8) 8))
    (if okP then
       let r := s.setFlag src c fab
       r.2.finish (r.2.cmd! src) ((r.2.cmd! src).statusOr stOk) 0 r.1
     else s.badParam c)

/-- SIGNAL_HOST (R324). -/
def execSignalHost (src : CmdSource) (s : State) : Res :=
  let c := s.cmd! src
  let q := match src with | .queue q => q.toNat | .mailbox => 0
  when "SIGNAL_HOST" (s.runs src 0x0004)
    (if c.restZero [(0, 16)] then
       let s := if c.param 0 8 = 0 then s else s.putHost (c.param 0 8) (natLE (c.param 8 8) 8)
       (s.emit (.msix q)).ok c
     else s.badParam c)

/-! ### Wait cycles (R325, R326) -/

/-- The WAIT_FLAG on a device flag that a queue stands at. -/
def State.waitsAt (s : State) (q : Nat) : Option Cmd :=
  ((s.queue q).cur).filter (fun c => c.opcode == 2 && !bitOf (c.param 25 1) 0)

/-- The first 256 slots behind a queue's head (R325): what the ring holds now. -/
def State.behind (s : State) (q : Nat) : List Cmd :=
  let x := s.queue q
  (List.range (min 256 x.distance)).map (fun i =>
    { src := .queue (BitVec.ofNat 8 q)
      slot := if x.ringDev then
          (match s.localAddr (s.ctx (q / 4)).job (x.ringBase.toNat + 64 * ((x.head.toNat + i) % x.size)) with
           | some a => s.getDram a 64
           | none => zeros 64)
        else s.getHost (x.ringBase.toNat + 64 * ((x.head.toNat + i) % x.size)) 64 })

/-- A SET_FLAG that would let a WAIT_FLAG go: an ADD to its flag, or a STORE that satisfies it. -/
def setsFlag (w c : Cmd) : Bool :=
  c.opcode == 3 && !bitOf (c.param 17 1) 0 && c.param 0 8 == w.param 0 8 && (c.param 16 1 == 1 || flagHolds w (c.param 8 8))

/-- Queue a waits on queue b (R325). -/
def State.waitsOn (s : State) (a b : Nat) : Bool :=
  match s.waitsAt a, s.waitsAt b with
  | some w, some _ => (s.behind b).any (setsFlag w)
  | _, _ => false

/-- The queues that a queue reaches along the graph. -/
def State.waitsReach (s : State) (qs : List Nat) : Nat → List Nat → List Nat
  | 0, l => l
  | n + 1, l => s.waitsReach qs n ((l ++ qs.filter (fun b => l.any (fun a => s.waitsOn a b))).eraseDups)

/-- The queues of a context that lie on a cycle of its waits-for graph. -/
def State.cycleQueues (s : State) (c : Nat) : List Nat :=
  let qs := ctxQueues c
  qs.filter (fun q => (s.waitsReach qs 4 (qs.filter (fun b => s.waitsOn q b))).contains q)

/-- A wait cycle exists: every queue waits or is empty, and nothing else is in flight (R325). -/
def State.waitCycle (s : State) (c : Nat) : Bool :=
  (s.ctxLive c) && !(s.cycleQueues c).isEmpty &&
  (ctxQueues c).all (fun q => (s.waitsAt q).isSome || ((s.queue q).cur.isNone && (s.queue q).head == (s.queue q).tail && (s.queue q).barrier.isNone)) &&
  !s.grids.any (fun g => g.ctx == c) && !s.colls.any (fun x => x.ctx == c && x.run != 3) &&
  !s.inboxes.any (fun e => e.2.owner == c && e.2.enable && !e.2.waves.isEmpty)

/-- A declared cycle: its WAIT_FLAGs end with WAIT_CYCLE when the context's reset ends (R326). -/
def State.declareCycle (s : State) (c : Nat) : State :=
  let qs := s.cycleQueues c
  let ws := qs.filterMap (fun q => (s.waitsAt q).map (fun w => (q, BitVec.ofNat 64 (w.param 0 8))))
  let s := s.raise { code := 0x010A, ctx := some c }
  (s.modRecov (fun r => { r with ctxs := updateFirst (fun x => x.ctx == c) (fun x => { x with waitCycle := ws }) r.ctxs })).modCtx c
    (fun x => { x with cycleFinds := 0 })

/-- One context's check: five finds in a row declare the cycle. -/
def State.checkCycle (s : State) (c : Nat) : State :=
  if s.waitCycle c then
    if (s.ctx c).cycleFinds ≥ 4 then s.declareCycle c else s.modCtx c (fun x => { x with cycleFinds := x.cycleFinds + 1 })
  else s.modCtx c (fun x => { x with cycleFinds := 0 })

/-- The time between two checks (R325). -/
def cyclePeriod : Nat := 10000

/-- WAIT_CYCLE_CHECK (R325): every 10 µs. -/
def execWaitCycleCheck (s : State) : Res :=
  let cs := (s.contexts.filter (fun e => e.2.state == 1)).map (·.1)
  when "WAIT_CYCLE_CHECK" (s.cpUp && decide (s.lastCycleCheck + cyclePeriod ≤ s.time))
    { cs.foldl (fun s c => s.checkCycle c) s with lastCycleCheck := s.time }

end Sys2Proof.Machine
end

