-- ==== Sys2Proof/Machine/Release.lean ====
section
/-!
DEFINITION. What a reset releases: husks (R376 to R378), the stores in flight (R164 to R166), a core's work (R380), and everything that a
context owns (R379).
-/
namespace Sys2Proof.Machine

/-! ### Husks -/

/-- The 80 bytes of a command in a husk (R377). -/
def Hist.bytes (h : Hist) : List Byte :=
  slice h.slot 0 64 ++ natLE h.datum.toNat 8 ++ [BitVec.ofNat 8 h.queue, h.state] ++ natLE h.status.toNat 2 ++ zeros 4

/-- SEQ in the slot at a queue's HEAD (R376). -/
def State.headSeq (s : State) (q : Nat) : List Byte :=
  let x := s.queue q
  let a := x.ringBase.toNat + 64 * (x.head.toNat % x.size)
  if x.ringDev then
    match s.localAddr (s.ctx (q / 4)).job (a + 4) with
    | some la => s.getDram la 4
    | none => zeros 4
  else s.getHost (a + 4) 4

/-- The queue part of a husk's header. -/
def State.huskQueue (s : State) (q : Nat) : List Byte :=
  let x := s.queue q
  natLE x.head.toNat 4 ++ natLE x.tail.toNat 4 ++ natLE x.haltReason.toNat 4 ++ s.headSeq q

/-- A sample without a parity error. -/
def State.sampleOk (s : State) (k i : Nat) : Bool := !s.recov.parity.any (fun p => p.1 == k && p.2 == i)

/-- The 4,352 bytes of a core in a husk (R377). -/
def State.huskCore (s : State) (k : Nat) : List Byte :=
  let c := s.core k
  let t := c.exeTile
  let kid := ((s.grid? t.grid).map (fun g => g.kernel.toNat)).getD 0
  let valid := (List.range 16).foldl (fun n i => n + (if s.sampleOk k i then 2 ^ i else 0)) 0
  let dq := fun (q : Nat) =>
    let es := c.entries q
    let h := es.head?
    natLE ((h.map (fun e => e.base + 2 ^ 20 * (e.len / 64 - 1))).getD 0) 4 ++
      [BitVec.ofNat 8 es.length, BitVec.ofNat 8 (b2n ((h.map (·.ready)).getD false)), 0, 0]
  let tq := fun (q : Nat) =>
    let ts := c.tokens q
    natLE ((ts.head?.map (fun x => x.val.toNat)).getD 0) 4 ++ natLE ts.length 4
  let sample := fun (i : Nat) => if s.sampleOk k i then memReadN c.spad (0x10000 * i) 256 else zeros 256
  natLE (coreUnit k) 2 ++ natLE valid 2 ++ natLE c.ops.length 4 ++ natLE kid 4 ++
  natLE (t.td0.toNat) 2 ++ natLE (t.td1.toNat) 2 ++ natLE (t.td2.toNat) 2 ++ zeros 46 ++
  ((List.range 16).map dq).flatten ++ ((List.range 8).map tq).flatten ++ ((List.range 16).map sample).flatten

/-- A husk's bytes: header, the last 64 commands, and its cores (R376, R377). -/
def State.huskBytes (s : State) (code ctx : Nat) (isCore : Bool) (cores : List Nat) : List Byte :=
  let hist := (s.ctx ctx).history
  let len := 256 + 5120 + 4352 * cores.length
  natLE s.recov.nextHusk 4 ++ natLE code 2 ++ [BitVec.ofNat 8 ctx, BitVec.ofNat 8 (b2n isCore)] ++ natLE (s.ctx ctx).job.toNat 2 ++
  natLE cores.length 2 ++ natLE len 4 ++ natLE s.datum.counter.toNat 8 ++
  ((List.range 4).map (fun n => s.huskQueue (4 * ctx + n))).flatten ++ zeros 168 ++
  slice (hist.map Hist.bytes).flatten 0 5120 ++ (cores.map s.huskCore).flatten

/-- Bytes of the husk area (R378). -/
def huskArea : Nat := 67108864

/-- A husk written in the area; those it overwrites are gone (R378). Its index, and whether it is partial. -/
def State.writeHusk (s : State) (code ctx : Nat) (isCore : Bool) (cores : List Nat) : Nat × Bool × State :=
  let fit := cores.take ((huskArea - 5376) / 4352)
  let bs := s.huskBytes code ctx isCore fit
  let n := bs.length
  let start := if s.recov.huskPos + n ≤ huskArea then s.recov.huskPos else 0
  let i := s.recov.nextHusk
  let partly := decide (fit.length < cores.length) || fit.any (fun k => (List.range 16).any (fun j => !s.sampleOk k j))
  let up := fun (r : Recov) =>
    { r with
      nextHusk := i + 1
      huskPos := start + n
      husks := r.husks.filter (fun h => decide (start + n ≤ h.start) || decide (h.start + h.bytes.length ≤ start)) ++
        [{ index := i, start := start, bytes := bs }] }
  (i, partly, s.trace.modRecov up)

/-! ### Accesses in flight -/

/-- The request of an access is still in this module's router: it has not been accepted (R164). -/
def State.inRouter (s : State) (a : Access) : Bool :=
  let mine := fun (p : Packet) =>
    match p.body with
    | .req r => r.src.toNat == s.self && r.tag == a.req.tag && r.va == a.req.va
    | _ => false
  s.fabric.inject.any mine || s.ports.any (fun e => e.2.out.any (fun x => x.sent == 0 && mine x.p))

/-- The request of an access is a member of an entry that has not left: it has not been accepted, and it goes on (R201). -/
def State.inEntry (s : State) (a : Access) : Bool :=
  s.fabric.combines.any (fun e => !e.sent && decide (2 ≤ e.members.length) && e.members.any (fun p =>
    match p.body with
    | .req r => r.src.toNat == s.self && r.tag == a.req.tag && r.va == a.req.va
    | _ => false))

/-- An access stays, for its reply slot or because its home completes it (R165, R211). -/
def State.stays (s : State) (a : Access) : Bool :=
  match a.stage with
  | .timedOut _ => true
  | .sent => a.slot && (s.inEntry a || !s.inRouter a)
  | .retry _ => a.left && changes a.req.op
  | .repeatAt _ => a.left && changes a.req.op
  | .bearing => a.left && changes a.req.op
  | .slot => a.left && changes a.req.op
  | .ordered => false

/-- Stores and atomics not accepted, each counted once (R165, R166). -/
def State.lostStores (s : State) (sel : Access → Bool) : Nat :=
  let lost := s.fabric.accesses.filter (fun a => sel a && (!s.stays a || s.inEntry a))
  let ids := lost.filterMap (fun a =>
    match a.purpose with
    | .store k n => some (k, n)
    | .atomic k n _ _ => some (k, n)
    | _ => none)
  (ids.foldl (fun (l : List (Nat × Nat)) i => if l.contains i then l else i :: l) []).length

/-- Held stores and atomics of confirmed paths (R165). -/
def Core.heldStores (c : Core) : Nat := c.stores.countP (fun h => !h.isInv && !c.unconfirmed h.epoch)

/-- Selected accesses leave: their packets in the router and their requests held at this home go too; the rest are answered to nobody. -/
def State.dropAccesses (s : State) (sel : Access → Bool) : State :=
  let gone := s.fabric.accesses.filter (fun a => sel a && !s.stays a)
  let mine := fun (p : Packet) =>
    match p.body with
    | .req r => r.src.toNat == s.self && gone.any (fun a => a.slot && r.tag == a.req.tag && r.va == a.req.va)
    | _ => false
  let isHeld := fun (r : Request) => gone.any (fun a => !a.slot && a.req == r)
  let keep := fun (a : Access) =>
    if sel a then (if s.stays a then some { a with discard := true, keepOut := true } else none) else some a
  let up := fun (f : Fabric) =>
    { f with accesses := f.accesses.filterMap keep, combines := f.combines.filter (fun e => e.sent || !e.members.all mine), inject := f.inject.filter (fun p => !mine p) }
  let s := { s with ports := s.ports.map (fun (e : Nat × Port) => (e.1, { e.2 with out := e.2.out.filter (fun x => x.sent != 0 || !mine x.p) })) }
  (s.modFabric up).modHome (fun h => { h with parcels := h.parcels.map (fun p => { p with held := p.held.filter (fun r => !isHeld r) }) })

/-! ### Cores -/

/-- A core with nothing on it (R143, R380). -/
def Core.cleared (c : Core) (now : Nat) : Core :=
  { retired := c.retired, frozen := c.frozen, nextId := c.nextId, nextEpoch := c.nextEpoch, mark := c.mark, counters := c.counters
    lastIssue := now, freeSince := now }

/-- Stores and atomics of a core that its reset discards (R165). -/
def State.coreDiscards (s : State) (k : Nat) : Nat :=
  (s.core k).heldStores + s.lostStores (fun a => purposeCore a.purpose == some k)

/-- INVALIDATEs that nobody waits for any more: each keeps its reply slot until its box has acknowledged it (R211, R380). -/
def State.orphanInvals (s : State) (p : Inval → Bool) : State :=
  s.modFabric (fun f => { f with invals := updateAll (fun x => p x && x.orphan.isNone) (fun x => { x with orphan := some s.time }) f.invals })

/-- A core's work dropped: accesses, held stores, gang items (R380). -/
def State.dropCore (s : State) (k : Nat) : State :=
  let s := s.dropAccesses (fun a => purposeCore a.purpose == some k)
  let s := s.modCore k (fun c => c.cleared s.time)
  let s := s.orphanInvals (fun x => (x.issuer.map (·.1)) == some k)
  s.dropGang (k / 32) (fun j => j == k)

/-- A core out until module reset (R382). -/
def State.retireCore (s : State) (k : Nat) : State :=
  let s := s.modCore k (fun c => { c with retired := true, frozen := false })
  let s := s.modCluster (k / 32) (fun x =>
    { x with retired := x.retired ||| BitVec.ofNat 17 (2 ^ (k % 32)), retiredCore := BitVec.ofNat 5 (k % 32) })
  let s := s.modBoot (fun b => { b with retiredFlash := if b.retiredFlash.contains k then b.retiredFlash else b.retiredFlash ++ [k] })
  let r := k / 32 * 32
  let works := (List.range 17).any (fun i => !(s.core (r + i)).retired && (decide (i < 16) || (s.cluster (k / 32)).standbyActive))
  if works then s else s.askStop 0x0403

/-! ### Contexts -/

/-- Cores that hold a tile of a context, in rank order and ascending index (R376). -/
def State.ctxCores (s : State) (c : Nat) : List Nat :=
  (s.cores.filter (fun e => e.2.tiles.any (fun t => t.ctx == c))).map (·.1)

/-- Purposes of accesses that belong to the home or registrar and not to the context (R183). -/
def ofHome (p : Purpose) : Bool :=
  match p with
  | .drain _ _ => true
  | _ => false

/-- The reset notices of an inbox: to each origin, how many of its rows are discarded (chapter 12). -/
def State.resetNotices (s : State) (i : Nat) (x : Inbox) : List Packet :=
  x.origins.map (fun m =>
    let g : RowSeg :=
      { job := (s.ctx x.owner).job, inbox := BitVec.ofNat 8 i, kind := .resetNotice, wave := 0, token := 0, slot := 0, drop := false,
        status := .ok, weight := 0, offset := 0, listCrc := x.listCrc
        count := x.rows.countP (fun r => r.originModule == m.toNat), payload := [] }
    s.packet m true (if x.generate then .generate else .expert) 24 (.row g))

/-- An inbox released: its counters stay in the inbox window until it is configured again (R336, R348). -/
def Inbox.released (x : Inbox) : Inbox :=
  { received := x.received, byCount := x.byCount, byMarkers := x.byMarkers, byFloor := x.byFloor, byDeadline := x.byDeadline
    spilled := x.spilled, droppedRows := x.droppedRows, refusedRows := x.refusedRows, peak := x.peak }

/-- Inboxes of a context discarded, and their origins told. -/
def State.dropInboxes (s : State) (c : Nat) : State :=
  let mine := s.inboxes.filter (fun e => e.2.enable && e.2.owner == c)
  let s := mine.foldl (fun s e => (s.resetNotices e.1 e.2).foldl (fun s p => s.inject p) s) s
  { s with inboxes := s.inboxes.map (fun e => (e.1, if e.2.enable ∧ e.2.owner = c then e.2.released else e.2)) }

/-- Collectives and plats of a context end (R379). -/
def State.dropPlats (s : State) (c : Nat) : State :=
  { s with colls := s.colls.filter (fun x => x.ctx != c), plats := s.plats.filter (fun e => e.2.owner != c) }

/-- Moves of a job that this module takes part in end (R184, R379). -/
def State.dropMoves (s : State) (job : BitVec 16) : State :=
  let s := (s.home.cadastre.filter (fun e => e.job == job && e.state == .moving)).foldl (fun s e => s.abandonEntry e.job e.parcel) s
  let frames := (s.home.incoming.filter (fun x => x.job == job)).map (·.frame)
  let s := frames.foldl (fun s f => s.freeFrame f) s
  (s.modHome (fun h => { h with
    incoming := h.incoming.filter (fun x => x.job != job)
    copies := h.copies.filter (fun x => x.job != job)
    reserved := h.reserved.filter (fun f => !frames.contains f) })).framesFreed

/-- The requests of other modules that a parcel holds are refused: their context is no longer here (R199 check 1, R379). -/
def State.refuseHeld (s : State) (p : HomeParcel) : State :=
  (p.held.filter (fun r => r.src.toNat != s.self)).foldl (fun s r => s.refuse r .denied 1) s

/-- Entries, frames, bearings and forwarding records of a job released (R379). -/
def State.dropJob (s : State) (job : BitVec 16) : State :=
  let mine := s.home.parcels.filter (fun p => p.job == job)
  let s := mine.foldl (fun s p => s.refuseHeld p) s
  let s := mine.foldl (fun s p => s.releaseHome p.job p.parcel) s
  s.modHome (fun h => { h with
    cadastre := h.cadastre.filter (fun e => e.job != job)
    bearings := h.bearings.filter (fun b => b.job != job)
    forwards := h.forwards.filter (fun f => f.job != job)
    freed := h.freed.filter (fun f => f.1 != job) })

/-- Remote lines of a context dropped from a hoard, and its held lines released (R146, R290). -/
def Cluster.dropCtx (x : Cluster) (c : Nat) : Cluster :=
  { x with hoard := (x.hoard.filter (fun l => match l.key with | .remote d _ => d != c | .loc _ => true)).map (fun l =>
      match l.hold with
      | some (d, _, _) => if d = c then { l with hold := none } else l
      | none => l) }

/-- A context's hold on hoards, gang units and cores released. -/
def State.dropEngines (s : State) (c : Nat) : State :=
  let s := (s.ctxCores c).foldl (fun s k => s.dropCore k) s
  let s := { s with cores := s.cores.map (fun (e : Nat × Core) => (e.1,
    if e.2.prevCtx = some c then { e.2.cleared s.time with lastIssue := e.2.lastIssue, freeSince := e.2.freeSince } else e.2)) }
  let grids := (s.grids.filter (fun g => g.ctx == c)).map (·.id)
  let s := { s with clusters := s.clusters.map (fun (e : Nat × Cluster) =>
    let x := e.2.dropCtx c
    (e.1, { x with gang := { x.gang with waiting := x.gang.waiting.filter (fun w => !grids.contains w.1) } })) }
  { s with grids := s.grids.filter (fun g => g.ctx != c), slices := s.slices.filter (fun x => !grids.contains x.grid) }

/-- The discards of a context reset (R165). -/
def State.ctxDiscards (s : State) (c : Nat) : Nat :=
  ((s.ctxCores c).map (fun k => (s.core k).heldStores)).foldl (· + ·) 0 + s.lostStores (fun a => a.ctx == c)

/-- Everything that a context owns released (R379). -/
def State.releaseCtx (s : State) (c : Nat) : State :=
  let job := (s.ctx c).job
  let s := s.dropEngines c
  let s := s.dropAccesses (fun a => a.ctx == c && !ofHome a.purpose)
  let s := (s.orphanInvals (fun x => x.ctx == c)).modFabric (fun f => { f with ownWaiting := f.ownWaiting.filter (fun x => x.1 != c) })
  ((((s.dropPlats c).dropInboxes c).dropMoves job).dropJob job).ownNext

/-- A context FREE again: of its fields, LAST_RESET_DISCARDS stays (R166, R379). -/
def State.freeCtx (s : State) (c : Nat) : State :=
  s.setCtx c { discards := (s.ctx c).discards, former := some (s.ctx c).job, orphanReturns := (s.ctx c).orphanReturns }

/-- A running command of a queue ends with the reset (R166, R326, R327). -/
def State.endCmd (s : State) (q : Nat) (x : CtxReset) (cmd : Cmd) : State :=
  let st :=
    if x.askers.contains q ∧ (cmd.opcode = 0x0101 ∨ cmd.opcode = 0x0102) then stOk
    else if x.waitCycle.any (fun w => w.1 == q) then stWaitCycle else stCtxReset
  let addr := (x.waitCycle.find? (fun w => w.1 == q)).map (·.2)
  let body := natLE x.discards 4 ++ (match addr with | some a => zeros 4 ++ natLE a.toNat 8 | none => [])
  (s.trace).writeReply cmd st 0 body

/-- The queues of a context ended: replies written, HEAD at TAIL (R327). Deferred launches are commands that run, too. -/
def State.endQueues (s : State) (c : Nat) (x : CtxReset) : State :=
  let q := fun (k : Cmd) => match k.src with | .queue q => q.toNat | .mailbox => 0
  let s := ((s.openCmds c) ++ ((s.ctx c).replay.map (·.cmd)).toList).foldl (fun s k => s.endCmd (q k) x k) s
  let s := x.deferred.foldl (fun s k => s.endCmd (q k) x k) s
  (ctxQueues c).foldl (fun s n => s.modQueue n (fun y => { y with cur := none, barrier := none, release := none, head := y.tail })) s

end Sys2Proof.Machine
end

