-- ==== Sys2Proof/Machine/Contexts.lean ====
section
/-!
DEFINITION. The context commands (R169, R315, R316, R379, R382).
-/
namespace Sys2Proof.Machine

/-- Bits and bytes of CTX_CREATE that no list decides (R315). -/
def createOk (cmd : Cmd) : Bool :=
  let n := cmd.param 8 4
  cmd.restZero [(0, 1), (2, 3), (8, 4), (16, 8)] && decide (cmd.param 0 1 < 64) && cmd.param 2 2 != 0 && decide (cmd.param 4 1 ≤ 1) &&
  decide (1 ≤ n ∧ n ≤ 32768)

/-- The standby core of each cluster with a retired core takes its place (R382). -/
def State.enableStandby (s : State) : State :=
  { s with clusters := s.clusters.map (fun (e : Nat × Cluster) =>
      (e.1, if e.2.retired.toNat % 65536 ≠ 0 ∧ e.2.retired.toNat < 65536 then { e.2 with standbyActive := true } else e.2)) }

/-- The doorbell mirrors of this module (R343). -/
def State.ownMirror (s : State) : Va := BitVec.ofNat 56 (mirrorBase + s.self * 0x200000)

/-- CTX_CREATE (R169, R315). -/
def State.ctxCreate (s : State) (src : CmdSource) : State :=
  let cmd := s.cmd! src
  let t := cmd.param 0 1
  let job := BitVec.ofNat 16 (cmd.param 2 2)
  if !createOk cmd then s.badParam cmd
  else
    let bs := s.getHost (cmd.param 16 8) (2 * cmd.param 8 4)
    let list := (chunks 2 bs).map leNat
    if list.any (fun m => decide (m ≥ 32768)) then s.badParam cmd
    else if (s.ctx t).state ≠ 0 then s.status cmd stBusy
    else if (s.ctxOf job).isSome then s.finish cmd stDenied 4 []
    else
      let c : Context :=
        { state := 1, job := job, strict := cmd.param 4 1 == 1, moduleSet := list.map (BitVec.ofNat 15), setCrc := crc32 bs
          mirrorBase := s.ownMirror, history := (s.ctx t).history
          orphanReturns := if (s.ctx t).former = some job then (s.ctx t).orphanReturns else 0 }
      let s := (s.setCtx t c).enableStandby
      s.ok cmd (natLE c.setCrc.toNat 4 ++ natLE s.framesAvailable 4)

def execCtxCreate (src : CmdSource) (s : State) : Res := when "CTX_CREATE" (s.runs src 0x0100) (s.ctxCreate src)

/-- A context holds work, besides the command given (R316). -/
def State.holdsWork (s : State) (t order : Nat) : Bool :=
  (s.openCmds t).any (fun k => k.order != order) || (s.ctx t).replay.isSome || s.grids.any (fun g => g.ctx == t) || s.colls.any (fun x => x.ctx == t) ||
  s.inboxes.any (fun e => e.2.enable && e.2.owner == t && !(e.2.waves.isEmpty && e.2.rows.isEmpty)) ||
  (s.ctx t).waves.any (fun w => !w.receipt) || !(s.ctxCores t).isEmpty ||
  s.fabric.accesses.any (fun a => a.ctx == t && !ofHome a.purpose && (match a.stage with | .timedOut _ => false | _ => true))

/-- A command that asks for a reset of a context waits for it (R373, R379). -/
def State.askReset (s : State) (src : CmdSource) (t : Nat) : State :=
  let q := match src with | .queue q => q.toNat | .mailbox => 0
  let s := s.raise { code := 0x010B, ctx := some t }
  (s.modRecov (fun r =>
    { r with ctxs := updateFirst (fun x => x.ctx == t) (fun x => { x with askers := x.askers ++ [q] }) r.ctxs })).modCmd src
      (fun k => { k with handed := true })

/-- The target of CTX_DESTROY, CTX_RESET and CTX_QUERY. -/
def targetOk (cmd : Cmd) : Bool := cmd.restZero [(0, 1)] && decide (cmd.param 0 1 < 64)

/-- CTX_DESTROY (R316): a context without work is freed at once, one with work is reset. -/
def State.ctxDestroy (s : State) (src : CmdSource) : State :=
  let cmd := s.cmd! src
  let t := cmd.param 0 1
  if !targetOk cmd then s.badParam cmd
  else if (s.ctx t).state = 0 then s.ok cmd (natLE 0 4)
  else if (s.ctx t).state = 2 ∨ s.holdsWork t cmd.order then s.askReset src t
  else ((s.ok cmd (natLE 0 4)).releaseCtx t).freeCtx t

def execCtxDestroy (src : CmdSource) (s : State) : Res := when "CTX_DESTROY" (s.runs src 0x0101) (s.ctxDestroy src)

/-- CTX_RESET (R379): trigger HOST_REQUEST; a FREE context has nothing to discard. -/
def State.ctxResetCmd (s : State) (src : CmdSource) : State :=
  let cmd := s.cmd! src
  let t := cmd.param 0 1
  if !targetOk cmd then s.badParam cmd
  else if (s.ctx t).state = 0 then s.ok cmd (natLE 0 4)
  else s.askReset src t

def execCtxReset (src : CmdSource) (s : State) : Res := when "CTX_RESET" (s.runs src 0x0102) (s.ctxResetCmd src)

/-- Frames that the job of a context holds on this module. -/
def State.framesHeld (s : State) (t : Nat) : Nat :=
  if (s.ctx t).state = 0 then 0
  else s.home.parcels.countP (fun p => p.job == (s.ctx t).job && holdsFrame p.state)

/-- The results of CTX_QUERY (R315). While the CP is not running every context reads as FREE (R16). -/
def State.ctxReport (s : State) (t : Nat) : List Byte :=
  let c := s.ctx t
  if !s.cpUp then zeros 16
  else [c.state, BitVec.ofNat 8 (b2n c.strict), BitVec.ofNat 8 c.programs.length, 0] ++ natLE (s.framesHeld t) 4 ++ natLE c.slack.toNat 8

def State.ctxQuery (s : State) (src : CmdSource) : State :=
  let cmd := s.cmd! src
  if !targetOk cmd then s.badParam cmd else s.ok cmd (s.ctxReport (cmd.param 0 1))

def execCtxQuery (src : CmdSource) (s : State) : Res := when "CTX_QUERY" (s.runs src 0x0103) (s.ctxQuery src)

end Sys2Proof.Machine
end

