-- ==== Sys2Proof/Machine/Plats.lean ====
section
/-!
DEFINITION. Plats and plat sets: PLAT_LOAD, PLATSET_ACTIVATE and its switch (R241 to R247), and PLAT_REFORM (R264).
-/
namespace Sys2Proof.Machine

/-- A plat of the table. -/
def State.plat? (s : State) (p : Nat) : Option Plat := (s.plats.find? (fun e => e.1 == p)).map (·.2)
def State.setPlat (s : State) (p : Nat) (x : Plat) : State := { s with plats := tset s.plats p x }

/-- Members that the plat tables can hold (R241). -/
def platMembers : Nat := 16777216

/-- The collective engine works on a plat of the module. -/
def State.platRuns (s : State) (p : Nat) : Bool := s.colls.any (fun x => x.platId == p && x.run != 3)

/-- The members of a descriptor. -/
def memberList (b : List Byte) (n : Nat) : List (BitVec 15) := (List.range n).map (fun i => BitVec.ofNat 15 (field b (64 + 2 * i) 2))

/-- The checks of R243 on a descriptor and its member list; in a replay the recorded Job ID stands for the context's (R305;
notes/assumptions/36.md). -/
def State.platOk (s : State) (c : Nat) (b : List Byte) : Bool :=
  let n := field b 4 4
  let dims := field b 9 1
  let e := fun (d : Nat) => field b (12 + 4 * d) 4
  let us := field b 24 4
  let ms := memberList b n
  decide (field b 0 2 < 4096) && (field b 2 2 == (s.ctx c).job.toNat || (s.ctx c).replayJob == some (BitVec.ofNat 16 (field b 2 2))) && decide (1 ≤ n ∧ n ≤ 32768) && decide (field b 8 1 ≤ 1) &&
  decide (1 ≤ dims ∧ dims ≤ 3) && field b 10 2 == 0 && e 0 * e 1 * e 2 == n && (decide (2 ≤ dims) || e 1 == 1) &&
  (decide (3 ≤ dims) || e 2 == 1) && (us == 0 || decide (1000 ≤ us ∧ us ≤ 10000000)) && slice b 35 29 == zeros 29 &&
  crc32 (slice b 64 (2 * n)) == BitVec.ofNat 32 (field b 28 4) && (List.range n).all (fun i => decide (field b (64 + 2 * i) 2 < 32768)) &&
  ms.eraseDups.length == n && ms.all (fun m => (s.ctx c).moduleSet.contains m) && ms.contains (BitVec.ofNat 15 s.self)

/-- The plat that a descriptor describes (R242). -/
def platOf (c : Nat) (b : List Byte) : Plat :=
  { owner := c, members := memberList b (field b 4 4), e0 := field b 12 4, e1 := field b 16 4, e2 := field b 20 4
    reformable := bitOf (field b 8 1) 0, straggler := if field b 24 4 = 0 then 50000 else field b 24 4
    listCrc := BitVec.ofNat 32 (field b 28 4), setMask := BitVec.ofNat 16 (field b 32 2), slot := field b 34 1 }

/-- A descriptor read, with the member list that its header announces. -/
def State.readPlat (s : State) (src : CmdSource) (fab : Fab) (a : Nat) : List Byte × State :=
  let c := srcCtx src
  let h := s.engineRead c (.cmd src) fab a 64
  let n := field h.1 4 4
  if n ≤ 32768 then
    let m := h.2.2.engineRead c (.cmd src) fab (a + 64) (2 * n)
    (h.1 ++ m.1, m.2.2)
  else (h.1, h.2.2)

/-- A descriptor of the largest size does not wait for a move of its parcels. -/
def State.platReady (s : State) (src : CmdSource) (a : Nat) : Bool := s.readable (srcCtx src) a (64 + 65536)

/-- A plat's place in the sets of its context: its old slots left, its new ones taken (R245). -/
def Context.placePlat (x : Context) (p : Nat) (y : Plat) : Context :=
  let keys := ((List.range 16).filter (fun i => y.setMask.getLsbD i)).map (fun i => 256 * i + y.slot)
  { x with setSlots := keys.foldl (fun t k => tset t k p) (x.setSlots.filter (fun e => e.2 != p)) }

/-- A PLAT_ID stands in the active set of its context. -/
def Context.inActive (x : Context) (p : Nat) : Bool := x.setSlots.any (fun e => e.1 / 256 == x.activeSet && e.2 == p)

/-- Members held for all plats but one. -/
def State.membersBut (s : State) (p : Nat) : Nat :=
  ((s.plats.filter (fun e => e.1 != p)).map (fun e => e.2.members.length)).foldl (· + ·) 0

/-- PLAT_LOAD with its descriptor in hand (R241 to R245); DETAIL 3 says that another context holds the PLAT_ID (R313). -/
def State.loadPlat (s : State) (src : CmdSource) (b : List Byte) : State :=
  let c := srcCtx src
  let cmd := s.cmd! src
  let end_ := fun (st : Nat) => s.finish cmd (cmd.statusOr st) 0 []
  let held := s.finish cmd (cmd.statusOr stDenied) (if cmd.statusOr stDenied = stDenied then 3 else 0) []
  if !s.platOk c b then end_ stBadParam
  else
    let p := field b 0 2
    let y := platOf c b
    if ((s.plat? p).map (fun x => x.owner != c)).getD false then held
    else if (s.ctx c).inActive p || y.setMask.getLsbD (s.ctx c).activeSet then end_ stBusy
    else if s.membersBut p + y.members.length > platMembers then end_ stNoSpace
    else ((s.setPlat p y).modCtx c (fun x => x.placePlat p y)).finish cmd (cmd.statusOr stOk) 0 []

/-- PLAT_LOAD (R242). -/
def execPlatLoad (src : CmdSource) (fab : Fab) (s : State) : Res :=
  let c := s.cmd! src
  let a := c.param 0 8
  when "PLAT_LOAD" (s.runs src 0x0400 && s.platReady src a)
    (if c.restZero [(0, 8)] && vaRange a (64 + 65536) then
       let x := s.readPlat src fab a
       x.2.loadPlat src x.1
     else s.badParam c)

/-- The commands that an activation held are bound (R247). -/
def State.bindHeld (s : State) (c : Nat) : State :=
  (ctxQueues c).foldl (fun s q => s.modQueue q (fun x => { x with cur := x.cur.map (fun k => s.bindPlat c k) })) s

/-- The set becomes active, the reply is written and the held commands are bound (R247). -/
def State.switchSet (s : State) (cmd : Cmd) (set : Nat) (late : Bool) : State :=
  let c := srcCtx cmd.src
  let s := s.modCtx c (fun x => { x with activeSet := set, activate := none })
  (s.ok cmd [BitVec.ofNat 8 (b2n late)]).bindHeld c

/-- PLATSET_ACTIVATE (R247): it switches at once when T has come, and waits otherwise; a second one waits for the first. -/
def execPlatsetActivate (src : CmdSource) (s : State) : Res :=
  let c := srcCtx src
  let cmd := s.cmd! src
  let t := cmd.param 8 8
  when "PLATSET_ACTIVATE" (s.runs src 0x0401 && (s.ctx c).activate.isNone && !s.activateWaits c cmd.order)
    (if !cmd.restZero [(0, 1), (8, 8)] || decide (cmd.param 0 1 > 15) then (s.badParam cmd).bindHeld c
     else if t ≤ s.datum.counter.toNat then s.switchSet cmd (cmd.param 0 1) (decide (t < cmd.datum.toNat))
     else (s.modCtx c (fun x => { x with activate := some (cmd.param 0 1, BitVec.ofNat 64 t) })).modCmd src
       (fun k => { k with handed := true }))

/-- The PLATSET_ACTIVATE that waits in a context. -/
def State.activator (s : State) (c : Nat) : Option Cmd :=
  ((ctxQueues c).filterMap (fun q => (s.queue q).cur)).find? (fun k => k.opcode == 0x0401 && k.handed)

/-- PLATSET_SWITCH (R247). -/
def execPlatsetSwitch (ctx : BitVec 6) (s : State) : Res :=
  match (s.ctx ctx.toNat).activate, s.activator ctx.toNat with
  | some (set, t), some cmd =>
    when "PLATSET_SWITCH" (s.works && s.ctxLive ctx.toNat && decide (t.toNat ≤ s.datum.counter.toNat)) (s.switchSet cmd set false)
  | _, _ => .refused (.notOccurring "PLATSET_SWITCH")

/-- PLAT_REFORM with its descriptor in hand (R264). -/
def State.reformPlat (s : State) (src : CmdSource) (p : Nat) (b : List Byte) : State :=
  let c := srcCtx src
  let cmd := s.cmd! src
  let end_ := fun (st : Nat) => s.finish cmd (cmd.statusOr st) 0 []
  match s.plat? p with
  | some x =>
    if x.owner ≠ c ∨ !s.platOk c b ∨ field b 0 2 ≠ p then end_ stBadParam
    else if s.platRuns p then end_ stBusy
    else
      let y := platOf c b
      if s.membersBut p + y.members.length > platMembers then end_ stNoSpace
      else
        let z : Plat :=
          { x with
            members := y.members
            e0 := y.e0
            e1 := y.e1
            e2 := y.e2
            listCrc := y.listCrc
            collSeq := 0
            epoch := x.epoch + 1
            excluded := false }
        (s.setPlat p z).finish cmd (cmd.statusOr stOk) 0 (natLE (x.epoch + 1).toNat 2)
  | none => end_ stBadParam

/-- PLAT_REFORM (R264). -/
def execPlatReform (src : CmdSource) (fab : Fab) (s : State) : Res :=
  let c := s.cmd! src
  let a := c.param 8 8
  when "PLAT_REFORM" (s.runs src 0x0403 && s.platReady src a)
    (if c.restZero [(0, 2), (8, 8)] && vaRange a (64 + 65536) then
       let x := s.readPlat src fab a
       x.2.reformPlat src (c.param 0 2) x.1
     else s.badParam c)

end Sys2Proof.Machine
end

