-- ==== Sys2Proof/Machine/Collective.lean ====
section
/-!
DEFINITION. The collective engine on one member: chunks, owners and ring order (R244, R252 to R256), segments and credits (R249, R250),
the final rounding (R51), holds (R288), and the ends of a collective (R260 to R263).
-/
namespace Sys2Proof.Machine

/-! ### The rings (R244) -/

/-- Member count, extents and coordinates. -/
def Coll.n (x : Coll) : Nat := x.members.length
def Coll.extent (x : Coll) (d : Nat) : Nat := if d = 0 then x.e0 else if d = 1 then x.e1 else x.e2
def Coll.coordOf (x : Coll) (m d : Nat) : Nat :=
  if d = 0 then m % x.e0 else if d = 1 then m / x.e0 % x.e1 else m / (x.e0 * x.e1)
def Coll.coord (x : Coll) (d : Nat) : Nat := x.coordOf x.me d

/-- The member on this member's ring along a dimension at a ring index. -/
def Coll.along (x : Coll) (d i : Nat) : Nat :=
  let c := fun (k : Nat) => if k = d then i else x.coord k
  c 0 + x.e0 * (c 1 + x.e1 * c 2)

/-- The member to which this one sends along a dimension, and the one from which it receives (R254). -/
def Coll.next (x : Coll) (d : Nat) : Nat := x.along d ((x.coord d + 1) % x.extent d)
def Coll.prev (x : Coll) (d : Nat) : Nat := x.along d ((x.coord d + x.extent d - 1) % x.extent d)

/-- The place of a member's chunk in the order of owners, and the member that owns a chunk (R253). -/
def Coll.chunkOf (x : Coll) (m : Nat) : Nat := x.coordOf m 0 * (x.e1 * x.e2) + x.coordOf m 1 * x.e2 + x.coordOf m 2
def Coll.ownerOf (x : Coll) (q : Nat) : Nat :=
  q / (x.e1 * x.e2) + x.e0 * (q / x.e2 % x.e1 + x.e1 * (q % x.e2))

/-! ### Kinds -/

/-- Kinds that run a reduce phase, a gather phase, and those that move along rings. -/
def CollKind.reduces (k : CollKind) : Bool :=
  k == .barrier || k == .reduceScatter || k == .allReduce || k == .datumBarrier || k == .gns
def CollKind.gathers (k : CollKind) : Bool := k == .allGather || k == .allReduce || k == .datumBarrier || k == .gns
def CollKind.ring (k : CollKind) : Bool := k.reduces || k.gathers
def CollKind.arith (k : CollKind) : Bool := k == .reduceScatter || k == .allReduce
def CollKind.moves (k : CollKind) : Bool := k == .broadcast || k == .allGather || k == .allToAll

/-- The operation code in a segment (R249; notes/assumptions/32.md for the two kinds that a COLLECTIVE cannot name). -/
def CollKind.op (k : CollKind) : Byte :=
  match k with
  | .barrier => 0
  | .broadcast => 1
  | .reduceScatter => 2
  | .allGather => 3
  | .allReduce => 4
  | .allToAll => 5
  | .datumBarrier => 4
  | .gns => 4

/-- Elements that the chunks share: bytes for the kinds that move data. -/
def Coll.total (x : Coll) : Nat :=
  match x.kind with
  | .barrier => 0
  | .allGather => x.len * x.n
  | .datumBarrier => 1
  | .gns => 1
  | _ => x.len

/-- Words that hold one element: a gradient-noise element is two pairs and a count (R301). -/
def Coll.units (x : Coll) : Nat := if x.kind = .gns then 3 else 1

/-- The first element of chunk q (R253). -/
def Coll.chunkStart (x : Coll) (q : Nat) : Nat := q * (x.total / x.n) + min q (x.total % x.n)

/-- The format written: MAX, MIN and an INT32 SUM write their input format (R252). -/
def Coll.outFmt (x : Coll) : Nat := if x.inFormat = 6 ∨ x.reduction ≠ 0 then x.inFormat.toNat else x.outFormat.toNat

/-- The sum travels as compensated pairs (R49, R252). -/
def Coll.pairs (x : Coll) : Bool := x.kind.arith && x.reduction == 0 && x.inFormat != 6

/-- The gather phase carries MX blocks. -/
def Coll.mx (x : Coll) (gather : Bool) : Bool := x.kind == .allReduce && gather && isMx x.outFmt

/-- Payload bytes of one element (R252). -/
def Coll.wireBytes (x : Coll) (gather : Bool) : Nat :=
  match x.kind with
  | .barrier => 0
  | .datumBarrier => 8
  | .gns => 24
  | .reduceScatter => if x.pairs then 8 else 4
  | .allReduce => if gather then elemBits x.outFmt / 8 else if x.pairs then 8 else 4
  | _ => 1

/-- The WIRE code of a segment (R249; notes/assumptions/32.md). -/
def Coll.wireCode (x : Coll) (gather : Bool) : Byte :=
  if x.kind = .gns then 0
  else if x.kind.arith ∧ !gather then (if x.pairs then 0 else if x.inFormat = 6 then 2 else 1)
  else 3

/-! ### Blocks and segments -/

/-- The chunks of block b of the stage along a dimension (R253). -/
def Coll.block (x : Coll) (d b : Nat) : Nat × Nat :=
  if d = 0 then (b * (x.e1 * x.e2), (b + 1) * (x.e1 * x.e2))
  else if d = 1 then
    let q := x.coord 0 * (x.e1 * x.e2) + b * x.e2
    (q, q + x.e2)
  else
    let q := x.coord 0 * (x.e1 * x.e2) + x.coord 1 * x.e2 + b
    (q, q + 1)

/-- A range cut into pieces of at most `per`. -/
def cutRange (start len per : Nat) : List (Nat × Nat) :=
  (List.range (ceilDiv len (max 1 per))).map (fun i => (start + i * per, min per (len - i * per)))

/-- Elements that a segment can carry: whole MX blocks, which run from the first element of a chunk (R249; notes/assumptions/33.md). -/
def Coll.perSegment (x : Coll) (gather : Bool) : Nat :=
  if x.mx gather then 2048 / (elemBits x.outFmt * 4 + 1) * 32 else 2048 / max 1 (x.wireBytes gather)

/-- The element ranges of the segments that carry chunks q0 to q1, each inside its chunk (R249); a barrier's segments are empty (R256). -/
def Coll.pieces (x : Coll) (gather : Bool) (q0 q1 : Nat) : List (Nat × Nat) :=
  if x.kind = .barrier then [(0, 0)]
  else ((List.range (q1 - q0)).map (fun i =>
    cutRange (x.chunkStart (q0 + i)) (x.chunkStart (q0 + i + 1) - x.chunkStart (q0 + i)) (x.perSegment gather))).flatten

/-- The first element of the chunk that holds an element, among chunks q0 to q1. -/
def Coll.chunkHead (x : Coll) (q0 q1 i : Nat) : Nat :=
  ((List.range (q1 - q0)).map (fun k => x.chunkStart (q0 + k))).foldl (fun h c => if c ≤ i then max h c else h) 0

/-- The payload of a range of elements in hand. -/
def Coll.encode (x : Coll) (gather : Bool) (p : Nat × Nat) : List Byte :=
  let word := fun (i : Nat) => tget x.work i 0
  if x.kind = .barrier then []
  else if x.kind = .gns then ((List.range (3 * p.2)).map (fun i => natLE (word (3 * p.1 + i)).toNat 8)).flatten
  else if x.mx gather then
    let ws := (List.range p.2).map (fun i => (word (p.1 + i)).toNat)
    packElems x.outFmt (ws.map (fun w => w % 65536)) ++
      (List.range (ceilDiv p.2 32)).map (fun b => BitVec.ofNat 8 (ws.getD (32 * b) 0 / 65536))
  else ((List.range p.2).map (fun i => natLE (word (p.1 + i)).toNat (x.wireBytes gather))).flatten

/-- The words of a payload. -/
def Coll.decode (x : Coll) (gather : Bool) (p : Nat × Nat) (bs : List Byte) : List Word64 :=
  if x.kind = .barrier then []
  else if x.kind = .gns then (List.range (3 * p.2)).map (fun i => BitVec.ofNat 64 (field bs (8 * i) 8))
  else if x.mx gather then
    let at_ := elemBytes x.outFmt p.2
    (List.range p.2).map (fun i => BitVec.ofNat 64 (elemAt x.outFmt bs i + 65536 * field bs (at_ + i / 32) 1))
  else
    let w := x.wireBytes gather
    (List.range p.2).map (fun i => BitVec.ofNat 64 (field bs (w * i) w))

/-- A segment of this member. -/
def Coll.segment (x : Coll) (job : BitVec 16) (d : Nat) (gather : Bool) (step base : Nat) (p : Nat × Nat) (bs : List Byte) : Segment :=
  { platId := BitVec.ofNat 12 x.platId, job := job, collSeq := x.seq, op := x.kind.op, dim := BitVec.ofNat 2 d, gather := gather
    step := BitVec.ofNat 16 step, offset := BitVec.ofNat 32 (p.1 - base), member := BitVec.ofNat 16 x.me, epoch := x.epoch
    wire := x.wireCode gather, payload := bs }

/-! ### Arithmetic -/

/-- A pair in one word: s below, c above (R49). -/
def pairWord (p : Word32 × Word32) : Word64 := BitVec.ofNat 64 (p.1.toNat + 2 ^ 32 * p.2.toNat)
def pairLo (w : Word64) : Word32 := BitVec.ofNat 32 w.toNat
def pairHi (w : Word64) : Word32 := BitVec.ofNat 32 (w.toNat / 2 ^ 32)

/-- Two pairs combined, the incoming one first (R50). -/
def pairComb (a b : Word64) : Word64 := pairWord (combine (pairLo a) (pairHi a) (pairLo b) (pairHi b))

/-- One word of the incoming partial combined with this member's own (R252, R254, R301, R360). -/
def Coll.comb (x : Coll) (i : Nat) (inc own : Word64) : Word64 :=
  match x.kind with
  | .datumBarrier => if inc.toNat ≤ own.toNat then own else inc
  | .gns => if i % 3 = 2 then inc + own else pairComb inc own
  | _ =>
    if x.reduction = 1 then BitVec.ofNat 64 (fmax (pairLo inc) (pairLo own)).v.toNat
    else if x.reduction = 2 then BitVec.ofNat 64 (fmin (pairLo inc) (pairLo own)).v.toNat
    else if x.inFormat = 6 then BitVec.ofNat 64 ((inc.toNat + own.toNat) % 2 ^ 32)
    else pairComb inc own

/-- What the final rounding counts of the sum of element i that is no longer finite (R44, chapter 2): nothing where a member entered the NaN
or the infinity (notes/assumptions/34.md). -/
def Coll.specialMade (x : Coll) (i : Nat) (v : FVal) : Made :=
  let own := pairVal (pairLo (x.input.getD i 0)) 0
  let others := decide (1 < x.n) && Config.specialEntered x.seq.toNat i
  match v, own with
  | .inf _, .inf _ => {}
  | .inf _, .nan => {}
  | .inf _, _ => if others then {} else ⟨0, 1, 0, 0⟩
  | .nan, .nan => {}
  | .nan, _ => if others then {} else ⟨1, 0, 0, 0⟩
  | _, _ => {}

/-- A sum rounded to a plain format (R51). -/
def roundSum (fmt : Nat) (mode : RMode) (w : Word64) : Nat × Made :=
  let v := pairVal (pairLo w) (pairHi w)
  let r := if fmt ≤ 2 then (layoutOf fmt).ofVal mode true v
    else
      let f := fp32L.ofVal .rne true v
      let g := narrow fmt mode true (BitVec.ofNat 32 f.1)
      (g.1, f.2.add g.2)
  r

/-- The rounding of the element whose destination is at an address (R42, R255). -/
def Coll.mode (x : Coll) (va : Nat) : RMode :=
  if x.sr then .sr (srDraw x.srJob x.srStep (va % 2 ^ 56) 3) else .rne

/-- Bytes between the addresses of two elements of the output (R42, R103). R255 gives each element its destination address; the elements of
an MX output share bytes, and their addresses here are one byte apart, as R103 has them for VSTORE (notes/assumptions/82.md). -/
def Coll.outStep (x : Coll) : Nat := if isMx x.outFmt then 1 else elemBits x.outFmt / 8

/-- One MX block of sums (R41, R51): its words, code below and scale above. -/
def mxBlock (fmt : Nat) (modes : List RMode) (ws : List Word64) : List Word64 × Made :=
  let fs := ws.map (fun w => fp32L.ofVal .rne true (pairVal (pairLo w) (pairHi w)))
  let q := quantise fmt modes (fs.map (fun f => BitVec.ofNat 32 f.1))
  (q.2.1.map (fun c => BitVec.ofNat 64 (c + 65536 * q.1)), fs.foldl (fun m f => m.add f.2) q.2.2)

/-- What the sums from element lo on count that are no longer finite. -/
def Coll.specials (x : Coll) (lo : Nat) (ws : List Word64) : Made :=
  ws.zipIdx.foldl (fun m e => m.add (x.specialMade (lo + e.2) (pairVal (pairLo e.1) (pairHi e.1)))) {}

/-- A chunk rounded once by its owner (R51, R255): `at_` is the address of its first element. -/
def Coll.roundChunk (x : Coll) (at_ : Nat) (ws : List Word64) : List Word64 × Made :=
  let f := x.outFmt
  let mode := fun (i : Nat) => x.mode (at_ + i * x.outStep)
  if !x.pairs then
    if x.inFormat = 6 then (ws, {}) else (ws.map (fun w => BitVec.ofNat 64 (narrow f .rne true (pairLo w)).1), {})
  else if isMx f then
    (List.range (ceilDiv ws.length 32)).foldl
      (fun (acc : List Word64 × Made) b =>
        let k := min 32 (ws.length - 32 * b)
        let r := mxBlock f ((List.range k).map (fun i => mode (32 * b + i))) ((ws.drop (32 * b)).take 32)
        (acc.1 ++ r.1, acc.2.add r.2)) ([], {})
  else
    (ws.zipIdx).foldl (fun (acc : List Word64 × Made) e =>
      let r := roundSum f (mode e.2) e.1
      (acc.1 ++ [BitVec.ofNat 64 r.1], acc.2.add r.2)) ([], {})

/-- The end of a reduce phase: this member's own chunk holds its values in the output format. -/
def Coll.finalise (x : Coll) : Coll × Made :=
  if x.kind.arith then
    let q := x.chunkOf x.me
    let lo := x.chunkStart q
    let ws := (List.range (x.chunkStart (q + 1) - lo)).map (fun i => tget x.work (lo + i) 0)
    let r := x.roundChunk (x.outAddr + (if x.kind = .allReduce then lo * x.outStep else 0)) ws
    ({ x with work := (r.1.zipIdx).foldl (fun t e => tset t (lo + e.2) e.1) x.work },
     if x.pairs then r.2.add (x.specials lo ws) else r.2)
  else (x, {})

/-! ### Stages and steps -/

/-- The stages in order, rings of one member left out: the reduce phase over dimensions 0, 1, 2, the gather phase over 2, 1, 0. -/
def Coll.stages (x : Coll) : List (Bool × Nat) :=
  ((if x.kind.reduces then [(false, 0), (false, 1), (false, 2)] else []) ++
   (if x.kind.gathers then [(true, 2), (true, 1), (true, 0)] else [])).filter (fun e => decide (1 < x.extent e.2))

/-- The block sent in a step, and the one received (R254). -/
def Coll.sendBlock (x : Coll) (gather : Bool) (d t : Nat) : Nat × Nat :=
  let e := x.extent d
  x.block d ((x.coord d + 2 * e - t + (if gather then 1 else 0)) % e)
def Coll.recvBlock (x : Coll) (gather : Bool) (d t : Nat) : Nat × Nat :=
  let e := x.extent d
  x.block d ((x.coord d + 2 * e - 1 - t + (if gather then 1 else 0)) % e)

/-- A stage entered: its first step is awaited and its first block is ready to leave. -/
def Coll.startStage (x : Coll) (job : BitVec 16) (st : Bool × Nat) : Coll :=
  let b := x.sendBlock st.1 st.2 1
  let segs := (x.pieces st.1 b.1 b.2).map (fun p =>
    (x.next st.2, x.segment job st.2 st.1 1 (x.chunkHead b.1 b.2 p.1) p (x.encode st.1 p)))
  { x with gather := st.1, dim := st.2, step := 1, got := 0, toSend := x.toSend ++ segs }

/-- The stage after the present one, or the end: `step` 0 says that nothing more is awaited. -/
def Coll.nextStage (x : Coll) (job : BitVec 16) (rest : List (Bool × Nat)) (fromReduce : Bool) : Coll × Made :=
  match rest with
  | st :: _ =>
    if fromReduce ∧ st.1 then
      let f := x.finalise
      (f.1.startStage job st, f.2)
    else (x.startStage job st, {})
  | [] =>
    let f := if fromReduce then x.finalise else (x, {})
    ({ f.1 with step := 0 }, f.2)

/-- The stages that follow one. -/
def stagesAfter (l : List (Bool × Nat)) (st : Bool × Nat) : List (Bool × Nat) := (l.dropWhile (fun e => e != st)).drop 1

/-- The position of this member in a BROADCAST's chain (R256). -/
def Coll.chain (x : Coll) : Nat := (x.me + x.n - x.root) % x.n

/-- The values with which this member enters (R49, R254, R256). -/
def Coll.initWork (x : Coll) : Table Word64 :=
  let from_ := fun (base : Nat) (l : List Word64) => l.zipIdx.map (fun (e : Word64 × Nat) => (base + e.2, e.1))
  match x.kind with
  | .barrier => []
  | .allGather => from_ (x.chunkStart (x.chunkOf x.me)) x.input
  | .allToAll =>
    let k := x.chunkStart (x.me + 1) - x.chunkStart x.me
    from_ (x.me * k) ((x.input.drop (x.chunkStart x.me)).take k)
  | _ => from_ 0 x.input

/-- The block that an ALL_TO_ALL sends to a member. -/
def Coll.blockFor (x : Coll) (job : BitVec 16) (t : Nat) : List (Nat × Segment) :=
  let j := (x.me + t) % x.n
  let lo := x.chunkStart j
  let y := { x with work := (((x.input.drop lo).take (x.chunkStart (j + 1) - lo)).zipIdx).map (fun (e : Word64 × Nat) => (e.2, e.1)) }
  (cutRange 0 (x.chunkStart (j + 1) - lo) 2048).map (fun p => (j, x.segment job 0 true t 0 p (y.encode true p)))

/-- A collective begins, or begins again on a new list: its first sends are ready. -/
def Coll.begin_ (x : Coll) (job : BitVec 16) : Coll × Made :=
  let x := { x with work := x.initWork, toSend := [], landing := [], got := 0, gather := false, dim := 0, step := 1 }
  match x.kind with
  | .broadcast =>
    let out := (cutRange 0 x.len 2048).map (fun p => ((x.me + 1) % x.n, x.segment job 0 true (x.chain + 1) 0 p (x.encode true p)))
    if x.chain = 0 then ({ x with step := 0, toSend := if x.n = 1 then [] else out }, {}) else (x, {})
  | .allToAll => ({ x with toSend := ((List.range (x.n - 1)).map (fun t => x.blockFor job (t + 1))).flatten }, {})
  | k => x.nextStage job x.stages k.reduces

/-- Segments awaited for the present step. -/
def Coll.need (x : Coll) : Nat :=
  match x.kind with
  | .broadcast => (cutRange 0 x.len 2048).length
  | .allToAll => (x.n - 1) * (cutRange 0 (x.chunkStart (x.me + 1) - x.chunkStart x.me) 2048).length
  | _ => let b := x.recvBlock x.gather x.dim x.step; (x.pieces x.gather b.1 b.2).length

/-- The range of elements that a landed segment carries, if it is one that is awaited now. The segments of a step come from one sender in
order (R198), which tells the chunk of a block's next segment. -/
def Coll.accepts (x : Coll) (g : Segment) : Option (Nat × Nat) :=
  let m := g.member.toNat
  match x.kind with
  | .broadcast =>
    if m = (x.me + x.n - 1) % x.n then (cutRange 0 x.len 2048).find? (fun p => p.1 == g.offset.toNat) else none
  | .allToAll =>
    if m < x.n ∧ m ≠ x.me then
      (cutRange 0 (x.chunkStart (x.me + 1) - x.chunkStart x.me) 2048).find? (fun p => p.1 == g.offset.toNat)
    else none
  | _ =>
    if m = x.prev x.dim ∧ g.gather = x.gather ∧ g.dim.toNat = x.dim ∧ g.step.toNat = x.step then
      let b := x.recvBlock x.gather x.dim x.step
      ((x.pieces x.gather b.1 b.2).drop x.got).head?.filter (fun p => p.1 - x.chunkHead b.1 b.2 p.1 == g.offset.toNat)
    else none

/-- A landed segment combined or stored, and forwarded as soon as that is done (R254, R256). -/
def Coll.consume (x : Coll) (job : BitVec 16) (g : Segment) (p : Nat × Nat) : Coll :=
  let ws := (x.decode x.gather p g.payload).zipIdx
  let x := { x with got := x.got + 1 }
  match x.kind with
  | .broadcast =>
    let y := { x with work := ws.foldl (fun t e => tset t (p.1 + e.2) e.1) x.work }
    if x.chain + 1 < x.n then
      { y with toSend := y.toSend ++ [((x.me + 1) % x.n, x.segment job 0 true (x.chain + 1) 0 p (y.encode true p))] }
    else y
  | .allToAll =>
    let base := g.member.toNat * (x.chunkStart (x.me + 1) - x.chunkStart x.me) + p.1
    { x with work := ws.foldl (fun t e => tset t (base + e.2) e.1) x.work }
  | _ =>
    let at_ := p.1 * x.units
    let put := fun (t : Table Word64) (e : Word64 × Nat) =>
      if x.gather then tset t (at_ + e.2) e.1 else tset t (at_ + e.2) (x.comb (at_ + e.2) e.1 (tget t (at_ + e.2) 0))
    let y := { x with work := ws.foldl put x.work }
    if x.step + 1 < x.extent x.dim then
      let b := x.recvBlock x.gather x.dim x.step
      { y with toSend := y.toSend ++
          [(x.next x.dim, x.segment job x.dim x.gather (x.step + 1) (x.chunkHead b.1 b.2 p.1) p (y.encode x.gather p))] }
    else y

/-- A step is complete: the next step, the next stage, or the end. -/
def Coll.stepDone (x : Coll) (job : BitVec 16) : Coll × Made :=
  match x.kind with
  | .broadcast => ({ x with step := 0 }, {})
  | .allToAll => ({ x with step := 0 }, {})
  | _ =>
    if x.step + 1 < x.extent x.dim then ({ x with step := x.step + 1, got := 0 }, {})
    else x.nextStage job (stagesAfter x.stages (x.gather, x.dim)) (!x.gather)

/-! ### Step boundaries (R248) -/

/-- Segments of a step of the present stage that wait to leave. -/
def Coll.unsent (x : Coll) (step : Nat) : Nat :=
  x.toSend.countP (fun e => e.2.gather == x.gather && e.2.dim.toNat == x.dim && e.2.step.toNat == step)

/-- Segments of an ALL_TO_ALL's block for a member, and how many of them wait to leave. -/
def Coll.blockSegs (x : Coll) (j : Nat) : Nat := (cutRange 0 (x.chunkStart (j + 1) - x.chunkStart j) 2048).length
def Coll.blockUnsent (x : Coll) (j : Nat) : Nat := x.toSend.countP (fun e => e.1 == j)

/-- No step is under way: nothing of the awaited step has come or left, and nothing of an earlier one waits to leave. Step t of an ALL_TO_ALL
is the send to one member (R256). -/
def Coll.atBoundary (x : Coll) : Bool :=
  match x.kind with
  | .allToAll => (List.range x.n).all (fun j => x.blockUnsent j == 0 || x.blockUnsent j == x.blockSegs j)
  | .broadcast => x.got == 0 && (x.chain != 0 || x.toSend.length == (cutRange 0 x.len 2048).length)
  | _ =>
    let b := x.sendBlock x.gather x.dim x.step
    x.step != 0 && x.got == 0 && x.unsent x.step == (x.pieces x.gather b.1 b.2).length && x.toSend.length == x.unsent x.step

/-- A segment belongs to a step that is under way: a collective that is to give up its slot begins no other. -/
def Coll.underWay (x : Coll) (e : Nat × Segment) : Bool :=
  match x.kind with
  | .allToAll => decide (x.blockUnsent e.1 < x.blockSegs e.1)
  | .broadcast => true
  | _ => x.step == 0 || e.2.step.toNat != x.step + 1 || decide (x.unsent (x.step + 1) < x.got)

/-- What a collective has done: itself, the senders of consumed segments, and what its rounding counted. -/
structure CollRun where
  coll : Coll
  used : List Nat
  made : Made
  /-- Steps that have ended. -/
  steps : Nat := 0

/-- Everything that has landed and is awaited is taken up. -/
def CollRun.go (job : BitVec 16) : Nat → CollRun → CollRun
  | 0, r => r
  | f + 1, r =>
    let x := r.coll
    if x.step = 0 then r
    else if x.got ≥ x.need then
      let y := x.stepDone job
      let n : CollRun := ⟨y.1, r.used, r.made.add y.2, r.steps + 1⟩
      if y.1.yields ∧ y.1.atBoundary then n else CollRun.go job f n
    else
      match x.landing.find? (fun g => (x.accepts g).isSome) with
      | none => r
      | some g =>
        let y := { x with landing := x.landing.erase g }
        CollRun.go job f ⟨y.consume job g ((x.accepts g).getD (0, 0)), r.used ++ [g.member.toNat], r.made, r.steps⟩

/-- Steps that one run can take. -/
def Coll.fuel (x : Coll) : Nat := x.landing.length + 2 * (x.e0 + x.e1 + x.e2) + 8

/-! ### Credits and packets -/

/-- A collective of the module by its number. -/
def State.coll? (s : State) (id : Nat) : Option Coll := s.colls.find? (fun x => x.id == id)
def State.putColl (s : State) (x : Coll) : State := { s with colls := updateFirst (fun y => y.id == x.id) (fun _ => x) s.colls }
def State.modColl (s : State) (id : Nat) (f : Coll → Coll) : State :=
  { s with colls := updateFirst (fun y => y.id == id) f s.colls }

/-- The traffic class of a collective (R249, R318). -/
def Coll.cls (x : Coll) : TClass := if x.generate then .generate else .collective

/-- The members that send to this one (R250). -/
def Coll.senders (x : Coll) : List Nat :=
  match x.kind with
  | .broadcast => if x.chain = 0 then [] else [(x.me + x.n - 1) % x.n]
  | .allToAll => (List.range x.n).filter (fun m => m != x.me)
  | _ => (((List.range 3).filter (fun d => decide (1 < x.extent d))).map x.prev).eraseDups

/-- The LIST_CRC of a member list (R242). -/
def listCrcOf (ms : List (BitVec 15)) : Word32 := crc32 (ms.map (fun m => natLE m.toNat 2)).flatten

/-- A grant of segment credits to a member (R250). -/
def State.grantSegs (s : State) (x : Coll) (m n : Nat) (first : Bool) : State :=
  let g : Grant :=
    { platId := BitVec.ofNat 12 x.platId, job := (s.ctx x.ctx).job, collSeq := x.seq, epoch := x.epoch, member := BitVec.ofNat 16 x.me
      count := n, listCrc := if first then some (listCrcOf x.members) else none }
  (s.inject (s.packet (x.members.getD m 0) true x.cls 24 (.grant g))).modColl x.id
    (fun y => { y with granted := tset y.granted m (tget y.granted m 0 + n) })

/-- Segment credits that a member grants on entering (R250). -/
def segCredits : Nat := 1024

/-- The first segment that may leave: its receiver has granted a credit. -/
def Coll.sendable (x : Coll) : Option (Nat × Segment) :=
  x.toSend.find? (fun e => decide (0 < tget x.credits e.1 0) && (!x.yields || x.underWay e))

/-- Segments leave while there are credits (R250), and not before the release datum of a staged collective (R361). -/
def State.sendSegs : Nat → State → Nat → State
  | 0, s, _ => s
  | f + 1, s, id =>
    match s.coll? id with
    | none => s
    | some x =>
      if x.run ≠ 1 ∨ x.gate.isSome then s
      else
        match x.sendable with
        | none => s
        | some e =>
          let y := { x with toSend := x.toSend.erase e, credits := tset x.credits e.1 (tget x.credits e.1 0 - 1) }
          State.sendSegs f
            ((s.putColl y).inject (s.packet (x.members.getD e.1 0) false x.cls (24 + e.2.payload.length) (.seg e.2))) id

/-! ### The end of a collective -/

/-- The command of a collective. -/
def State.collCmd (s : State) (x : Coll) : Option Cmd := (s.queue x.queue).cur.filter (fun c => c.order == x.order)
def Coll.src (x : Coll) : CmdSource := .queue (BitVec.ofNat 8 x.queue)

/-- A collective leaves its engine slot. -/
def State.dropColl (s : State) (id : Nat) : State := { s with colls := s.colls.filter (fun y => y.id != id) }

/-- Its reply (R315, R370): a COLLECTIVE's carries the count of its records. -/
def State.replyColl (s : State) (x : Coll) (st : Nat) (result : List Byte) : State :=
  match s.collCmd x with
  | some c => if c.opcode = 0x0402 then s.finish c (c.statusOr st) 0 (recordBytes result c.records) else s.finish c st 0 result
  | none => s


/-- Indices of the first list that are no longer members. -/
def Coll.removed (x : Coll) : List Nat := (x.first.zipIdx.filter (fun e => !x.members.contains e.1)).map (·.2)

/-- Status and result of a collective that completed (R260, R315). -/
def Coll.doneStatus (x : Coll) : Nat := if x.first = x.members then stOk else stReformed
def Coll.doneResult (x : Coll) : List Byte :=
  if x.first = x.members then natLE x.seq.toNat 4 ++ natLE x.epoch.toNat 2
  else natLE x.n 4 ++ natLE x.epoch.toNat 2 ++ natLE x.removed.length 2 ++
    ((List.range 4).map (fun i => natLE (x.removed.getD i 0xFFFF) 2)).flatten

/-- Elements in a format, packed; an MX array is followed by its scales at the next 64-byte boundary (R32; notes/assumptions/33.md).
`heads` are the elements with which the blocks begin. -/
def packOut (fmt : Nat) (ws : List Word64) (heads : List Nat) : List Byte :=
  if isMx fmt then
    let el := packElems fmt (ws.map (fun w => w.toNat % 65536))
    el ++ zeros (ceilDiv el.length 64 * 64 - el.length) ++ heads.map (fun i => BitVec.ofNat 8 ((ws.getD i 0).toNat / 65536))
  else (ws.map (fun w => natLE w.toNat (elemBits fmt / 8))).flatten

/-- The bytes that a member writes at its output address. -/
def Coll.outBytes (x : Coll) : List Byte :=
  let word := fun (i : Nat) => tget x.work i 0
  let bytes := fun (l : List Word64) => l.map (fun w => BitVec.ofNat 8 w.toNat)
  let heads := fun (q0 q1 base : Nat) =>
    ((List.range (q1 - q0)).map (fun i => (cutRange (x.chunkStart (q0 + i)) (x.chunkStart (q0 + i + 1) - x.chunkStart (q0 + i)) 32).map
      (fun p => p.1 - base))).flatten
  match x.kind with
  | .broadcast => bytes ((List.range x.len).map word)
  | .allToAll => bytes ((List.range (x.n * (x.chunkStart (x.me + 1) - x.chunkStart x.me))).map word)
  | .allGather =>
    bytes (((List.range x.n).map (fun m => (List.range x.len).map (fun i => word (x.chunkStart (x.chunkOf m) + i)))).flatten)
  | .reduceScatter =>
    let q := x.chunkOf x.me
    let lo := x.chunkStart q
    packOut x.outFmt ((List.range (x.chunkStart (q + 1) - lo)).map (fun i => word (lo + i))) (heads q (q + 1) lo)
  | .allReduce => packOut x.outFmt ((List.range x.len).map word) (heads 0 x.n 0)
  | _ => []

/-- An output buffer that is left undefined (R261): what an engine could write now in the frames of this module takes free
values (DESIGN CHOICE, log 69). -/
def State.spoil (s : State) (c a n : Nat) : State :=
  let d := s.drawBytes n
  (linesIn a n).foldl (fun (t : State) (p : Nat × Nat) =>
    let bs := slice d.1 (p.1 - a) p.2
    match t.homeAct (t.engineReq c .write p.1 p.2 0 0 bs), t.localAddr (t.ctx c).job p.1 with
    | .perform, some la => t.putDram la bs
    | _, _ => t) d.2

/-- It ends with COLLECTIVE_ABORTED, its output undefined (R261, R263). -/
def State.abortColl (s : State) (x : Coll) : State :=
  let t := (s.dropColl x.id).spoil x.ctx x.outAddr x.outBytes.length
  (t.modCtx x.ctx (fun c => { c with collAborts := c.collAborts + 1 })).replyColl x stAborted []

/-- Ways of a set that may be held (R148). -/
def heldWays : Nat := 12

/-- A held fill; into a set with 12 held ways it is an ordinary one, and counted (R148, R288). -/
def Cluster.fillHeld (x : Cluster) (k : LineKey) (data : List Byte) (h : Nat × Nat × Nat) : Cluster :=
  if (x.hoard.countP (fun l => lineSet l.key == lineSet k && l.hold.isSome && l.key != k)) < heldWays then x.fill k data false (some h)
  else { x.fill k data false none with holdRefused := x.holdRefused + 1 }

/-- One line of a hold read for a quadrant and filled into its clusters (R288). -/
def State.holdLine (s : State) (c : Nat) (h : Hold) (quad va : Nat) : State :=
  match s.localAddr (s.ctx c).job va with
  | none => s
  | some la =>
    let data := s.getDram la 128
    let ranks := (List.range s.enabledClusters).filter (fun r => s.quadOfRank r == quad)
    ranks.foldl (fun s r => s.modCluster r (fun x => x.fillHeld (s.lineKey c va) data (c, h.index, h.uses))) (s.moved la 128)

/-- A gather's hold takes effect (R288). -/
def State.takeHold (s : State) (c : Nat) (h : Hold) : State :=
  let s := s.holdFrames c h true
  let lines := (List.range (h.parcels * (frameBytes / 128))).map (fun i => h.base.toNat + 128 * i)
  let quads := (List.range 4).filter (fun q => h.quadMask.getLsbD q)
  let s := quads.foldl (fun s q => lines.foldl (fun s va => s.holdLine c h q va) s) s
  s.modCtx c (fun x => { x with holds := x.holds ++ [h] })

/-- A collective that has received and sent everything ends: output, hold, reply (R251, R256, R288, R301, R360). -/
def State.completeColl (s : State) (fab : Fab) (x : Coll) : State :=
  let word := fun (i : Nat) => tget x.work i 0
  match x.kind with
  | .datumBarrier =>
    (s.dropColl x.id).modQueue x.queue (fun q => { q with release := some (word 0, decide ((word 0).toNat < s.datum.counter.toNat)) })
  | .gns => (s.dropColl x.id).replyColl x x.doneStatus (natLE (word 0).toNat 8 ++ natLE (word 1).toNat 8 ++ natLE (word 2).toNat 8)
  | _ =>
    let s := (s.engineWrite x.ctx (.cmd x.src) fab x.outAddr x.outBytes).2
    let s := match x.hold with | some h => s.takeHold x.ctx h | none => s
    (s.dropColl x.id).replyColl x x.doneStatus x.doneResult

/-- Engine slots, and those in use (R248). -/
def collSlots : Nat := 16
def State.slotsUsed (s : State) : List Nat := (s.colls.filter (fun x => x.run == 1)).filterMap (·.slotNo)

/-- A GENERATE collective waits with every slot busy (R248). -/
def State.generateWaits (s : State) : Bool :=
  decide (s.slotsUsed.length = collSlots) && s.colls.any (fun y => y.generate && (y.run == 0 || y.run == 2) && s.ctxLive y.ctx)

/-- A collective at a step boundary gives its slot up (R248), if a GENERATE collective still waits for one. -/
def State.yieldSlot (s : State) (x : Coll) : State :=
  if s.generateWaits then
    (s.putColl { x with run := 2, slotNo := none, yields := false }).modHome (fun h => { h with preemptions := h.preemptions + 1 })
  else s.putColl { x with yields := false }

/-- A collective goes on as far as it can: landed segments are taken up, credits returned, segments sent, and its end. One that is to give
its slot up does so at its next step boundary. -/
def State.runColl (s : State) (fab : Fab) (id : Nat) : State :=
  match s.coll? id with
  | none => s
  | some x =>
    if x.run ≠ 1 then s
    else if x.yields ∧ x.atBoundary ∧ s.generateWaits then s.yieldSlot x
    else
      let r := CollRun.go (s.ctx x.ctx).job x.fuel ⟨x, [], {}, 0⟩
      let s := (List.range r.steps).foldl (fun (s : State) _ => s.trace) ((s.putColl r.coll).tally x.ctx r.made)
      let s := r.used.foldl (fun s m => s.grantSegs r.coll m 1 false) s
      let s := State.sendSegs r.coll.toSend.length s id
      match s.coll? id with
      | some y =>
        if y.step = 0 ∧ y.toSend = [] then s.completeColl fab y
        else if y.yields ∧ y.atBoundary then s.yieldSlot y else s
      | none => s

/-- A collective starts or starts again on its list: its senders are granted their credits (R250). -/
def State.enterColl (s : State) (fab : Fab) (x : Coll) : State :=
  let b := x.begin_ (s.ctx x.ctx).job
  let y := { b.1 with lastHeard := s.time, coordinatorHeard := s.time, lastReport := none, reports := [], acting := false, granted := [] }
  let s := (s.putColl y).tally x.ctx b.2
  let s := y.senders.foldl (fun s m => s.grantSegs y m segCredits true) s
  s.runColl fab x.id

/-- The range that a collective writes does not wait for a move (R172). -/
def State.collReady (s : State) (x : Coll) : Bool :=
  match x.kind with
  | .barrier => true
  | .datumBarrier => true
  | .gns => true
  | _ => s.writable x.ctx x.outAddr (max 1 x.outBytes.length)

/-! ### Re-forming and abort -/

/-- A plat replaced by its re-formed list (R260). -/
def Plat.reform (p : Plat) (ms : List (BitVec 15)) (epoch : BitVec 16) (crc : Word32) : Plat :=
  { p with members := ms, e0 := ms.length, e1 := 1, e2 := 1, epoch := epoch, listCrc := crc }

/-- A collective restarted on a re-formed list; one that is pre-empted waits for a slot as at first (R260). -/
def Coll.reform (x : Coll) (ms : List (BitVec 15)) (epoch : BitVec 16) (self : Nat) : Coll :=
  { x with
    members := ms
    e0 := ms.length
    e1 := 1
    e2 := 1
    epoch := epoch
    me := ms.idxOf (BitVec.ofNat 15 self)
    root := ms.idxOf (x.members.getD x.root 0)
    credits := []
    granted := []
    run := if x.run = 2 then 0 else x.run }

/-- A re-formed list taken by this member (R260, R263): the plat, and the collectives that run on it; what had landed of the
old epoch is discarded and counted (R390). -/
def State.takeReform (s : State) (fab : Fab) (p : Nat) (y : Plat) (ms : List (BitVec 15)) (epoch : BitVec 16) (crc : Word32) : State :=
  let stays := ms.contains (BitVec.ofNat 15 s.self)
  let cs := s.colls.filter (fun x => x.platId == p && x.ctx == y.owner && x.run != 3)
  if stays then
    let s := s.setPlat p (y.reform ms epoch crc)
    let strict := (s.ctx y.owner).strict
    let s := s.modCtx y.owner (fun c => { c with platReforms := c.platReforms + 1, slack := if strict then c.slack else c.slack + 1 })
    cs.foldl (fun s x =>
      let s := s.modCtx x.ctx (fun c => { c with staleSegments := c.staleSegments + BitVec.ofNat _ x.landing.length })
      if !x.reformable ∨ x.kind = .broadcast ∧ !ms.contains (x.members.getD x.root 0) then s.abortColl x
      else
        let z := x.reform ms epoch s.self
        if z.run = 1 then (s.putColl z).enterColl fab z else s.putColl z) s
  else
    let s := s.setPlat p { y with excluded := true, epoch := epoch }
    cs.foldl (fun s x => s.abortColl x) s

/-- A record to another module about a plat, in the collective's class. -/
def State.tell (s : State) (dst : BitVec 15) (cls : TClass) (b : Body) : State :=
  if dst.toNat = s.self then s else s.inject (s.packet dst false cls 32 b)

/-- A re-form record reaches a plat that is not REFORMABLE, or a context in STRICT mode: its collectives abort instead (R261, R262). -/
def State.refuseReform (s : State) (p : Nat) (y : Plat) : State :=
  (s.colls.filter (fun x => x.platId == p && x.ctx == y.owner && x.run != 3)).foldl (fun s x => s.abortColl x) s

/-- The coordinator re-forms the plat without the stragglers (R260). -/
def State.reformColl (s : State) (fab : Fab) (x : Coll) (gone : List Nat) : State :=
  match s.plat? x.platId with
  | none => s.abortColl x
  | some y =>
    let ms := (x.members.zipIdx.filter (fun e => !gone.contains e.2)).map (·.1)
    let r : ReformRec :=
      { platId := BitVec.ofNat 12 x.platId, job := (s.ctx x.ctx).job, epoch := x.epoch + 1, members := ms, listCrc := listCrcOf ms }
    let s := ms.foldl (fun s m => s.tell m x.cls (.reform r)) s
    s.takeReform fab x.platId y ms (x.epoch + 1) (listCrcOf ms)

/-- Every member is told of an abort, and this one ends (R261). -/
def State.abortAll (s : State) (x : Coll) : State :=
  let a : AbortRec := { platId := BitVec.ofNat 12 x.platId, job := (s.ctx x.ctx).job, collSeq := x.seq }
  (x.members.foldl (fun s m => s.tell m x.cls (.abort a)) s).abortColl x

end Sys2Proof.Machine
end

