-- ==== Sys2Proof/Machine/CollRows.lean ====
section
/-!
DEFINITION. The COLLECTIVE commands (R246, R251 to R256, R287, R318), the engine's slots and packets (R248 to R250), stragglers, re-forming
and abort (R258 to R263).
-/
namespace Sys2Proof.Machine

/-! ### The commands -/

/-- The parameters of a COLLECTIVE (R252, R287, R318). -/
def collOk (c : Cmd) : Bool :=
  let op := c.param 1 1
  let red := c.param 2 1
  let fi := c.param 3 1
  let fo := c.param 4 1
  c.restZero [(0, 9), (10, 34)] && decide (op ≤ 5) && decide (c.param 5 1 < 16) && decide (c.param 6 1 < 64) && decide (c.param 8 1 < 16) &&
  decide (red ≤ 2) && vaOk (c.param 16 8) && vaOk (c.param 24 8) &&
  (if op = 2 ∨ op = 4 then
     (decide (fi ≤ 4) || (fi == 6 && red == 0)) && decide (fo ≤ 12) && (fi == 6 || red != 0 || fo != 6)
   else fi == 0 && fo == 0) &&
  (!bitOf (c.param 5 1) 2 || (op == 3 && decide (1 ≤ c.param 7 1)))

/-- The bytes that a member reads (R251). -/
def collInput (c : Cmd) (root : Bool) : Nat :=
  let l := c.param 32 8
  match c.param 1 1 with
  | 0 => 0
  | 1 => if root then l else 0
  | 2 => elemBytes (c.param 3 1) l
  | 4 => elemBytes (c.param 3 1) l
  | _ => l

/-- The kind of an operation code. -/
def collKind (op : Nat) : CollKind :=
  match op with
  | 0 => .barrier
  | 1 => .broadcast
  | 2 => .reduceScatter
  | 3 => .allGather
  | 4 => .allReduce
  | _ => .allToAll

/-- The hold that a gather names (R287). -/
def collHold (c : Cmd) (n : Nat) : Option Hold :=
  if bitOf (c.param 5 1) 2 then
    some { index := c.param 6 1, uses := c.param 7 1, quadMask := BitVec.ofNat 4 (c.param 8 1), freeOnDrop := bitOf (c.param 5 1) 3
           base := BitVec.ofNat 56 (c.param 24 8), parcels := n * c.param 32 8 / frameBytes }
  else none

/-- A collective on a plat, as it stands before any data (R249): `y` is the plat. -/
def State.newColl (s : State) (c : Cmd) (kind : CollKind) (p : Nat) (y : Plat) : Coll :=
  let q := match c.src with | .queue q => q.toNat | .mailbox => 0
  { id := s.nextColl, ctx := q / 4, queue := q, kind := kind, platId := p, seq := y.collSeq, epoch := y.epoch, members := y.members
    e0 := y.e0, e1 := y.e1, e2 := y.e2, me := y.members.idxOf (BitVec.ofNat 15 s.self), straggler := y.straggler, first := y.members
    order := c.order, gate := (s.queue q).release.map (·.1) }

/-- The collective of a COLLECTIVE command. -/
def State.collOf (s : State) (c : Cmd) (p : Nat) (y : Plat) : Coll :=
  let x := s.newColl c (collKind (c.param 1 1)) p y
  { x with
    reduction := c.param 2 1
    inFormat := BitVec.ofNat 8 (c.param 3 1)
    outFormat := BitVec.ofNat 8 (c.param 4 1)
    sr := bitOf (c.param 5 1) 0
    generate := bitOf (c.param 5 1) 1
    root := c.param 12 4
    inAddr := c.param 16 8
    outAddr := c.param 24 8
    len := c.param 32 8
    srStep := BitVec.ofNat 32 (c.param 40 4)
    srJob := s.drawJob x.ctx
    hold := collHold c y.members.length
    reformable := y.reformable && !(s.ctx x.ctx).strict }

/-- The values that a member reads at its input address: FP32 for the reductions but INT32, bytes for the rest (R49, R252). -/
def Coll.words (x : Coll) (bs : List Byte) : List Word64 :=
  let f := x.inFormat.toNat
  if x.kind.arith then
    (List.range x.len).map (fun i =>
      let c := elemAt f bs i
      BitVec.ofNat 64 (if f = 6 then c else (widen f c).toNat))
  else bs.map (fun b => BitVec.ofNat 64 b.toNat)

/-- A collective given to the engine: it counts as begun on its plat (R249). -/
def State.beginColl (s : State) (src : CmdSource) (x : Coll) : State :=
  let s := { s with
    colls := s.colls ++ [x]
    nextColl := s.nextColl + 1
    plats := s.plats.map (fun (e : Nat × Plat) => if e.1 = x.platId then (e.1, { e.2 with collSeq := e.2.collSeq + 1 }) else e) }
  s.modCmd src (fun k => { k with handed := true })

/-- Two ranges that share a byte. -/
def rangesMeet (a n b m : Nat) : Bool := decide (0 < n ∧ 0 < m ∧ a < b + m ∧ b < a + n)

/-- The output range of a hold: whole parcels PINNED to this module (R287). -/
def State.holdRangeOk (s : State) (c base n : Nat) (fab : Fab) : Bool :=
  wholeParcels base n && (parcelsIn base n).all (fun pn => (s.pinnedAttr c pn fab).isSome)

/-- A COLLECTIVE whose parameters and plat allow it: it waits for its deferred groups, reads its input and goes to the engine. -/
def State.collGo (s : State) (src : CmdSource) (fab : Fab) (x : Coll) : State :=
  let c := s.cmd! src
  let n := collInput c (x.root == x.me)
  s.afterDeferred src (c.param 10 2)
    (let r := s.engineRead (srcCtx src) (.cmd src) fab x.inAddr n
     r.2.2.beginColl src { x with input := x.words r.1 })

/-- A COLLECTIVE (R246, R252, R253, R260, R263, R287, R318). -/
def State.collective (s : State) (src : CmdSource) (fab : Fab) : State :=
  let c := s.cmd! src
  let ctx := srcCtx src
  if !collOk c then s.badParam c
  else
    match (c.bound.getD none).bind (fun p => ((s.plat? p).filter (fun y => y.owner == ctx)).map (fun y => (p, y))) with
    | none => s.badParam c
    | some (p, y) =>
      let x := s.collOf c p y
      let l := c.param 32 8
      let inN := collInput c (x.root == x.me)
      let outN := x.outBytes.length
      if y.excluded then (if vaRange x.outAddr outN then s.spoil ctx x.outAddr outN else s).status c stAborted
      else if (x.kind = .broadcast ∧ x.root ≥ x.n) ∨ ((x.kind = .reduceScatter ∨ x.kind = .allToAll) ∧ l % x.n ≠ 0) ∨
          (x.reformable ∧ rangesMeet x.inAddr inN x.outAddr outN) ∨ !vaRange x.inAddr inN ∨ !vaRange x.outAddr outN then s.badParam c
      else
        match x.hold with
        | some h =>
          if !s.holdRangeOk ctx x.outAddr (x.n * l) fab then s.badParam c
          else if (s.ctx ctx).holds.any (fun z => z.index == h.index) then s.status c stBusy
          else s.collGo src fab x
        | none => s.collGo src fab x

/-- A COLLECTIVE of an operation can run now: it is bound, and its input does not wait for a move. -/
def State.collRuns (s : State) (src : CmdSource) (op : Nat) : Bool :=
  let c := s.cmd! src
  s.runs src 0x0402 && c.param 1 1 == op && c.bound.isSome && s.readable (srcCtx src) (c.param 16 8) (max 1 (collInput c true))

/-- BARRIER (R256). A COLLECTIVE whose OP names no operation ends here with BAD_PARAM (R252, R315). -/
def execBarrier (src : CmdSource) (s : State) : Res :=
  let c := s.cmd! src
  when "BARRIER" (s.runs src 0x0402 && (c.param 1 1 == 0 || decide (5 < c.param 1 1)) && c.bound.isSome)
    (s.collective src { lines := [], regs := [] })

/-- BROADCAST (R256). -/
def execBroadcast (src : CmdSource) (fab : Fab) (s : State) : Res := when "BROADCAST" (s.collRuns src 1) (s.collective src fab)

/-- REDUCE_SCATTER (R253). -/
def execReduceScatter (src : CmdSource) (fab : Fab) (s : State) : Res :=
  when "REDUCE_SCATTER" (s.collRuns src 2) (s.collective src fab)

/-- ALL_GATHER (R256). -/
def execAllGather (src : CmdSource) (fab : Fab) (s : State) : Res := when "ALL_GATHER" (s.collRuns src 3) (s.collective src fab)

/-- ALL_REDUCE (R255). -/
def execAllReduce (src : CmdSource) (fab : Fab) (s : State) : Res := when "ALL_REDUCE" (s.collRuns src 4) (s.collective src fab)

/-- ALL_TO_ALL (R256). -/
def execAllToAll (src : CmdSource) (fab : Fab) (s : State) : Res := when "ALL_TO_ALL" (s.collRuns src 5) (s.collective src fab)

/-! ### Engine slots (R248) -/

/-- The collective that takes the next free slot: GENERATE first, then the oldest. -/
def State.nextColl? (s : State) : Option Coll :=
  let ws := s.colls.filter (fun x => (x.run == 0 || x.run == 2) && s.ctxLive x.ctx)
  match ws.find? (fun x => x.generate) with
  | some x => some x
  | none => ws.head?

/-- COLLECTIVE_SLOT_START (R248, R250). -/
def execCollectiveSlotStart (fab : Fab) (s : State) : Res :=
  match s.nextColl? with
  | some x =>
    when "COLLECTIVE_SLOT_START" (s.works && decide (s.slotsUsed.length < collSlots) && s.collReady x)
      (let y := { x with run := 1, slotNo := some (firstFree s.slotsUsed s.slotsUsed.length 0), started := s.time }
       if x.run = 2 then (s.putColl { y with lastHeard := s.time }).runColl fab x.id else s.enterColl fab y)
  | none => .refused (.notOccurring "COLLECTIVE_SLOT_START")

/-- The running collective of another class that started last. -/
def State.lastStarted (s : State) : Option Coll :=
  (s.colls.filter (fun x => x.run == 1 && !x.generate)).foldl
    (fun (b : Option Coll) x => match b with | none => some x | some y => if y.started ≤ x.started then some x else b) none

/-- PREEMPTION (R248): a GENERATE collective waits with every slot busy; the one chosen gives its slot up now if it stands at a step boundary,
and at its next one otherwise. -/
def execPreemption (s : State) : Res :=
  match s.lastStarted with
  | some x =>
    when "PREEMPTION" (s.works && s.generateWaits && !s.colls.any (fun y => y.yields))
      (if x.atBoundary then s.yieldSlot x else s.putColl { x with yields := true })
  | none => .refused (.notOccurring "PREEMPTION")

/-! ### Segments and grants -/

/-- The collective that a record of a plat concerns. -/
def State.collFor (s : State) (p : Nat) (job : BitVec 16) (seq : Word32) : Option Coll :=
  s.colls.find? (fun x => x.platId == p && x.seq == seq && (s.ctx x.ctx).job == job && x.run != 3)

/-- The collective that runs and to which a segment belongs (R249). -/
def State.segColl (s : State) (g : Segment) : Option Coll :=
  (s.collFor g.platId.toNat g.job g.collSeq).filter (fun x => x.epoch == g.epoch && (x.run == 1 || x.run == 2))

/-- A stale segment counted (R249). -/
def State.staleSeg (s : State) (job : BitVec 16) : State :=
  match s.ctxOf job with
  | some c => s.modCtx c (fun x => { x with staleSegments := x.staleSegments + 1 })
  | none => s

/-- A removed member whose segment carries an old EPOCH learns of the re-form from the discard: the record goes to it (R263;
notes/assumptions/89.md). -/
def State.tellRemoved (s : State) (g : Segment) (from_ : BitVec 15) : State :=
  match s.plat? g.platId.toNat with
  | some y =>
    if (s.ctx y.owner).job = g.job ∧ newer y.epoch g.epoch ∧ !y.excluded ∧ !y.members.contains from_ then
      s.tell from_ .collective (.reform { platId := g.platId, job := g.job, epoch := y.epoch, members := y.members, listCrc := y.listCrc })
    else s
  | none => s

/-- Something has come from a member. -/
def Coll.hear (x : Coll) (now m : Nat) : Coll :=
  { x with lastHeard := now, coordinatorHeard := if m = 0 then now else x.coordinatorHeard }

/-- A packet for this module, whether it has been delivered by the router or comes from outside. -/
def State.forMe (s : State) (p : Packet) : Bool := s.mainUp && p.env.dest.toNat == s.self

/-- COLLECTIVE_SEGMENT (R249, R250, R254). -/
def execCollectiveSegment (p : Packet) (fab : Fab) (s : State) : Res :=
  match p.body with
  | .seg g =>
    match s.segColl g with
    | some x =>
      when "COLLECTIVE_SEGMENT" (s.forMe p && s.collReady x)
        (((s.takeArrived (· == p)).putColl ({ x with landing := x.landing ++ [g] }.hear s.time g.member.toNat)).runColl fab x.id)
    | none => when "COLLECTIVE_SEGMENT" (s.forMe p) (((s.takeArrived (· == p)).staleSeg g.job).tellRemoved g p.env.src)
  | _ => .refused (.notOccurring "COLLECTIVE_SEGMENT")

/-- A grant for a collective that this member has not begun yet: it waits (R250). -/
def State.grantEarly (s : State) (g : Grant) : Bool :=
  (s.ctxOf g.job).isSome &&
  (match s.plat? g.platId.toNat with
   | none => true
   | some y => newer g.epoch y.epoch || (g.epoch == y.epoch && (g.collSeq == y.collSeq || decide (1 ≤ (g.collSeq - y.collSeq).toNat ∧ (g.collSeq - y.collSeq).toNat < 2 ^ 31))))

/-- The collective to which a grant belongs. -/
def State.grantColl (s : State) (g : Grant) : Option Coll :=
  (s.collFor g.platId.toNat g.job g.collSeq).filter (fun x => x.epoch == g.epoch)

/-- A grant taken: lists that differ abort the collective with PLAT_MISMATCH (chapter 11). -/
def State.takeGrant (s : State) (fab : Fab) (x : Coll) (g : Grant) (from_ : Nat) : State :=
  let m := g.member.toNat
  if (g.listCrc.map (fun k => k != listCrcOf x.members)).getD false then
    (s.raise { code := 0x0301, ctx := some x.ctx, target := from_, attr := .cmd x.src }).abortAll x
  else (s.putColl ({ x with credits := tset x.credits m (tget x.credits m 0 + g.count) }.hear s.time m)).runColl fab x.id

/-- SEGMENT_GRANT (R250). -/
def execSegmentGrant (p : Packet) (fab : Fab) (s : State) : Res :=
  match p.body with
  | .grant g =>
    match s.grantColl g with
    | some x => when "SEGMENT_GRANT" (s.forMe p && s.collReady x) ((s.takeArrived (· == p)).takeGrant fab x g p.env.src.toNat)
    | none => when "SEGMENT_GRANT" (s.forMe p && !s.grantEarly g) (s.takeArrived (· == p))
  | _ => .refused (.notOccurring "SEGMENT_GRANT")

/-! ### Stragglers (R258 to R263) -/

/-- STRAGGLER_US and the report interval, in ns. -/
def Coll.limit (x : Coll) : Nat := x.straggler * 1000
def Coll.interval (x : Coll) : Nat := x.limit / 4

/-- A member holds an unfinished step. -/
def Coll.unfinished (x : Coll) : Bool := x.run == 1 && (x.step != 0 || !x.toSend.isEmpty)

/-- The member that this one waits on (R258). -/
def Coll.waitsOn (x : Coll) : Nat :=
  if x.step = 0 then (x.toSend.head?.map (·.1)).getD 0
  else
    match x.kind with
    | .broadcast => (x.me + x.n - 1) % x.n
    | .allToAll =>
      let k := (cutRange 0 (x.chunkStart (x.me + 1) - x.chunkStart x.me) 2048).length
      let ms := (List.range (x.n - 1)).map (fun t => (x.me + x.n - 1 - t) % x.n)
      (ms.find? (fun m => decide (tget x.granted m 0 < segCredits + k))).getD x.me
    | _ => x.prev x.dim

/-- A report entered: a wait that goes on keeps its beginning, one interval before its first report (R258, R259). -/
def Coll.report (x : Coll) (now m on : Nat) : Coll :=
  let old := x.reports.find? (fun r => r.1 == m && r.2.1 == on && decide (now ≤ r.2.2.2 + 2 * x.interval))
  let first := match old with | some r => r.2.2.1 | none => now - x.interval
  { x with reports := x.reports.filter (fun r => r.1 != m) ++ [(m, on, first, now)]
           coordinatorHeard := if m = 0 then now else x.coordinatorHeard }

/-- WAIT_REPORT_INTERVAL (R258). -/
def execWaitReportInterval (coll : Nat) (s : State) : Res :=
  match s.coll? coll with
  | some x =>
    let due := decide (max x.lastHeard (x.lastReport.getD 0) + x.interval ≤ s.time)
    let w : WaitReport :=
      { platId := BitVec.ofNat 12 x.platId, job := (s.ctx x.ctx).job, collSeq := x.seq, epoch := x.epoch, member := BitVec.ofNat 16 x.me
        waitsOn := BitVec.ofNat 16 x.waitsOn }
    when "WAIT_REPORT_INTERVAL" (s.works && x.unfinished && due)
      (let y := { x with lastReport := some s.time }
       let s := s.putColl (if x.me ≤ 1 then y.report s.time x.me x.waitsOn else y)
       (x.members.take 2).foldl (fun s m => s.tell m x.cls (.waitReport w)) s)
  | none => .refused (.notOccurring "WAIT_REPORT_INTERVAL")

/-- WAIT_REPORT (R258): the coordinator and the deputy keep it. -/
def execWaitReport (w : WaitReport) (s : State) : Res :=
  let s' := s.takeArrived (isBody (.waitReport w))
  when "WAIT_REPORT" s.mainUp
    (match (s.collFor w.platId.toNat w.job w.collSeq).filter (fun x => x.epoch == w.epoch && decide (x.me ≤ 1)) with
     | some x => s'.putColl (x.report s.time w.member.toNat w.waitsOn.toNat)
     | none => s')

/-- Reports not older than two intervals. -/
def Coll.fresh (x : Coll) (now : Nat) : List (Nat × Nat × Nat × Nat) :=
  x.reports.filter (fun r => decide (now ≤ r.2.2.2 + 2 * x.interval))

/-- The ends of the chains of waits: members waited on that have sent no report in the last two intervals (R259). -/
def Coll.stragglers (x : Coll) (now : Nat) : List Nat :=
  let rs := x.fresh now
  ((rs.map (fun r => r.2.1)).eraseDups).filter (fun m => !rs.any (fun r => r.1 == m))

/-- STRAGGLER_TIMEOUT (R259 to R262). -/
def execStragglerTimeout (coll : Nat) (fab : Fab) (s : State) : Res :=
  match s.coll? coll with
  | some x =>
    when "STRAGGLER_TIMEOUT"
      (s.works && (x.run == 1 || x.run == 2) && (x.me == 0 || (x.me == 1 && x.acting)) && s.collReady x &&
       (x.fresh s.time).any (fun r => decide (r.2.2.1 + x.limit ≤ s.time)))
      (let gone := x.stragglers s.time
       if gone = [] ∨ !x.reformable then s.abortAll x else s.reformColl fab x gone)
  | none => .refused (.notOccurring "STRAGGLER_TIMEOUT")

/-- DEPUTY_TAKEOVER (R258). -/
def execDeputyTakeover (coll : Nat) (s : State) : Res :=
  match s.coll? coll with
  | some x =>
    when "DEPUTY_TAKEOVER"
      (s.works && x.unfinished && x.me == 1 && !x.acting && decide (x.lastHeard + x.interval ≤ s.time) &&
       decide (x.coordinatorHeard + x.limit + 10000000 ≤ s.time))
      (s.putColl { x with acting := true })
  | none => .refused (.notOccurring "DEPUTY_TAKEOVER")

/-- The plat that a re-form record concerns, when the record is newer than what the table holds. -/
def State.reformPlat? (s : State) (r : ReformRec) : Option Plat :=
  (s.plat? r.platId.toNat).filter (fun y => (s.ctx y.owner).job == r.job && newer r.epoch y.epoch)

/-- REFORM_RECORD (R260 to R263). -/
def execReformRecord (r : ReformRec) (fab : Fab) (s : State) : Res :=
  let s' := s.takeArrived (isBody (.reform r))
  when "REFORM_RECORD" (s.mainUp && (s.colls.filter (fun x => x.platId == r.platId.toNat)).all s.collReady)
    (match s.reformPlat? r with
     | some y =>
       if y.reformable && !(s.ctx y.owner).strict then s'.takeReform fab r.platId.toNat y r.members r.epoch r.listCrc
       else s'.refuseReform r.platId.toNat y
     | none => s')

/-- COLLECTIVE_ABORT (R261). -/
def execCollectiveAbort (a : AbortRec) (s : State) : Res :=
  let s' := s.takeArrived (isBody (.abort a))
  when "COLLECTIVE_ABORT" s.mainUp
    (match s.collFor a.platId.toNat a.job a.collSeq with
     | some x => s'.abortColl x
     | none => s')

/-- COLLECTIVE_OWN_ABORT (R261). -/
def execCollectiveOwnAbort (coll : Nat) (s : State) : Res :=
  match s.coll? coll with
  | some x => when "COLLECTIVE_OWN_ABORT" (s.works && x.unfinished && decide (x.lastHeard + 2 * x.limit ≤ s.time)) (s.abortColl x)
  | none => .refused (.notOccurring "COLLECTIVE_OWN_ABORT")

end Sys2Proof.Machine
end

