-- ==== Sys2Proof/Machine/Datum.lean ====
section
/-!
DEFINITION. Datum time: the tree of parents (R355), timestamp exchanges and corrections (R356, R357), the DATUM_PPS input (R358, R412), and the
start barrier (R360 to R362).
-/
namespace Sys2Proof.Machine

/-! ### The tree (R355) -/

/-- The candidate with the least distance, ties to the earlier one. -/
def leastBy (f : Nat → Nat) : List Nat → Option Nat
  | [] => none
  | a :: l => some (l.foldl (fun b x => if f x < f b then x else b) a)

/-- Steps to coordinate 0 of a ring. -/
def ringHome (n i : Nat) : Nat := min i (n - i)

/-- The rack root of a module's rack, by logical ID. -/
def Plan.rackRoot (p : Plan) (m : Nat) : Nat :=
  let q := p.pos m
  let n := p.live.length
  let xs := (p.live.filter (fun i => i / 5 == q.x / 5))
  let ys := (List.range p.ny.toNat).filter (fun i => i / 4 == q.y / 4)
  let zs := (List.range p.nz.toNat).filter (fun i => i / 4 == q.z / 4)
  let x := (leastBy (fun i => ringHome n (p.logX i)) xs).getD q.x
  let y := (leastBy (ringHome p.ny.toNat) ys).getD q.y
  let z := (leastBy (ringHome p.nz.toNat) zs).getD q.z
  p.idOf ⟨x, y, z⟩

/-- The module towards which a module's parent lies; none for the system root. -/
def Plan.datumTarget (p : Plan) (m : Nat) : Option Nat :=
  if m = 0 then none else if p.rackRoot m = m then some 0 else some (p.rackRoot m)

/-- The port towards the parent (R355). -/
def Plan.parentPort (p : Plan) (m : Nat) : Option Nat := (p.datumTarget m).bind (fun t => ((route p m t).head?).map (·.port))

/-- The module behind a port, as the plan names it by position. -/
def Plan.neighbour (p : Plan) (m port : Nat) : Nat :=
  let q := p.pos m
  let n := p.nx
  let step := fun (i n : Nat) (plus : Bool) (k : Nat) => if plus then (i + k) % n else (i + n - k) % n
  match port with
  | 0 => p.idOf { q with x := step q.x n true 1 }
  | 1 => p.idOf { q with x := step q.x n false 1 }
  | 2 => p.idOf { q with x := step q.x n true 2 }
  | 3 => p.idOf { q with x := step q.x n false 2 }
  | 4 => p.idOf { q with y := step q.y p.ny.toNat true 1 }
  | 5 => p.idOf { q with y := step q.y p.ny.toNat false 1 }
  | 6 => p.idOf { q with z := step q.z p.nz.toNat true 1 }
  | _ => p.idOf { q with z := step q.z p.nz.toNat false 1 }

/-- Ports that are ACTIVE. -/
def State.activePorts (s : State) : List Nat := (List.range 8).filter (fun p => (s.port p).state == 2)

/-- The joined groups of a port: those whose profile names it (R218). -/
def State.portGroups (s : State) (p : Nat) : List Nat :=
  (List.range 36).filter (fun g => (s.group g).state == 2 && (s.group g).role.toNat % 16 == p)

/-- Every ACTIVE port has a measured delay. -/
def State.portsMeasured (s : State) : Bool := s.activePorts.all (fun p => (s.portGroups p).any (fun g => (s.group g).measured))

/-- CALIBRATED, once its condition holds (R357). -/
def State.calibrate (s : State) : State :=
  let near := if s.self = 0 then true else match s.datum.offset with | some o => decide (o.natAbs < 250) | none => false
  if s.portsMeasured ∧ near then s.modDatum (fun d => { d with calibrated := true }) else s

/-! ### Exchanges (R356, R357) -/

/-- The time between two exchanges. -/
def exchangePeriod : Nat := 1000000

/-- DATUM_EXCHANGE_TIMER (R356, R391): each joined group exchanges timestamps, each ACTIVE port its view of the credits. -/
def execDatumExchangeTimer (s : State) : Res :=
  let due := match s.datum.lastExchange with | some t => decide (t + exchangePeriod ≤ s.time) | none => true
  let gs := (List.range 36).filter (fun g => (s.group g).state == 2)
  let s' := gs.foldl (fun s g => s.emit (.timestamp g)) s
  when "DATUM_EXCHANGE_TIMER" (s.lmpUp && due)
    ((s.activePorts.foldl (fun s p => s.emit (.creditView p)) s').modDatum (fun d => { d with lastExchange := some s.time }))

/-- The counter steps once to the parent's value, or the offset is kept to be slewed (R357). `ahead` is this module's offset to its
parent in ps. -/
def Datum.correct (d : Datum) (ahead : Int) : Datum :=
  let ticks := (ahead + 500) / 1000
  let d := { d with holdover := none }
  if !d.calibrated ∧ d.offset.isNone then
    { d with counter := d.counter - BitVec.ofInt 64 ticks, offset := some (ahead - 1000 * ticks)
             skewEst := BitVec.ofNat 16 (min 65535 (ahead - 1000 * ticks).natAbs) }
  else { d with offset := some ahead, skewEst := BitVec.ofNat 16 (min 65535 ahead.natAbs) }

/-- DATUM_TIMESTAMP_EXCHANGE (R356, R357): this module is A. The group is joined, or trains and has its delay measured. -/
def execDatumTimestampExchange (group : BitVec 6) (t1 t2 t3 t4 : Nat) (s : State) : Res :=
  let g := group.toNat
  let delay : Int := (((t4 : Int) - t1) - ((t3 : Int) - t2)) / 2
  let peer : Int := (((t2 : Int) - t1) - ((t4 : Int) - t3)) / 2
  let s' := s.modGroup g (fun x => { x with linkDelay := BitVec.ofInt 32 delay, measured := true })
  let s' := if s.datum.parent = some ((s.group g).role.toNat % 16) ∧ s.self ≠ 0 then s'.modDatum (fun d => d.correct (-peer)) else s'
  when "DATUM_TIMESTAMP_EXCHANGE" (s.lmpUp && decide (g < 36) && ((s.group g).state == 2 || (s.group g).state == 1)) s'.calibrate

/-- Picoseconds to slew: positive when the counter must be held back. -/
def State.slewDue (s : State) : Int :=
  if s.self = 0 then -1000 * s.datum.ppsError else s.datum.offset.getD 0

/-- DATUM_SLEW_TICK (R357): one nanosecond in which the counter repeats or skips a tick (notes/assumptions/37.md). -/
def execDatumSlewTick (s : State) : Res :=
  let e := s.slewDue
  let free := match s.datum.lastSlew with | some t => decide (t + 4000 ≤ s.time) | none => true
  let d := s.datum
  let back := decide (0 < e)
  let moved : Datum :=
    { d with
      counter := if back then d.counter else d.counter + 2
      offset := if s.self = 0 then d.offset else d.offset.map (fun o => if back then o - 1000 else o + 1000)
      ppsError := if s.self = 0 then (if back then d.ppsError + 1 else d.ppsError - 1) else d.ppsError
      lastSlew := some s.time }
  when "DATUM_SLEW_TICK" (s.lmpUp && d.calibrated && d.holdover.isNone && free && decide (500 < e.natAbs))
    ({ s with time := s.time + 1, datum := moved }).calibrate

/-- SKEW_EST as it stands: in holdover it grows by 10 ns per second (R357). -/
def State.skewNow (s : State) : Nat :=
  min 65535 (s.datum.skewEst.toNat + (match s.datum.holdover with | some t => (s.time - t) / 100000 | none => 0))

/-- The ACTIVE port whose neighbour has the fewest hops towards the tree, ties to the lowest port code (R357). -/
def State.newParent (s : State) : Option Nat :=
  match s.plan.datumTarget s.self with
  | none => none
  | some t => leastBy (fun p => hopCount s.plan (s.plan.neighbour s.self p) t) s.activePorts

/-- HOLDOVER_REPARENT (R357). -/
def execHoldoverReparent (s : State) : Res :=
  match s.datum.holdover, s.newParent with
  | some t, some p =>
    when "HOLDOVER_REPARENT" (s.lmpUp && decide (t + 100000000 ≤ s.time) && s.datum.parent != some p)
      (s.modDatum (fun d => { d with parent := some p, offset := none, holdover := none, skewEst := BitVec.ofNat 16 s.skewNow }))
  | _, _ => .refused (.notOccurring "HOLDOVER_REPARENT")

/-! ### DATUM_PPS (R358, R412) -/

/-- The input acts here: this module is the system root, and PPS_ENABLE is set. -/
def State.ppsActs (s : State) : Bool := s.mainUp && s.self == 0 && s.datum.ppsEnable

/-- The counter's distance from the nearest whole second, positive when it is ahead. -/
def secondError (c : Word64) : Int :=
  let r := c.toNat % 1000000000
  if r ≤ 500000000 then (r : Int) else (r : Int) - 1000000000

/-- DATUM_PPS_EDGE: an edge more than 1 ms from the second that a locked root expects is ignored (notes/assumptions/37.md). -/
def execDatumPpsEdge (s : State) : Res :=
  let e := secondError s.datum.counter
  let up := fun (d : Datum) =>
    { d with ppsError := -e, ppsLocked := d.ppsLocked || decide (e = 0), ppsMissed := 0, ppsLast := some s.time }
  when "DATUM_PPS_EDGE" s.mainUp
    (if !s.ppsActs ∨ (s.datum.ppsLocked ∧ e.natAbs > 1000000) then s else s.modDatum up)

/-- PPS_EDGE_MISSING: a second has passed without its edge; the third in a row clears PPS_LOCKED (R412). -/
def execPpsEdgeMissing (s : State) : Res :=
  match s.datum.ppsLast with
  | some t =>
    let n := s.datum.ppsMissed + 1
    when "PPS_EDGE_MISSING" (s.ppsActs && decide (t + 1001000000 ≤ s.time))
      (s.modDatum (fun d =>
        { d with ppsMissed := n, ppsLast := some (t + 1000000000), ppsLocked := d.ppsLocked && decide (n < 3) }))
  | none => .refused (.notOccurring "PPS_EDGE_MISSING")

/-! ### The start barrier (R360 to R362) -/

/-- The lead time of a DATUM_BARRIER (R360). -/
def barrierLead (c : Cmd) : Nat := if c.param 4 4 = 0 then 200000 else c.param 4 4

/-- DATUM_BARRIER goes to the collective engine with its proposal. -/
def State.barrierColl (s : State) (src : CmdSource) (p : Nat) (y : Plat) : State :=
  let cmd := s.cmd! src
  let x := s.newColl cmd .datumBarrier p y
  s.beginColl src { x with len := 1, input := [cmd.datum + BitVec.ofNat 64 (barrierLead cmd)] }

/-- DATUM_BARRIER (R360). -/
def execDatumBarrier (src : CmdSource) (s : State) : Res :=
  let cmd := s.cmd! src
  let lead := barrierLead cmd
  when "DATUM_BARRIER" (s.runs src 0x0700 && cmd.bound.isSome)
    (if !cmd.restZero [(0, 1), (4, 4)] || decide (lead < 30000) || decide (1000000000 < lead) then s.badParam cmd
     else if !s.datum.calibrated then s.status cmd stBusy
     else
       match (cmd.bound.getD none).bind (fun p => ((s.plat? p).filter (fun y => y.owner == srcCtx src)).map (fun y => (p, y))) with
       | none => s.badParam cmd
       | some (p, y) => if y.excluded then s.status cmd stAborted else s.barrierColl src p y)

/-- The opcodes that are staged behind a barrier (R361). -/
def stagedOpcodes : List Nat := [0x0201, 0x0202, 0x0600, 0x0402]

/-- The next command of a queue waits in its ring and is one of those. -/
def State.stageable (s : State) (q : Nat) : Bool :=
  let x := s.queue q
  x.enable && x.haltReason == 0 && x.head != x.tail && stagedOpcodes.contains (field (s.fetchSlot q).1 0 2)

/-- The barrier of a queue has agreed and has its command still as the one that runs. -/
def State.barrierAgreed (s : State) (q : Nat) : Bool :=
  (s.queue q).release.isSome && (s.queue q).barrier.isNone && ((s.queue q).cur.map (fun c => c.opcode == 0x0700)).getD false

/-- BARRIER_STAGE (R361, R362): staging after R makes the release late. -/
def execBarrierStage (q : BitVec 8) (fab : Fab) (s : State) : Res :=
  let n := q.toNat
  let now := s.datum.counter.toNat
  let up := fun (x : Queue) =>
    { x with barrier := x.cur, cur := none, release := x.release.map (fun r => (r.1, r.2 || decide (r.1.toNat < now))) }
  when "BARRIER_STAGE" (s.cpUp && s.ctxLive (n / 4) && s.barrierAgreed n && s.stageable n) ((s.modQueue n up).fetch n fab)

/-- The gates of a queue's staged command are lifted. -/
def State.liftGates (s : State) (q : Nat) (fab : Fab) : State :=
  let src := CmdSource.queue (BitVec.ofNat 8 q)
  let up := fun (g : Grid) => if (g.cmd.map (·.src)) = some src then { g with gate := none } else g
  let s := { s with grids := s.grids.map up, colls := s.colls.map (fun (x : Coll) => if x.queue = q then { x with gate := none } else x) }
  (s.colls.filter (fun x => x.queue == q)).foldl (fun s x => s.runColl fab x.id) s

/-- The reply of a barrier: R, and whether its release was late. -/
def State.releaseBarrier (s : State) (q : Nat) (fab : Fab) (r : Word64) (late : Bool) : State :=
  let x := s.queue q
  let cmd := match x.barrier with | some c => some c | none => x.cur
  let s := (s.modQueue q (fun x => { x with release := none, barrier := none })).modDatum (fun d => { d with lastBarrier := r })
  let s := match cmd with
    | some c => s.ok c (natLE r.toNat 8 ++ [BitVec.ofNat 8 (b2n late)])
    | none => s
  s.liftGates q fab

/-- BARRIER_RELEASE (R361): at datum R, once a command that can be staged is staged. -/
def execBarrierRelease (q : BitVec 8) (fab : Fab) (s : State) : Res :=
  let n := q.toNat
  match (s.queue n).release with
  | some (r, late) =>
    when "BARRIER_RELEASE"
      (s.works && s.ctxLive (n / 4) && decide (r.toNat ≤ s.datum.counter.toNat) && ((s.queue n).barrier.isSome || !s.stageable n) &&
       (s.colls.filter (fun x => x.queue == n)).all s.collReady)
      (s.releaseBarrier n fab r late)
  | none => .refused (.notOccurring "BARRIER_RELEASE")

/-- DATUM_READ (R354). -/
def execDatumRead (src : CmdSource) (s : State) : Res :=
  let cmd := s.cmd! src
  when "DATUM_READ" (s.runs src 0x0701) (if cmd.restZero [] then s.ok cmd (natLE s.datum.counter.toNat 8) else s.badParam cmd)

end Sys2Proof.Machine
end

