-- ==== Sys2Proof/Machine/FieldBook.lean ====
section
/-!
DEFINITION. The field book (R389, R391, R392): the four counts of each pool, and the checker that holds them against the issued total.
-/
namespace Sys2Proof.Machine

/-- The counts that the field book keeps of a pool (R389). -/
structure PoolCounts where
  issued : Nat
  held : Nat
  inFlight : Nat
  free : Nat
  deriving DecidableEq, Repr

/-- A pool whose units are free when they are neither held nor in flight (notes/assumptions/88.md). -/
def PoolCounts.ofHeld (issued held inFlight : Nat) : PoolCounts :=
  { issued := issued, held := held, inFlight := inFlight, free := issued - held - inFlight }

/-- held + in flight + free − issued total (R391, R392). -/
def PoolCounts.off (p : PoolCounts) : Int := ((p.held + p.inFlight + p.free : Nat) : Int) - (p.issued : Int)

/-- LINK_CREDIT of a port, as the sender counts it: what the peer holds is outstanding. Units of a pending withdrawal are outside the issued
total (R391, R393; notes/assumptions/88.md). -/
def LinkPool.counts (l : LinkPool) : PoolCounts := { issued := l.issued, held := l.outstanding, inFlight := 0, free := l.free }

/-- SEGMENT_CREDIT of one sending member of a collective: segments in the landing area; the others are granted or on the fabric. -/
def Coll.segPool (x : Coll) (member : Nat) : PoolCounts :=
  let held := x.landing.countP (fun g => g.member.toNat == member)
  { issued := segCredits, held := held, inFlight := segCredits - held, free := 0 }

/-- Every pool of R389 by its code. The instance of SEGMENT_CREDIT is 65,536 × member + engine slot. -/
def State.pool (s : State) (code inst : Nat) : PoolCounts :=
  match code with
  | 1 => (s.port inst).pool.counts
  | 2 => .ofHeld replySlots s.slotsHeld 0
  | 3 => .ofHeld 32 (s.fabric.combines.countP (fun e => e.south == (inst == 1))) 0
  | 4 =>
    (match s.colls.find? (fun x => x.slotNo == some (inst % 65536)) with
     | some x => x.segPool (inst / 65536)
     | none => .ofHeld 0 0 0)
  | 5 => let x := s.inbox inst; .ofHeld (if x.enable then x.landingRows else 0) x.rows.length 0
  | 6 => .ofHeld 64 ((s.core inst).stores.countP (fun h => (s.core inst).unconfirmed h.epoch)) 0
  | 7 => .ofHeld 2048 (s.port inst).retry.length 0
  | 8 => .ofHeld 64 s.lookups 0
  | _ => .ofHeld 0 0 0

/-- DETAIL of LEDGER (R392). -/
def ledgerDetail (pool inst : Nat) (d : Int) : Nat := pool + 2 ^ 16 * inst + 2 ^ 32 * (BitVec.ofInt 32 d).toNat

/-- LEDGER raised for a pool whose counts do not sum to its issued total (R391, R392). -/
def State.bookCheck (s : State) (code inst : Nat) : State :=
  let d := (s.pool code inst).off
  if d = 0 then s else s.raise { code := 0x0701, detail := ledgerDetail code (inst % 65536) d }

end Sys2Proof.Machine
end

