-- ==== Sys2Proof/Machine/Link.lean ====
section
/-!
DEFINITION. Links (R231, R237, R239, R393): flits, their order and replay, link credits, and the arbitration of an output port.
-/
namespace Sys2Proof.Machine

/-! ### Pools and credits (R237, R389, R393) -/

/-- Units that a joined group brings to its port, and of them those reserved to each pool. -/
def groupUnits : Nat := 1536
def poolReserve : Nat := 32

/-- Units of the shared space in use, when the pools hold `by`. -/
def sharedUsed (groups : Nat) (used : Table Nat) : Nat :=
  (used.map (fun (e : Nat × Nat) => e.2 - poolReserve * groups)).foldl (· + ·) 0

/-- The next input holds credits for so many units of a pool: its reserve, then the shared space (R237). -/
def LinkPool.allows (l : LinkPool) (groups pool n : Nat) : Bool :=
  decide (n ≤ l.free) &&
  decide (sharedUsed groups (tset l.byPool pool (tget l.byPool pool 0 + n)) ≤ groups * (groupUnits - 20 * poolReserve))

/-- Credits drawn. -/
def LinkPool.draw (l : LinkPool) (pool n : Nat) : LinkPool :=
  { l with free := l.free - n, outstanding := l.outstanding + n, byPool := tset l.byPool pool (tget l.byPool pool 0 + n) }

/-- Credits returned: a withdrawal that waits takes them first (R393). -/
def LinkPool.give (l : LinkPool) (pool n : Nat) : LinkPool :=
  let n := min n (tget l.byPool pool 0)
  let k := min n l.pendingOut
  { l with pendingOut := l.pendingOut - k, outstanding := l.outstanding - (n - k), free := l.free + (n - k)
           byPool := tset l.byPool pool (tget l.byPool pool 0 - n) }

/-- A group joins: its units are issued (R389). -/
def LinkPool.issue (l : LinkPool) : LinkPool := { l with issued := l.issued + groupUnits, free := l.free + groupUnits }

/-- A group is withdrawn: free units go first, and the rest wait for credits to return (R393; notes/assumptions/41.md). -/
def LinkPool.withdraw (l : LinkPool) : LinkPool :=
  let k := min l.free groupUnits
  let rest := min (groupUnits - k) l.outstanding
  { l with issued := l.issued - groupUnits, free := l.free - k, pendingOut := l.pendingOut + rest, outstanding := l.outstanding - rest }

/-- A packet leaves the input buffer of a port, if it stands at the front of its pool there. -/
def Port.inFront (x : Port) (p : Packet) : Bool := (tget x.inputs (poolOf p) []).head? == some p
def State.leaveInput (s : State) (port : Nat) (p : Packet) : State :=
  if (s.port port).inFront p then
    (s.modPort port (fun x => { x with inputs := tset x.inputs (poolOf p) (tget x.inputs (poolOf p) []).tail })).owe port (poolOf p)
      p.env.len.toNat
  else s

/-! ### What a port can do -/

/-- The router half of a lane group forwards: that of its own die (R19, R216, R384). -/
def State.groupUp (s : State) (g : Nat) : Bool :=
  s.mainUp && !(if 18 ≤ g then s.fabric.hungSouth else s.fabric.hungNorth) && !s.errs.stopped 7 (if 18 ≤ g then 1 else 0)

/-- The joined groups of a port whose half forwards. -/
def State.liveGroups (s : State) (p : Nat) : List Nat := (s.portGroups p).filter s.groupUp

/-- The quarantined groups of a port whose half forwards (R226). -/
def State.quarGroups (s : State) (p : Nat) : List Nat :=
  (List.range 36).filter (fun g => (s.group g).state == 5 && (s.group g).role.toNat % 16 == p && s.groupUp g)

/-- The router half that keeps the combining entries of a port's requests, and that serves a port with no joined group: that of the die of
its first group (R206; notes/assumptions/42.md). -/
def State.southPort (s : State) (p : Nat) : Bool :=
  match (List.range 36).find? (fun g => (s.group g).role.toNat % 16 == p) with
  | some g => decide (18 ≤ g)
  | none => decide (4 ≤ p)

/-- A half that serves a port forwards (R19, R384). -/
def State.halfUp (s : State) (p : Nat) : Bool :=
  s.mainUp && (if (s.portGroups p).isEmpty then !(if s.southPort p then s.fabric.hungSouth else s.fabric.hungNorth)
    else !(s.liveGroups p).isEmpty)

/-- A port that carries traffic: ACTIVE, with a joined group whose half forwards. -/
def State.carries (s : State) (p : Nat) : Bool := (s.port p).state == 2 && !(s.liveGroups p).isEmpty

/-- A port that carries MANAGEMENT traffic between the two LMPs alone: QUARANTINED (R226). -/
def State.manages (s : State) (p : Nat) : Bool := (s.port p).state == 3 && !(s.quarGroups p).isEmpty

/-- The groups across which a port deals its flits (R231). -/
def State.flitGroups (s : State) (p : Nat) : List Nat := if (s.port p).state = 3 then s.quarGroups p else s.liveGroups p

/-! ### Arrival of flits (R231) -/

/-- Retry entries up to the acknowledged sequence number are released. -/
def dropThrough (ack : BitVec 12) (l : List SentFlit) : List SentFlit :=
  if l.any (fun e => e.flit.seq == ack) then (l.dropWhile (fun e => e.flit.seq != ack)).tail else l

/-- ACK applied. -/
def Port.acked (x : Port) (ack : BitVec 12) : Port :=
  let r := dropThrough ack x.retry
  { x with retry := r, resend := x.resend.filter (fun e => r.contains e) }

/-- REPLAY_REQ sent, naming the expected SEQ. -/
def State.askReplay (s : State) (port : Nat) : State :=
  let x := s.port port
  let f : Flit := { type := 3, pool := 0, count := 0, ack := x.rxSeq - 1, seq := x.rxSeq, body := flitBody [], check := 0, packets := [] }
  s.emit (.flit port ((s.flitGroups port).headD 0) f.seal)

/-- A sequence number already accepted. -/
def seqBehind (expected seq : BitVec 12) : Bool := decide ((expected - seq).toNat ≤ 2048) && expected != seq

/-- A flit reaches a port: in SEQ order it is accepted, with its ACK and its credits; one already accepted is discarded with them; a bad
check or a gap draws REPLAY_REQ (R231; notes/assumptions/41.md). -/
def State.flitIn (s : State) (port : Nat) (f : Flit) (put : State → State) : State :=
  let x := s.port port
  if !f.checkOk then s.askReplay port
  else if f.seq = x.rxSeq then
    put ((s.modPort port (fun x =>
      { x.acked f.ack with rxSeq := x.rxSeq + 1, pool := x.pool.give f.pool.toNat f.count.toNat })).bookCheck 1 port)
  else if seqBehind x.rxSeq f.seq then s
  else s.askReplay port

/-- A packet enters the input pool of its network, VC and class. -/
def State.putInput (s : State) (port : Nat) (p : Packet) : State :=
  s.modPort port (fun x => { x with inputs := tset x.inputs (poolOf p) (tget x.inputs (poolOf p) [] ++ [p]) })

/-- A port that receives a flit of a type. -/
def State.receives (s : State) (port : Nat) (f : Flit) (type : Nat) : Bool := s.carries port && f.type.toNat == type

/-- DATA_FLIT (R231). -/
def execDataFlit (port : BitVec 3) (f : Flit) (s : State) : Res :=
  let p := port.toNat
  when "DATA_FLIT" (s.receives p f 0) (s.flitIn p f (fun s => f.packets.foldl (fun (s : State) q => s.putInput p q) s))

/-- IDLE_FLIT: its credit and ACK fields. -/
def execIdleFlit (port : BitVec 3) (f : Flit) (s : State) : Res :=
  let p := port.toNat
  when "IDLE_FLIT" (s.receives p f 1 && f.packets.isEmpty) (s.flitIn p f (fun s => s))

/-- CREDIT_FLIT: credits return to a pool, or to a withdrawal that waits (R393). -/
def execCreditFlit (port : BitVec 3) (f : Flit) (s : State) : Res :=
  let p := port.toNat
  when "CREDIT_FLIT" (s.receives p f 2 && f.packets.isEmpty) (s.flitIn p f (fun s => s))

/-- MANAGEMENT_FLIT: for the LMP; the only flit of a quarantined port (R226). -/
def execManagementFlit (port : BitVec 3) (f : Flit) (s : State) : Res :=
  let p := port.toNat
  let ok := (s.carries p || s.manages p) && f.type == 4
  let q := f.packets.all (fun (q : Packet) => q.env.cls == TClass.management)
  when "MANAGEMENT_FLIT" (ok && q)
    (s.flitIn p f (fun s => s.modFabric (fun x => { x with arrived := x.arrived ++ f.packets })))

/-- One replay counted at the group that carried a flit (R345). -/
def State.countReplay (s : State) (e : SentFlit) : State := s.modGroup e.group (fun g => { g with replays := g.replays + 1 })

/-- REPLAY_REQ: every flit from the named SEQ on goes again; the ones before it are acknowledged. -/
def execReplayReq (port : BitVec 3) (f : Flit) (s : State) : Res :=
  let p := port.toNat
  let x := (s.port p).acked (f.seq - 1)
  let again := x.retry.dropWhile (fun e => e.flit.seq != f.seq)
  when "REPLAY_REQ" ((s.carries p || s.manages p) && f.type == 3 && f.packets.isEmpty)
    (if f.checkOk then again.foldl (fun (s : State) e => s.countReplay e) (s.setPort p { x with resend := again }) else s.askReplay p)

/-! ### Arbitration (R239) -/

/-- Flits in the retry buffer of a port (R231). -/
def retryFlits : Nat := 2048

/-- A request or reply packet of the network and VC of another. -/
def sameLane (a b : Packet) : Bool := a.env.isReply == b.env.isReply && a.env.vc == b.env.vc

/-- Whether a waiting packet may take the next flit: the oldest of its pool, begun, or with credits and no other packet of its network
and VC begun. -/
def State.ready (s : State) (port : Nat) (o : OutPkt) : Bool :=
  let x := s.port port
  (x.out.find? (fun q => poolOf q.p == poolOf o.p)) == some o &&
  (o.sent != 0 || (!x.out.any (fun q => q.sent != 0 && sameLane q.p o.p) &&
    x.pool.allows (s.portGroups port).length (poolOf o.p) o.p.env.len.toNat))

/-- The packets that may take the next flit, oldest first. -/
def State.readyOut (s : State) (port : Nat) : List OutPkt := (s.port port).out.filter (s.ready port)

/-- The class after one in the round-robin. -/
def nextClass (c : Nat) : Nat := if c = 4 then 1 else c + 1

/-- The weight of a class (R239, R344). -/
def Port.weight (x : Port) (c : Nat) : Nat :=
  (if c = 1 then x.wCollective else if c = 2 then x.wExpert else if c = 3 then x.wMemory else x.wManagement).toNat

/-- The weighted round-robin over the classes that have a packet: the class served, and where the round stands. -/
def wrrPick (x : Port) (have_ : Nat → Bool) : Nat → Nat → Nat → Option (Nat × Nat)
  | 0, _, _ => none
  | n + 1, c, left =>
    if have_ c && left != 0 then some (c, left - 1)
    else wrrPick x have_ n (nextClass c) (x.weight (nextClass c))

/-- The packet that takes the next flit, and the port with its round-robin moved (R239). -/
def Port.choose (x : Port) (cands : List OutPkt) : Option (OutPkt × Port) :=
  match cands.find? (fun o => o.p.env.cls == .management && decide (63 ≤ o.waited)) with
  | some o => some (o, x)
  | none =>
    let reply := cands.any (fun o => o.p.env.isReply)
    let request := cands.any (fun o => !o.p.env.isReply)
    let net := reply && !(request && decide (3 ≤ x.passedOver))
    let mine := cands.filter (fun o => o.p.env.isReply == net)
    let gen := mine.find? (fun o => o.p.env.cls == .generate)
    let low := decide (2 * x.genWindow.countP (fun b => b) < 256)
    match gen, low with
    | some o, true => some (o, x)
    | _, _ =>
      let has := fun (c : Nat) => mine.any (fun o => classCode o.p.env.cls == c)
      match wrrPick x has 6 x.wrrClass x.wrrLeft with
      | some (c, left) =>
        (mine.find? (fun o => classCode o.p.env.cls == c)).map (fun o => (o, { x with wrrClass := c, wrrLeft := left }))
      | none => gen.map (fun o => (o, x))

/-! ### Combining entries close (R201 to R203) -/

/-- A request of a packet. -/
def combinable (p : Packet) : Option Request :=
  match p.body with
  | .req r => if (r.op = .read ∨ r.op = .atomic) ∧ !r.noCombine then some r else none
  | _ => none

/-- The operand of n members, in join order. -/
def combinedOperand (rs : List Request) : Nat :=
  match rs with
  | [] => 0
  | r :: l => l.foldl (fun (a : Nat) (q : Request) => (atomApply (atomCode r) (atomWide r) a q.arg.toNat).1) r.arg.toNat

/-- The requests of an entry's members. -/
def Combine.reqs (e : Combine) : List Request := e.members.filterMap combinable

/-- The entry of a request that is about to leave closes: with one member it is gone, with more the merged request leaves. -/
def State.closeEntry (s : State) (r : Request) : Request × State :=
  match s.fabric.combines.find? (fun e => !e.sent && e.lead == r) with
  | none => (r, s)
  | some e =>
    if e.members.length ≤ 1 then (r, s.modFabric (fun f => { f with combines := f.combines.filter (fun x => x != e) }))
    else
      let q := if r.op = .atomic then { r with arg := BitVec.ofNat 64 (combinedOperand e.reqs) } else r
      (q, s.modFabric (fun f => { f with combines := updateFirst (· == e) (fun x => { x with lead := q, sent := true }) f.combines }))

/-- The requests of this module that leave with one: itself, or the members of its entry. -/
def State.leavers (s : State) (r : Request) : List Request :=
  match s.fabric.combines.find? (fun e => e.sent && e.lead == r) with
  | some e => e.reqs
  | none => [r]

/-- A request has left the module: its timeout starts, unless an earlier one of the access has left (R210). -/
def State.markLeft (s : State) (r : Request) : State :=
  if r.src.toNat = s.self then
    let mark := fun (a : Access) =>
      if a.slot ∧ a.req.tag = r.tag ∧ !a.left then { a with left := true, sentAt := s.time } else a
    s.modFabric (fun f => { f with accesses := f.accesses.map mark })
  else s

/-! ### Sending (R231, R239) -/

/-- A packet begins to leave: its credits are drawn and its combining entry closes. -/
def State.begin (s : State) (port : Nat) (o : OutPkt) : OutPkt × State :=
  let x := match o.p.body with
    | .req r => let e := s.closeEntry r; ({ o with p := { o.p with body := .req e.1 } }, e.2)
    | _ => (o, s)
  let t := match x.1.p.body with
    | .req r => (x.2.leavers r).foldl (fun (t : State) q => t.markLeft q) x.2
    | _ => x.2
  (x.1, (t.modPort port (fun y =>
    { y with pool := y.pool.draw (poolOf o.p) o.p.env.len.toNat, drawn := y.drawn + o.p.env.len.toNat
             out := updateFirst (· == o) (fun _ => x.1) y.out })).bookCheck 1 port)

/-- What has gone into a flit's body: units left, their bytes, packets that end in it, credit units drawn. -/
structure Body16 where
  left : Nat
  bytes : List Byte
  ended : List Packet
  drawn : Nat
  deriving DecidableEq, Repr

/-- One packet goes on in the flit. -/
def State.fillOne (s : State) (port : Nat) (b : Body16) (o : OutPkt) : Body16 × State :=
  let x := if o.sent = 0 then s.begin port o else (o, s)
  let drew := if o.sent = 0 then o.p.env.len.toNat else 0
  let o := x.1
  let n := min b.left (o.p.env.len.toNat - o.sent)
  let bytes := b.bytes ++ slice o.p.bytes (16 * o.sent) (16 * n)
  if o.sent + n ≥ o.p.env.len.toNat then
    ({ left := b.left - n, bytes := bytes, ended := b.ended ++ [o.p], drawn := b.drawn + drew },
     x.2.modPort port (fun y => { y with out := takeFirst (· == o) y.out }))
  else
    ({ b with left := b.left - n, bytes := bytes, drawn := b.drawn + drew },
     x.2.modPort port (fun y => { y with out := updateFirst (· == o) (fun q => { q with sent := q.sent + n }) y.out }))

/-- The flit's body is filled with the packets of one pool, in order. -/
def fillFlit (port : Nat) (first : OutPkt) : Nat → Body16 → State → Body16 × State
  | 0, b, s => (b, s)
  | n + 1, b, s =>
    if b.left = 0 then (b, s)
    else
      match (s.readyOut port).find? (fun o => poolOf o.p == poolOf first.p) with
      | some o => let x := s.fillOne port b o; fillFlit port first n x.1 x.2
      | none => (b, s)

/-- Every packet left behind has waited one more flit time. -/
def Port.aged (x : Port) : Port := { x with out := x.out.map (fun o => { o with waited := o.waited + 1 }) }

/-- The credits that the next flit returns: those of the lowest pool that is owed some. -/
def Port.dues (x : Port) : Nat × Nat :=
  match x.owed.find? (fun (e : Nat × Nat) => e.2 != 0) with
  | some e => (e.1, min e.2 2047)
  | none => (0, 0)

/-- A flit with the next SEQ leaves on the next group, and stays in the retry buffer. -/
def State.sendFlit (s : State) (port type : Nat) (bytes : List Byte) (packets : List Packet) (drawn : Nat) : State :=
  let x := s.port port
  let gs := s.flitGroups port
  let g := gs.getD (x.nextGroup % max 1 gs.length) 0
  let d := x.dues
  let f : Flit := { type := BitVec.ofNat 4 type, pool := BitVec.ofNat 5 d.1, count := BitVec.ofNat 11 d.2, ack := x.rxSeq - 1, seq := x.txSeq
                    body := flitBody bytes, check := 0, packets := packets }
  (s.setPort port { x with
    txSeq := x.txSeq + 1
    nextGroup := (x.nextGroup + 1) % max 1 gs.length
    retry := x.retry ++ [{ group := g, flit := f.seal, drawn := drawn }]
    owed := tset x.owed d.1 (tget x.owed d.1 0 - d.2) }).emit (.flit port g f.seal)

/-- A packet's pool takes the flit. -/
def State.sendData (s : State) (port : Nat) (o : OutPkt) (x : Port) : State :=
  let waits := (s.readyOut port).any (fun q => !q.p.env.isReply)
  let x := { x with
    passedOver := if o.p.env.isReply ∧ waits then x.passedOver + 1 else 0
    genWindow := ((o.p.env.cls == TClass.generate) :: x.genWindow).take 256 }
  let b := fillFlit port o 16 { left := 16, bytes := [], ended := [], drawn := 0 } (s.setPort port x)
  (b.2.modPort port Port.aged).sendFlit port 0 b.1.bytes b.1.ended b.1.drawn

/-- A flit is sent again, with the ACK of now: it comes before new flits, which follow in SEQ order (R231), and those wait one more flit
time (R239). -/
def State.sendAgain (s : State) (port : Nat) (e : SentFlit) : State :=
  let x := (s.port port).aged
  let gs := s.flitGroups port
  let g := gs.getD (x.nextGroup % max 1 gs.length) 0
  (s.setPort port { x with
    resend := x.resend.tail
    nextGroup := (x.nextGroup + 1) % max 1 gs.length
    retry := updateFirst (fun r => r.flit.seq == e.flit.seq) (fun r => { r with group := g }) x.retry }).emit
    (.flit port g ({ e.flit with ack := x.rxSeq - 1 } : Flit).seal)

/-- A MANAGEMENT flit of a quarantined port carries its oldest packet on, without credits (R226; notes/assumptions/41.md). -/
def State.sendManagement (s : State) (port : Nat) (o : OutPkt) : State :=
  let n := min 16 (o.p.env.len.toNat - o.sent)
  let bytes := slice o.p.bytes (16 * o.sent) (16 * n)
  let done := decide (o.sent + n ≥ o.p.env.len.toNat)
  let more := fun (q : OutPkt) => { q with sent := q.sent + n }
  (s.modPort port (fun y => { y with out := if done then takeFirst (· == o) y.out else updateFirst (· == o) more y.out })).sendFlit port 4
    bytes (if done then [o.p] else []) 0

/-- The next flit of a port: one to be sent again, the arbiter's choice, a CREDIT flit for credits owed, or an IDLE flit with the ACK. -/
def State.nextFlit (s : State) (port : Nat) : State :=
  let x := s.port port
  match x.resend with
  | e :: _ => s.sendAgain port e
  | [] =>
    if x.state = 3 then (match x.out with | o :: _ => s.sendManagement port o | [] => s)
    else
    match x.choose (s.readyOut port) with
    | some (o, y) => s.sendData port o y
    | none =>
      let t := s.modPort port Port.aged
      if x.dues.2 = 0 then t.sendFlit port 1 [] [] 0 else t.sendFlit port 2 [] [] 0

/-- FLIT_TRANSMIT (R239); a quarantined port sends only MANAGEMENT packets (R226). -/
def execFlitTransmit (port : BitVec 3) (s : State) : Res :=
  let p := port.toNat
  let goes := s.carries p || (s.manages p && !((s.port p).resend.isEmpty && (s.port p).out.isEmpty))
  when "FLIT_TRANSMIT" (goes && !s.errs.stopped 5 p && (!(s.port p).resend.isEmpty || decide ((s.port p).retry.length < retryFlits))) (s.nextFlit p)

/-! ### The exchange of credit views (R391) -/

/-- Units drawn in flits up to SEQ k. -/
def Port.drawnTo (x : Port) (k : BitVec 12) : Nat :=
  let later := x.retry.filter (fun e => e.flit.seq != k && decide ((e.flit.seq - k).toNat ≤ 2048))
  x.drawn - (later.map (·.drawn)).foldl (· + ·) 0

/-- CREDIT_VIEW_EXCHANGE (R391, R392): the peer's count of units consumed up to SEQ k is held against the units drawn up to it. -/
def execCreditViewExchange (port : BitVec 3) (k : BitVec 12) (consumed : Nat) (s : State) : Res :=
  let p := port.toNat
  let drawn := (s.port p).drawnTo k
  when "CREDIT_VIEW_EXCHANGE" (s.carries p && !s.procDown .lmp)
    (if consumed = drawn then s
     else s.raise { code := 0x0701, target := s.plan.neighbour s.self p, unitKind := 5, unitIndex := p,
                    detail := ledgerDetail 1 p ((consumed : Int) - drawn) })

end Sys2Proof.Machine
end

