-- ==== Sys2Proof/Machine/Router.lean ====
section
/-!
DEFINITION. The router (R19, R201 to R206, R230, R232 to R240): where a packet goes, line multicast, and combining.
-/
namespace Sys2Proof.Machine

/-! ### Where a packet goes -/

/-- This module's own position. -/
def State.here (s : State) : Pos := s.plan.pos s.self

/-- The hop that a packet takes next: none when it is for this module (R234, R235; a reply whose route does not pass here goes as a
request would, notes/assumptions/42.md). -/
def State.exitOf (s : State) (p : Packet) : Option Hop :=
  if p.env.dest.toNat = s.self then none
  else
    let direct := nextHop s.plan s.here (s.plan.pos p.env.dest.toNat)
    if p.env.isReply then (replyHop s.plan p.env.src.toNat p.env.dest.toNat s.here).orElse (fun _ => direct) else direct

/-- The virtual channel of a hop (R238): VC0 into a dimension, VC1 from the dateline on. -/
def vcOf (from_ : Option Nat) (vc : Bool) (port : Nat) (dateline : Bool) : Bool :=
  dateline || (match from_ with | some i => portAxis i == portAxis port && vc | none => false)

/-- A packet between the two LMPs of a link: MANAGEMENT, and for the module at its far end (R226). -/
def State.forPeer (s : State) (port : Nat) (p : Packet) : Bool :=
  p.env.cls == .management && !p.env.mcast && p.env.dest.toNat == s.plan.neighbour s.self port

/-- A port loses a packet: it is DOWN, or QUARANTINED and so met as DOWN by all but the traffic between the two LMPs (R226, R230). -/
def State.portLost (s : State) (port : Nat) (p : Packet) : Bool :=
  (s.port port).state == 0 || ((s.port port).state == 3 && !s.forPeer port p)

/-! ### Discards (R230) -/

/-- A discard tallied in ROUTE_DISCARDS by class. -/
def State.tallyDiscard (s : State) (port : Nat) (p : Packet) : State :=
  let c := classCode p.env.cls
  s.modPort port (fun x => { x with discards := tset x.discards c (tget x.discards c 0 + 1) })

/-- A packet discarded: the timeout of a request of this module runs from now on, as if it had left (R230). -/
def State.discard (s : State) (port : Nat) (p : Packet) : State :=
  let s := s.tallyDiscard port p
  match p.body with
  | .req r =>
    let rs := match s.fabric.combines.find? (fun e => e.lead == r) with
      | some e => e.reqs
      | none => [r]
    let s' := rs.foldl (fun (t : State) q => t.markLeft q) s
    s'.modFabric (fun f => { f with combines := f.combines.filter (fun (e : Combine) => e.lead != r) })
  | _ => s

/-! ### Combining (R201 to R206) -/

/-- Entries of a router half, and members of an entry. -/
def combineEntries : Nat := 32
def combineMembers : Nat := 16

/-- Two requests match (R201). -/
def combineMatch (a b : Request) : Bool :=
  a.job == b.job && a.dest == b.dest && a.fwd == b.fwd && a.va == b.va && a.op == b.op && a.refresh == b.refresh && a.prefetch == b.prefetch &&
  (a.op != .atomic || a.size == b.size)

/-- An access of this module has joined an entry. -/
def State.markJoined (s : State) (r : Request) : State :=
  s.modAccesses (fun a => a.slot && a.req.tag == r.tag && !a.timedOut) (fun a => { a with joined := true })

/-- A request that joins: counted at its half, and in the slack counter of its sender's context for FADD32 (R205, R206). -/
def State.countJoin (s : State) (south : Bool) (r : Request) : State :=
  let s := s.modFabric (fun f =>
    match r.op, south with
    | .read, false => { f with readsCombined0 := f.readsCombined0 + 1 }
    | .read, true => { f with readsCombined1 := f.readsCombined1 + 1 }
    | _, false => { f with atomicsCombined0 := f.atomicsCombined0 + 1 }
    | _, true => { f with atomicsCombined1 := f.atomicsCombined1 + 1 })
  if r.op = .atomic ∧ atomCode r = 9 ∧ r.src.toNat = s.self then
    match s.ctxOf r.job with
    | some c => (s.modCtx c (fun x => { x with slack := x.slack + 1 })).markJoined r
    | none => s
  else s

/-- A packet for a port finds no credit: the port has none for it behind the packets that wait already. -/
def State.waitsCredit (s : State) (port : Nat) (p : Packet) : Bool :=
  let x := s.port port
  let ahead := ((x.out.filter (fun o => o.sent == 0)).map (fun o => o.p.env.len.toNat)).foldl (· + ·) 0
  !x.pool.allows (s.portGroups port).length (poolOf p) (ahead + p.env.len.toNat)

/-- A packet queued at a port. -/
def State.queueAt (s : State) (port : Nat) (p : Packet) : State := s.modPort port (fun x => { x with out := x.out ++ [{ p := p }] })

/-- A packet reaches its output port: discarded, joined to an open entry, or queued, opening an entry if it has to wait. -/
def State.toPort (s : State) (port : Nat) (p : Packet) : State :=
  if s.portLost port p then s.discard port p
  else
    match combinable p with
    | none => s.queueAt port p
    | some r =>
      let south := s.southPort port
      match s.fabric.combines.find? (fun e => !e.sent && combineMatch e.lead r) with
      | some e =>
        if e.members.length < combineMembers then
          (s.modFabric (fun f =>
            { f with combines := updateFirst (· == e) (fun x => { x with members := x.members ++ [p] }) f.combines })).countJoin south r
        else s.queueAt port p
      | none =>
        let room := decide (s.fabric.combines.countP (fun e => !e.sent && e.south == south) < combineEntries)
        let e : Combine := { south := south, lead := r, members := [p], sent := false }
        if room ∧ s.waitsCredit port p then (s.modFabric (fun f => { f with combines := f.combines ++ [e] })).queueAt port p
        else s.queueAt port p

/-! ### Delivery -/

/-- A packet leaves an input port. One of the request network that is for this module fills the buffer until it has been handled (R213,
R270). -/
def State.takeInput (s : State) (port : Nat) (p : Packet) (here : Bool) : State :=
  if here ∧ !p.env.isReply ∧ (s.port port).inFront p then
    (s.modPort port (fun x => { x with inputs := tset x.inputs (poolOf p) (tget x.inputs (poolOf p) []).tail })).modFabric
      (fun f => { f with charged := f.charged ++ [(p, port)] })
  else s.leaveInput port p

/-- A packet delivered to its module. A reply that the new home of a forwarded request has addressed to this old home goes on to the
sender (R235). -/
def State.deliver (s : State) (p : Packet) : State :=
  match p.body with
  | .rep r =>
    if r.dest.toNat = s.self then s.modFabric (fun f => { f with arrived := f.arrived ++ [p] })
    else s.inject { p with env := { p.env with dest := r.dest, src := BitVec.ofNat 15 s.self, vc := false } }
  | .req r => (s.slackOn r).modFabric (fun f => { f with arrived := f.arrived ++ [p] })
  | _ => s.modFabric (fun f => { f with arrived := f.arrived ++ [p] })

/-- A packet goes on its way from an input port, or from the module. -/
def State.forward (s : State) (from_ : Option Nat) (p : Packet) : State :=
  match s.exitOf p with
  | none => s.deliver p
  | some h => s.toPort h.port { p with env := { p.env with vc := vcOf from_ p.env.vc h.port h.dateline } }

/-! ### Line multicast (R240) -/

/-- The next hop of a copy on an axis: on X a single hop, or a chord across a mapped-out position. -/
def State.lineHop (s : State) (axis : Nat) (plus : Bool) : Hop :=
  let p := s.plan
  let q := s.here
  let step := fun (i n k : Nat) => if plus then (i + k) % n else (i + n - k) % n
  match axis with
  | 0 =>
    let j := step q.x p.nx 1
    let j := if p.isLive j then j else step q.x p.nx 2
    ⟨xPort p.nx plus q.x j, { q with x := j }, crosses plus q.x j⟩
  | 1 => let j := step q.y p.ny.toNat 1; ⟨if plus then 4 else 5, { q with y := j }, crosses plus q.y j⟩
  | _ => let j := step q.z p.nz.toNat 1; ⟨if plus then 6 else 7, { q with z := j }, crosses plus q.z j⟩

/-- A copy sent on in one direction with a count. -/
def State.sendCopy (s : State) (from_ : Option Nat) (p : Packet) (plus : Bool) (count : Nat) : State :=
  let h := s.lineHop p.env.axis.toNat plus
  let e := { p.env with
    vc := vcOf from_ p.env.vc h.port h.dateline
    hopsPos := if plus then BitVec.ofNat 5 count else 0
    hopsNeg := if plus then 0 else BitVec.ofNat 5 count }
  s.toPort h.port { p with env := e }

/-- The copies that leave a router when so many have been taken off the counts. -/
def State.copies (s : State) (from_ : Option Nat) (p : Packet) (off : Nat) : State :=
  let a := p.env.hopsPos.toNat
  let b := p.env.hopsNeg.toNat
  let s := if a > off then s.sendCopy from_ p true (a - off) else s
  if b > off then s.sendCopy from_ p false (b - off) else s

/-- MULTICAST_COPY (R240): delivered here, and sent on with its count reduced. -/
def execMulticastCopy (port : BitVec 3) (p : Packet) (s : State) : Res :=
  let i := port.toNat
  when "MULTICAST_COPY" (s.halfUp i && p.env.mcast && !p.env.isReply && (p.env.hopsPos != 0 || p.env.hopsNeg != 0))
    (((s.takeInput i p true).deliver p).copies (some i) p 1)

/-! ### PACKET_FORWARD -/

/-- The entry whose merged request a reply answers. -/
def State.entryOf (s : State) (r : Reply) : Option Combine :=
  s.fabric.combines.find? (fun e => e.sent && e.lead.src == r.dest && e.lead.tag == r.tag)

/-- A packet is one that PACKET_FORWARD takes: no copy that has arrived, and no reply of a merged request. -/
def State.plain (s : State) (p : Packet) : Bool :=
  !p.env.mcast && (match p.body with | .rep r => (s.entryOf r).isNone | _ => true)

/-- The half of the port by which a packet leaves forwards. -/
def State.exitUp (s : State) (p : Packet) : Bool :=
  match s.exitOf p with
  | some h => s.halfUp h.port
  | none => s.mainUp

/-- PACKET_FORWARD (R234, R235, R238, R240): the oldest packet of the module, or of an input pool. -/
def execPacketForward (src : PacketSource) (s : State) : Res :=
  match src with
  | .fromModule =>
    (match s.fabric.inject with
     | [] => .refused (.notOccurring "PACKET_FORWARD")
     | p :: rest =>
       let t := s.modFabric (fun f => { f with inject := rest })
       when "PACKET_FORWARD" (s.mainUp && (p.env.mcast || s.exitUp p))
         (if p.env.mcast then t.copies none p 0 else t.forward none p))
  | .fromInput port pool =>
    let i := port.toNat
    (match (tget (s.port i).inputs pool.toNat []).head? with
     | none => .refused (.notOccurring "PACKET_FORWARD")
     | some p =>
       when "PACKET_FORWARD" (s.halfUp i && s.plain p && s.exitUp p && poolOf p == pool.toNat)
         ((s.takeInput i p (s.exitOf p).isNone).forward (some i) p))

/-! ### COMBINED_REPLY -/

/-- The value that member i of a merged atomic receives when its home returned v (R203): `before` are the members ahead of it. -/
def memberValue (r : Request) (before : List Request) (v : Nat) : Nat :=
  match before with
  | [] => v
  | l => (atomApply (atomCode r) (atomWide r) v (combinedOperand l)).1

/-- The reply of member i (R202, R203). -/
def memberReply (r : Reply) (before : List Request) (q : Request) : Reply :=
  let data :=
    if q.op = .atomic ∧ r.status = .ok then natLE (memberValue q before (leNat r.data)) r.data.length else r.data
  { r with dest := q.src, tag := q.tag, data := data }

/-- One reply to each member, in join order, each on its own way back. -/
def State.fanOut (s : State) (from_ : Option Nat) (e : Combine) (r : Reply) (env : Envelope) : State :=
  (e.members.zipIdx).foldl (fun (s : State) (m : Packet × Nat) =>
    match combinable m.1 with
    | some q =>
      let rep := memberReply r ((e.members.take m.2).filterMap combinable) q
      s.forward from_ { env := { env with dest := m.1.env.src }, body := .rep rep }
    | none => s) s

/-- The input port at whose front a reply stands, with its packet. -/
def State.findReply (s : State) (r : Reply) : Option (Nat × Packet) :=
  ((s.ports.map (fun (e : Nat × Port) => (e.2.inputs.filterMap (fun (q : Nat × List Packet) => q.2.head?)).map (fun p => (e.1, p)))).flatten).find?
    (fun x => x.2.body == .rep r)

/-- COMBINED_REPLY (R202, R203): the entry's members are answered, and it is gone. -/
def execCombinedReply (r : Reply) (s : State) : Res :=
  match s.entryOf r with
  | some e =>
    let s' := s.modFabric (fun f => { f with combines := f.combines.filter (fun x => x != e) })
    (match s.findReply r with
     | some (i, p) => when "COMBINED_REPLY" (s.halfUp i) ((s'.leaveInput i p).fanOut (some i) e r p.env)
     | none =>
       let env := (s.packet r.dest true e.lead.cls (16 + r.data.length) (.rep r)).env
       when "COMBINED_REPLY" s.mainUp (s'.fanOut none e r { env with src := r.src }))
  | none => .refused (.notOccurring "COMBINED_REPLY")

end Sys2Proof.Machine
end

