-- ==== Sys2Proof/Machine/Training.lean ====
section
/-!
DEFINITION. Lane groups and ports: profiles (R218 to R222, R441), training and identity (R223 to R228), failures (R229, R230), the
link-down audit and down notices (R393 to R395).
-/
namespace Sys2Proof.Machine

/-! ### Profiles (R218 to R220) -/

/-- The INTERIOR profile, one byte per group. -/
def interiorProfile : List Byte :=
  List.replicate 6 0 ++ List.replicate 6 1 ++ List.replicate 3 2 ++ List.replicate 3 3 ++ List.replicate 4 4 ++ List.replicate 4 5 ++
  List.replicate 4 6 ++ List.replicate 4 7 ++ [0x10, 0x11]

/-- The groups that a profile makes members of a port, and whether a byte is a spare's. -/
def membersIn (roles : List Byte) (p : Nat) : List Nat := (List.range 36).filter (fun g => (roles.getD g 0x0F).toNat == p)
def isSpare (r : Byte) : Bool := bitOf r.toNat 4

/-- A FACE profile: each masked port keeps its two lowest groups, and loses its spares (R220). -/
def faceProfile (mask : Nat) : List Byte :=
  (List.range 36).map (fun g =>
    let r := interiorProfile.getD g 0x0F
    let p := r.toNat % 16
    if bitOf mask p ∧ !((membersIn interiorProfile p).take 2).contains g then 0x0F else r)

/-- A profile byte that R218 allows, and a profile that does. -/
def roleOk (r : Byte) : Bool := r == 0x0F || (decide (r.toNat < 32) && decide (r.toNat % 16 < 8))
def profileOk (roles : List Byte) : Bool :=
  roles.length == 36 && roles.all roleOk && (List.range 8).all (fun p => decide ((membersIn roles p).length ≤ 12))

/-- The profile in force. -/
def State.roles (s : State) : List Byte := (List.range 36).map (fun g => (s.group g).role)

/-- The ports whose groups differ between two profiles. -/
def changedPorts (a b : List Byte) : List Nat :=
  (List.range 8).filter (fun p =>
    (List.range 36).any (fun g =>
      let x := a.getD g 0x0F
      let y := b.getD g 0x0F
      x != y && (x.toNat % 16 == p || y.toNat % 16 == p)))

/-! ### Groups of a port -/

/-- Groups that train for a port or belong to it: its members, and a spare that has been called in (R229). -/
def State.membersOf (s : State) (p : Nat) : List Nat :=
  (List.range 36).filter (fun g => let x := s.group g; x.role.toNat % 16 == p && (!isSpare x.role || x.takingOver))

/-- Healthy spares that guard a port. -/
def State.sparesOf (s : State) (p : Nat) : List Nat :=
  (List.range 36).filter (fun g => let x := s.group g; x.role.toNat % 16 == p && isSpare x.role && x.state == 3)

/-- A group begins to train (R223). -/
def Group.start (x : Group) (now attempts : Nat) : Group :=
  { x with state := 1, reason := 0, attempts := attempts, milestone := 0, started := now, identityTries := 0, agreed := false, measured := false }

/-- A group's state under a new role: powered down, a healthy spare, or in training. -/
def Group.fresh (x : Group) (role : Byte) (now : Nat) : Group :=
  let x := { x with role := role, takingOver := false }
  if role = 0x0F then { x with state := 0, reason := 0, attempts := 0, agreed := false, measured := false }
  else if isSpare role then { x with state := 3, reason := 0, attempts := 0, agreed := false, measured := false }
  else x.start now 0

/-! ### Unreachable targets and down notices (R394, R395) -/

/-- The request route from one module to another crosses a link, in either direction. -/
def crossesLink (p : Plan) (src dest : Nat) (d : DownNote) : Bool :=
  let m := d.module.toNat
  let c := d.port.toNat
  let n := p.pos (p.neighbour m c)
  let r := route p src dest
  ((p.pos src :: r.map (·.pos)).zip r).any (fun e => (e.1 == p.pos m && e.2.port == c) || (e.1 == n && e.2.port == peerPort c))

/-- Every live logical ID. -/
def Plan.modules (p : Plan) : List Nat :=
  ((List.range p.nz.toNat).map (fun z => ((List.range p.ny.toNat).map (fun y =>
    (List.range p.live.length).map (fun x => x + 32 * y + 1024 * z))).flatten)).flatten

/-- The targets whose request routes cross the link are declared unreachable; entries whose replies can no longer come are given up. -/
def State.declare (s : State) (d : DownNote) : State :=
  let lost := (s.plan.modules.filter (fun m => m != s.self && crossesLink s.plan s.self m d)).filter
    (fun m => !s.fabric.unreachable.any (fun u => u.1 == m))
  s.modFabric (fun f =>
    { f with unreachable := f.unreachable ++ lost.map (fun m => (m, s.time)), downNotes := f.downNotes ++ [d]
             combines := f.combines.filter (fun e => !(e.sent && lost.contains e.lead.dest.toNat)) })

/-- The copies of a down notice on an axis: right round the ring both ways. -/
def State.noticeCopies (s : State) (d : DownNote) (axis : Nat) : List Packet :=
  let n := s.ringSize axis - 1
  let p := s.packet 0 false .management 8 (.downNote d)
  let mk := fun (a b : Nat) => ({ p with env := { p.env with mcast := true, axis := BitVec.ofNat 2 axis, hopsPos := BitVec.ofNat 5 a, hopsNeg := BitVec.ofNat 5 b } } : Packet)
  if n = 0 then [] else [mk n 0, mk 0 n]

/-- A down notice sent along some axes. -/
def State.sendNotice (s : State) (d : DownNote) (axes : List Nat) : State :=
  ((axes.map (s.noticeCopies d)).flatten).foldl (fun (s : State) p => s.inject p) s

/-- The down notice of a packet. -/
def noteOf (p : Packet) : Option DownNote := match p.body with | .downNote d => some d | _ => none

/-- DOWN_NOTICE (R395): the first notice of a link is relayed, X then Y then Z, and its targets are declared unreachable. -/
def execDownNotice (_port : BitVec 3) (p : Packet) (s : State) : Res :=
  let t := s.takeArrived (· == p)
  when "DOWN_NOTICE" (s.lmpUp && (noteOf p).isSome)
    (match noteOf p with
     | some d => if s.fabric.downNotes.contains d then t else (t.sendNotice d (relayAxes p.env.axis.toNat)).declare d
     | none => s)

/-! ### PORT_DOWN and its audit (R230, R394) -/

/-- The packets in the input buffer of a port. -/
def Port.buffered (x : Port) : List Packet := (x.inputs.map (fun (e : Nat × List Packet) => e.2)).flatten

/-- The packets that a port loses when no joined group is left: those queued for it, but for the traffic between the two LMPs of a
quarantined port, and those in its input buffer (R226, R230, R394). -/
def State.lostAt (s : State) (p state : Nat) : List Packet :=
  let x := s.port p
  (x.out.map (·.p)).filter (fun q => !(state == 3 && s.forPeer p q)) ++ x.buffered

/-- A port that has no joined group left: its packets are discarded and tallied, and its credits written off (R230). -/
def State.emptyPort (s : State) (p state : Nat) : State :=
  let keep := if state = 3 then (s.port p).out.filter (fun o => s.forPeer p o.p) else []
  let s := (s.lostAt p state).foldl (fun (s : State) q => s.discard p q) s
  let s := s.modFabric (fun f => { f with charged := f.charged.filter (fun e => e.2 != p) })
  s.modPort p (fun x =>
    { x with state := BitVec.ofNat 8 state, out := keep.map (fun o => { o with sent := 0 }), inputs := [], owed := [], pool := {}, retry := []
             resend := [], txSeq := 0, rxSeq := 0, drawn := 0, passedOver := 0, genWindow := [] })

/-- A port goes DOWN: its packets are discarded, its credits written off, the alarm raised and the notice sent. -/
def State.portDown (s : State) (p : Nat) : State :=
  let x := s.port p
  let gone := s.lostAt p 0
  let off := x.pool.outstanding + x.pool.pendingOut
  let s := s.emptyPort p 0
  let through := fun (e : Combine) =>
    e.sent && (match nextHop s.plan s.here (s.plan.pos e.lead.dest.toNat) with | some h => h.port == p | none => false)
  let s := s.modFabric (fun f => { f with combines := f.combines.filter (fun e => !through e) })
  let s := s.raise { code := 0x0603, unitKind := 5, unitIndex := p, detail := off + 2 ^ 32 * gone.length }
  let d : DownNote := { module := BitVec.ofNat 15 s.self, port := BitVec.ofNat 3 p }
  let s := (s.sendNotice d [0, 1, 2]).declare d
  if s.datum.parent = some p ∧ s.datum.holdover.isNone then s.modDatum (fun y => { y with holdover := some s.time }) else s

/-! ### The state of a port (R223, R226, R230) -/

/-- A group has come to an end of its training. -/
def Group.settled (x : Group) : Bool := x.state == 4 || x.state == 5 || (x.state == 2 && x.milestone == 6)

/-- A port ACTIVE: flits that were not acknowledged go again. -/
def Port.activate (x : Port) : Port := if x.state = 2 then x else { x with state := 2, reason := 0, resend := x.retry }

/-- The state of a port from its groups. -/
def State.settlePort (s : State) (p : Nat) : State :=
  let ms := s.membersOf p
  let joined := s.portGroups p
  let st := (s.port p).state
  if !joined.isEmpty then
    if st = 2 ∨ ms.all (fun g => (s.group g).settled) then s.modPort p Port.activate else s
  else if ms.any (fun g => (s.group g).state == 1) then (if st = 2 then s.portDown p else s)
  else if !ms.isEmpty ∧ ms.all (fun g => (s.group g).state == 5) then
    let t := if st = 3 then s else s.emptyPort p 3
    t.modPort p (fun x => { x with reason := BitVec.ofNat 2 ((ms.head?.map (fun g => (s.group g).reason.toNat)).getD 0) })
  else if st = 0 then s else s.portDown p

/-- The status that ends a PORT_PROFILE: VERSION_MISMATCH, QUARANTINED or OK (R226, R227). -/
def State.profileStatus (s : State) (ports : List Nat) : Nat :=
  if ports.any (fun p => (s.membersOf p).any (fun g => (s.group g).state == 5 && (s.group g).reason == 2)) then stVersion
  else if ports.any (fun p => (s.port p).state == 3) then stQuarantined
  else stOk

/-- A PORT_PROFILE ends when every port it has retrained has settled. -/
def State.endProfile (s : State) : State :=
  match s.fabric.profile with
  | some (src, ports) =>
    if ports.all (fun p => (s.membersOf p).all (fun g => (s.group g).settled)) then
      let s := s.modFabric (fun f => { f with profile := none })
      match s.cmdOf src with
      | some c => if c.opcode = 0x0900 then s.status c (s.profileStatus ports) else s
      | none => s
    else s
  | none => s

/-- After an event of a group: its port, and a PORT_PROFILE that waits. -/
def State.settle_ (s : State) (g : Nat) : State :=
  let p := (s.group g).role.toNat % 16
  (if p < 8 then s.settlePort p else s).endProfile

/-! ### Training (R223) -/

/-- Earliest and latest of the points of a training in ns: signal, equalisation, FEC lock, identity, join, delay. -/
def trainBounds : List (Nat × Nat) :=
  [(100000, 1000000), (8000000, 20000000), (20000000, 26000000), (21000000, 27000000), (22000000, 28000000), (34000000, 46000000)]

/-- A group can pass the point of this number now. -/
def State.canPass (s : State) (g n : Nat) : Bool :=
  let x := s.group g
  let b := trainBounds.getD n (0, 0)
  s.lmpUp && decide (g < 36) && x.milestone == n && decide (x.started + b.1 ≤ s.time) && decide (s.time ≤ x.started + b.2)

/-- The number of a milestone. -/
def milestoneIndex : Milestone → Nat
  | .signal => 0
  | .equalised => 1
  | .fecLock => 2
  | .delayMeasured => 5

/-- This module's identity block for a group (R224). -/
def State.ownIdentity (s : State) (g : Nat) : List Byte :=
  let p := s.plan
  identityBlock p.physId.toNat ((s.group g).role.toNat % 16) g p.logicalId.toNat s.boot.version.toNat

/-- With FEC lock a group can carry bytes, and its identity block goes out (R223, R224). -/
def State.sendIdentity (s : State) (g n : Nat) : State := if n = 2 then s.emit (.identity g (s.ownIdentity g)) else s

/-- GROUP_TRAINING_MILESTONE (R223): the link delay counts as measured once a timestamp exchange has given it (R356). -/
def execGroupTrainingMilestone (group : BitVec 6) (m : Milestone) (s : State) : Res :=
  let g := group.toNat
  let n := milestoneIndex m
  let x := s.group g
  let fit := if n = 5 then x.state == 2 && x.measured else x.state == 1
  when "GROUP_TRAINING_MILESTONE" (s.canPass g n && fit) (((s.modGroup g (fun x => { x with milestone := n + 1 })).sendIdentity g n).settle_ g)

/-! ### Identity (R224 to R227) -/

/-- CHECK of an identity block (R224). -/
def identityCheck (bs : List Byte) : Bool := crc32 (bs.take 56) == BitVec.ofNat 32 (field bs 56 4)

/-- Why a well-formed block quarantines its group, in the order of R225: 0 for no reason. -/
def State.identityReason (s : State) (g : Nat) (bs : List Byte) : Nat :=
  match s.regs.installed with
  | none => 3
  | some p =>
    let phys := field bs 0 2
    let port := (s.group g).role.toNat % 16
    let peer := tget p.peers port (0, 0xFFFF)
    if phys ≠ field bs 2 2 * 80 + field bs 4 1 * 5 + field bs 5 1 ∨ phys ≠ peer.2.toNat ∨ field bs 6 1 ≠ peer.1.toNat then 1
    else if field bs 10 1 ≠ cathenMajor ∨ min minorHigh (field bs 11 1) < max minorLow (field bs 12 1) then 2
    else 0

/-- A group comes up QUARANTINED (R226). -/
def State.quarantine (s : State) (g reason : Nat) : State :=
  (s.modGroup g (fun x => { x with state := 5, reason := BitVec.ofNat 4 reason })).raise { code := 0x0602, unitKind := 4, unitIndex := g }

/-- A block that passes CHECK decides: the group may join, or is quarantined. -/
def State.identified (s : State) (g : Nat) (bs : List Byte) : State :=
  let port := (s.group g).role.toNat % 16
  let reason := s.identityReason g bs
  let minor := BitVec.ofNat 8 (min minorHigh (field bs 11 1))
  let s := s.modGroup g (fun x => { x with peerFw := BitVec.ofNat 32 (field bs 16 4), minor := if reason = 0 then minor else x.minor })
  let s := s.modPort port (fun x =>
    { x with peerPhys := BitVec.ofNat 16 (field bs 0 2), peerPort := BitVec.ofNat 4 (field bs 6 1), minor := if reason = 0 then minor else x.minor })
  if reason = 0 then s.modGroup g (fun x => { x with milestone := 4, agreed := true }) else s.quarantine g reason

/-- IDENTITY_BLOCK (R225): a block that fails CHECK is asked for again, up to three times. -/
def execIdentityBlock (group : BitVec 6) (bytes : List Byte) (s : State) : Res :=
  let g := group.toNat
  let x := s.group g
  when "IDENTITY_BLOCK" (s.canPass g 3 && x.state == 1 && decide (x.role.toNat % 16 < 8) && decide (bytes.length = 64))
    (if identityCheck bytes then (s.identified g bytes).settle_ g
     else if x.identityTries < 3 then
       (s.modGroup g (fun x => { x with identityTries := x.identityTries + 1 })).emit (.identityAgain g)
     else s)

/-- GROUP_JOINED (R223, R389): the group's credits are issued to its port. -/
def execGroupJoined (group : BitVec 6) (s : State) : Res :=
  let g := group.toNat
  let x := s.group g
  let p := x.role.toNat % 16
  when "GROUP_JOINED" (s.canPass g 4 && x.state == 1 && x.agreed)
    ((((s.modGroup g (fun x => { x with state := 2, milestone := 5 })).modPort p (fun y => { y with pool := y.pool.issue })).bookCheck 1 p).settle_ g)

/-! ### Failures (R223, R229) -/

/-- A joined group leaves its port: its credits are withdrawn, and its flits go on the others. -/
def State.leave (s : State) (g : Nat) : State :=
  let p := (s.group g).role.toNat % 16
  (s.modPort p (fun x => { x with pool := x.pool.withdraw, resend := x.retry.dropWhile (fun e => e.group != g) })).bookCheck 1 p

/-- GROUP_FAILED, with the credits returned. -/
def State.groupFailed (s : State) (g credits : Nat) : State := s.raise { code := 0x0601, unitKind := 4, unitIndex := g, detail := credits }

/-- A healthy spare begins to train in place of a failed group (R229). -/
def State.callSpare (s : State) (p : Nat) : State :=
  match s.sparesOf p with
  | g :: _ => s.modGroup g (fun x => { x.start s.time 0 with takingOver := true })
  | [] => s

/-- A joined group fails (R229). -/
def State.failGroup (s : State) (g : Nat) : State :=
  let p := (s.group g).role.toNat % 16
  let s := (s.leave g).modGroup g (fun x => { x with state := 4, agreed := false, measured := false })
  ((s.groupFailed g groupUnits).callSpare p).settle_ g

/-- TRAINING_BOUND_MISSED (R223): the group starts again; after three failed attempts it is FAILED. -/
def execTrainingBoundMissed (group : BitVec 6) (s : State) : Res :=
  let g := group.toNat
  let x := s.group g
  let late := decide (x.started + (trainBounds.getD x.milestone (0, 0)).2 < s.time)
  let t := if x.state = 2 then s.leave g else s
  let credits := if x.state = 2 then groupUnits else 0
  when "TRAINING_BOUND_MISSED" (s.lmpUp && decide (g < 36) && (x.state == 1 || x.state == 2) && decide (x.milestone < 6) && late)
    (if x.attempts + 1 ≥ 3 then
       ((t.modGroup g (fun x => { x with state := 4, attempts := 3, agreed := false, measured := false })).groupFailed g credits).settle_ g
     else (t.modGroup g (fun x => x.start s.time (x.attempts + 1))).settle_ g)

/-- LANE_SIGNAL_LOSS (R229). -/
def execLaneSignalLoss (group : BitVec 6) (s : State) : Res :=
  let g := group.toNat
  when "LANE_SIGNAL_LOSS" (s.mainUp && decide (g < 36) && (s.group g).state == 2) (s.failGroup g)

/-- GROUP_ERROR_THRESHOLD (R229): the codewords over the threshold are counted with those of the window (R345). -/
def execGroupErrorThreshold (group : BitVec 6) (e : GroupError) (s : State) : Res :=
  let g := group.toNat
  let t := match e with
    | .uncorrectable => s.modGroup g (fun x => { x with fecUncorrected := satAdd x.fecUncorrected 17 })
    | .replays => s
  when "GROUP_ERROR_THRESHOLD" (s.mainUp && decide (g < 36) && (s.group g).state == 2) (t.failGroup g)

/-! ### PORT_PROFILE and PORT_QUERY -/

/-- A port retrains as a whole under its roles (R222, R441). -/
def State.retrainPort (s : State) (roles : List Byte) (p : Nat) : State :=
  let s := (s.portGroups p).foldl (fun (s : State) g => s.leave g) s
  let gs := (List.range 36).filter (fun g => (s.group g).role.toNat % 16 == p || (roles.getD g 0x0F).toNat % 16 == p)
  let s := gs.foldl (fun (s : State) g => s.modGroup g (fun x => x.fresh (roles.getD g 0x0F) s.time)) s
  if (s.membersOf p).isEmpty then
    (if (s.port p).state = 2 then s.portDown p else (s.emptyPort p 0).modPort p (fun x => { x with reason := 0 }))
  else s.modPort p (fun x => { x with state := 1, reason := 0 })

/-- Groups that are FAILED or QUARANTINED train again (R223, R228); ports with no joined group are TRAINING. -/
def State.retrainGroups (s : State) (gs : List Nat) : State :=
  let s := gs.foldl (fun (s : State) g => s.modGroup g (fun x => if isSpare x.role ∧ !x.takingOver then x.fresh x.role s.time else x.start s.time 0)) s
  let ps := (List.range 8).filter (fun p => (s.portGroups p).isEmpty && (s.membersOf p).any (fun g => gs.contains g))
  ps.foldl (fun (s : State) p => s.modPort p (fun x => { x with state := 1, reason := 0 })) s

/-- The profile that a PORT_PROFILE names. -/
def State.profileOf (s : State) (c : Cmd) : Option (List Byte) :=
  match c.param 0 1 with
  | 0 => some interiorProfile
  | 1 => some (faceProfile (c.param 2 1))
  | 2 => let r := s.getHost (c.param 8 8) 36; if profileOk r then some r else none
  | _ => none

/-- PORT_PROFILE applied: every port whose groups change retrains as a whole (R441), and with RETRAIN the failed and quarantined groups of
the others too (notes/assumptions/43.md). -/
def State.applyProfile (s : State) (src : CmdSource) (roles : List Byte) (retrain : Bool) : State :=
  let ps := changedPorts s.roles roles
  let gs := (List.range 36).filter (fun g => let x := s.group g
    retrain && !ps.contains (x.role.toNat % 16) && (x.state == 4 || x.state == 5))
  let s := ps.foldl (fun (s : State) p => s.retrainPort roles p) s
  let s := s.retrainGroups gs
  let all := ps ++ (List.range 8).filter (fun p => gs.any (fun g => (s.group g).role.toNat % 16 == p))
  let s := s.modCmd src (fun c => { c with handed := true })
  (s.modFabric (fun f => { f with profile := some (src, all) })).endProfile

/-- PORT_PROFILE (R222). A second one while one waits for its ports is BUSY (notes/assumptions/43.md). -/
def execPortProfile (src : CmdSource) (s : State) : Res :=
  let c := s.cmd! src
  let flags := c.param 1 1
  let eff :=
    if !c.restZero [(0, 3), (8, 8)] ∨ flags ≥ 4 then s.badParam c
    else if s.fabric.profile.isSome then s.status c stBusy
    else if !bitOf flags 0 ∧ s.contexts.any (fun e => e.2.state != 0) then s.status c stBusy
    else
      match s.profileOf c with
      | none => s.badParam c
      | some roles => s.applyProfile src roles (bitOf flags 1)
  when "PORT_PROFILE" (s.runs src 0x0900) eff

/-- PORT_QUERY (R226, R315). -/
def execPortQuery (src : CmdSource) (s : State) : Res :=
  let c := s.cmd! src
  let p := c.param 0 1
  let x := s.port p
  let b := fun (n : Nat) => BitVec.ofNat 8 n
  let result := [b x.state.toNat, b x.reason.toNat, b (s.portGroups p).length, b (s.sparesOf p).length, x.minor, 0, 0, 0] ++
    natLE x.peerPhys.toNat 2 ++ [b x.peerPort.toNat]
  when "PORT_QUERY" (s.runs src 0x0901) (if p ≥ 8 ∨ !c.restZero [(0, 1)] then s.badParam c else s.ok c result)

end Sys2Proof.Machine
end

