-- ==== Sys2Proof/Machine/BringUp.lean ====
section
/-!
DEFINITION. Bring-up: standby, boot, the rails, training and the way to RUNNING, and the ways down again: loss of input, rail fault and
module reset (R396 to R403, R418).
-/
namespace Sys2Proof.Machine

/-! ### The ways down -/

/-- What the loss of the main rails leaves: boot, fuses, pins, the HRP with its error queue and power settings, the sideband, control space
and what lies outside the module (R165, R403; notes/assumptions/52.md). -/
def State.railsDown (s : State) : State :=
  ({ time := s.time
     free := s.free
     fuses := s.fuses
     boot := { s.boot with rails := 0, imagesOk := false, imagesBad := false, linkUp := false, hostIfUp := false }
     power := { s.power with down := false, drain := (0, 0) }
     side := s.side
     regs := s.regs
     errs := s.errs
     recov := ({ hrpStopped := s.recov.hrpStopped } : Recov)
     mboxCmd := s.mboxCmd
     hostMem := s.hostMem
     jtag := s.jtag
     out := s.out
     pending := s.pending } : State)

/-- What standby or a module reset leaves of boot: flash, straps, pins and the 48 V input. -/
def Boot.kept (b : Boot) : Boot :=
  { standby := b.standby
    modResetLow := b.modResetLow
    perstLow := b.perstLow
    input48 := b.input48
    addr := b.addr
    activeB := b.activeB
    runningB := b.runningB
    staged := b.staged
    stagedVersion := b.stagedVersion
    tripFlash := b.tripFlash
    retiredFlash := b.retiredFlash }

/-- Everything at its reset value but fuses, flash, straps, pins, and what lies outside the module. -/
def State.cleared (s : State) : State :=
  ({ time := s.time
     free := s.free
     fuses := s.fuses
     boot := s.boot.kept
     hostMem := s.hostMem
     jtag := { s.jtag with unlocked := false }
     out := s.out
     pending := s.pending } : State)

/-- The state after MOD_RESET# or with it (R397). -/
def Boot.restart (b : Boot) : Boot := { b with state := if b.modResetLow then .inReset else .standbyBoot }

/-- A state of the module taken. -/
def State.enter (s : State) (x : ModState) : State := s.modBoot (fun b => { b with state := x })

/-! ### Reset and standby -/

/-- MOD_RESET_ASSERT (R402): a module reset is started; its effect is MODULE_RESET. -/
def execModResetAssert (s : State) : Res :=
  when "MOD_RESET_ASSERT" (s.boot.standby && !s.boot.modResetLow)
    (s.modBoot (fun b => { b with modResetLow := true, resetStarted := true }))

/-- RESET_MODULE_WRITE (R402, R408). -/
def execResetModuleWrite (s : State) : Res :=
  when "RESET_MODULE_WRITE" s.boot.standby (s.smbus s.sideUp (fun s => s.modBoot (fun b => { b with resetStarted := true })))

/-- MODULE_RESET (R402): every engine held, the rails down, MAIN_GO and control space cleared, DRAM lost, and boot anew. -/
def execModuleReset (s : State) : Res :=
  when "MODULE_RESET" (s.boot.standby && s.boot.resetStarted) (s.cleared.modBoot Boot.restart)

/-- MOD_RESET_RELEASE (R397). -/
def execModResetRelease (s : State) : Res :=
  when "MOD_RESET_RELEASE" (s.boot.standby && s.boot.modResetLow)
    (s.modBoot (fun b => { b with modResetLow := false, state := if b.state = .inReset then .standbyBoot else b.state }))

/-- PERST_ASSERT (R402, R418): sensed in INIT, RUNNING and STOPPED alone. -/
def execPerstAssert (s : State) : Res :=
  let t := s.modBoot (fun b => { b with perstLow := true })
  let eff :=
    if !s.mainUp then t
    else if s.boot.resetPending then t.modBoot (fun b => { b with resetStarted := true })
    else
      let u := t.modBoot (fun b => { b with hostIfUp := false, linkUp := false })
      ((u.contexts.filter (fun (e : Nat × Context) => e.2.state != 0)).map (·.1)).foldl
        (fun (s : State) c => s.raise { code := 0x010B, ctx := some c }) u
  when "PERST_ASSERT" (s.boot.standby && !s.boot.perstLow) eff

/-- PERST_DEASSERT (R401): the LTSSM leaves Detect once the main rails are up too. -/
def execPerstDeassert (s : State) : Res :=
  when "PERST_DEASSERT" (s.boot.standby && s.boot.perstLow) (s.modBoot (fun b => { b with perstLow := false, hostIfUp := s.mainUp }))

/-- STANDBY_APPLIED (R401). -/
def execStandbyApplied (s : State) : Res :=
  when "STANDBY_APPLIED" (!s.boot.standby) (s.modBoot (fun b => { b with standby := true }.restart))

/-- STANDBY_LOST (R165, R398): all but fuses and flash is lost. -/
def execStandbyLost (s : State) : Res :=
  when "STANDBY_LOST" s.boot.standby
    (s.cleared.modBoot (fun b => { b with standby := false, addr := none, state := .unpowered }))

/-- ADDR_STRAP_SAMPLE (R418): once, kept until standby is removed. -/
def execAddrStrapSample (straps : BitVec 3) (s : State) : Res :=
  when "ADDR_STRAP_SAMPLE" (s.boot.standby && s.boot.addr.isNone) (s.modBoot (fun b => { b with addr := some straps }))

/-! ### Boot (R399, R400) -/

/-- What runs of a bank that verifies, and the boot status of one that does not (R399, R409). -/
def judgeBank (fused : Nat) : BankVerdict → Except Nat (Word32 × Nat)
  | .verified v sec => if fused ≤ sec then .ok (v, sec) else .error 3
  | .noKey => .error 1
  | .badSignature => .error 2
  | .oldVersion => .error 3
  | .unreadable => .error 4

/-- A bank boots: READY_MAIN, its version shown; a core retired in flash that passes its self-test is enabled again (R382, R397). -/
def State.booted (s : State) (bankB : Bool) (version : Word32) (security status : Nat) (failed : List Nat) : State :=
  s.modBoot (fun b =>
    { b with
      state := .readyMain
      version := version
      security := security
      status := BitVec.ofNat 8 status
      staged := b.staged && (b.runningB == bankB)
      runningB := bankB
      retiredFlash := b.retiredFlash.filter (fun k => failed.contains k) })

/-- A trip that flash records is reported (R406). -/
def State.reportTrip (s : State) : State :=
  if s.boot.tripFlash then (s.modBoot (fun b => { b with tripFlash := false })).raise { code := 0x0906 } else s

/-- BOOT_VERIFICATION_DONE (R399): the active bank first, then the other; with neither, BOOT_FAILED. -/
def execBootVerificationDone (bankA : BankVerdict) (bankB : BankVerdict) (failedCores : List CoreId) (s : State) : Res :=
  let b := s.boot.activeB
  let first := judgeBank s.fuses.security (if b then bankB else bankA)
  let second := judgeBank s.fuses.security (if b then bankA else bankB)
  let failed := failedCores.map coreKey
  let eff :=
    match first, second with
    | .ok x, _ => (s.booted b x.1 x.2 0 failed).reportTrip
    | .error _, .ok x => ((s.booted (!b) x.1 x.2 5 failed).raise { code := 0x0905 }).reportTrip
    | .error r, .error _ => s.modBoot (fun b => { b with state := .bootFailed, status := BitVec.ofNat 8 r })
  when "BOOT_VERIFICATION_DONE" (s.boot.state == .standbyBoot) eff

/-! ### Main power (R401, R403) -/

/-- The rails start to ramp once both of MAIN_GO and the input hold; test access gives way to BYPASS (R401, R413). -/
def State.tryRamp (s : State) : State :=
  if s.boot.state = .readyMain ∧ s.boot.mainGo ∧ s.boot.input48 then
    let s := s.enter .ramping
    { s with jtag := if s.jtag.ir = .extest ∨ s.jtag.ir = .samplePreload then { s.jtag with ir := .bypass, driven := [] } else s.jtag }
  else s

/-- MAIN_GO_WRITE (R401, R408). -/
def execMainGoWrite (on : Bool) (s : State) : Res :=
  when "MAIN_GO_WRITE" s.boot.standby (s.smbus s.sideUp (fun s => (s.modBoot (fun b => { b with mainGo := on })).tryRamp))

/-- INPUT_IN_RANGE (R401). -/
def execInputInRange (s : State) : Res :=
  when "INPUT_IN_RANGE" (s.boot.standby && !s.boot.input48) ((s.modBoot (fun b => { b with input48 := true })).tryRamp)

/-- INPUT_POWER_LOSS (R165, R403): READY_MAIN on standby, MAIN_GO still set. -/
def execInputPowerLoss (s : State) : Res :=
  let up := s.mainUp || s.boot.state == .ramping
  let t := if up then s.railsDown.enter .readyMain else s
  when "INPUT_POWER_LOSS" s.boot.input48 (t.modBoot (fun b => { b with input48 := false }))

/-- RAIL_POWER_GOOD (R403): the next rail; after the seventh, INIT, the stacks in training and the host interface out of reset. -/
def execRailPowerGood (s : State) : Res :=
  let n := s.boot.rails + 1
  let t := s.modBoot (fun b => { b with rails := n })
  let eff :=
    if n < 7 then t
    else
      let t := t.modBoot (fun b => { b with state := .init, hostIfUp := !b.perstLow })
      (List.range 8).foldl (fun (s : State) k => s.modStack k (fun x => { x with train := 1 })) t
  when "RAIL_POWER_GOOD" (s.boot.state == .ramping) eff

/-- RAIL_FAULT (R403): POWER_FAULT until module reset. -/
def execRailFault (rail : BitVec 3) (s : State) : Res :=
  let t := ((s.railsDown.enter .powerFault).modPower (fun p => { p with regulator := true })).raise { code := 0x0903 }
  when "RAIL_FAULT" (rail != 0 && (s.mainUp || (s.boot.state == .ramping && decide (rail.toNat ≤ s.boot.rails + 1)))) t

/-! ### INIT (R401) -/

/-- The offset of a die's counter after the hub has aligned it, within 20 ps: a free value (R354; notes/assumptions/87.md). -/
def State.alignDie (s : State) (die : Nat) : State :=
  let x := s.draw
  x.2.modDatum (fun d => { d with dies := tset d.dies die ((x.1.toNat % 41 : Nat) - 20) })

/-- The DATUM to CORE crossing as the LMP measures it, at most 3.0 ns: a free value (R25, R26; notes/assumptions/87.md). -/
def State.measureCrossing (s : State) : State :=
  let x := s.draw
  x.2.modDatum (fun d => { d with coreOffset := BitVec.ofNat 16 (x.1.toNat % 3001) })

/-- The LMP has started: the DATUM to CORE crossing is measured, the counters of the other five dies are aligned, and every port of the
INTERIOR profile trains (R26, R219, R223, R354). -/
def State.startPorts (s : State) : State :=
  let s := [0, 1, 2, 3, 5].foldl (fun (s : State) d => s.alignDie d) s.measureCrossing
  let s := (List.range 36).foldl (fun (s : State) g => s.modGroup g (fun y => y.fresh (interiorProfile.getD g 0x0F) s.time)) s
  (List.range 8).foldl (fun (s : State) p => if (s.membersOf p).isEmpty then s else s.modPort p (fun y => { y with state := 1, reason := 0 })) s

/-- PROCESSOR_IMAGES_VERIFIED (R399, R401): an image that does not match leaves the module in INIT. -/
def execProcessorImagesVerified (ok : Bool) (s : State) : Res :=
  let started := (s.modBoot (fun b => { b with imagesOk := true })).modRecov (fun r => { r with beats := [(0, s.time), (1, s.time), (2, s.time)] })
  when "PROCESSOR_IMAGES_VERIFIED" (s.boot.state == .init && !s.boot.imagesOk && !s.boot.imagesBad)
    (if ok then started.startPorts else (s.modBoot (fun b => { b with imagesBad := true })).raise { code := 0x0905 })

/-- STACK_TRAINING_DONE (R401): a stack that fails leads to module stop. -/
def execStackTrainingDone (stack : BitVec 3) (ok : Bool) (s : State) : Res :=
  let k := stack.toNat
  let t := s.modStack k (fun x => { x with train := if ok then 2 else 3 })
  when "STACK_TRAINING_DONE" (s.boot.state == .init && (s.stack k).train == 1)
    (if ok then t else t.raise { code := 0x0405, unitKind := 3, unitIndex := k })

/-- PCIE_LINK_UP (R401). -/
def execPcieLinkUp (s : State) : Res :=
  when "PCIE_LINK_UP" (s.mainUp && s.boot.hostIfUp && !s.boot.linkUp) (s.modBoot (fun b => { b with linkUp := true }))

/-- CP_READY (R382, R400, R401): RUNNING; the fused security version follows the bank; cores retired in flash stay retired, with their
standby cores enabled. -/
def execCpReady (s : State) : Res :=
  let trained := (List.range 8).all (fun k => (s.stack k).train == 2)
  let t := s.enter .running
  let t := { t with fuses := { t.fuses with security := max t.fuses.security t.boot.security } }
  let t := (t.boot.retiredFlash.foldl (fun (s : State) k => s.retireCore k) t).enableStandby
  when "CP_READY" (s.boot.state == .init && s.boot.imagesOk && trained && s.recov.stopDue.isNone) t

end Sys2Proof.Machine
end

