-- ==== Sys2Proof/Machine/Recovery.lean ====
section
/-!
DEFINITION. Errors, watchdogs, resets and escalation (R368 to R386, R458), and the health commands ERR_READ and HUSK_READ (R372, R378, R386).
-/
namespace Sys2Proof.Machine

/-- The HRP runs recoveries (R374, R384). -/
def State.hrpWorks (s : State) : Bool := (s.works || s.boot.state == .init) && !s.recov.hrpStopped

/-! ### Errors found outside the other steps -/

/-- The error of an event. -/
def specOf (e : ErrEvent) : ErrSpec :=
  { code := e.code.toNat, ctx := e.context.map (·.toNat), va := e.va.toNat, len := e.len.toNat, target := e.target.toNat
    unitKind := e.unitKind.toNat, unitIndex := e.unitIndex.toNat, detail := e.detail.toNat, unknown := e.outcomeUnknown }

/-- The codes of R368 and R407. -/
def errCodes : List Nat :=
  [0x0101, 0x0102, 0x0103, 0x0104, 0x0105, 0x0106, 0x0107, 0x0108, 0x0109, 0x010A, 0x010B, 0x010C, 0x0201, 0x0202, 0x0203, 0x0204, 0x0205,
   0x0301, 0x0302, 0x0303, 0x0304, 0x0401, 0x0402, 0x0403, 0x0404, 0x0405, 0x0406, 0x0501, 0x0601, 0x0602, 0x0603, 0x0701, 0x0702, 0x0801,
   0x0802, 0x0803, 0x0901, 0x0902, 0x0903, 0x0904, 0x0905, 0x0906]

/-- What stays behind where the error lies: a dropped hoard line (R368), a DRAM line with an error (R153), an unreadable sample (R377). -/
def State.errorSite (s : State) (e : ErrEvent) : State :=
  let at_ := lineOf e.detail.toNat
  if e.code = 0x0404 then
    s.modCluster e.unitIndex.toNat (fun x => { x with hoard := x.hoard.filter (fun l =>
      match l.key with
      | .loc a => a != at_
      | .remote c va => !(some c == e.context.map (·.toNat) && va == lineOf e.va.toNat)) })
  else if e.code = 0x0204 then
    (s.modHome (fun h => { h with ueLines := if h.ueLines.contains at_ then h.ueLines else h.ueLines ++ [at_] })).modStack (s.stackOf at_)
      (fun k => { k with ue := satAdd k.ue 1 })
  else if e.code = 0x0401 then
    s.modRecov (fun r => { r with parity := r.parity ++ [(unitCore e.unitIndex.toNat, e.detail.toNat % 16)] })
  else s

/-- A core is there to be reset. -/
def State.coreThere (s : State) (k : Nat) : Bool := decide (k / 32 < s.enabledClusters) && decide (k % 32 ≤ 16) && !(s.core k).retired

/-- ERROR_RAISED (R368 to R373, R385). -/
def execErrorRaised (e : ErrEvent) (s : State) : Res :=
  when "ERROR_RAISED"
    (s.mainUp && errCodes.contains e.code.toNat && (errAction e.code.toNat != 2 || s.coreThere (unitCore e.unitIndex.toNat)))
    (let t := (s.errorSite e).raise (specOf e)
     if e.code = 0x0204 then t.watchStack (s.stackOf (lineOf e.detail.toNat)) else t)

/-- LOG_WINDOW_CLOSE (R458): 1 ms of datum after the window opened. -/
def execLogWindowClose (code : BitVec 16) (ctx : Byte) (s : State) : Res :=
  match s.errs.windows.find? (fun w => w.code == code && w.ctx == ctx) with
  | some w =>
    when "LOG_WINDOW_CLOSE" (s.mainUp && decide (w.opened.toNat + logWindow ≤ s.datum.counter.toNat)) { s with errs := s.errs.closeWin w }
  | none => .refused (.notOccurring "LOG_WINDOW_CLOSE")

/-! ### Context resets -/

/-- A processor restart waits or runs; a context reset runs. -/
def State.procRuns (s : State) : Bool := s.recov.procs.any (fun p => p.started.isSome)
def State.ctxResetRuns (s : State) : Bool := s.recov.ctxs.any (fun x => x.started.isSome)

/-- The deferred launches of a context, which reply at the end of its reset. -/
def State.deferredCmds (s : State) (c : Nat) : List Cmd :=
  (s.grids.filter (fun g => g.ctx == c && g.deferred.isSome)).filterMap (·.cmd)

/-- The steps of R379 from the husk to the release. -/
def State.resetContext (s : State) (x : CtxReset) : State :=
  let n := s.ctxDiscards x.ctx
  let cmds := s.deferredCmds x.ctx
  let h := s.writeHusk x.code.toNat x.ctx false (s.ctxCores x.ctx)
  let up := fun (y : CtxReset) =>
    { y with
      started := some s.time
      husk := BitVec.ofNat 32 h.1
      huskPartial := h.2.1
      huskValid := true
      discards := n
      deferred := cmds }
  (h.2.2.releaseCtx x.ctx).modRecov (fun r => { r with ctxs := updateFirst (fun y => y.ctx == x.ctx) up r.ctxs })

/-- CONTEXT_RESET (R373, R379): no processor restart waits, and no other context reset runs. -/
def execContextReset (s : State) : Res :=
  match s.recov.ctxs with
  | x :: _ => when "CONTEXT_RESET" (s.hrpWorks && s.recov.procs.isEmpty && x.started.isNone) (s.resetContext x)
  | [] => .refused (.notOccurring "CONTEXT_RESET")

/-- A husk can still be read (R378). -/
def State.huskThere (s : State) (i : Word32) : Bool := s.recov.husks.any (fun h => h.index == i.toNat)

/-- A record of the end of a recovery (R371). -/
def State.doneRec (s : State) (code : Nat) (ctx : Option Nat) (started : Option Nat) : ErrRec :=
  s.record { code := code, ctx := ctx, detail := s.time - started.getD s.time }

/-- Commands of other queues that asked for the reset reply with its discards. -/
def State.answerAskers (s : State) (x : CtxReset) : State :=
  (x.askers.filter (fun q => q / 4 != x.ctx)).foldl (fun s q =>
    match (s.queue q).cur with
    | some k => if k.opcode = 0x0101 ∨ k.opcode = 0x0102 then s.ok k (natLE x.discards 4) else s
    | none => s) s

/-- CONTEXT_RESET_DONE (R327, R373, R379). -/
def State.contextDone (s : State) (x : CtxReset) : State :=
  let r := s.doneRec 0x0801 (some x.ctx) x.started
  let r := { r with
    husk := x.husk, huskValid := x.huskValid && s.huskThere x.husk, huskPartial := x.huskPartial
    merged := BitVec.ofNat 32 (min x.merged 0xFFFFFFFF), firstMerged := x.firstMerged, detail2 := BitVec.ofNat 64 x.code.toNat }
  let s := x.retire.foldl (fun s k => s.retireCore k) s
  let s := (s.endQueues x.ctx x).answerAskers x
  let s := (s.modCtx x.ctx (fun c => { c with discards := BitVec.ofNat 32 (min x.discards 0xFFFFFFFF) })).freeCtx x.ctx
  (s.trace.modRecov (fun y => { y with ctxs := y.ctxs.filter (fun z => z.ctx != x.ctx) })).queueRec r

def execContextResetDone (s : State) : Res :=
  match s.recov.ctxs with
  | x :: _ => when "CONTEXT_RESET_DONE" (s.hrpWorks && x.started.isSome) (s.contextDone x)
  | [] => .refused (.notOccurring "CONTEXT_RESET_DONE")

/-! ### Core resets -/

/-- A tile handed back to its dispatcher (R150, R381). -/
def State.handBack (s : State) (rank : Nat) (t : TileRun) : State :=
  let s := s.modSlice t.slice (fun x =>
    { x with tiles := (t.td0.toNat, t.td1.toNat, t.td2.toNat) :: x.tiles, redo := x.redo + 1, running := x.running - 1, since := s.time })
  s.modGrid t.grid (fun g => { g with marked := g.marked.filter (· != rank) })

/-- The steps of R380 up to the clearing of the core. -/
def State.resetCore (s : State) (x : CoreReset) : State :=
  let k := x.core
  let c := s.core k
  let ctx := c.tiles.head?.map (·.ctx)
  let n := s.coreDiscards k
  let h := s.writeHusk x.code.toNat (ctx.getD 0xFF) true [k]
  let replays := c.tiles.all (fun t => ((s.grid? t.grid).map (·.replayable)).getD false) && !c.tiles.isEmpty
  let t := h.2.2.dropCore k
  let t := match ctx with
    | some i => t.modCtx i (fun y => { y with discards := BitVec.ofNat 32 n })
    | none => t
  let t := if replays then c.tiles.foldr (fun r s => s.handBack (k / 32) r) t
    else match ctx with | some i => t.askCtxReset i x.code.toNat | none => t
  let up := fun (y : CoreReset) =>
    { y with
      started := some s.time
      husk := BitVec.ofNat 32 h.1
      huskPartial := h.2.1
      discards := n
      redispatched := replays
      ctx := ctx }
  t.modRecov (fun r => { r with cores := updateFirst (fun y => y.core == k) up r.cores })

/-- CORE_RESET (R373, R380): core resets run one at a time, in the order of their errors. -/
def execCoreReset (s : State) : Res :=
  match s.recov.cores with
  | x :: _ => when "CORE_RESET" (s.hrpWorks && x.started.isNone) (s.resetCore x)
  | [] => .refused (.notOccurring "CORE_RESET")

/-- CORE_RESET_DONE (R381, R382). -/
def State.coreDone (s : State) (x : CoreReset) : State :=
  let r := s.doneRec 0x0802 x.ctx x.started
  let r := { r with
    husk := x.husk, huskValid := s.huskThere x.husk, huskPartial := x.huskPartial, redispatched := x.redispatched
    unitKind := 1, unitIndex := BitVec.ofNat 16 (coreUnit x.core)
    merged := BitVec.ofNat 32 (min x.merged 0xFFFFFFFF), firstMerged := x.firstMerged, detail2 := BitVec.ofNat 64 x.discards }
  let s := s.retireCore x.core
  (s.trace.modRecov (fun y => { y with cores := y.cores.drop 1 })).queueRec r

def execCoreResetDone (s : State) : Res :=
  match s.recov.cores with
  | x :: _ => when "CORE_RESET_DONE" (s.hrpWorks && x.started.isSome) (s.coreDone x)
  | [] => .refused (.notOccurring "CORE_RESET_DONE")

/-! ### Processor restarts -/

/-- A command of a queue ends with TIMEOUT (R17), the holds of a launch released as with any other reply (R289). -/
def State.timeoutCmd (s : State) (p : Cmd → Bool) (q : Nat) : State :=
  match (s.queue q).cur with
  | some k => if p k then (s.releaseLaunch k ⟨[], Config.restartAnswers k.order⟩).status k stTimeout else s
  | none => s

/-- Commands handed to a processor end with TIMEOUT, their effect unknown (R16, R17, R375). Those of the CP end with the resets that
follow. A launch's holds are released with its reply, and not again when its grid completes (R289). -/
def State.endHanded (s : State) (p : Proc) : State :=
  let qs := List.range 256
  match p with
  | .cp => s
  | .surveyor =>
    let s := s.grids.foldl (fun s g =>
      match g.cmd with
      | some k => if k.opcode = 0x0600 then s
        else
          ((s.modGrid g.id (fun y => { y with cmd := none, releaseMask := 0 })).releaseLaunch k ⟨[], Config.restartAnswers k.order⟩).status
            k stTimeout
      | none => s) s
    qs.foldl (fun s q => s.timeoutCmd (fun k => k.opcode / 256 == 3 || k.opcode == 0x0201 || k.opcode == 0x0202) q) s
  | .lmp =>
    let s := qs.foldl (fun s q =>
      match (s.queue q).barrier with
      | some k => (s.status k stTimeout).modQueue q (fun y => { y with barrier := none, release := none })
      | none => s) s
    let s := { s with colls := s.colls.filter (fun x => x.kind != .datumBarrier) }
    qs.foldl (fun s q => s.timeoutCmd (fun k => k.opcode / 256 == 7 || k.opcode / 256 == 9) q) s

/-- PROCESSOR_RESTART (R375): before any context reset that waits. -/
def State.restart (s : State) (x : ProcRestart) : State :=
  let s := (s.endHanded x.proc).trace
  let s := if x.proc = .lmp then s.modDatum (fun d => { d with holdover := some (d.holdover.getD s.time) }) else s
  s.modRecov (fun r => { r with procs := updateFirst (· == x) (fun y => { y with started := some s.time }) r.procs })

def execProcessorRestart (s : State) : Res :=
  match s.recov.procs with
  | x :: _ => when "PROCESSOR_RESTART" (s.hrpWorks && x.started.isNone && !s.ctxResetRuns) (s.restart x)
  | [] => .refused (.notOccurring "PROCESSOR_RESTART")

/-- PROC_RESTARTED (R375): a CP restart has every context reset. -/
def State.restarted (s : State) (x : ProcRestart) : State :=
  let r := s.doneRec 0x0803 none x.started
  let r := { r with unitKind := 6, unitIndex := BitVec.ofNat 16 (procIndex x.proc) }
  let s := s.trace.modRecov (fun y => { y with procs := y.procs.drop 1, beats := tset y.beats (procIndex x.proc) s.time })
  let s := s.queueRec r
  if x.proc = .cp then (s.contexts.filter (fun e => e.2.state != 0)).foldl (fun s e => s.askCtxReset e.1 0x0501) s else s

def execProcRestarted (s : State) : Res :=
  match s.recov.procs with
  | x :: _ => when "PROC_RESTARTED" (s.hrpWorks && x.started.isSome) (s.restarted x)
  | [] => .refused (.notOccurring "PROC_RESTARTED")

/-! ### Watchdogs (R374) -/

/-- PROCESSOR_HEARTBEAT: every 10 µs. -/
def execProcessorHeartbeat (p : Proc) (s : State) : Res :=
  when "PROCESSOR_HEARTBEAT" (s.mainUp && !s.recov.procs.any (fun x => x.proc == p))
    (s.modRecov (fun r => { r with beats := tset r.beats (procIndex p) s.time }))

/-- PROC_TIMEOUT: no heartbeat for 1 ms. -/
def execProcTimeout (p : Proc) (s : State) : Res :=
  when "PROC_TIMEOUT"
    (s.hrpWorks && s.boot.imagesOk && !s.recov.procs.any (fun x => x.proc == p) && decide (tget s.recov.beats (procIndex p) 0 + 1000000 ≤ s.time))
    (s.raise { code := 0x0501, unitKind := 6, unitIndex := procIndex p })

/-- The bound of the core stall watchdog: the larger of 10 ms and four fabric timeouts, at most 1 s. -/
def State.stallBound (s : State) (c : Nat) : Nat := min 1000000000 (max 10000000 (4 * s.fabricTimeout c))

/-- CORE_STALL (R64): a stream has waited on one condition for the whole bound. -/
def execCoreStall (c : CoreId) (stream : Stream) (s : State) : Res :=
  let k := coreKey c
  let x := s.core k
  let t := match stream with | .access => x.accTile | .execute => x.exeTile
  match (match stream with | .access => x.accStall | .execute => x.exeStall) with
  | some (kind, since) =>
    when "CORE_STALL"
      (s.hrpWorks && !x.tiles.isEmpty && !x.frozen && s.ctxLive t.ctx && decide (since + s.stallBound t.ctx ≤ s.time))
      (s.raise (s.tileErr k 0x0102 t 0 0))
  | none => .refused (.notOccurring "CORE_STALL")

/-- CORE_HANG: neither stream has issued or retired for 100 µs, and none stalls. -/
def execCoreHang (c : CoreId) (s : State) : Res :=
  let k := coreKey c
  let x := s.core k
  when "CORE_HANG"
    (s.hrpWorks && !x.tiles.isEmpty && !x.frozen && !x.retired && x.accStall.isNone && x.exeStall.isNone &&
     !(x.exeTile.accEnd && x.exeTile.exeEnd) && decide (x.lastIssue + 100000 ≤ s.time))
    (s.raise (s.tileErr k 0x0403 x.exeTile 0 0))

/-- ENGINE_HANG: a dispatcher that hands out nothing for 1 ms with a tile and a core free, a memory controller or a router half. -/
def execEngineHang (u : HangUnit) (s : State) : Res :=
  match u with
  | .dispatcher rank =>
    (match s.tileChoice rank.toNat with
     | some (x, _, _, k) =>
       let idle := max (max (s.core k).freeSince x.since) (s.cluster rank.toNat).given
       when "ENGINE_HANG" (s.hrpWorks && decide (rank.toNat < s.enabledClusters) && decide (idle + 1000000 ≤ s.time))
         (s.raise { code := 0x0406, unitKind := 2, unitIndex := rank.toNat })
     | none => .refused (.notOccurring "ENGINE_HANG"))
  | .memController stack => when "ENGINE_HANG" s.hrpWorks (s.raise { code := 0x0406, unitKind := 3, unitIndex := stack.toNat })
  | .routerHalf half =>
    let s' := s.modFabric (fun f => if half then { f with hungSouth := true } else { f with hungNorth := true })
    when "ENGINE_HANG" s.hrpWorks (s'.raise { code := 0x0406, unitKind := 7, unitIndex := b2n half })

/-- HRP_TIMER_EXPIRY: the request alone; the HRP runs no recovery more. -/
def execHrpTimerExpiry (s : State) : Res :=
  when "HRP_TIMER_EXPIRY" (s.boot.standby && !s.recov.hrpStopped)
    (((s.modRecov (fun r => { r with hrpStopped := true })).modBoot (fun b => { b with resetPending := true })).emit .resetRequest)

/-- RESET_OVERRUN: a recovery has not ended within its bound from its start. -/
def overdue (now : Nat) (started : Option Nat) (bound : Nat) : Bool :=
  match started with
  | some t => decide (t + bound < now)
  | none => false

def execResetOverrun (k : RecoveryKind) (s : State) : Res :=
  let late := match k with
    | .context => s.recov.ctxs.any (fun x => overdue s.time x.started 2000000)
    | .core => s.recov.cores.any (fun x => overdue s.time x.started 200000)
    | .processor => s.recov.procs.any (fun x => overdue s.time x.started 20000000)
  when "RESET_OVERRUN" (s.hrpWorks && s.recov.stopDue.isNone && late) (s.raise { code := 0x0702 })

/-- MODULE_STOP (R383): every context frozen, a husk of each that holds work, and the request for a module reset. The alarm was queued with
the error (R372). -/
def State.stopModule (s : State) (code : Nat) : State :=
  let live := (s.contexts.filter (fun e => e.2.state != 0)).map (·.1)
  let s := live.foldl (fun s c => s.modCtx c (fun x => { x with frozen := true })) s
  let s := live.foldl (fun s c => if s.holdsWork c 0 then (s.writeHusk code c false (s.ctxCores c)).2.2 else s) s
  let s := (s.modBoot (fun b => { b with state := .stopped, resetPending := true })).modRecov (fun r => { r with stopDue := none })
  (s.emit (.msix 256)).emit .resetRequest

def execModuleStop (s : State) : Res :=
  match s.recov.stopDue with
  | some code => when "MODULE_STOP" s.hrpWorks (s.stopModule code.toNat)
  | none => .refused (.notOccurring "MODULE_STOP")

/-! ### ERR_READ and HUSK_READ -/

/-- Records taken from the head of the queue, the backlog moving in behind them (R372). -/
def popErrors : Nat → State → List ErrRec × State
  | 0, s => ([], s)
  | n + 1, s =>
    match s.errs.queue with
    | [] => ([], s)
    | r :: rest =>
      let t := drainAlarms 1 { s with errs := { s.errs with queue := rest } }
      let y := popErrors n t
      (r :: y.1, y.2)

/-- ERR_READ (R315, R372); the tally of lost records restarts from zero (R445). -/
def State.errRead (s : State) (src : CmdSource) : State :=
  let cmd := s.cmd! src
  if !cmd.restZero [(0, 12)] then s.badParam cmd
  else
    let n := min (cmd.param 8 4) (s.errs.queue.length + s.errs.backlog.length + s.errs.held.length)
    let x := popErrors n s
    let s := x.2.putHost (cmd.param 0 8) (x.1.map ErrRec.bytes).flatten
    (s.modErrs (fun e => { e with overflow := 0 })).ok cmd (natLE x.1.length 4 ++ natLE (s.errs.queue.length + s.errs.backlog.length) 4 ++ natLE s.errs.overflow 2)

def execErrRead (src : CmdSource) (s : State) : Res := when "ERR_READ" (s.runs src 0x0A00) (s.errRead src)

/-- The trace ring as HUSK_READ returns it (R386): the write position in bytes, the ring, and the drops by source: each cluster, the two
router halves, the four processors, the inbox block. -/
def State.traceBytes (s : State) : List Byte :=
  let n := s.recov.trace.length
  let old := n - s.recov.tracePos
  let ring := if n < traceEntries then s.recov.trace else s.recov.trace.drop old ++ s.recov.trace.take old
  natLE (32 * s.recov.tracePos) 8 ++ zeros 56 ++ slice ring.flatten 0 (32 * traceEntries) ++
  ((List.range (s.enabledClusters + 7)).map (fun i => natLE (tget s.recov.traceDrops i 0) 8)).flatten

/-- HUSK_READ (R315, R378). -/
def State.huskRead (s : State) (src : CmdSource) : State :=
  let cmd := s.cmd! src
  let bs :=
    if s.boot.state = .powerFault then none
    else if cmd.param 0 4 = 0xFFFFFFFF then some s.traceBytes
    else (s.recov.husks.find? (fun h => h.index == cmd.param 0 4)).map (·.bytes)
  if !cmd.restZero [(0, 4), (8, 12)] then s.badParam cmd
  else
    match bs with
    | none => s.badParam cmd
    | some b =>
      let b := b.take (cmd.param 16 4)
      (s.putHost (cmd.param 8 8) b).ok cmd (natLE b.length 4)

def execHuskRead (src : CmdSource) (s : State) : Res := when "HUSK_READ" (s.runs src 0x0A01) (s.huskRead src)

/-! ### TALLY_READ (R353) -/

/-- A tally group of a context: entry width and entries. -/
def State.tallyGroup (s : State) (t group : Nat) : Option (Nat × List Nat) :=
  let c := s.ctx t
  let h := s.home
  let f := s.fabric
  match group with
  | 0 => some (4, [c.nanMade, c.infMade, c.satClamps, c.mxNanBlocks].map (·.toNat))
  | 1 => some (4, [c.nonfiniteSkips, c.holdsDropped, c.holdUnderflows, c.deferPromotions, c.deferTiles, c.segmentsRun,
      c.replayEntries].map (·.toNat))
  | 2 => some (8, [c.storesFailed, c.orphanReplies, c.staleSegments, c.platReforms, c.collAborts].map (·.toNat))
  | 3 => some (8, [h.bearingMisses, h.bearingCorrections, h.movesDone, h.movesAbandoned, h.moveRetries, h.pageOuts, h.pageIns,
      h.pageOutsCancelled, h.slicesLocalised, h.slicesRemote, f.readsCombined0 + f.readsCombined1,
      f.atomicsCombined0 + f.atomicsCombined1, h.preemptions, h.movesDeferred].map (·.toNat))
  | 4 => some (8, [c.rowsSent, c.rowsReturned, c.rowsDropped, c.rowsRefused, c.rowsLost, c.orphanReturns, c.wavesDone].map (·.toNat))
  | _ => none

def State.tallyRead (s : State) (src : CmdSource) : State :=
  let cmd := s.cmd! src
  let group := cmd.param 1 1
  if !cmd.restZero [(0, 2), (8, 8)] ∨ (group ≠ 3 ∧ cmd.param 0 1 ≥ 64) then s.badParam cmd
  else
    match s.tallyGroup (cmd.param 0 1) group with
    | none => s.badParam cmd
    | some (w, vs) =>
      let bs := [BitVec.ofNat 8 group, BitVec.ofNat 8 vs.length, BitVec.ofNat 8 w] ++ zeros 5 ++ (vs.map (fun v => natLE v w)).flatten
      (s.putHost (cmd.param 8 8) bs).ok cmd (natLE bs.length 4)

def execTallyRead (src : CmdSource) (s : State) : Res := when "TALLY_READ" (s.runs src 0x0A02) (s.tallyRead src)

end Sys2Proof.Machine
end

