-- ==== Sys2Proof/Machine/Systems.lean ====
section
/-!
DEFINITION. Positions in trays, racks and systems (R8, R425 to R429), which failures a plan covers (R431 to R433), and slices (R436): what the
board management controllers and the host compute before they write a plan or create a job.
-/
namespace Sys2Proof.Machine

/-- A system: a box of racks (R426). -/
structure RackBox where
  rx : Nat
  ry : Nat
  rz : Nat
  deriving DecidableEq, Repr

/-- A physical position rack.tray.slot (R8). -/
structure RackPos where
  rack : Nat
  tray : Nat
  slot : Nat
  deriving DecidableEq, Repr

/-- The physical module ID of a position, and the position of a physical module ID (R8). -/
def RackPos.physId (r : RackPos) : Nat := r.rack * 80 + r.tray * 5 + r.slot
def RackPos.ofPhysId (n : Nat) : RackPos := ⟨n / 80, n / 5 % 16, n % 5⟩

/-- The plan that every module of a system holds: NXP = 5Rx, NY = 4Ry and NZ = 4Rz (R426). -/
def RackBox.sized (b : RackBox) (p : Plan) : Plan :=
  { p with nxp := BitVec.ofNat 8 (5 * b.rx), ny := BitVec.ofNat 8 (4 * b.ry), nz := BitVec.ofNat 8 (4 * b.rz) }

/-- Where a position stands in its system: physical x, y and z (R426, R427). -/
def RackBox.place (b : RackBox) (r : RackPos) : Pos :=
  ⟨5 * (r.rack % b.rx) + r.slot, 4 * (r.rack / b.rx % b.ry) + r.tray % 4, 4 * (r.rack / (b.rx * b.ry)) + r.tray / 4⟩

/-- LOGICAL_ID of a position under a plan: 0xFFFF where its X position is mapped out (R427). -/
def RackBox.logicalId (b : RackBox) (p : Plan) (r : RackPos) : Nat :=
  let q := b.place r
  if p.isLive q.x then p.idOf q else 0xFFFF

/-- The SELF fields that the board management controller writes into the module at a position (R427). -/
def RackBox.self (b : RackBox) (p : Plan) (r : RackPos) : Plan :=
  { b.sized p with
    physId := BitVec.ofNat 16 r.physId, logicalId := BitVec.ofNat 16 (b.logicalId (b.sized p) r), xPos := BitVec.ofNat 8 (b.place r).x }

/-- The face mask of a position: the ports that leave its rack (R429). -/
def RackPos.faceMask (r : RackPos) : Nat :=
  let x := match r.slot with | 4 => 2 ^ 0 + 2 ^ 2 | 3 => 2 ^ 2 | 1 => 2 ^ 3 | 0 => 2 ^ 1 + 2 ^ 3 | _ => 0
  let y := match r.tray % 4 with | 3 => 2 ^ 4 | 0 => 2 ^ 5 | _ => 0
  let z := match r.tray / 4 with | 3 => 2 ^ 6 | 0 => 2 ^ 7 | _ => 0
  x + y + z

/-- A rack column maps out exactly one slot (R431, R433). -/
def Plan.columnsOk (p : Plan) : Bool :=
  (List.range (p.nx / 5)).all (fun c => (List.range 5).countP (fun i => !p.isLive (5 * c + i)) == 1)

/-- No two adjacent X positions are mapped out (R233, R433). -/
def Plan.gapsOk (p : Plan) : Bool := (List.range p.nx).all (fun i => p.isLive i || p.isLive ((i + 1) % p.nx))

/-- A plan covers failures at these physical X positions (R433): of a failed module its own, of a failed cable one of its ends. -/
def Plan.covers (p : Plan) (modules : List Nat) (cables : List (Nat × Nat)) : Bool :=
  modules.all (fun i => !p.isLive i) && cables.all (fun e => !p.isLive e.1 || !p.isLive e.2) && p.columnsOk && p.gapsOk

/-- An axis of a slice: the whole ring, or a contiguous arc of at most 16 positions from a start (R436). -/
def arcOk (n start len : Nat) : Bool := decide (start < n) && decide (1 ≤ len) && (decide (len = n) || decide (len ≤ min n 16))
def withinArc (n start len i : Nat) : Bool := decide ((i + n - start) % n < len)

/-- A logical box: where it starts on each axis and how far it reaches. -/
structure Slice3 where
  start : Pos
  len : Pos
  deriving DecidableEq, Repr

/-- A module set whose box is a slice without the failed modules, which are given by logical position (R436). -/
def Slice3.ok (b : Slice3) (p : Plan) (failed : List Pos) : Bool :=
  let nx := p.live.length
  let ny := p.ny.toNat
  let nz := p.nz.toNat
  arcOk nx b.start.x b.len.x && arcOk ny b.start.y b.len.y && arcOk nz b.start.z b.len.z &&
  failed.all (fun q => !(withinArc nx b.start.x b.len.x q.x && withinArc ny b.start.y b.len.y q.y && withinArc nz b.start.z b.len.z q.z))

end Sys2Proof.Machine
end

