-- ==== Sys2Proof/Machine/Control.lean ====
section
/-!
DEFINITION. Control space (R329, R332 to R352): what a register reads, what a write of it does, and the BAR4 aperture (R331).
-/
namespace Sys2Proof.Machine

/-! ### Masters, blocks and selected instances -/

/-- The select registers and STATUS of a master. -/
def State.mst (s : State) (m : Master) : MasterRegs := match m with | .host => s.regs.host | .sideband => s.regs.side
def State.modMst (s : State) (m : Master) (f : MasterRegs → MasterRegs) : State :=
  match m with
  | .host => { s with regs := { s.regs with host := f s.regs.host } }
  | .sideband => { s with regs := { s.regs with side := f s.regs.side } }
def State.modGlobal (s : State) (f : GlobalRegs → GlobalRegs) : State := { s with regs := { s.regs with global := f s.regs.global } }
def State.modPlan (s : State) (f : Plan → Plan) : State := { s with regs := { s.regs with plan := f s.regs.plan } }

/-- A master reaches control space: the host through its interface, the sideband through REG_DATA. -/
def State.masterUp (s : State) (m : Master) : Bool := match m with | .host => s.hostUp | .sideband => s.sideUp

/-- The blocks of R336 as (first offset, bytes). -/
def blocks : List (Nat × Nat) :=
  [(0x000000, 0x10000), (0x010000, 0x1000), (0x020000, 0x1000), (0x100000, 0x10000), (0x200000, 0x10000), (0x210000, 0x10000),
   (0x300000, 0x10000), (0x400000, 0x10000), (0x500000, 0x10000), (0x600000, 0x10000), (0x700000, 0x10000), (0x780000, 0x10000),
   (0x7C0000, 0x10000)]

/-- The block of an offset. -/
def windowOf (off : Nat) : Option Nat := (blocks.find? (fun b => decide (b.1 ≤ off) && decide (off < b.1 + b.2))).map (·.1)

/-- A register's value from its fields: (value, lowest bit). -/
def fields (l : List (Nat × Nat)) : Word64 := BitVec.ofNat 64 ((l.map (fun e => e.1 * 2 ^ e.2)).foldl (· + ·) 0)

/-- The selected cluster's core key. -/
def MasterRegs.coreSel (r : MasterRegs) : Nat := r.cluRank.toNat * 32 + r.cluCore.toNat

/-- Registers of the context window that a FREE context keeps readable (R338): the queue fields, STATE, LAST_RESET_DISCARDS; STATUS too. -/
def freeReadable (o : Nat) : Bool := o == 0x000 || o == 0x008 || o == 0x018 || (decide (0x100 ≤ o) && decide (o < 0x200))

/-- The master's select register names an instance of a window, for the register at an offset (R338). -/
def State.selected (s : State) (m : Master) (base o : Nat) : Bool :=
  let r := s.mst m
  match base with
  | 0x100000 => freeReadable o || (s.ctx r.ctxSel.toNat).state != 0
  | 0x210000 => o == 0 || decide (r.grpSel.toNat < 36)
  | 0x300000 => o == 0 || (decide (r.cluRank.toNat < s.enabledClusters) && decide (r.cluCore.toNat ≤ 16))
  | _ => true

/-! ### Reads -/

/-- The global window (R339). -/
def State.readGlobal (s : State) (o : Nat) : Word64 :=
  let g := s.regs.global
  match o with
  | 0x008 => fields [(s.boot.version.toNat, 32), (steppingCode.toNat, 16), (s.fuses.grade.toNat, 8), (s.enabledClusters, 0)]
  | 0x010 => fields [(s.fuses.mask0.toNat, 0)]
  | 0x018 => fields [(s.fuses.mask1.toNat, 0)]
  | 0x020 => fields [(s.fuses.mask2.toNat, 0)]
  | 0x028 => fields [(s.fuses.mask3.toNat, 0)]
  | 0x030 => fields [(s.framesFree, 32), (s.framesAvailable, 0)]
  | 0x038 => fields [(b2n g.dramInterleave, 0)]
  | 0x040 => fields [(g.migrateCooldown.toNat, 32), (g.migrateThreshold.toNat, 0)]
  | 0x048 => fields [(g.pageHigh.toNat, 8), (g.pageLow.toNat, 0)]
  | 0x050 => fields [(b2n g.apEnable, 6), (g.apCtx.toNat, 0)]
  | 0x058 => fields [(g.apBase.toNat, 0)]
  | 0x060 => fields [(g.conflictsLost.toNat, 32), (g.doorbellIgnored.toNat, 0)]
  | _ => 0

/-- The select registers (R337). -/
def MasterRegs.readSelect (r : MasterRegs) (o : Nat) : Word64 :=
  match o with
  | 0x00 => fields [(r.ctxSel.toNat, 0)]
  | 0x08 => fields [(r.portSel.toNat, 0)]
  | 0x10 => fields [(r.grpSel.toNat, 0)]
  | 0x18 => fields [(r.cluCore.toNat, 8), (r.cluRank.toNat, 0)]
  | 0x20 => fields [(r.stkSel.toNat, 0)]
  | 0x28 => fields [(r.inboxSel.toNat, 0)]
  | 0x30 => fields [(r.platSel.toNat, 0)]
  | _ => 0

/-- The wiring plan (R340). -/
def State.readPlan (s : State) (o : Nat) : Word64 :=
  let p := s.regs.plan
  match o with
  | 0x000 => fields [(b2n s.regs.planValid, 1)]
  | 0x008 => fields [(p.physId.toNat, 32), (p.logicalId.toNat, 16), (p.xPos.toNat, 8)]
  | 0x010 => fields [(p.nxp.toNat, 16), (p.ny.toNat, 8), (p.nz.toNat, 0)]
  | 0x018 => p.xLive
  | _ =>
    if 0x020 ≤ o ∧ o < 0x060 then
      let e := tget p.peers ((o - 0x020) / 8) (0, 0xFFFF)
      fields [(e.1.toNat, 16), (e.2.toNat, 0)]
    else 0

/-- QCTRL (R342). -/
def Queue.ctrl (q : Queue) : Word64 :=
  fields [(q.haltReason.toNat, 16), (q.replyLog2.toNat, 11), (q.ringLog2.toNat, 6), (b2n q.replyDev, 4), (b2n q.ringDev, 3), (b2n q.priv, 2), (b2n q.enable, 0)]

/-- The context window (R341, R342). -/
def State.readCtx (s : State) (c o : Nat) : Word64 :=
  let x := s.ctx c
  match o with
  | 0x008 => if x.state = 0 then 0 else fields [(x.job.toNat, 32), (b2n x.strict, 8), (x.state.toNat, 0)]
  | 0x010 => x.slack
  | 0x018 => fields [(x.discards.toNat, 0)]
  | 0x020 => fields [(x.fabricTimeout.toNat, 0)]
  | 0x028 => fields [(x.segLen.toNat, 24), (b2n x.fpCombine, 16)]
  | 0x030 => fields [(x.mirrorBase.toNat, 0)]
  | _ =>
    if 0x100 ≤ o ∧ o < 0x200 then
      let q := s.queue (4 * c + (o - 0x100) / 0x40)
      match o % 0x40 with
      | 0x00 => q.ringBase
      | 0x08 => q.replyBase
      | 0x10 => q.headShadow
      | 0x18 => q.ctrl
      | 0x20 => fields [(q.head.toNat, 32), (q.tail.toNat, 0)]
      | _ => 0
    else 0

/-- The port window (R344). -/
def State.readPort (s : State) (p o : Nat) : Word64 :=
  let x := s.port p
  match o with
  | 0x008 => fields [(x.minor.toNat, 32), (x.peerPhys.toNat, 16), (x.peerPort.toNat, 12), ((s.sparesOf p).length, 8),
      ((s.portGroups p).length, 4), (x.reason.toNat, 2), (x.state.toNat, 0)]
  | 0x010 => fields [(x.wCollective.toNat, 24), (x.wExpert.toNat, 16), (x.wMemory.toNat, 8), (x.wManagement.toNat, 0)]
  | _ => if 0x018 ≤ o ∧ o < 0x040 then tget x.discards ((o - 0x018) / 8) 0 else 0

/-- The lane-group window (R345). -/
def State.readGroup (s : State) (g o : Nat) : Word64 :=
  let x := s.group g
  match o with
  | 0x008 => fields [(x.peerFw.toNat, 32), (x.role.toNat % 16, 12), (b2n (isSpare x.role), 11), (x.state.toNat, 8), (x.reason.toNat, 4), (x.attempts, 0)]
  | 0x010 => fields [(x.linkDelay.toNat, 0)]
  | 0x018 => fields [(x.fecUncorrected.toNat, 32), (x.fecCorrected.toNat, 0)]
  | 0x020 => x.replays
  | _ => 0

/-- The cluster window (R346). -/
def State.readCluster (s : State) (rank core o : Nat) : Word64 :=
  let x := s.cluster rank
  let at_ := s.fuses.clusters.getD rank (0, 0)
  match o with
  | 0x008 => fields [(x.retired.toNat, 32), (x.retiredCore.toNat, 27), (b2n x.standbyActive, 26), (s.deferredQueued rank, 16), (at_.2, 8), (at_.1, 6)]
  | 0x010 => x.gang.waitCycles
  | 0x018 => x.holdRefused
  | 0x020 => x.sweeps
  | 0x028 => x.stallCycles
  | _ => if 0x100 ≤ o ∧ o < 0x168 then tget (s.core (rank * 32 + core)).counters ((o - 0x100) / 8) 0 else 0

/-- The stack window (R347). -/
def State.readStack (s : State) (k o : Nat) : Word64 :=
  let x := s.stack k
  match o with
  | 0x008 => fields [(x.temp.toNat, 8), (x.train.toNat, 0)]
  | 0x010 => fields [(x.ue.toNat, 32), (x.ce.toNat, 0)]
  | 0x018 => x.moved
  | _ => 0

/-- The inbox window (R348). -/
def State.readInbox (s : State) (i o : Nat) : Word64 :=
  let x := s.inbox i
  if o = 0x008 then
    fields [(x.owner, 32), (x.expert.toNat, 16), (x.waves.length, 10), (x.batches.length, 8), (b2n x.enable, 7), (if x.enable ∧ !x.generate then 2 else 0, 0)]
  else if 0x010 ≤ o ∧ o < 0x058 then
    [x.received, x.byCount, x.byMarkers, x.byFloor, x.byDeadline, x.spilled, x.droppedRows, x.refusedRows, x.peak].getD ((o - 0x010) / 8) 0
  else 0

/-- Members of a plat from an index on, 16 bits each; 0xFFFF beyond them (R349). -/
def Plat.word (x : Plat) (i : Nat) : Word64 :=
  fields ((List.range 4).map (fun k => (((x.members[i + k]?).map (·.toNat)).getD 0xFFFF, 16 * k)))

/-- The plat of a select register. -/
def State.platAt (s : State) (p : Nat) : Option Plat := (s.plats.find? (fun e => e.1 == p)).map (·.2)

/-- The plat window (R349). -/
def State.platRegs (s : State) (r : MasterRegs) (o : Nat) : Word64 :=
  match s.platAt r.platSel.toNat, o with
  | _, 0x020 => fields [(r.memberPtr.toNat, 0)]
  | some x, 0x008 => fields [(x.epoch.toNat, 48), (x.collSeq.toNat, 16), (x.owner, 10), (b2n x.excluded, 2), (b2n x.reformable, 1), (1, 0)]
  | some x, 0x010 => fields [(x.listCrc.toNat, 32), (x.setMask.toNat, 16), (x.members.length, 0)]
  | some x, 0x018 => fields [(x.slot, 32), (x.straggler, 0)]
  | some x, 0x028 => x.word r.memberPtr.toNat
  | none, 0x028 => 0xFFFFFFFFFFFFFFFF
  | _, _ => 0

/-- The error window (R350). -/
def State.readErr (s : State) (o : Nat) : Word64 :=
  if o = 0x008 then fields [(s.errs.overflow, 32), (s.errs.alarms, 16), (s.errs.queue.length, 0)]
  else if 0x100 ≤ o ∧ o < 0x140 then
    match s.errs.queue with
    | r :: _ => BitVec.ofNat 64 (field r.bytes (o - 0x100) 8)
    | [] => 0
  else 0

/-- SAFETY_FLAGS (R351, R365). -/
def Power.thermal (p : Power) : Bool := p.thermal95 || p.thermal105 || !p.refreshDoubled.isEmpty
def Power.flags (p : Power) : Nat := b2n p.thermal + 2 * b2n p.current + 4 * b2n p.regulator + 8 * b2n p.strictOverCap

/-- The power window (R351). -/
def State.readPower (s : State) (o : Nat) : Word64 :=
  let p := s.power
  match o with
  | 0x008 => fields [(p.input, 48), (p.cap, 32), (p.flags, 24), (b2n p.ceilingHeld, 17), (b2n p.capHeld, 16), (p.ceiling, 10), (p.clock, 8), (p.tempMax, 0)]
  | 0x010 => fields [(p.throttle.toNat, 0)]
  | _ => 0

/-- The datum window (R352). -/
def State.readDatum (s : State) (o : Nat) : Word64 :=
  let d := s.datum
  match o with
  | 0x008 => d.counter
  | 0x010 => fields [(s.skewNow, 16), (b2n d.ppsLocked, 2), (b2n d.ppsEnable, 1), (b2n d.calibrated, 0)]
  | 0x018 => fields [(d.coreOffset.toNat, 0)]
  | 0x020 => d.lastBarrier
  | _ => 0

/-- STATUS of a window as a master sees it (R335). -/
def State.readStatus (s : State) (m : Master) (base : Nat) : Word64 :=
  let r := s.mst m
  fields [(b2n (r.selInvalid.contains base), 2), (b2n (base == 0 && s.regs.global.apShadow.isSome), 1), (b2n (r.writeRefused.contains base), 0)]

/-- What a register reads (R332, R336). -/
def State.readWord (s : State) (m : Master) (off : Nat) : Word64 :=
  let r := s.mst m
  match windowOf off with
  | none => 0
  | some base =>
    let o := off - base
    if !s.selected m base o then 0
    else if o = 0 ∧ base ≠ 0x010000 ∧ base ≠ 0x020000 then s.readStatus m base
    else
      match base with
      | 0x000000 => s.readGlobal o
      | 0x010000 => r.readSelect o
      | 0x020000 => s.readPlan o
      | 0x100000 => s.readCtx r.ctxSel.toNat o
      | 0x200000 => s.readPort r.portSel.toNat o
      | 0x210000 => s.readGroup r.grpSel.toNat o
      | 0x300000 => s.readCluster r.cluRank.toNat r.cluCore.toNat o
      | 0x400000 => s.readStack r.stkSel.toNat o
      | 0x500000 => s.readInbox r.inboxSel.toNat o
      | 0x600000 => s.platRegs r o
      | 0x700000 => s.readErr o
      | 0x780000 => s.readPower o
      | 0x7C0000 => s.readDatum o
      | _ => 0

/-- A window whose select register names no instance: SEL_INVALID of the master (R338). -/
def MasterRegs.mark (r : MasterRegs) (base : Nat) : MasterRegs := { r with selInvalid := if r.selInvalid.contains base then r.selInvalid else base :: r.selInvalid }
def MasterRegs.unmark (r : MasterRegs) (base : Nat) : MasterRegs := { r with selInvalid := r.selInvalid.filter (· != base) }

/-- An access to a register of a window without an instance sets SEL_INVALID. -/
def State.touchWindow (s : State) (m : Master) (off : Nat) : State :=
  match windowOf off with
  | some base => if s.selected m base (off - base) then s else s.modMst m (fun r => r.mark base)
  | none => s

/-- The RC fields of a register read, by half, are cleared (R333, R339, R345, R347, R350). -/
def State.clearRc (s : State) (m : Master) (off : Nat) (low high : Bool) : State :=
  let r := s.mst m
  let keep := fun (clear : Bool) (w : Word32) => if clear then (0 : Word32) else w
  if off = 0x000060 then s.modGlobal (fun g => { g with conflictsLost := keep high g.conflictsLost, doorbellIgnored := keep low g.doorbellIgnored })
  else if off = 0x210018 ∧ r.grpSel.toNat < 36 then
    s.modGroup r.grpSel.toNat (fun g => { g with fecUncorrected := keep high g.fecUncorrected, fecCorrected := keep low g.fecCorrected })
  else if off = 0x400010 ∧ low then s.modStack r.stkSel.toNat (fun k => { k with ce := 0 })
  else if off = 0x700008 ∧ high then s.modErrs (fun e => { e with overflow := 0 })
  else s

/-- An 8-byte read: its value, and the state after it; MEMBER_DATA advances MEMBER_PTR (R333, R349). -/
def State.readReg (s : State) (m : Master) (off : Nat) : Word64 × State :=
  let v := s.readWord m off
  let s := (s.touchWindow m off).clearRc m off true true
  (v, if off = 0x600028 then s.modMst m (fun r => { r with memberPtr := r.memberPtr + 4 }) else s)

/-- Registers of one 64-bit RO field, whose low half latches the high half (R332). -/
def latches (off : Nat) : Bool :=
  match windowOf off with
  | some base =>
    let o := off - base
    match base with
    | 0x100000 => o == 0x010
    | 0x200000 => decide (0x018 ≤ o) && decide (o < 0x040)
    | 0x210000 => o == 0x020
    | 0x300000 => (decide (0x010 ≤ o) && decide (o < 0x030)) || (decide (0x100 ≤ o) && decide (o < 0x168))
    | 0x400000 => o == 0x018
    | 0x500000 => decide (0x010 ≤ o) && decide (o < 0x058)
    | 0x600000 => o == 0x028
    | 0x700000 => decide (0x100 ≤ o) && decide (o < 0x140)
    | 0x7C0000 => o == 0x008 || o == 0x020
    | _ => false
  | none => false

/-- The latched high half of a register. -/
def MasterRegs.latched (r : MasterRegs) (reg : Nat) : Option Word32 := (r.latch.find? (fun e => e.1 == reg)).map (·.2)

/-- A 4-byte read (R332): the low half of a 64-bit field latches its high half for the master's next read of it. -/
def State.readHalf (s : State) (m : Master) (off : Nat) : Word64 × State :=
  let reg := off / 8 * 8
  let v := (s.readWord m reg).toNat
  let t := s.touchWindow m reg
  if off % 8 = 0 then
    let t := t.clearRc m reg true false
    let t := if reg = 0x600028 then t.modMst m (fun r => { r with memberPtr := r.memberPtr + 4 }) else t
    (BitVec.ofNat 64 (v % 2 ^ 32), if latches reg then t.modMst m (fun r => { r with latch := tset r.latch reg (BitVec.ofNat 32 (v / 2 ^ 32)) }) else t)
  else
    match (s.mst m).latched reg with
    | some h => (BitVec.ofNat 64 h.toNat, t.modMst m (fun r => { r with latch := terase r.latch reg }))
    | none => (BitVec.ofNat 64 (v / 2 ^ 32), t.clearRc m reg false true)

/-! ### Writes (R333, R334) -/

/-- WRITE_REFUSED of a master in a window. -/
def State.refuseWrite (s : State) (m : Master) (base : Nat) : State :=
  s.modMst m (fun r => { r with writeRefused := if r.writeRefused.contains base then r.writeRefused else base :: r.writeRefused })

/-- No context exists: the idle condition of the global, plan and datum windows (R336). -/
def State.noContexts (s : State) : Bool := s.contexts.all (fun e => e.2.state == 0)

/-- One field judged: its new value, and whether the write of it is refused (R334). -/
def judge (cur new : Nat) (ok : Bool) : Nat × Bool := if new = cur then (cur, false) else if ok then (new, false) else (cur, true)

/-- WRITE_REFUSED, if some field was refused. -/
def State.refuseIf (s : State) (m : Master) (base : Nat) (bad : Bool) : State := if bad then s.refuseWrite m base else s

/-- The writable registers of the global window (R339). `v` is the register's value with the written bytes in place. -/
def State.writeGlobal (s : State) (m : Master) (o v : Nat) : State :=
  let g := s.regs.global
  match o with
  | 0x038 =>
    let x := judge (b2n g.dramInterleave) (bitsOf v 0 1) s.noContexts
    (s.modGlobal (fun g => { g with dramInterleave := x.1 == 1 })).refuseIf m 0 x.2
  | 0x040 =>
    let c := bitsOf v 32 16
    let t := bitsOf v 0 32
    let x := judge g.migrateCooldown.toNat c (decide (1 ≤ c) && decide (c ≤ 1000))
    let y := judge g.migrateThreshold.toNat t (decide (1 ≤ t))
    (s.modGlobal (fun g => { g with migrateCooldown := BitVec.ofNat 16 x.1, migrateThreshold := BitVec.ofNat 32 y.1 })).refuseIf m 0 (x.2 || y.2)
  | 0x048 =>
    let h := bitsOf v 8 8
    let l := bitsOf v 0 8
    let x := judge g.pageHigh.toNat h (decide (51 ≤ h) && decide (h ≤ 100))
    let y := judge g.pageLow.toNat l (decide (50 ≤ l) && decide (l ≤ 99))
    if x.1 ≤ y.1 then s.refuseWrite m 0
    else (s.modGlobal (fun g => { g with pageHigh := BitVec.ofNat 8 x.1, pageLow := BitVec.ofNat 8 y.1 })).refuseIf m 0 (x.2 || y.2)
  | 0x050 =>
    s.modGlobal (fun g =>
      { g with apEnable := bitOf v 6, apCtx := BitVec.ofNat 6 v, apBase := g.apShadow.getD g.apBase, apShadow := none })
  | 0x058 =>
    let a := bitsOf v 0 56
    if a = g.apBase.toNat ∧ g.apShadow.isNone then s
    else if a % 2 ^ g.bar4Log2 = 0 then s.modGlobal (fun g => { g with apShadow := some (BitVec.ofNat 56 a) })
    else s.refuseWrite m 0
  | _ => s

/-- A window follows its select register: SEL_INVALID as the new value gives it (R337). -/
def State.follow (s : State) (m : Master) (base o : Nat) : State :=
  s.modMst m (fun r => if s.selected m base o then r.unmark base else r.mark base)

/-- The select registers (R337): never refused. -/
def State.writeSelect (s : State) (m : Master) (o v : Nat) : State :=
  match o with
  | 0x00 => (s.modMst m (fun r => { r with ctxSel := BitVec.ofNat 6 v })).follow m 0x100000 0x010
  | 0x08 => s.modMst m (fun r => { r with portSel := BitVec.ofNat 3 v })
  | 0x10 => (s.modMst m (fun r => { r with grpSel := BitVec.ofNat 6 v })).follow m 0x210000 0x008
  | 0x18 => (s.modMst m (fun r => { r with cluCore := BitVec.ofNat 5 (v / 256), cluRank := BitVec.ofNat 8 v })).follow m 0x300000 0x008
  | 0x20 => s.modMst m (fun r => { r with stkSel := BitVec.ofNat 3 v })
  | 0x28 => s.modMst m (fun r => { r with inboxSel := BitVec.ofNat 8 v })
  | 0x30 => s.modMst m (fun r => { r with platSel := BitVec.ofNat 12 v })
  | _ => s

/-! ### The wiring plan (R233, R340) -/

/-- A plan that R233 and R7 allow: ring sizes, no two adjacent X positions mapped out, and a logical ID that names this position. -/
def Plan.ok (p : Plan) : Bool :=
  let n := p.nx
  let id := p.logicalId.toNat
  decide (3 ≤ n ∧ n ≤ 64) && decide (1 ≤ p.ny.toNat ∧ p.ny.toNat ≤ 32) && decide (1 ≤ p.nz.toNat ∧ p.nz.toNat ≤ 32) &&
  decide (p.xLive.toNat < 2 ^ n) && decide (1 ≤ p.live.length ∧ p.live.length ≤ 32) &&
  p.gapsOk && decide (p.xPos.toNat < n) &&
  (if id = 0xFFFF then !p.isLive p.xPos.toNat
   else decide (id < 32768) && p.isLive p.xPos.toNat && id % 32 == p.logX p.xPos.toNat && decide (id / 32 % 32 < p.ny.toNat) &&
     decide (id / 1024 < p.nz.toNat))

/-- A port comes up QUARANTINED with reason 3: its packets are lost, its credits with them. -/
def State.quarantinePort (s : State) (p : Nat) : State :=
  (s.emptyPort p 3).modPort p (fun x => { x with reason := 3 })

/-- An invalid plan: every port that has trained groups comes up QUARANTINED with reason 3. -/
def State.noPlan (s : State) : State :=
  let s : State := { s with regs := { s.regs with planValid := false, installed := none } }
  let gs := (List.range 36).filter (fun g => (s.group g).state == 1 || (s.group g).state == 2 || (s.group g).state == 5)
  let s := gs.foldl (fun (s : State) g => s.quarantine g 3) s
  (((List.range 8).filter (fun p => !(s.membersOf p).isEmpty)).foldl (fun (s : State) p => s.quarantinePort p) s).endProfile

/-- A plan installed: routes and parent from it, unreachable targets forgotten and timed-out slots reclaimed (R233, R355, R395); quarantined
groups train again once the LMP runs (R228). -/
def State.install (s : State) (p : Plan) : State :=
  let s : State := { s with regs := { s.regs with planValid := true, installed := some p } }
  let timedOut := fun (a : Access) => match a.stage with | .timedOut _ => true | _ => false
  let s : State := s.modFabric (fun f =>
    { f with unreachable := [], downNotes := [], accesses := f.accesses.filter (fun a => !timedOut a),
             invals := f.invals.filter (fun y => y.orphan.isNone), combines := f.combines.filter (fun e => !e.sent) })
  let parent := p.parentPort s.self
  let s : State := s.modDatum (fun d => { d with parent := parent, offset := if d.parent = parent then d.offset else none })
  let s := if s.mainUp ∧ s.boot.imagesOk then s.retrainGroups ((List.range 36).filter (fun g => (s.group g).state == 5)) else s
  s.ownNext

/-- PLAN_COMMIT (R340). -/
def State.commitPlan (s : State) : State := if s.regs.plan.ok then s.install s.regs.plan else s.noPlan

/-- The wiring plan's registers, written by the sideband while no context exists (R340). -/
def State.writePlan (s : State) (m : Master) (o v : Nat) (commit : Bool) : State :=
  let p := s.regs.plan
  let idle := s.noContexts
  if m = .host then s.refuseWrite m 0
  else
    match o with
    | 0x000 => if commit then (if idle then s.commitPlan else s.refuseWrite m 0) else s
    | 0x008 =>
      let x := judge p.physId.toNat (bitsOf v 32 16) idle
      let y := judge p.logicalId.toNat (bitsOf v 16 16) idle
      let z := judge p.xPos.toNat (bitsOf v 8 8) idle
      (s.modPlan (fun p => { p with physId := BitVec.ofNat 16 x.1, logicalId := BitVec.ofNat 16 y.1, xPos := BitVec.ofNat 8 z.1 })).refuseIf m 0
        (x.2 || y.2 || z.2)
    | 0x010 =>
      let x := judge p.nxp.toNat (bitsOf v 16 8) (idle && decide (3 ≤ bitsOf v 16 8 ∧ bitsOf v 16 8 ≤ 64))
      let y := judge p.ny.toNat (bitsOf v 8 8) (idle && decide (1 ≤ bitsOf v 8 8 ∧ bitsOf v 8 8 ≤ 32))
      let z := judge p.nz.toNat (bitsOf v 0 8) (idle && decide (1 ≤ bitsOf v 0 8 ∧ bitsOf v 0 8 ≤ 32))
      (s.modPlan (fun p => { p with nxp := BitVec.ofNat 8 x.1, ny := BitVec.ofNat 8 y.1, nz := BitVec.ofNat 8 z.1 })).refuseIf m 0
        (x.2 || y.2 || z.2)
    | 0x018 =>
      let x := judge p.xLive.toNat v idle
      (s.modPlan (fun p => { p with xLive := BitVec.ofNat 64 x.1 })).refuseIf m 0 x.2
    | _ =>
      if 0x020 ≤ o ∧ o < 0x060 then
        let n := (o - 0x020) / 8
        let e := tget p.peers n (0, 0xFFFF)
        let x := judge e.1.toNat (bitsOf v 16 4) idle
        let y := judge e.2.toNat (bitsOf v 0 16) idle
        (s.modPlan (fun p => { p with peers := tset p.peers n (BitVec.ofNat 4 x.1, BitVec.ofNat 16 y.1) })).refuseIf m 0 (x.2 || y.2)
      else s

/-! ### Queues, and the other windows -/

/-- QCTRL written (R310, R342): the idle-only fields are judged against the QENABLE held before; 0 then 1 clears a halt and empties the
queue. -/
def State.writeQctrl (s : State) (m : Master) (q v : Nat) : State :=
  let x := s.queue q
  let idle := !x.enable
  let r := judge x.replyLog2.toNat (bitsOf v 11 5) (idle && decide (4 ≤ bitsOf v 11 5 ∧ bitsOf v 11 5 ≤ 16))
  let g := judge x.ringLog2.toNat (bitsOf v 6 5) (idle && decide (4 ≤ bitsOf v 6 5 ∧ bitsOf v 6 5 ≤ 16))
  let d := judge (b2n x.replyDev) (bitsOf v 4 1) idle
  let e := judge (b2n x.ringDev) (bitsOf v 3 1) idle
  let p := judge (b2n x.priv) (bitsOf v 2 1) idle
  let on := bitOf v 0
  let s := s.modQueue q (fun x => { x with
    replyLog2 := BitVec.ofNat 5 r.1
    ringLog2 := BitVec.ofNat 5 g.1
    replyDev := d.1 == 1
    ringDev := e.1 == 1
    priv := p.1 == 1
    enable := on
    haltReason := if idle ∧ on then 0 else x.haltReason
    head := if idle ∧ on ∧ x.haltReason ≠ 0 then x.tail else x.head })
  s.refuseIf m 0x100000 (r.2 || g.2 || d.2 || e.2 || p.2)

/-- The registers of a queue (R342). -/
def State.writeQueue (s : State) (m : Master) (q o v : Nat) : State :=
  let x := s.queue q
  let idle := !x.enable
  match o with
  | 0x00 =>
    let y := judge x.ringBase.toNat v (idle && v % 64 == 0)
    (s.modQueue q (fun x => { x with ringBase := BitVec.ofNat 64 y.1 })).refuseIf m 0x100000 y.2
  | 0x08 =>
    let y := judge x.replyBase.toNat v (idle && v % 32 == 0)
    (s.modQueue q (fun x => { x with replyBase := BitVec.ofNat 64 y.1 })).refuseIf m 0x100000 y.2
  | 0x10 =>
    let y := judge x.headShadow.toNat v (idle && v % 8 == 0)
    (s.modQueue q (fun x => { x with headShadow := BitVec.ofNat 64 y.1 })).refuseIf m 0x100000 y.2
  | 0x18 => s.writeQctrl m q v
  | _ => s

/-- The context window (R341, R342). -/
def State.writeCtx (s : State) (m : Master) (c o v : Nat) : State :=
  let x := s.ctx c
  match o with
  | 0x020 =>
    let y := judge x.fabricTimeout.toNat (bitsOf v 0 32) (decide (10 ≤ bitsOf v 0 32 ∧ bitsOf v 0 32 ≤ 100000))
    (s.modCtx c (fun x => { x with fabricTimeout := BitVec.ofNat 32 y.1 })).refuseIf m 0x100000 y.2
  | 0x028 =>
    let n := bitsOf v 24 17
    let y := judge x.segLen.toNat n (n % 64 == 0 && decide (64 ≤ n ∧ n ≤ 65536))
    (s.modCtx c (fun x => { x with segLen := BitVec.ofNat 17 y.1, fpCombine := bitOf v 16 })).refuseIf m 0x100000 y.2
  | _ => if 0x100 ≤ o ∧ o < 0x200 then s.writeQueue m (4 * c + (o - 0x100) / 0x40) (o % 0x40) v else s

/-- The port window (R344). -/
def State.writePort (s : State) (m : Master) (p o v : Nat) : State :=
  if o = 0x010 then
    let x := s.port p
    let f := fun (cur : Byte) (lo : Nat) => judge cur.toNat (bitsOf v lo 8) (decide (1 ≤ bitsOf v lo 8))
    let a := f x.wCollective 24
    let b := f x.wExpert 16
    let c := f x.wMemory 8
    let d := f x.wManagement 0
    (s.modPort p (fun x =>
      { x with wCollective := BitVec.ofNat 8 a.1, wExpert := BitVec.ofNat 8 b.1, wMemory := BitVec.ofNat 8 c.1, wManagement := BitVec.ofNat 8 d.1 })).refuseIf
      m 0x200000 (a.2 || b.2 || c.2 || d.2)
  else s

/-- The head record removed (R350, R372). -/
def State.popHead (s : State) : State := (popErrors 1 s).2

/-- PPS_ENABLE (R352): an idle-only field; with the input off, nothing is followed. -/
def State.writeDatum (s : State) (m : Master) (o v : Nat) : State :=
  if o = 0x010 then
    let y := judge (b2n s.datum.ppsEnable) (bitsOf v 1 1) s.noContexts
    (s.modDatum (fun d => { d with ppsEnable := y.1 == 1, ppsLocked := d.ppsLocked && y.1 == 1 })).refuseIf m 0x7C0000 y.2
  else s

/-- STATUS: WRITE_REFUSED is cleared by a 1 (R335). -/
def State.writeStatus (s : State) (m : Master) (base : Nat) (one : Bool) : State :=
  if one then s.modMst m (fun r => { r with writeRefused := r.writeRefused.filter (· != base) }) else s

/-- A register written under a mask of the bytes that the write carries (R333, R334, R338). -/
def State.writeReg (s : State) (m : Master) (off : Nat) (mask v : Word64) : State :=
  let r := s.mst m
  let new := (((s.readWord m off) &&& ~~~ mask) ||| (v &&& mask)).toNat
  let one := (v &&& mask).getLsbD 0
  match windowOf off with
  | none => s
  | some base =>
    let o := off - base
    if !s.selected m base o then s.touchWindow m off
    else if o = 0 ∧ base ≠ 0x010000 ∧ base ≠ 0x020000 then s.writeStatus m base one
    else
      match base with
      | 0x000000 => s.writeGlobal m o new
      | 0x010000 => s.writeSelect m o new
      | 0x020000 => s.writePlan m o new one
      | 0x100000 => s.writeCtx m r.ctxSel.toNat o new
      | 0x200000 => s.writePort m r.portSel.toNat o new
      | 0x600000 => if o = 0x020 then s.modMst m (fun r => { r with memberPtr := BitVec.ofNat 15 new }) else s
      | 0x700000 => if o = 0x010 ∧ one then s.popHead else s
      | 0x7C0000 => s.writeDatum m o new
      | _ => s

/-- Every bit of a register. -/
def fullMask : Word64 := 0xFFFFFFFFFFFFFFFF

/-! ### The rows -/

/-- REGISTER_WRITE (R334): an aligned write of 8 bytes, or of the 4 bytes of one half. -/
def execRegisterWrite (m : Master) (offset : BitVec 24) (size8 : Bool) (v : Word64) (s : State) : Res :=
  let o := offset.toNat
  let high := o % 8 == 4
  let mask : Word64 := if size8 then fullMask else if high then 0xFFFFFFFF00000000 else 0xFFFFFFFF
  let v := if size8 then v else if high then v <<< 32 else v
  when "REGISTER_WRITE" (s.masterUp m && o % (if size8 then 8 else 4) == 0) (s.writeReg m (o / 8 * 8) mask v)

/-- QENABLE_WRITE (R310): the whole QCTRL of queue n of the selected context. -/
def execQenableWrite (m : Master) (n : BitVec 2) (v : Word64) (s : State) : Res :=
  when "QENABLE_WRITE" (s.masterUp m) (s.writeReg m (0x100118 + 0x40 * n.toNat) fullMask v)

/-- PLAN_COMMIT (R340). -/
def execPlanCommit (m : Master) (s : State) : Res := when "PLAN_COMMIT" (s.masterUp m) (s.writeReg m 0x020000 fullMask 1)

/-- ERR_POP (R350). -/
def execErrPop (m : Master) (s : State) : Res := when "ERR_POP" (s.masterUp m) (s.writeReg m 0x700010 fullMask 1)

/-- AP_CTRL_WRITE (R336, R339). -/
def execApCtrlWrite (m : Master) (v : Word64) (s : State) : Res := when "AP_CTRL_WRITE" (s.masterUp m) (s.writeReg m 0x000050 fullMask v)

/-- RC_REGISTER_READ (R333): an 8-byte read, which clears the RC fields of its register. -/
def execRcRegisterRead (m : Master) (offset : BitVec 24) (s : State) : Res :=
  let x := s.readReg m offset.toNat
  when "RC_REGISTER_READ" (s.masterUp m && offset.toNat % 8 == 0) (x.2.emit (.barRead m x.1))

/-- LOW_HALF_READ (R332): a 4-byte read of a low half, and of the high half after it. -/
def execLowHalfRead (m : Master) (offset : BitVec 24) (s : State) : Res :=
  let x := s.readHalf m offset.toNat
  when "LOW_HALF_READ" (s.masterUp m && offset.toNat % 4 == 0) (x.2.emit (.barRead m x.1))

/-- MEMBER_DATA_READ (R349). -/
def execMemberDataRead (m : Master) (size8 high : Bool) (s : State) : Res :=
  let x := if size8 then s.readReg m 0x600028 else s.readHalf m (if high then 0x60002C else 0x600028)
  when "MEMBER_DATA_READ" (s.masterUp m) (x.2.emit (.barRead m x.1))

/-- BAR0_BAD_ACCESS (R332). -/
def execBar0BadAccess (m : Master) (write : Bool) (s : State) : Res :=
  when "BAR0_BAD_ACCESS" (s.masterUp m) (if write then s.refuseWrite m 0 else s.emit (.barRead m 0))

/-! ### The aperture (R331) -/

/-- The context of the aperture, when it is on; a FREE context is taken as AP_ENABLE clear (notes/assumptions/45.md). -/
def State.apCtx (s : State) : Option Nat :=
  let g := s.regs.global
  if g.apEnable ∧ (s.ctx g.apCtx.toNat).state ≠ 0 then some g.apCtx.toNat else none

/-- The job virtual address of a BAR4 offset. -/
def State.apAddr (s : State) (offset : BitVec 38) : Nat := s.regs.global.apBase.toNat + offset.toNat

/-- An aperture access of n bytes lies in BAR4. -/
def State.inBar4 (s : State) (offset : BitVec 38) (n : Nat) : Bool :=
  s.hostUp && decide (offset.toNat + n ≤ 2 ^ s.regs.global.bar4Log2) && decide (s.apAddr offset + n ≤ 2 ^ 56)

/-- BAR4_READ (R331): a failed part reads all-ones and raises its fault. -/
def execBar4Read (offset : BitVec 38) (len : Nat) (fab : Fab) (s : State) : Res :=
  match s.apCtx with
  | none => when "BAR4_READ" (s.inBar4 offset len) (s.emit (.bar4Read (List.replicate len 0xFF)))
  | some c =>
    let a := s.apAddr offset
    let x := s.engineRead c .none fab a len
    when "BAR4_READ" (s.inBar4 offset len && s.readable c a len) (x.2.2.emit (.bar4Read x.1))

/-- The parts of an aperture write, in order: one that fails is dropped and counted. -/
def apWrite (c : Nat) (fab : Fab) : List (Nat × Nat) → List Byte → State → State
  | [], _, s => s
  | p :: ps, bs, s =>
    let x := s.writePart c .none fab p.1 (bs.take p.2)
    apWrite c fab ps (bs.drop p.2) (if x.1 then x.2 else s.storeFailed c)

/-- BAR4_WRITE (R331). -/
def execBar4Write (offset : BitVec 38) (bytes : List Byte) (fab : Fab) (s : State) : Res :=
  match s.apCtx with
  | none => when "BAR4_WRITE" (s.inBar4 offset bytes.length) s
  | some c =>
    let a := s.apAddr offset
    when "BAR4_WRITE" (s.inBar4 offset bytes.length && s.writable c a bytes.length) (apWrite c fab (linesIn a bytes.length) bytes s)

end Sys2Proof.Machine
end

