-- ==== Sys2Proof/Machine/Expert.lean ====
section
/-!
DEFINITION. Experts: inboxes and their batches (R265 to R275, R280), returns and receipts (R276, R279), and the origin side (R267 to R269, R277 to
R279).
-/
namespace Sys2Proof.Machine

/-! ### Inboxes -/

/-- Bytes of a row and of an output row; where they lie (R266). -/
def Inbox.rowBytes (x : Inbox) : Nat := 64 * x.rowUnits
def Inbox.outBytes (x : Inbox) : Nat := 64 * x.outUnits
def Inbox.rowAt (x : Inbox) (land : Nat) : Nat := x.landing + land * x.rowBytes
def Inbox.outBase (x : Inbox) : Nat := x.landing + x.landingRows * x.rowBytes
def Inbox.outAt (x : Inbox) (land : Nat) : Nat := x.outBase + land * x.outBytes
def Inbox.cls (x : Inbox) : TClass := if x.generate then .generate else .expert

/-- An open wave, changed; a wave opened. -/
def Inbox.modWave (x : Inbox) (w : Word32) (f : Wave → Wave) : Inbox := { x with waves := updateFirst (fun v => v.wave == w) f x.waves }
def Inbox.openWave (x : Inbox) (w : Word32) : Inbox :=
  if x.waves.any (fun v => v.wave == w) then x else { x with waves := x.waves ++ [{ wave := w }] }

/-- A wave can be opened or is open: at most two are (R272). -/
def Inbox.waveRoom (x : Inbox) (w : Word32) : Bool := x.waves.any (fun v => v.wave == w) || decide (x.waves.length < 2)

/-- The counts of an origin in a wave: received, returned, dropped, refused (R279). -/
def Inbox.bump (x : Inbox) (w : Word32) (o : Nat) (f : Nat × Nat × Nat × Nat → Nat × Nat × Nat × Nat) : Inbox :=
  x.modWave w (fun v => { v with counts := tset v.counts o (f (tget v.counts o (0, 0, 0, 0))) })

/-- The formats of a row (R266). -/
def rowFormat (f : Nat) : Bool := decide (f ≤ 5)

/-- Every parcel of a range is PINNED to this module, its attributes such as are asked. -/
def State.pinnedRange (s : State) (c a n : Nat) (fab : Fab) (attr : Byte → Bool) : Bool :=
  vaRange a n && (List.range (parcelOf (a + n - 1) + 1 - parcelOf a)).all (fun i =>
    (s.pinnedAttr c (parcelOf a + i) fab).any attr)

/-- The checks of R266 on an inbox descriptor. -/
def State.inboxOk (s : State) (c : Nat) (b : List Byte) (fab : Fab) : Bool :=
  let f := fun (o n : Nat) => field b o n
  let rows := f 40 4
  (f 1 1 == 0 || f 1 1 == 2) && rowFormat (f 2 1) && decide (f 3 1 < 4) && decide (1 ≤ f 4 2 ∧ f 4 2 ≤ 256) &&
  decide (8 ≤ f 6 2 ∧ f 6 2 ≤ 4096) && f 6 2 % 8 == 0 && f 8 4 % f 6 2 == 0 && (f 12 2 == 0 || decide (4 ≤ f 12 2 ∧ f 12 2 ≤ 3125)) &&
  decide (f 14 2 ≤ 3125) && (f 1 1 == 0 || f 14 2 == 0) && decide (f 18 2 < 16384) && (s.findKernel c (f 20 4) (f 24 4)).isSome &&
  decide (1 ≤ f 28 4) && decide (2 * f 6 2 ≤ rows) && decide (1 ≤ f 44 2 ∧ f 44 2 ≤ 256) && rowFormat (f 46 1) && f 47 1 == 0 &&
  vaRange (f 48 8) (128 + 16 * f 6 2) && f 56 8 == 0 && s.pinnedRange c (f 32 8) (rows * (64 * f 4 2 + 64 * f 44 2)) fab (fun _ => true) &&
  ((s.plat? (f 16 2)).map (fun y => y.owner == c)).getD false

/-- The inbox that a descriptor describes (R266): the plat's list is taken now. -/
def State.inboxOf (s : State) (c : Nat) (b : List Byte) : Inbox :=
  let f := fun (o n : Nat) => field b o n
  let y := s.plat? (f 16 2)
  { owner := c, enable := true, generate := f 1 1 == 0, rowFormat := BitVec.ofNat 8 (f 2 1), replayable := bitOf (f 3 1) 1
    rowUnits := f 4 2, batchRows := f 6 2, capacity := f 8 4, deadline := f 12 2, floor := f 14 2
    listCrc := (y.map (·.listCrc)).getD 0, origins := (y.map (·.members)).getD [], expert := BitVec.ofNat 16 (f 18 2)
    program := BitVec.ofNat 32 (f 20 4), kernel := BitVec.ofNat 32 (f 24 4), grid1 := f 28 4, landing := f 32 8, landingRows := rows
    outUnits := f 44 2, outFormat := BitVec.ofNat 8 (f 46 1), argsAddr := f 48 8 }
where
  rows : Nat := field b 40 4

/-- INBOX_CONFIG, form INBOX, with its descriptor in hand (R265, R266). -/
def State.configInbox (s : State) (src : CmdSource) (b : List Byte) (fab : Fab) : State :=
  let c := srcCtx src
  let cmd := s.cmd! src
  let i := field b 0 1
  let x := s.inbox i
  let end_ := fun (s : State) (st : Nat) => s.finish cmd (cmd.statusOr st) 0 []
  if !s.inboxOk c b fab then end_ s stBadParam
  else if x.enable ∧ x.owner ≠ c then end_ s stDenied
  else if x.enable ∧ !x.waves.isEmpty then end_ s stBusy
  else if bitOf (field b 3 1) 0 then end_ { s with inboxes := tset s.inboxes i (s.inboxOf c b) } stOk
  else end_ { s with inboxes := terase s.inboxes i } stOk

/-- INBOX_CONFIG_INBOX (R266). A SUB that names no form ends here with BAD_PARAM (R319). -/
def execInboxConfigInbox (src : CmdSource) (fab : Fab) (s : State) : Res :=
  let cmd := s.cmd! src
  let a := cmd.param 8 8
  when "INBOX_CONFIG_INBOX" (s.runs src 0x0500 && cmd.param 0 1 != 1 && cmd.param 0 1 != 2 && s.readable (srcCtx src) a 64)
    (if cmd.param 0 1 ≠ 0 ∨ !cmd.restZero [(0, 1), (8, 8)] ∨ !vaRange a 64 then s.badParam cmd
     else
       let r := s.engineRead (srcCtx src) (.cmd src) fab a 64
       r.2.2.configInbox src r.1 fab)

/-! ### The expert map (R267) -/

/-- A used entry: its module and inbox. -/
def mapEntry (e : Word32) : Option (Nat × Nat) :=
  if e.getLsbD 31 then none else some (bitsOf e.toNat 0 15, bitsOf e.toNat 15 8)

/-- A map is well formed: no used entry has any of bits 30 to 23 set. -/
def mapOk (m : List Word32) : Bool := m.all (fun e => e.getLsbD 31 || bitsOf e.toNat 23 8 == 0)

/-- INBOX_CONFIG_MAP (R267). -/
def execInboxConfigMap (src : CmdSource) (fab : Fab) (s : State) : Res :=
  let cmd := s.cmd! src
  let c := srcCtx src
  let n := cmd.param 4 4
  let a := cmd.param 8 8
  when "INBOX_CONFIG_MAP" (s.runs src 0x0500 && cmd.param 0 1 == 1 && s.readable c a 65536)
    (if !cmd.restZero [(0, 1), (4, 12)] ∨ n = 0 ∨ n > 16384 ∨ !vaRange a (4 * n) then s.badParam cmd
     else
       let r := s.engineRead c (.cmd src) fab a (4 * n)
       let s := r.2.2
       let m := (chunks 4 r.1).map (fun b => BitVec.ofNat 32 (leNat b))
       let cmd := s.cmd! src
       if mapOk m then (s.modCtx c (fun x => { x with expertMap := m })).finish cmd (cmd.statusOr stOk) 0 []
       else s.finish cmd (cmd.statusOr stBadParam) 0 [])

/-! ### The origin (R268) -/

/-- What the registrars elsewhere say of the parcels of a range, where the row carries no answer (notes/assumptions/72.md). -/
def State.asked (s : State) (c a n : Nat) : Fab :=
  let job := (s.ctx c).job
  { lines := []
    regs := (List.range (parcelOf (a + n - 1) + 1 - parcelOf a)).map (fun i =>
      (parcelOf a + i, .bearing (BitVec.ofNat _ s.self) 0 0 (s.entryElsewhere job (parcelOf a + i)))) }

/-- The dispatch ring's block lies in parcels PINNED here and created NO_SPECULATE. -/
def State.ringOk (s : State) (c a n : Nat) : Bool := a % 128 == 0 && s.pinnedRange c a n (s.asked c a n) attrNoSpec

/-- The origin that the ORIGIN form describes (R319): WAVE_TIMEOUT in ns; the engine's count starts at HEAD as the block holds it. -/
def State.originOf (s : State) (c : Nat) (cmd : Cmd) : Origin :=
  let us := if cmd.param 12 4 = 0 then 10000 else cmd.param 12 4
  let head := match s.localAddr (s.ctx c).job (cmd.param 16 8 + 8) with | some la => leNat (s.getDram la 8) | none => 0
  { ringLog2 := cmd.param 1 1, topK := cmd.param 2 1, outFormat := BitVec.ofNat 8 (cmd.param 3 1), outUnits := cmd.param 4 2
    tokensMax := cmd.param 8 4, waveTimeout := us * 1000, block := BitVec.ofNat 56 (cmd.param 16 8)
    combine := BitVec.ofNat 56 (cmd.param 24 8), done := BitVec.ofNat 56 (cmd.param 32 8), head := BitVec.ofNat 64 head }

/-- The checks of the ORIGIN form. -/
def State.originOk (s : State) (c : Nat) (cmd : Cmd) : Bool :=
  let us := cmd.param 12 4
  let out := 64 * cmd.param 4 2
  cmd.restZero [(0, 6), (8, 32)] && decide (6 ≤ cmd.param 1 1 ∧ cmd.param 1 1 ≤ 16) && decide (1 ≤ cmd.param 2 1 ∧ cmd.param 2 1 ≤ 8) &&
  rowFormat (cmd.param 3 1) && decide (1 ≤ cmd.param 4 2 ∧ cmd.param 4 2 ≤ 256) && decide (1 ≤ cmd.param 8 4 ∧ cmd.param 8 4 ≤ 65536) &&
  (us == 0 || decide (100 ≤ us ∧ us ≤ 10000000)) && s.ringOk c (cmd.param 16 8) (128 + 32 * 2 ^ cmd.param 1 1) &&
  vaRange (cmd.param 24 8) (cmd.param 8 4 * (cmd.param 2 1 + 1) * out) && vaRange (cmd.param 32 8) 4

/-- INBOX_CONFIG_ORIGIN (R268). -/
def execInboxConfigOrigin (src : CmdSource) (s : State) : Res :=
  let cmd := s.cmd! src
  let c := srcCtx src
  when "INBOX_CONFIG_ORIGIN" (s.runs src 0x0500 && cmd.param 0 1 == 2)
    (if !s.originOk c cmd then s.badParam cmd
     else if !(s.ctx c).places.isEmpty ∨ !(s.ctx c).waves.isEmpty then s.status cmd stBusy
     else (s.modCtx c (fun x => { x with origin := some (s.originOf c cmd) })).ok cmd)

/-- The dispatch block's counts, as they stand in this module's DRAM: zero before its parcel is materialised (R175). -/
def State.blockWord (s : State) (c : Nat) (o : Origin) (off : Nat) : Nat :=
  match s.localAddr (s.ctx c).job (o.block.toNat + off) with
  | some la => leNat (s.getDram la 8)
  | none => 0

/-- The record that the scatter engine reads next. -/
def State.dispatchRec (s : State) (c : Nat) (o : Origin) : List Byte :=
  let a := o.block.toNat + 128 + 32 * (o.head.toNat % 2 ^ o.ringLog2)
  match s.localAddr (s.ctx c).job a with
  | some la => s.getDram la 32
  | none => zeros 32

/-- What an origin knows of an inbox: row bytes, class and LIST_CRC. -/
def State.inboxShape (s : State) (c m i : Nat) : Nat × TClass × Word32 :=
  if m = s.self then let x := s.inbox i; (x.rowBytes, x.cls, x.listCrc)
  else
    let r := Config.inboxRow (s.ctx c).job.toNat m i
    (64 * (r.1.toNat + 1), if r.2.1 then .generate else .expert, r.2.2)

/-- A count of a wave towards an inbox, changed; made when there is none. -/
def modWaveCount (l : List WaveCount) (w : Word32) (m i : Nat) (f : WaveCount → WaveCount) : List WaveCount :=
  let mine := fun (e : WaveCount) => e.wave == w && e.home == m && e.inbox == i
  if l.any mine then updateFirst mine f l else l ++ [f { wave := w, home := m, inbox := i }]
def State.modWaves (s : State) (c : Nat) (w : Word32) (m i : Nat) (f : WaveCount → WaveCount) : State :=
  s.modCtx c (fun x => { x with waves := modWaveCount x.waves w m i f })

/-- DETAIL of a TOKEN_MISMATCH: the wave and the inbox (R371; notes/assumptions/39.md). -/
def waveDetail (w : Word32) (i : Nat) : Nat := w.toNat + 2 ^ 32 * i

/-- A fault has met a wave: it is not combined (R279). -/
def State.markWave (s : State) (c : Nat) (w : Word32) : State :=
  s.modCtx c (fun x => { x with waves := x.waves.map (fun e => if e.wave = w then { e with fault := true } else e) })

/-- TOKEN_MISMATCH raised on a context, and its wave marked (R279). -/
def State.mismatch (s : State) (c : Nat) (w : Word32) (m i : Nat) : State :=
  (s.raise { code := 0x0302, ctx := some c, target := m, detail := waveDetail w i }).markWave c w

/-- The header of a row's segments (R269). -/
def rowHead (job : BitVec 16) (i : Nat) (k : RowKind) (w : Word32) (crc : Word32) : RowSeg :=
  { job := job, inbox := BitVec.ofNat 8 i, kind := k, wave := w, token := 0, slot := 0, drop := false, status := .ok, weight := 0
    offset := 0, listCrc := crc, count := 0, payload := [] }

/-- A row's bytes sent in segments of at most 2,048 bytes (R269, R276). -/
def State.sendRow (s : State) (dst : BitVec 15) (isReply : Bool) (cls : TClass) (h : RowSeg) (bs : List Byte) : State :=
  (cutRange 0 bs.length 2048).foldl (fun s p =>
    s.inject (s.packet dst isReply cls (24 + p.2)
      (.row { h with offset := BitVec.ofNat 32 p.1, payload := (bs.drop p.1).take p.2 }))) s

/-- A marker to each distinct inbox of the map, behind the rows of the wave (R267, R269). -/
def State.endOfWave (s : State) (c : Nat) (w : Word32) : State :=
  ((((s.ctx c).expertMap.filterMap mapEntry)).eraseDups).foldl (fun s e =>
    let k := s.inboxShape c e.1 e.2
    let s := s.modWaves c w e.1 e.2 (fun x => { x with marker := some s.time })
    s.inject (s.packet (BitVec.ofNat 15 e.1) false k.2.1 24 (.row (rowHead (s.ctx c).job e.2 .marker w k.2.2)))) s

/-- A dispatched row: its place is reserved and the row is sent (R268, R269). -/
def State.sendRecord (s : State) (c : Nat) (o : Origin) (b : List Byte) (fab : Fab) : State :=
  let token := field b 8 4
  let slot := field b 12 1
  let w := BitVec.ofNat 32 (field b 20 4)
  let bad := s.raise { code := 0x0108, ctx := some c, va := field b 0 7 }
  match ((s.ctx c).expertMap[field b 14 2]?).bind mapEntry with
  | none => bad
  | some (m, i) =>
    if token ≥ o.tokensMax ∨ slot ≥ o.topK then bad
    else if (s.ctx c).places.any (fun p => p.token == token && p.slot == slot) then (s.modWaves c w m i id).mismatch c w m i
    else
      let k := s.inboxShape c m i
      let weight := BitVec.ofNat 32 (field b 16 4)
      let p : Place := { token := token, slot := slot, wave := w, inbox := i, home := m, ret := none, weight := weight, landed := 0 }
      let s := s.modCtx c (fun x => { x with places := x.places ++ [p], rowsSent := x.rowsSent + 1 })
      let s := s.modWaves c w m i (fun e => { e with sent := e.sent + 1 })
      let r := s.engineRead c .none fab (field b 0 7) k.1
      let h := { rowHead (s.ctx c).job i .row w k.2.2 with
        token := BitVec.ofNat 32 token, slot := BitVec.ofNat 8 slot, drop := bitOf (field b 13 1) 0, weight := weight }
      r.2.2.sendRow (BitVec.ofNat 15 m) false k.2.1 h r.1

/-- One record taken: HEAD advances once it has been read (R268). -/
def State.dispatch (s : State) (c : Nat) (o : Origin) (fab : Fab) : State :=
  let b := s.dispatchRec c o
  let s := s.modCtx c (fun x => { x with origin := x.origin.map (fun y => { y with head := y.head + 1 }) })
  let s := match s.localAddr (s.ctx c).job (o.block.toNat + 8) with
    | some la => s.putDram la (natLE (o.head + 1).toNat 8)
    | none => s
  if bitOf (field b 13 1) 1 then s.endOfWave c (BitVec.ofNat 32 (field b 20 4)) else s.sendRecord c o b fab

/-- SCATTER_DISPATCH (R268, R269): the next record of the ring. -/
def execScatterDispatch (ctx : BitVec 6) (fab : Fab) (s : State) : Res :=
  let c := ctx.toNat
  match (s.ctx c).origin with
  | some o =>
    when "SCATTER_DISPATCH"
      (s.works && s.ctxLive c && s.blockWord c o 0 != o.head.toNat && s.writable c o.block.toNat 16 &&
       s.readable c (field (s.dispatchRec c o) 0 7) 16384)
      (s.dispatch c o fab)
  | none => .refused (.notOccurring "SCATTER_DISPATCH")

/-! ### Batches (R271 to R274, R280) -/

/-- Rows in the order of batching. -/
def insertRow (r : Row) : List Row → List Row
  | [] => [r]
  | x :: l => if r.order < x.order then r :: x :: l else x :: insertRow r l
def sortRows (l : List Row) : List Row := l.foldr insertRow []

/-- A row is whole. -/
def Inbox.whole (x : Inbox) (r : Row) : Bool := decide (x.rowBytes ≤ r.got)

/-- Rows of a wave that may go into its open batch: those that spill only after the capacity batches (R275). -/
def Inbox.openRows (x : Inbox) (w : Word32) : List Row :=
  let all := sortRows (x.rows.filter (fun r => r.wave == w && !r.batched && x.whole r))
  let within := all.filter (fun r => !r.spilled)
  if within = [] then all else within

/-- Markers of every origin have arrived. -/
def Inbox.marked (x : Inbox) (v : Wave) : Bool := (List.range x.origins.length).all (fun o => v.markers.contains o)

/-- Why a batch closes (R272). -/
inductive CloseCause where
  | count | markers | floor | deadline
  deriving DecidableEq, Repr

/-- The first tick of the grid at or after a delay in 64 ns units: 256 ns on stepping B0 (R272, KL-08). -/
def closeTick (from_ units : Nat) : Nat := ceilDiv (from_ + 64 * units) 256 * 256

/-- The datum of the oldest of some rows. -/
def oldest (l : List Row) : Nat := match l with | [] => 0 | r :: l => l.foldl (fun m x => min m x.datum.toNat) r.datum.toNat

/-- The condition under which the open batch of a wave closes now, the first that applies (R272, R273, R280). -/
def Inbox.closes (x : Inbox) (strict : Bool) (now : Nat) (v : Wave) : Option CloseCause :=
  let rs := x.openRows v.wave
  if rs = [] ∨ (strict ∧ !v.cut) then none
  else if x.batchRows ≤ rs.length then some .count
  else if x.marked v then some .markers
  else if strict then none
  else if x.generate ∧ (x.floor = 0 ∨ closeTick (oldest rs) x.floor ≤ now) then some .floor
  else if x.deadline ≠ 0 ∧ closeTick (oldest rs) x.deadline ≤ now then some .deadline
  else none

/-- A batch counted under its cause. -/
def Inbox.countClose (x : Inbox) (k : CloseCause) : Inbox :=
  match k with
  | .count => { x with byCount := x.byCount + 1 }
  | .markers => { x with byMarkers := x.byMarkers + 1 }
  | .floor => { x with byFloor := x.byFloor + 1 }
  | .deadline => { x with byDeadline := x.byDeadline + 1 }

/-- Where the offset lists of batch descriptor d lie: behind the two descriptors (notes/assumptions/40.md). -/
def Inbox.offsets (x : Inbox) (d : Nat) : Nat × Nat :=
  let a := x.argsAddr + 128 + d * (8 * x.batchRows)
  (a, a + 4 * x.batchRows)

/-- The bytes of a batch descriptor (R271). -/
def Inbox.batchDesc (x : Inbox) (d : Nat) (n : Nat) (w : Word32) (seq : Nat) : List Byte :=
  natLE n 4 ++ natLE w.toNat 4 ++ natLE x.landing 8 ++ natLE (x.offsets d).1 8 ++ natLE x.outBase 8 ++ natLE (x.offsets d).2 8 ++
  natLE seq 4 ++ zeros 20

/-- The grid of a batch (R271): TD3 names its descriptor. -/
def State.batchGrid (s : State) (i : Nat) (x : Inbox) (d n : Nat) (desc : List Byte) : Grid :=
  let m := ((s.findKernel x.owner x.program.toNat x.kernel.toNat).map (fun p => p.2.extM.toNat)).getD 1
  { id := s.nextGrid, ctx := x.owner, program := x.program, kernel := x.kernel, g0 := ceilDiv n (max 1 m), g1 := x.grid1, g2 := 1
    cls := x.cls, shape := ((s.findKernel x.owner x.program.toNat x.kernel.toNat).map (fun p => p.2.shape)).getD 0
    localOnly := true, replayable := x.replayable, order := s.decoded, argBlock := BitVec.ofNat 64 (x.argsAddr + 64 * d)
    args := (chunks 8 desc).map (fun b => BitVec.ofNat 64 (leNat b)), inbox := some (i, d) }

/-- A batch closed and launched (R271, R274). -/
def State.closeBatch (s : State) (fab : Fab) (i : Nat) (v : Wave) (k : CloseCause) : State :=
  let x := s.inbox i
  let rs := (x.openRows v.wave).take x.batchRows
  let d := if x.batches.any (fun b => b.descriptor == 0) then 1 else 0
  let desc := x.batchDesc d rs.length v.wave v.batches
  let offs := fun (n : Nat) => (rs.map (fun r => natLE (r.land * n) 4)).flatten
  let s := (s.engineWrite x.owner .none fab (x.offsets d).1 (offs x.rowBytes)).2
  let s := (s.engineWrite x.owner .none fab (x.offsets d).2 (offs x.outBytes)).2
  let s := (s.engineWrite x.owner .none fab (x.argsAddr + 64 * d) desc).2
  let g := s.batchGrid i x d rs.length desc
  let b : Batch := { wave := v.wave, seq := v.batches, rows := rs.map (·.land), grid := some g.id, descriptor := d }
  let up := fun (x : Inbox) =>
    let y := (x.countClose k).modWave v.wave (fun v => { v with batches := v.batches + 1 })
    { y with
      batches := y.batches ++ [b]
      rows := y.rows.map (fun r => if rs.any (fun q => q.land == r.land) then { r with batched := true } else r) }
  let s := { s.trace with grids := s.grids ++ [g], nextGrid := s.nextGrid + 1 }.modInbox i up
  if (k = .floor ∨ k = .deadline) ∧ !(s.ctx x.owner).strict then s.modCtx x.owner (fun c => { c with slack := c.slack + 1 }) else s

/-- Batches close while launch slots are free: at most two run (R271). -/
def State.closeInbox : Nat → State → Fab → Nat → State
  | 0, s, _, _ => s
  | n + 1, s, fab, i =>
    let x := s.inbox i
    let cause := fun (v : Wave) => x.closes (s.ctx x.owner).strict s.datum.counter.toNat v
    match x.waves.find? (fun v => (cause v).isSome) with
    | some v => if x.batches.length < 2 then State.closeInbox n (s.closeBatch fab i v ((cause v).getD .count)) fab i else s
    | none => s

/-! ### Returns and receipts (R276, R279) -/

/-- A return of a row (R276). -/
def State.sendReturn (s : State) (i : Nat) (x : Inbox) (r : Row) (st : RetStatus) (bs : List Byte) : State :=
  let h := { rowHead (s.ctx x.owner).job i .ret r.wave x.listCrc with
    token := BitVec.ofNat 32 r.token, slot := BitVec.ofNat 8 r.slot, drop := r.drop, status := st, weight := r.weight }
  let dst := BitVec.ofNat 15 r.originModule
  if st = .ok then s.sendRow dst true x.cls h bs else s.inject (s.packet dst true x.cls 24 (.row h))

/-- The receipts of a wave that is whole (R279): markers, rows and batches are done. -/
def State.sendReceipts (s : State) (i : Nat) (x : Inbox) (v : Wave) : State :=
  (x.origins.zipIdx).foldl (fun s e =>
    let n := tget v.counts e.2 (0, 0, 0, 0)
    let w := fun (k : Nat) => BitVec.ofNat 32 k
    let r : Receipt :=
      { job := (s.ctx x.owner).job, inbox := BitVec.ofNat 8 i, wave := v.wave, received := w n.1, returned := w n.2.1, dropped := w n.2.2.1
        refused := w n.2.2.2 }
    s.inject (s.packet e.1 true x.cls 32 (.receipt r))) s

/-- A wave has returned every row. -/
def Inbox.waveDone (x : Inbox) (v : Wave) : Bool := x.marked v && !x.rows.any (fun r => r.wave == v.wave)

/-- Waves that are done end with their receipts. -/
def State.endWaves (s : State) (i : Nat) : State :=
  let x := s.inbox i
  let s := (x.waves.filter x.waveDone).foldl (fun s v => s.sendReceipts i x v) s
  s.modInbox i (fun y => { y with waves := y.waves.filter (fun v => !y.waveDone v) })

/-- What an inbox does after anything has come: batches close, waves end. -/
def State.inboxOn (s : State) (fab : Fab) (i : Nat) : State := (State.closeInbox 2 s fab i).endWaves i

/-- A row leaves the landing region. -/
def Inbox.dropRow (x : Inbox) (r : Row) : Inbox := { x with rows := x.rows.filter (fun q => q.land != r.land) }

/-- A row beyond capacity with DROP set (R275). -/
def State.dropExpertRow (s : State) (i : Nat) (r : Row) : State :=
  let x := s.inbox i
  let s := s.sendReturn i x r .dropped []
  let s := s.modInbox i (fun y =>
    (({ y with droppedRows := y.droppedRows + 1 }).dropRow r).bump r.wave r.origin (fun n => (n.1, n.2.1, n.2.2.1 + 1, n.2.2.2)))
  if (s.ctx x.owner).strict then s else s.modCtx x.owner (fun c => { c with slack := c.slack + 1 })

/-- A whole row is taken in arrival order in RELAXED mode: into the capacity, spilled or dropped (R275). -/
def State.takeRelaxed (s : State) (i : Nat) (r : Row) : State :=
  let x := s.inbox i
  let taken := ((x.waves.find? (fun v => v.wave == r.wave)).map (·.taken)).getD 0
  if x.capacity ≠ 0 ∧ taken ≥ x.capacity then
    if r.drop then s.dropExpertRow i r
    else s.modInbox i (fun y =>
      { y with spilled := y.spilled + 1, rows := y.rows.map (fun q => if q.land = r.land then { q with spilled := true } else q) })
  else s.modInbox i (fun y => y.modWave r.wave (fun v => { v with taken := v.taken + 1 }))

/-- The rows of a STRICT wave in order: by origin, then by arrival (R273). -/
def strictOrder (origins : Nat) (l : List Row) : List Row :=
  ((List.range origins).map (fun o => sortRows (l.filter (fun r => r.origin == o)))).flatten

/-- A STRICT wave is cut when every marker has come (R273, R275): rows beyond the capacity are dropped or spill. -/
def State.cutWave (s : State) (i : Nat) (w : Word32) : State :=
  let x := s.inbox i
  let l := (strictOrder x.origins.length (x.rows.filter (fun r => r.wave == w))).zipIdx
  let beyond := fun (n : Nat) => decide (x.capacity ≠ 0 ∧ x.capacity ≤ n)
  let excess := fun (e : Row × Nat) => beyond e.2
  let spilled := l.countP (fun e => excess e && !e.1.drop)
  let place := fun (r : Row) => ((l.find? (fun e => e.1.land == r.land)).map (·.2)).getD r.order
  let s := s.modInbox i (fun y =>
    { y.modWave w (fun v => { v with cut := true, taken := min l.length x.capacity }) with
      spilled := y.spilled + BitVec.ofNat 64 spilled
      rows := y.rows.map (fun r => if r.wave = w then { r with order := place r, spilled := beyond (place r) } else r) })
  (l.filter (fun e => excess e && e.1.drop)).foldl (fun s e => s.dropExpertRow i e.1) s

/-! ### What arrives at an inbox (R269, R270, R273) -/

/-- The inbox to which a segment comes, when its checks pass (R269). -/
def State.inboxFor (s : State) (g : RowSeg) (src : BitVec 15) : Option Inbox :=
  let x := s.inbox g.inbox.toNat
  if x.enable ∧ (s.ctx x.owner).state ≠ 0 ∧ (s.ctx x.owner).job = g.job ∧ x.listCrc = g.listCrc ∧ x.origins.contains src then some x
  else none

/-- A landing slot that is free. -/
def Inbox.freeLand (x : Inbox) : Option Nat :=
  (List.range x.landingRows).find? (fun n => !x.rows.any (fun r => r.land == n))

/-- The row that a later segment continues. -/
def Inbox.rowOf (x : Inbox) (g : RowSeg) (src : BitVec 15) : Option Row :=
  x.rows.find? (fun r => r.originModule == src.toNat && r.token == g.token.toNat && r.slot == g.slot.toNat && r.wave == g.wave &&
    !x.whole r)

/-- A row refused: returned at once (R273). -/
def State.refuseRow (s : State) (p : Packet) (g : RowSeg) (x : Option Inbox) : State :=
  let i := g.inbox.toNat
  let h := { g with kind := .ret, status := .refused, offset := 0, payload := [] }
  let s := s.inject (s.packet p.env.src true p.env.cls 24 (.row h))
  let s := s.modInbox i (fun y => { y with refusedRows := y.refusedRows + 1 })
  match x with
  | some y =>
    s.modInbox i (fun z => { (z.openWave g.wave).bump g.wave (y.origins.idxOf p.env.src) (fun n => (n.1 + 1, n.2.1, n.2.2.1, n.2.2.2 + 1)) with
      received := z.received + 1 })
  | none => s

/-- A row's first segment takes a landing slot (R270). -/
def State.newRow (s : State) (i : Nat) (x : Inbox) (g : RowSeg) (src : BitVec 15) (land : Nat) : State :=
  let o := x.origins.idxOf src
  let r : Row :=
    { wave := g.wave, origin := o, originModule := src.toNat, token := g.token.toNat, slot := g.slot.toNat, drop := g.drop
      weight := g.weight, land := land, got := 0, arrival := x.nextArrival, order := x.nextArrival, datum := s.datum.counter }
  s.modInbox i (fun y =>
    let z := (y.openWave g.wave).bump g.wave o (fun n => (n.1 + 1, n.2.1, n.2.2.1, n.2.2.2))
    { z with
      rows := z.rows ++ [r]
      nextArrival := z.nextArrival + 1
      received := z.received + 1
      peak := if z.peak.toNat < z.rows.length + 1 then BitVec.ofNat 64 (z.rows.length + 1) else z.peak })

/-- A segment's bytes land; a whole row is taken. -/
def State.landRow (s : State) (fab : Fab) (i : Nat) (g : RowSeg) (src : BitVec 15) : State :=
  let x := s.inbox i
  match x.rowOf g src with
  | none => s
  | some r =>
    let s := (s.engineWrite x.owner .none fab (x.rowAt r.land + g.offset.toNat) g.payload).2
    let got := r.got + g.payload.length
    let s := s.modInbox i (fun y =>
      { y with rows := y.rows.map (fun q => if q.land = r.land then { q with got := got } else q) })
    if x.rowBytes ≤ got then
      let s := if (s.ctx x.owner).strict then s else s.takeRelaxed i { r with got := got }
      s.inboxOn fab i
    else s

/-- A row segment finds room, or the row is refused, or it waits at the router (R270, R272). -/
def State.rowRoom (s : State) (x : Inbox) (g : RowSeg) : Bool :=
  x.waveRoom g.wave && (x.freeLand.isSome || (s.ctx x.owner).strict)

/-- EXPERT_ROW_SEGMENT (R269, R270, R273). -/
def State.rowSegment (s : State) (fab : Fab) (p : Packet) (g : RowSeg) : State :=
  match s.inboxFor g p.env.src with
  | none => if g.offset = 0 then s.refuseRow p g none else s
  | some x =>
    let i := g.inbox.toNat
    if g.offset ≠ 0 then s.landRow fab i g p.env.src
    else
      match x.freeLand with
      | none => s.refuseRow p g (some x)
      | some land => (s.newRow i x g p.env.src land).landRow fab i g p.env.src

/-- Nothing of the same origin for the same inbox has arrived before a row or marker and still waits: they share route and class (R269). -/
def State.inRowOrder (s : State) (p : Packet) (g : RowSeg) : Bool :=
  (s.fabric.arrived.takeWhile (· != p)).all (fun q =>
    match q.body with
    | .row h => !(q.env.src == p.env.src && h.inbox == g.inbox && (h.kind == .row || h.kind == .marker))
    | _ => true)

def execExpertRowSegment (p : Packet) (fab : Fab) (s : State) : Res :=
  match p.body with
  | .row g =>
    let room := match s.inboxFor g p.env.src with
      | some x => s.ctxLive x.owner && (g.offset != 0 || s.rowRoom x g)
      | none => true
    when "EXPERT_ROW_SEGMENT" (s.forMe p && g.kind == .row && room && s.inRowOrder p g) ((s.takeArrived (· == p)).rowSegment fab p g)
  | _ => .refused (.notOccurring "EXPERT_ROW_SEGMENT")

/-- EXPERT_MARKER (R272, R273). -/
def State.marker (s : State) (fab : Fab) (g : RowSeg) (src : BitVec 15) : State :=
  match s.inboxFor g src with
  | none => s
  | some x =>
    let i := g.inbox.toNat
    let o := x.origins.idxOf src
    let s := s.modInbox i (fun y => (y.openWave g.wave).modWave g.wave (fun v =>
      { v with markers := if v.markers.contains o then v.markers else v.markers ++ [o] }))
    let y := s.inbox i
    let all := (y.waves.find? (fun v => v.wave == g.wave)).any (fun v => y.marked v && !v.cut)
    let s := if all ∧ (s.ctx x.owner).strict then s.cutWave i g.wave else s
    s.inboxOn fab i

def execExpertMarker (p : Packet) (fab : Fab) (s : State) : Res :=
  match p.body with
  | .row g =>
    let room := match s.inboxFor g p.env.src with | some x => s.ctxLive x.owner && x.waveRoom g.wave | none => true
    when "EXPERT_MARKER" (s.forMe p && g.kind == .marker && room && s.inRowOrder p g) ((s.takeArrived (· == p)).marker fab g p.env.src)
  | _ => .refused (.notOccurring "EXPERT_MARKER")

/-- A wave of an inbox whose open batch closes for one cause now. -/
def State.closingWave (s : State) (i : Nat) (k : CloseCause) : Option Wave :=
  let x := s.inbox i
  x.waves.find? (fun v => x.closes (s.ctx x.owner).strict s.datum.counter.toNat v == some k)

/-- An inbox can launch a batch. -/
def State.inboxLive (s : State) (i : Nat) : Bool :=
  let x := s.inbox i
  s.works && x.enable && s.ctxLive x.owner && decide (x.batches.length < 2)

/-- BATCH_DEADLINE (R272). -/
def execBatchDeadline (inbox : Byte) (fab : Fab) (s : State) : Res :=
  match s.closingWave inbox.toNat .deadline with
  | some v => when "BATCH_DEADLINE" (s.inboxLive inbox.toNat) (s.closeBatch fab inbox.toNat v .deadline)
  | none => .refused (.notOccurring "BATCH_DEADLINE")

/-- BATCH_LATENCY_FLOOR (R280). -/
def execBatchLatencyFloor (inbox : Byte) (fab : Fab) (s : State) : Res :=
  match s.closingWave inbox.toNat .floor with
  | some v => when "BATCH_LATENCY_FLOOR" (s.inboxLive inbox.toNat) (s.closeBatch fab inbox.toNat v .floor)
  | none => .refused (.notOccurring "BATCH_LATENCY_FLOOR")

/-- The grid of a batch has completed, its stores performed (R21, R276). -/
def State.batchDone (s : State) (b : Batch) : Bool :=
  match b.grid.bind s.grid? with
  | some g =>
    s.ctxLive g.ctx && g.assigned && !s.slices.any (fun x => x.grid == g.id && !x.reported) && !s.gridStoresOpen g
  | none => false

/-- One output row returned, its landing slot freed (R276). -/
def State.returnRow (s : State) (fab : Fab) (i : Nat) (land : Nat) : State :=
  let x := s.inbox i
  match x.rows.find? (fun r => r.land == land) with
  | none => s
  | some r =>
    let o := s.engineRead x.owner .none fab (x.outAt land) x.outBytes
    (o.2.2.sendReturn i x r .ok o.1).modInbox i (fun y =>
      (y.dropRow r).bump r.wave r.origin (fun n => (n.1, n.2.1 + 1, n.2.2.1, n.2.2.2)))

/-- EXPERT_BATCH_COMPLETE (R276). -/
def State.endBatch (s : State) (fab : Fab) (i : Nat) (b : Batch) : State :=
  let s := b.rows.foldl (fun s land => s.returnRow fab i land) s
  let s := match b.grid with
    | some g => { s.dropSlices g with grids := s.grids.filter (fun h => h.id != g) }
    | none => s
  (s.modInbox i (fun y => { y with batches := y.batches.filter (fun c => c.grid != b.grid) })).inboxOn fab i

def execExpertBatchComplete (inbox : Byte) (fab : Fab) (s : State) : Res :=
  match (s.inbox inbox.toNat).batches.find? s.batchDone with
  | some b => when "EXPERT_BATCH_COMPLETE" (s.works && (s.inbox inbox.toNat).enable) (s.endBatch fab inbox.toNat b)
  | none => .refused (.notOccurring "EXPERT_BATCH_COMPLETE")

/-! ### The combine (R277) -/

/-- Where the return row of a place and the output row of a token lie. -/
def Origin.returnAt (o : Origin) (token slot : Nat) : Nat := o.combine.toNat + (token * o.topK + slot) * (64 * o.outUnits)
def Origin.outputAt (o : Origin) (token : Nat) : Nat := o.combine.toNat + (o.tokensMax * o.topK + token) * (64 * o.outUnits)

/-- combine_token of R277 on one element: weights and widened values of the slots that are OK, in ascending slot. -/
def combineToken (l : List (Word32 × Word32)) : FRes :=
  l.foldl (fun acc e => let r := ffma e.1 e.2 acc.v; ⟨r.v, acc.made.add r.made⟩) ⟨0x80000000, {}⟩

/-- One token's output row: its bytes and what its arithmetic counts. -/
def combineRow (fmt n : Nat) (rows : List (Word32 × List Byte)) : List Byte × Made :=
  let one := fun (i : Nat) =>
    let r := combineToken (rows.map (fun e => (e.1, enc32 (elemVal fmt (elemAt fmt e.2 i)))))
    let q := narrow fmt .rne true r.v
    (q.1, r.made.add q.2)
  let xs := (List.range n).map one
  (packElems fmt (xs.map (·.1)), xs.foldl (fun m x => m.add x.2) {})

/-- A token of a wave combined and stored. -/
def State.combineOne (s : State) (c : Nat) (o : Origin) (fab : Fab) (ps : List Place) (token : Nat) : State :=
  let mine := (List.range o.topK).filterMap (fun k => ps.find? (fun p => p.token == token && p.slot == k && p.ret == some .ok))
  let n := 64 * o.outUnits
  let rd := mine.foldl (fun (a : List (Word32 × List Byte) × State) p =>
    let r := a.2.engineRead c .none fab (o.returnAt p.token p.slot) n
    (a.1 ++ [(p.weight, r.1)], r.2.2)) ([], s)
  let out := combineRow o.outFormat.toNat (n * 8 / elemBits o.outFormat.toNat) rd.1
  ((rd.2.tally c out.2).engineWrite c .none fab (o.outputAt token) out.1).2

/-- Tokens in ascending order, each once. -/
def insertNat (n : Nat) : List Nat → List Nat
  | [] => [n]
  | x :: l => if n < x then n :: x :: l else if n = x then x :: l else x :: insertNat n l
def tokensOf (ps : List Place) : List Nat := ps.foldr (fun p l => insertNat p.token l) []

/-- Every return and every receipt of a wave has come. -/
def State.waveWhole (s : State) (c : Nat) (w : Word32) : Bool :=
  let es := (s.ctx c).waves.filter (fun e => e.wave == w)
  !es.isEmpty && es.all (fun e => e.marker.isSome && e.receipt) && (s.ctx c).places.all (fun p => p.wave != w || p.ret.isSome)

/-- The wave ends: combined, with DONE written, unless a fault has met it (R277, R279). Its places are free again. -/
def State.endOriginWave (s : State) (c : Nat) (fab : Fab) (w : Word32) : State :=
  if !s.waveWhole c w then s
  else
    let ps := (s.ctx c).places.filter (fun p => p.wave == w)
    let bad := (s.ctx c).waves.any (fun e => e.wave == w && e.fault)
    let s := match (s.ctx c).origin with
      | some o =>
        if bad then s
        else
          let s := (tokensOf ps).foldl (fun (s : State) t => s.combineOne c o fab ps t) s
          ((s.engineWrite c .none fab o.done.toNat (natLE w.toNat 4)).2).modCtx c (fun x => { x with wavesDone := x.wavesDone + 1 })
      | none => s
    s.modCtx c (fun x => { x with places := x.places.filter (fun p => p.wave != w), waves := x.waves.filter (fun e => e.wave != w) })

/-! ### What arrives at an origin -/

/-- The combine region, the output rows and DONE do not wait for a move. -/
def State.originReady (s : State) (c : Nat) : Bool :=
  match (s.ctx c).origin with
  | some o => s.writable c o.combine.toNat (o.tokensMax * (o.topK + 1) * 64 * o.outUnits) && s.writable c o.done.toNat 4
  | none => true

/-- A return in no reserved place (R278, R279). -/
def State.orphanReturn (s : State) (c : Nat) (g : RowSeg) (src : Nat) : State :=
  if g.offset ≠ 0 then s
  else (s.modCtx c (fun x => { x with orphanReturns := x.orphanReturns + 1 })).mismatch c g.wave src g.inbox.toNat

/-- The place to which a return belongs. -/
def State.placeOf (s : State) (c : Nat) (g : RowSeg) (src : Nat) : Option Place :=
  (s.ctx c).places.find? (fun p =>
    p.token == g.token.toNat && p.slot == g.slot.toNat && p.wave == g.wave && p.inbox == g.inbox.toNat && p.home == src && p.ret.isNone)

/-- A place, changed. -/
def State.modPlace (s : State) (c : Nat) (p : Place) (f : Place → Place) : State :=
  s.modCtx c (fun x => { x with places := updateFirst (fun q => q.token == p.token && q.slot == p.slot) f x.places })

/-- A return lands in its place (R276, R278). -/
def State.takeReturn (s : State) (fab : Fab) (c : Nat) (g : RowSeg) (p : Place) : State :=
  let cnt := fun (f : WaveCount → WaveCount) (s : State) => s.modWaves c p.wave p.home p.inbox f
  match g.status with
  | .ok =>
    (match (s.ctx c).origin with
     | some o =>
       let s := (s.engineWrite c .none fab (o.returnAt p.token p.slot + g.offset.toNat) g.payload).2
       let n := p.landed + g.payload.length
       if 64 * o.outUnits ≤ n then
         let s := s.modPlace c p (fun q => { q with landed := n, ret := some .ok, weight := g.weight })
         (cnt (fun e => { e with returned := e.returned + 1 }) s).modCtx c (fun x => { x with rowsReturned := x.rowsReturned + 1 })
       else s.modPlace c p (fun q => { q with landed := n })
     | none => s)
  | .dropped =>
    (cnt (fun e => { e with dropped := e.dropped + 1 }) (s.modPlace c p (fun q => { q with ret := some .dropped }))).modCtx c
      (fun x => { x with rowsDropped := x.rowsDropped + 1 })
  | .refused =>
    (cnt (fun e => { e with refused := e.refused + 1 }) (s.modPlace c p (fun q => { q with ret := some .refused }))).modCtx c
      (fun x => { x with rowsRefused := x.rowsRefused + 1 })

/-- The context of a job that takes what comes back. -/
def State.originCtx (s : State) (job : BitVec 16) : Option Nat := s.ctxOf job

/-- A return to a context that a reset has freed: discarded, and counted where its job was (chapter 12, notes/assumptions/90.md). -/
def State.formerOrphan (s : State) (g : RowSeg) : State :=
  match s.contexts.find? (fun e => e.2.state == 0 && e.2.former == some g.job) with
  | some e => if g.offset = 0 then s.modCtx e.1 (fun x => { x with orphanReturns := x.orphanReturns + 1 }) else s
  | none => s

/-- EXPERT_RETURN (R276, R277). -/
def execExpertReturn (p : Packet) (fab : Fab) (s : State) : Res :=
  match p.body with
  | .row g =>
    let s' := s.takeArrived (· == p)
    let m := p.env.src.toNat
    (match s.originCtx g.job with
     | none => when "EXPERT_RETURN" (s.forMe p && g.kind == .ret) (s'.formerOrphan g)
     | some c =>
       when "EXPERT_RETURN" (s.forMe p && g.kind == .ret && s.originReady c)
         (match s.placeOf c g m with
          | none => s'.orphanReturn c g m
          | some q => (s'.takeReturn fab c g q).endOriginWave c fab g.wave))
  | _ => .refused (.notOccurring "EXPERT_RETURN")

/-- A receipt compared with this origin's own counts (R279). -/
def State.takeReceipt (s : State) (c : Nat) (r : Receipt) (m : Nat) : State :=
  let i := r.inbox.toNat
  match (s.ctx c).waves.find? (fun e => e.wave == r.wave && e.home == m && e.inbox == i) with
  | none => s
  | some e =>
    let same := e.sent == r.received.toNat && e.returned == r.returned.toNat && e.dropped == r.dropped.toNat && e.refused == r.refused.toNat
    let s := s.modWaves c r.wave m i (fun e => { e with receipt := true })
    if same then s else s.mismatch c r.wave m i

/-- EXPERT_RECEIPT (R279). -/
def execExpertReceipt (p : Packet) (fab : Fab) (s : State) : Res :=
  match p.body with
  | .receipt r =>
    let s' := s.takeArrived (· == p)
    (match s.originCtx r.job with
     | none => when "EXPERT_RECEIPT" (s.forMe p) s'
     | some c =>
       when "EXPERT_RECEIPT" (s.forMe p && s.originReady c)
         ((s'.takeReceipt c r p.env.src.toNat).endOriginWave c fab r.wave))
  | _ => .refused (.notOccurring "EXPERT_RECEIPT")

/-- A home has discarded rows of this origin (chapter 12): the waves open towards that inbox are not combined. -/
def State.homeReset (s : State) (c : Nat) (g : RowSeg) (m : Nat) : State :=
  let i := g.inbox.toNat
  let hit := ((s.ctx c).waves.filter (fun e => e.home == m && e.inbox == i && !e.receipt)).map (·.wave)
  let s := s.modCtx c (fun x => { x with
    rowsLost := x.rowsLost + BitVec.ofNat 64 g.count
    waves := x.waves.map (fun e => if hit.contains e.wave then { e with fault := true } else e) })
  s.raise { code := 0x0303, ctx := some c, target := m, detail2 := g.count }

/-- EXPERT_RESET_NOTICE (chapter 12, R278). -/
def execExpertResetNotice (p : Packet) (_fab : Fab) (s : State) : Res :=
  match p.body with
  | .row g =>
    let s' := s.takeArrived (· == p)
    when "EXPERT_RESET_NOTICE" (s.forMe p && g.kind == .resetNotice)
      (match s.originCtx g.job with
       | none => s'
       | some c => s'.homeReset c g p.env.src.toNat)
  | _ => .refused (.notOccurring "EXPERT_RESET_NOTICE")

/-- Inboxes of a wave whose receipts are due. -/
def State.lateReceipts (s : State) (c : Nat) (w : Word32) : List WaveCount :=
  match (s.ctx c).origin with
  | none => []
  | some o => (s.ctx c).waves.filter (fun e =>
      e.wave == w && !e.receipt && !e.late && (match e.marker with | some t => decide (t + o.waveTimeout ≤ s.time) | none => false))

/-- WAVE_TIMEOUT (R279): FABRIC_DEAD names a home declared unreachable. -/
def execWaveTimeout (ctx : BitVec 6) (wave : Word32) (s : State) : Res :=
  let c := ctx.toNat
  let late := s.lateReceipts c wave
  when "WAVE_TIMEOUT" (s.works && s.ctxLive c && !late.isEmpty)
    (late.foldl (fun s e =>
      let s := s.modWaves c wave e.home e.inbox (fun v => { v with late := true })
      if s.fabric.unreachable.any (fun u => u.1 == e.home) then
        (s.raise { code := 0x0205, ctx := some c, target := e.home, detail := waveDetail wave e.inbox }).markWave c wave
      else s.mismatch c wave e.home e.inbox) s)

/-! ### INBOX_QUERY (R278) -/

/-- Rows sent and not accounted for. -/
def Context.rowsOut (x : Context) : Word64 :=
  x.rowsSent - x.rowsReturned - x.rowsDropped - x.rowsRefused - x.rowsLost

/-- The counters in the order of R278, padded to 128 bytes. -/
def counterBytes (l : List Word64) : List Byte := slice (l.map (fun w => natLE w.toNat 8)).flatten 0 128
def Context.originCounters (x : Context) : List Word64 :=
  [x.rowsSent, x.rowsReturned, x.rowsDropped, x.rowsRefused, x.rowsLost, x.orphanReturns, x.wavesDone]
def Inbox.counters (x : Inbox) : List Word64 :=
  [x.received, x.byCount, x.byMarkers, x.byFloor, x.byDeadline, x.spilled, x.droppedRows, x.refusedRows, x.peak]

/-- INBOX_QUERY (R278). -/
def State.inboxQuery (s : State) (src : CmdSource) (fab : Fab) : State :=
  let c := srcCtx src
  let cmd := s.cmd! src
  let scope := cmd.param 0 1
  let x := s.inbox (cmd.param 1 1)
  let a := cmd.param 8 8
  if !cmd.restZero [(0, 2), (8, 8)] ∨ scope > 1 ∨ !vaRange a 128 ∨ (scope = 1 ∧ !x.enable) then s.badParam cmd
  else if scope = 1 ∧ x.owner ≠ c then s.finish cmd stDenied 0 []
  else
    let bs := counterBytes (if scope = 0 then (s.ctx c).originCounters else x.counters)
    let out := if scope = 0 then (s.ctx c).rowsOut.toNat else x.rows.length
    let s := (s.engineWrite c (.cmd src) fab a bs).2
    s.finish (s.cmd! src) ((s.cmd! src).statusOr stOk) 0 (natLE out 8 ++ natLE (s.ctx c).wavesDone.toNat 8)

def execInboxQuery (src : CmdSource) (fab : Fab) (s : State) : Res :=
  when "INBOX_QUERY" (s.runs src 0x0501 && s.writable (srcCtx src) ((s.cmd! src).param 8 8) 128) (s.inboxQuery src fab)

end Sys2Proof.Machine
end

