-- ==== Sys2Proof/Machine/Loader.lean ====
section
/-!
DEFINITION. LOAD_PROGRAM: the image (R118 to R122), its checks (R137, R453 to R455), what translation decides (R136, R439), and the report
(R138).
-/
namespace Sys2Proof.Machine

/-- A defect: reason, byte offset, and the kernel or 0xFFFF_FFFF (R137). -/
structure Defect where
  reason : Nat
  offset : Nat
  kernel : Nat := 0xFFFFFFFF
  deriving DecidableEq, Repr

/-- The first defect of a list of checks: each a condition that must not hold. -/
def firstDefect (l : List (Bool × Defect)) : Option Defect := (l.find? (·.1)).map (·.2)

/-- The first defect of two checks in order. -/
def Defect.or (a b : Option Defect) : Option Defect := match a with | some d => some d | none => b

/-- The first defect that a list of items has. -/
def firstIn {α : Type} (l : List α) (f : α → Option Defect) : Option Defect :=
  l.foldl (fun d x => match d with | some e => some e | none => f x) none

/-! ### Header and sections (R118, R119) -/

/-- A section-table entry. -/
structure Section where
  type : Nat
  flags : Nat
  off : Nat
  size : Nat
  entry : Nat
  reserved : Nat
  deriving DecidableEq, Repr

/-- Header fields. -/
def imgMinor (b : List Byte) : Nat := field b 6 2
def imgSects (b : List Byte) : Nat := field b 12 4
def imgTable (b : List Byte) : Nat := field b 16 8
def imgCrc (b : List Byte) : Nat := field b 32 4
def imgKernels (b : List Byte) : Nat := field b 36 4

/-- The image with its CRC field zero (R118). -/
def crcImage (b : List Byte) : List Byte := b.take 32 ++ zeros 4 ++ b.drop 36

/-- Checks of the header, in the order of R455. -/
def headerDefect (b : List Byte) : Option Defect :=
  firstDefect
    [(field b 0 4 != 0x4E4C4B53, ⟨0x01, 0, 0xFFFFFFFF⟩),
     (field b 24 8 != b.length, ⟨0x01, 24, 0xFFFFFFFF⟩),
     ((crc32 (crcImage b)).toNat != imgCrc b, ⟨0x01, 32, 0xFFFFFFFF⟩),
     (field b 4 2 != 2, ⟨0x02, 4, 0xFFFFFFFF⟩),
     (decide (imgMinor b > 1), ⟨0x02, 6, 0xFFFFFFFF⟩),
     (decide (field b 8 4 > 1), ⟨0x06, 8, 0xFFFFFFFF⟩),
     ((slice b 56 72).any (· != 0), ⟨0x06, 56 + (slice b 56 72).findIdx (· != 0), 0xFFFFFFFF⟩)]

/-- The sections. -/
def sectionsOf (b : List Byte) : List Section :=
  (List.range (imgSects b)).map (fun i =>
    let e := imgTable b + 32 * i
    { type := field b e 4, flags := field b (e + 4) 4, off := field b (e + 8) 8, size := field b (e + 16) 8, entry := e
      reserved := field b (e + 24) 8 })

def sectEntry (type : Nat) : Nat := if type = 1 then 64 else if type = 2 then 16 else if type = 3 then 32 else 1

/-- Checks of one section-table entry. -/
def sectionDefect (n : Nat) (x : Section) : Option Defect :=
  firstDefect
    [(decide (n < x.off + x.size), ⟨0x03, x.entry, 0xFFFFFFFF⟩),
     (x.size % sectEntry x.type != 0, ⟨0x03, x.entry, 0xFFFFFFFF⟩),
     (decide (x.type = 0 ∨ x.type > 4) && bitOf x.flags 0, ⟨0x03, x.entry, 0xFFFFFFFF⟩),
     (decide (x.flags > 1) || x.reserved != 0, ⟨0x06, x.entry, 0xFFFFFFFF⟩)]

/-- Two sections overlap: they share a byte. -/
def sectOverlap (x y : Section) : Bool :=
  x.size != 0 && y.size != 0 && decide (x.off < y.off + y.size) && decide (y.off < x.off + x.size)

/-- The sections of a type. -/
def ofType (l : List Section) (t : Nat) : List Section := l.filter (fun x => x.type == t)

/-- The entry of the second section of a type. -/
def repeated (l : List Section) (t : Nat) : Option Defect := ((ofType l t)[1]?).map (fun x => ⟨0x03, x.entry, 0xFFFFFFFF⟩)

/-- The section rules taken together. -/
def tableDefect (b : List Byte) (l : List Section) : Option Defect :=
  let excess := firstIn (l.zipIdx) (fun p => if (l.take p.2).any (sectOverlap p.1) then some ⟨0x03, p.1.entry, 0xFFFFFFFF⟩ else none)
  let missing := fun (t : Nat) => if (ofType l t).isEmpty then some (⟨0x03, imgTable b, 0xFFFFFFFF⟩ : Defect) else none
  let count := match ofType l 1 with
    | x :: _ => if x.size / 64 = imgKernels b then none else some (⟨0x03, x.entry, 0xFFFFFFFF⟩ : Defect)
    | [] => none
  firstIn [excess, missing 1, repeated l 1, missing 2, repeated l 2, repeated l 3, count] (fun d => d)

/-- Every check of the section table. -/
def sectionsDefect (b : List Byte) : Option Defect :=
  let n := b.length
  let pre := firstDefect
    [(decide (imgSects b = 0 ∨ imgSects b > 64), ⟨0x03, 12, 0xFFFFFFFF⟩),
     (imgTable b % 8 != 0 || decide (n < imgTable b + 32 * imgSects b), ⟨0x03, 16, 0xFFFFFFFF⟩),
     (decide (imgKernels b = 0 ∨ imgKernels b > 1024), ⟨0x03, 36, 0xFFFFFFFF⟩)]
  match pre with
  | some d => some d
  | none => Defect.or (firstIn (sectionsOf b) (sectionDefect n)) (tableDefect b (sectionsOf b))

/-- The section of a type that the checks have found. -/
def theSection (b : List Byte) (t : Nat) : Section := ((ofType (sectionsOf b) t).head?).getD ⟨t, 0, 0, 0, 0, 0⟩

/-! ### Tensor declarations (R121, R454) -/

def tensorAt (b : List Byte) (o : Nat) : Tensor :=
  { format := b.getD o 0, role := b.getD (o + 3) 0, blockDim := field b (o + 2) 1, contractDim := field b (o + 4) 1
    extents := (List.range (field b (o + 1) 1)).map (fun i => field b (o + 8 + 4 * i) 4) }

def tensorDefect (b : List Byte) (o : Nat) : Option Defect :=
  let rank := field b (o + 1) 1
  let ext := fun (i : Nat) => field b (o + 8 + 4 * i) 4
  let fmt := field b o 1
  let role := field b (o + 3) 1
  let con := field b (o + 4) 1
  let ok := decide (fmt ≤ 12) && decide (role ≤ 3) && decide (1 ≤ rank ∧ rank ≤ 4) &&
    (List.range 4).all (fun i => (ext i != 0) == decide (i < rank)) &&
    (if isMx fmt then decide (field b (o + 2) 1 < rank) else field b (o + 2) 1 == 0xFF) &&
    (if role ≤ 1 then decide (con ≤ 1 ∧ con < rank) else con == 0)
  firstDefect
    [((slice b (o + 5) 3 ++ slice b (o + 24) 8).any (· != 0), ⟨0x06, o, 0xFFFFFFFF⟩), (!ok, ⟨0x0E, o, 0xFFFFFFFF⟩)]

/-- The declarations' offsets. -/
def layoutOffsets (b : List Byte) : List Nat :=
  let x := theSection b 3
  (List.range (x.size / 32)).map (fun i => x.off + 32 * i)

/-! ### Kernel descriptors (R120, R453) -/

def kernelOffsets (b : List Byte) : List Nat := (List.range (imgKernels b)).map (fun i => (theSection b 1).off + 64 * i)

/-- A stream's code range is well formed. -/
def streamOk (b : List Byte) (o : Nat) : Bool :=
  let off := field b o 4
  let len := field b (o + 4) 4
  off % 16 == 0 && len % 16 == 0 && decide (1 ≤ len ∧ len ≤ 65536) && decide (off + len ≤ (theSection b 2).size)

/-- The checks of kernel descriptor i at offset o, in ascending reason order (R453, R455), each at the field concerned
(notes/assumptions/56.md). -/
def descriptorDefect (b : List Byte) (i o : Nat) : Option Defect :=
  let id := field b o 4
  let engine := field b (o + 24) 1
  let shape := field b (o + 25) 1
  let n := field b (o + 27) 1
  let decls := (layoutOffsets b).length
  firstDefect
    [((slice b (o + 26) 1 ++ slice b (o + 48) 16).any (· != 0), ⟨0x06, o, id⟩),
     (decide (field b (o + 20) 4 > 983040), ⟨0x0A, o + 20, id⟩),
     (!streamOk b (o + 4), ⟨0x0B, o + 4, id⟩),
     (!streamOk b (o + 12), ⟨0x0B, o + 12, id⟩),
     (((kernelOffsets b).take i).any (fun p => field b p 4 == id), ⟨0x0E, o, id⟩),
     (decide (engine > 3) || (decide (engine = 0 ∨ engine = 3) && shape != 0xFF) ||
        (decide (engine = 1 ∨ engine = 2) && decide (shape > 5)), ⟨0x0E, o + 24, id⟩),
     (decide (n > 8), ⟨0x0E, o + 27, id⟩),
     ((List.range (min n 8)).any (fun j => decide (decls ≤ field b (o + 40 + j) 1)), ⟨0x0E, o + 40, id⟩)]

/-- A kernel's tensors by slot. -/
def kernelTensors (b : List Byte) (o : Nat) : List Tensor :=
  (List.range (field b (o + 27) 1)).map (fun j => tensorAt b ((layoutOffsets b).getD (field b (o + 40 + j) 1) 0))

/-! ### Instruction words (R122) -/

/-- A base word with its extension words, and where it lies in the image. -/
structure CodeWord where
  op : Nat
  w : InstrWord
  at_ : Nat
  /-- Its extension words run past the end of the stream. -/
  cut : Bool
  deriving DecidableEq, Repr

/-- The fields of a base word. -/
def baseWord (v : Nat) (exts : List (BitVec 128)) : InstrWord :=
  { mod := BitVec.ofNat 14 (bitsOf v 16 14), opd := BitVec.ofNat 8 (bitsOf v 56 8), opa := BitVec.ofNat 8 (bitsOf v 48 8)
    opb := BitVec.ofNat 8 (bitsOf v 40 8), opc := BitVec.ofNat 8 (bitsOf v 32 8), imm := BitVec.ofNat 64 (bitsOf v 64 64), exts := exts }

/-- The base words of a stream of n 16-byte words at an offset. -/
def streamWords (b : List Byte) : Nat → Nat → Nat → List CodeWord
  | 0, _, _ => []
  | f + 1, o, n =>
    if n = 0 then []
    else
      let v := field b o 16
      let e := bitsOf v 30 2
      let k := min e (n - 1)
      let exts := (List.range k).map (fun i => BitVec.ofNat 128 (field b (o + 16 + 16 * i) 16))
      { op := bitsOf v 0 16, w := baseWord v exts, at_ := o, cut := decide (n - 1 < e) } :: streamWords b f (o + 16 + 16 * k) (n - 1 - k)

def accWords (b : List Byte) (o : Nat) : List CodeWord :=
  let n := field b (o + 8) 4 / 16
  streamWords b n ((theSection b 2).off + field b (o + 4) 4) n
def exeWords (b : List Byte) (o : Nat) : List CodeWord :=
  let n := field b (o + 16) 4 / 16
  streamWords b n ((theSection b 2).off + field b (o + 12) 4) n

/-- The formats of a PASS and of every LATCH on its cube may not meet (R46). -/
def passMixes (exe : List CodeWord) (x : CodeWord) : Bool :=
  let planes := exe.filter (fun y => y.op == 0x1100 && selD y.w == selD x.w)
  x.op == 0x1101 && !planes.isEmpty && planes.all (fun y => !mixable (wm x.w 24 4) (wm y.w 24 4))

/-- The reason for which a word is rejected in its place, 0 for none. -/
def placeReason (access : Bool) (minor n : Nat) (exe : List CodeWord) (i : Nat) (x : CodeWord) : Nat :=
  let r := wordReason access minor x.op x.w
  let dest : Int := (i : Int) + 1 + wTarget x.w
  if (r = 0 ∨ r > 7) ∧ passMixes exe x then 0x07
  else if r = 0 ∧ (x.cut ∨ (isBranch x.op ∧ ¬(0 ≤ dest ∧ dest < n))) then 0x0B
  else r

/-- The first defect of a stream's words. -/
def wordsDefect (access : Bool) (minor id : Nat) (exe ws : List CodeWord) : Option Defect :=
  firstIn ws.zipIdx (fun p =>
    let r := placeReason access minor ws.length exe p.2 p.1
    if r = 0 then none else some ⟨r, p.1.at_, id⟩)

/-! ### Checks that span a kernel (R133, R134, R136, R439) -/

/-- The slot that a LATCH or a PASS names. -/
def namedSlot (x : CodeWord) : Option Nat := if wi x.w 35 1 = 1 then some (wi x.w 32 3) else none

/-- The (queue, slot) pairs of LATCHes and PASSes. -/
def queueSlots (exe : List CodeWord) : List (Nat × Nat) :=
  exe.filterMap (fun x =>
    if (x.op = 0x1100 ∨ x.op = 0x1101) ∧ isDq (selA x.w) then (namedSlot x).map (fun n => (selA x.w - 0x20, n)) else none)

/-- A queue read for two tensors (R134). -/
def queueClash (exe : List CodeWord) (x : CodeWord) : Bool :=
  match namedSlot x with
  | some n => (x.op == 0x1100 || x.op == 0x1101) && isDq (selA x.w) &&
      (queueSlots (exe.filter (fun y => decide (y.at_ < x.at_)))).any (fun e => e.1 == selA x.w - 0x20 && e.2 != n)
  | none => false

/-- The element format is MXFP6. -/
def isFp6 (f : Nat) : Bool := f == 9 || f == 10

/-- The orientation of a LATCH conflicts with the layout (R83, R84, R136, R439); a slot that a LATCH or a PASS names has no
tensor (notes/assumptions/56.md). -/
def orientBad (ts : List Tensor) (x : CodeWord) : Bool :=
  let o := wm x.w 18 3
  match namedSlot x with
  | none => x.op == 0x1100 && (o == 3 || (o == 2 && isFp6 (wm x.w 24 4)))
  | some n =>
    if x.op ≠ 0x1100 ∧ x.op ≠ 0x1101 then false
    else
      match ts[n]? with
      | none => true
      | some t =>
        let across := isMx t.format.toNat && t.blockDim != t.contractDim
        x.op == 0x1100 && ((o == 1 && (t.contractDim != 1 || across)) || (o == 2 && (t.contractDim != 0 || across)))

/-- The formats of the tensors of a role. -/
def roleFormats (ts : List Tensor) (role : Nat) : List Nat :=
  (ts.filter (fun t => t.role.toNat == role)).map (fun t => t.format.toNat)

/-- A declared matrix operand of the kernel may meet none of the other role's (R46). -/
def kernelMixes (ts : List Tensor) : Bool :=
  let a := roleFormats ts 0
  let b := roleFormats ts 1
  !a.isEmpty && !b.isEmpty && (a.any (fun x => b.all (fun y => !mixable x y)) || b.any (fun y => a.all (fun x => !mixable x y)))

/-- A kernel that asks for the gang unit with an operand outside R88. -/
def gangBad (engine : Nat) (ts : List Tensor) : Bool :=
  engine == 1 && (roleFormats ts 0 ++ roleFormats ts 1).any (fun f => !decide (1 ≤ f ∧ f ≤ 4))

/-- The first defect of the checks that span a kernel whose descriptor lies at offset o, in ascending reason order: the declared
operands (0x07, 0x08), every 0x09, every 0x0C (notes/assumptions/56.md). -/
def spanDefect (o id engine : Nat) (ts : List Tensor) (acc exe : List CodeWord) : Option Defect :=
  let declared := firstDefect [(kernelMixes ts, ⟨0x07, o + 40, id⟩), (gangBad engine ts, ⟨0x08, o + 24, id⟩)]
  let dir := firstIn (acc ++ exe) (fun x => if wordDirOk x.op x.w && !queueClash exe x then none else some ⟨0x09, x.at_, id⟩)
  Defect.or declared <| Defect.or dir (firstIn exe (fun x => if orientBad ts x then some ⟨0x0C, x.at_, id⟩ else none))

/-! ### What translation decides -/

/-- The slots whose loads are replaced by transposing loads (R83, R84, R136, R439). -/
def fallbackMask (ts : List Tensor) (exe : List CodeWord) : Nat :=
  let asked := fun (n : Nat) => exe.any (fun x => x.op == 0x1100 && namedSlot x == some n && wm x.w 18 3 == 3)
  let bit := fun (p : Tensor × Nat) =>
    let across := isMx p.1.format.toNat && p.1.blockDim != p.1.contractDim
    let fb := (p.1.role == 0 && (p.1.contractDim != 0 || across)) ||
      (p.1.role == 1 && (across || (isFp6 p.1.format.toNat && p.1.contractDim == 0))) || asked p.2
    if fb then 2 ^ p.2 else 0
  (ts.zipIdx.map bit).foldl (· + ·) 0

/-- The engine of a kernel (R95, R136). -/
def resolveEngine (engine m n : Nat) (ts : List Tensor) : Nat :=
  let ops := ts.filter (fun t => decide (t.role.toNat ≤ 1))
  if engine ≠ 2 then engine
  else if !ops.isEmpty ∧ ops.all (fun t => decide (1 ≤ t.format.toNat ∧ t.format.toNat ≤ 4)) ∧ m ≤ 32 ∧ n ≥ 32 then 1 else 0

/-- A figure that the translator decides for a kernel on a module of n enabled clusters (R3, R136; notes/assumptions/12.md). -/
def figure (n : Nat) (b : List Byte) (o f : Nat) : Nat := Config.reportWord (imgCrc b) n (field b o 4) f

/-- The K-split count of a kernel (R48, R136), and the planes at which the parts 1, 2, … of a contraction begin: contiguous and ascending. -/
def kSplit (n : Nat) (b : List Byte) (o : Nat) : Nat := figure n b o 6 % 256
def kParts (n : Nat) (b : List Byte) (o : Nat) : List Nat :=
  (List.range (kSplit n b o - 1)).foldl (fun l p => l ++ [l.getLastD 0 + 1 + figure n b o (256 + p)]) []

/-- A translated kernel, on a module of n enabled clusters. -/
def kernelAt (n : Nat) (b : List Byte) (o : Nat) : Kernel :=
  let ts := kernelTensors b o
  let exe := exeWords b o
  { id := BitVec.ofNat 32 (field b o 4)
    engine := BitVec.ofNat 8 (resolveEngine (field b (o + 24) 1) (field b (o + 28) 4) (field b (o + 32) 4) ts)
    shape := b.getD (o + 25) 0
    extM := BitVec.ofNat 32 (field b (o + 28) 4)
    extN := BitVec.ofNat 32 (field b (o + 32) 4)
    extK := BitVec.ofNat 32 (field b (o + 36) 4)
    spadBytes := field b (o + 20) 4
    tensors := ts
    fallback := BitVec.ofNat 8 (fallbackMask ts exe)
    queues := queueSlots exe
    parts := kParts n b o }

/-- Native code bytes of a kernel: the translator's (notes/assumptions/12.md). -/
def nativeBytes (n : Nat) (b : List Byte) (o : Nat) : Nat := figure n b o 20

/-- The checks of one kernel, in the order of R455. -/
def kernelDefect (n : Nat) (b : List Byte) (o : Nat) : Option Defect :=
  let id := field b o 4
  let acc := accWords b o
  let exe := exeWords b o
  firstIn
    [wordsDefect true (imgMinor b) id exe acc, wordsDefect false (imgMinor b) id exe exe,
     spanDefect o id (field b (o + 24) 1) (kernelTensors b o) acc exe,
     if nativeBytes n b o > 262144 then some ⟨0x0D, o, id⟩ else none] (fun d => d)

/-- The first defect of an image on a module of n enabled clusters (R455). -/
def imageDefect (n : Nat) (b : List Byte) : Option Defect :=
  match headerDefect b with
  | some d => some d
  | none =>
    match sectionsDefect b with
    | some d => some d
    | none =>
      match firstIn (layoutOffsets b) (tensorDefect b) with
      | some d => some d
      | none =>
        match firstIn (kernelOffsets b).zipIdx (fun p => descriptorDefect b p.2 p.1) with
        | some d => some d
        | none => firstIn (kernelOffsets b) (kernelDefect n b)

/-! ### The report (R138) -/

/-- Core cycles for which a tile of a tensor occupies the transposing-load unit (R85). -/
def tileCycles (t : Tensor) : Nat := if isMx t.format.toNat && t.blockDim != t.contractDim then 160 else 64

/-- The tensors of a kernel that go through the unit, with the tiles of each per launch, which the translator's cut gives. -/
def fallTiles (n : Nat) (b : List Byte) (o : Nat) (k : Kernel) : List (Tensor × Nat) :=
  (k.tensors.zipIdx.filter (fun e => bitOf k.fallback.toNat e.2)).map (fun e => (e.1, figure n b o (512 + e.2)))

/-- A kernel's record (R138): fall-back tiles, their occupancy at 64 or 160 cycles each (R85), and what of it exceeds the cube time of the
dependent work. The translator's own figures are open (notes/assumptions/12.md). -/
def reportRecord (n : Nat) (b : List Byte) (o : Nat) : List Byte :=
  let k := kernelAt n b o
  let fall := fallTiles n b o k
  let tiles := (fall.map (·.2)).foldl (· + ·) 0
  let cycles := (fall.map (fun e => e.2 * tileCycles e.1)).foldl (· + ·) 0
  let w := fun (v : Nat) => natLE (min v 0xFFFFFFFF) 4
  natLE k.id.toNat 4 ++ [k.engine, if k.engine = 1 then k.shape else 0xFF, BitVec.ofNat 8 (kSplit n b o), k.fallback] ++
  w tiles ++ w cycles ++ w (cycles - figure n b o 16) ++ natLE (nativeBytes n b o) 4 ++ natLE (k.spadBytes + 65536) 4 ++ zeros 36

/-- The report's header, with the count of records written. -/
def State.reportHeader (s : State) (b : List Byte) (size written : Nat) : List Byte :=
  natLE size 4 ++ slice b 4 4 ++ natLE Config.translator.toNat 4 ++ natLE s.enabledClusters 2 ++ [s.fuses.grade, steppingCode] ++
  natLE (imgCrc b) 4 ++ natLE written 4 ++ slice b 40 16 ++ zeros 24

/-- The whole records that fit a buffer. -/
def State.report (s : State) (b : List Byte) (room : Nat) : List Byte :=
  let n := imgKernels b
  let k := min n ((room - 64) / 64)
  if room < 64 then []
  else s.reportHeader b (64 + 64 * n) k ++ (((kernelOffsets b).take k).map (reportRecord s.enabledClusters b)).flatten

/-! ### The command -/

/-- Parameters of LOAD_PROGRAM. -/
def loadOk (cmd : Cmd) : Bool := cmd.restZero [(0, 28)] && cmd.param 0 8 % 8 == 0 && vaRange (cmd.param 0 8) (cmd.param 8 8)

/-- The size can be an image's (R118). -/
def imageSizeOk (n : Nat) : Bool := n % 8 == 0 && decide (128 ≤ n ∧ n ≤ 67108864)

/-- The status of a rejected image (R137). -/
def defectStatus (reason : Nat) : Nat := if reason = 2 then stVersion else if reason = 4 then stBadOpcode else stBadParam

def State.rejectImage (s : State) (cmd : Cmd) (d : Defect) : State :=
  s.finish cmd (defectStatus d.reason) 0 (natLE d.reason 4 ++ natLE d.offset 8 ++ natLE d.kernel 4)

/-- A program accepted: its handle, its native code's frames and its report (R135, R137, R168). -/
def State.accept (s : State) (src : CmdSource) (b : List Byte) : State :=
  let cmd := s.cmd! src
  let total := ((kernelOffsets b).map (nativeBytes s.enabledClusters b)).foldl (· + ·) 0
  let frames := ceilDiv total frameBytes
  if s.framesFree < frames then s.status cmd stNoSpace
  else
    let p : Program :=
      { handle := BitVec.ofNat 32 s.nextHandle, crc := BitVec.ofNat 32 (imgCrc b), buildId := slice b 40 16
        kernels := (kernelOffsets b).map (kernelAt s.enabledClusters b), nativeFrames := frames }
    let s := { s with nextHandle := s.nextHandle + 1 }
    let s := s.modCtx (srcCtx src) (fun c => { c with programs := c.programs ++ [p] })
    let s := s.putHost (cmd.param 16 8) (s.report b (cmd.param 24 4))
    s.ok cmd (natLE p.handle.toNat 4 ++ natLE (64 + 64 * imgKernels b) 4 ++ natLE total 4 ++ natLE Config.translator.toNat 4)

/-- LOAD_PROGRAM (R135). An image that requires STRICT in a RELAXED context is refused for the context's state. -/
def State.load (s : State) (src : CmdSource) (fab : Fab) : State :=
  let cmd := s.cmd! src
  let c := srcCtx src
  let n := cmd.param 8 8
  if !loadOk cmd then s.badParam cmd
  else if (s.ctx c).programs.length ≥ 16 then s.status cmd stNoSpace
  else if !imageSizeOk n then s.rejectImage cmd { reason := 0x01, offset := 24 }
  else
    let r := s.engineRead c (.cmd src) fab (cmd.param 0 8) n
    let b := r.1
    let s := r.2.2
    match imageDefect s.enabledClusters b with
    | some d => s.rejectImage cmd d
    | none => if bitOf (field b 8 4) 0 ∧ !(s.ctx c).strict then s.finish cmd stDenied 1 [] else s.accept src b

def execLoadProgram (src : CmdSource) (fab : Fab) (s : State) : Res :=
  let cmd := s.cmd! src
  when "LOAD_PROGRAM"
    (s.runs src 0x0200 &&
     (!loadOk cmd || !imageSizeOk (cmd.param 8 8) || s.readable (srcCtx src) (cmd.param 0 8) (cmd.param 8 8)))
    (s.load src fab)

/-- TRANSLATION_TIMEOUT (R135): 200 ms have passed since the command was fetched. -/
def execTranslationTimeout (src : CmdSource) (s : State) : Res :=
  let cmd := s.cmd! src
  when "TRANSLATION_TIMEOUT" (s.runs src 0x0200 && loadOk cmd && decide (cmd.time + 200000000 ≤ s.time)) (s.status cmd stTimeout)

end Sys2Proof.Machine
end

