-- ==== Sys2Proof/Machine/MemCmds.lean ====
section
/-!
DEFINITION. The commands on memory: ALLOC (R173, R457), FREE (R177), COPY, FILL and INVALIDATE (R315), PIN and HINT (R193), and LEND_BACKSTORE
(R185).
-/
namespace Sys2Proof.Machine

/-- A module of a context's set (R169, R457). -/
def State.inSet (s : State) (c m : Nat) : Bool := (s.ctx c).moduleSet.any (fun x => x.toNat == m)

/-! ### ALLOC -/

/-- The checks of ALLOC that need no list (R173, R174, R343, R457). -/
def State.allocParams (s : State) (c : Nat) (cmd : Cmd) : Bool :=
  let base := cmd.param 0 8
  let size := cmd.param 8 8
  let policy := cmd.param 16 1
  let arg := cmd.param 20 4
  wholeParcels base size && decide (base + size ≤ mirrorBase) && decide (policy ≤ 3) && decide (cmd.param 17 1 < 32) &&
  cmd.restZero [(0, 18), (20, 12)] && (policy != 2 || s.inSet c arg) &&
  (policy != 1 || (decide (1 ≤ arg ∧ arg ≤ 1024) && vaRange (cmd.param 24 8) (2 * arg)))

/-- What a registrar answers about one parcel of an ALLOC; `used` counts the entries that this registrar has just written. -/
def State.allocAns (s : State) (c pn used : Nat) (fab : Fab) : Option RegAnswer :=
  if s.registrar c pn = s.self then
    if (s.entry? (s.ctx c).job pn).isSome then some .conflict
    else if s.home.cadastre.length + used < cadastreSize then some .done
    else some .noSpace
  else fabReg fab pn

/-- Every registrar of a range has answered. -/
def State.allocAnswered (s : State) (c : Nat) (cmd : Cmd) (fab : Fab) : Bool :=
  (parcelsIn (cmd.param 0 8) (cmd.param 8 8)).all (fun pn => (s.allocAns c pn 0 fab).isSome)

/-- The answers in the order of the range. -/
def State.allocAnswers (s : State) (c : Nat) (fab : Fab) : List Nat → Nat → List RegAnswer
  | [], _ => []
  | pn :: rest, used =>
    let a := (s.allocAns c pn used fab).getD .noSpace
    a :: s.allocAnswers c fab rest (if s.registrar c pn = s.self then used + 1 else used)

/-- A new entry; its generation follows on that of an entry freed before (R171). -/
def State.newEntry (s : State) (job : BitVec 16) (pn : Nat) (cmd : Cmd) (list : List (BitVec 15)) : CadEntry :=
  let base := parcelOf (cmd.param 0 8)
  let policy := cmd.param 16 1
  { job := job, parcel := pn, state := .unmaterialised, policy := policy, attr := BitVec.ofNat 8 (cmd.param 17 1)
    gen := match s.home.freed.find? (fun x => x.1 == job && x.2.1 == pn) with | some x => x.2.2 + 1 | none => 0
    policyArg := BitVec.ofNat 32 (if policy = 1 then (pn - base) % max 1 list.length else if policy = 2 then cmd.param 20 4 else 0)
    list := list, base := base }

/-- An entry written at its registrar. -/
def State.reserve (s : State) (c : Nat) (cmd : Cmd) (list : List (BitVec 15)) (pn : Nat) : State :=
  let job := (s.ctx c).job
  let reg := s.registrar c pn
  if reg = s.self then
    let e := s.newEntry job pn cmd list
    s.modHome (fun h => { h with
      cadastre := h.cadastre ++ [e]
      freed := h.freed.filter (fun x => !(x.1 == job && x.2.1 == pn)) })
  else s.emit (.ctrl reg (.allocEntry job pn))

/-- The Surveyor takes back what it has written at other registrars (R173). -/
def State.unreserve (s : State) (c : Nat) (p : Nat × RegAnswer) : State :=
  let reg := s.registrar c p.1
  if p.2 = .done ∧ reg ≠ s.self then
    s.emit (.ctrl reg (.freeEntry (s.ctx c).job p.1))
  else s

/-- ALLOC with its list in hand (R173). -/
def State.allocate (s : State) (src : CmdSource) (list : List Nat) (fab : Fab) : State :=
  let c := srcCtx src
  let cmd := s.cmd! src
  if list.any (fun m => !s.inSet c m) then s.badParam cmd
  else
    let pns := parcelsIn (cmd.param 0 8) (cmd.param 8 8)
    let ans := pns.zip (s.allocAnswers c fab pns 0)
    match ans.find? (fun p => p.2 != .done) with
    | some p =>
      (ans.foldl (fun s p => s.unreserve c p) s).status cmd (if p.2 = .conflict then stBadParam else stNoSpace)
    | none =>
      let s := pns.foldl (fun s pn => s.reserve c cmd (list.map (BitVec.ofNat 15)) pn) s
      s.ok cmd (natLE pns.length 4)

def State.alloc (s : State) (src : CmdSource) (fab : Fab) : State :=
  let c := srcCtx src
  let cmd := s.cmd! src
  if !s.allocParams c cmd then s.badParam cmd
  else if cmd.param 16 1 = 1 then
    let n := cmd.param 20 4
    let r := s.engineRead c (.cmd src) fab (cmd.param 24 8) (2 * n)
    r.2.2.allocate src ((chunks 2 r.1).map leNat) fab
  else s.allocate src [] fab

/-- ALLOC runs once every registrar has answered, within 20 ms; without that it can only time out (R173). -/
def execAlloc (src : CmdSource) (fab : Fab) (s : State) : Res :=
  let c := srcCtx src
  let cmd := s.cmd! src
  when "ALLOC"
    (s.runs src 0x0300 &&
     (!s.allocParams c cmd ||
      (decide (s.time ≤ cmd.time + 20000000) && s.allocAnswered c cmd fab && (cmd.param 16 1 != 1 || s.readable c (cmd.param 24 8) (2 * cmd.param 20 4)))))
    (s.alloc src fab)

/-- ALLOC_TIMEOUT: 20 ms have passed; nothing stays reserved (R173). -/
def execAllocTimeout (src : CmdSource) (s : State) : Res :=
  let cmd := s.cmd! src
  when "ALLOC_TIMEOUT"
    (s.runs src 0x0300 && s.allocParams (srcCtx src) cmd && decide (cmd.time + 20000000 ≤ s.time))
    (s.status cmd stTimeout)

/-! ### FREE -/

/-- The parameters of FREE name whole parcels (R177). -/
def freeOk (cmd : Cmd) : Bool := wholeParcels (cmd.param 0 8) (cmd.param 8 8) && cmd.restZero [(0, 16)]

def State.free_ (s : State) (src : CmdSource) (fab : Fab) : State :=
  let cmd := s.cmd! src
  if !freeOk cmd then s.badParam cmd
  else
    let r := s.freeRange (srcCtx src) (.cmd src) fab (cmd.param 0 8) (cmd.param 8 8)
    r.2.finishCounted src r.1 []

/-- FREE waits for moves and page operations on its range (R177). -/
def execFree (src : CmdSource) (fab : Fab) (s : State) : Res :=
  let cmd := s.cmd! src
  when "FREE"
    (s.runs src 0x0301 &&
     (!freeOk cmd || !(parcelsIn (cmd.param 0 8) (cmd.param 8 8)).any (s.parcelBusy (s.ctx (srcCtx src)).job)))
    (s.free_ src fab)

/-! ### COPY, FILL, INVALIDATE -/

/-- Source and destination of COPY. -/
def copyHostSrc (cmd : Cmd) : Bool := bitOf (cmd.param 24 1) 0
def copyHostDst (cmd : Cmd) : Bool := bitOf (cmd.param 24 1) 1
def copyOk (cmd : Cmd) : Bool :=
  let n := cmd.param 16 8
  cmd.restZero [(0, 25)] && decide (cmd.param 24 1 < 4) &&
  (if copyHostSrc cmd then decide (cmd.param 0 8 + n ≤ 2 ^ 64) else vaRange (cmd.param 0 8) n) &&
  (if copyHostDst cmd then decide (cmd.param 8 8 + n ≤ 2 ^ 64) else vaRange (cmd.param 8 8) n)

/-- The bytes of a range in host memory or in job memory, and where they go (R150, R315). -/
def State.copyRead (s : State) (src : CmdSource) (fab : Fab) : List Byte × State :=
  let cmd := s.cmd! src
  if copyHostSrc cmd then (s.getHost (cmd.param 0 8) (cmd.param 16 8), s)
  else
    let r := s.engineRead (srcCtx src) (.cmd src) fab (cmd.param 0 8) (cmd.param 16 8)
    (r.1, r.2.2)

def State.copyWrite (s : State) (src : CmdSource) (fab : Fab) (bs : List Byte) : State :=
  let cmd := s.cmd! src
  if copyHostDst cmd then s.putHost (cmd.param 8 8) bs else (s.engineWrite (srcCtx src) (.cmd src) fab (cmd.param 8 8) bs).2

/-- COPY (R315): the source is read whole and then written; its reply is a release (R322). -/
def State.copyCmd (s : State) (src : CmdSource) (fab : Fab) : State :=
  if !copyOk (s.cmd! src) then s.badParam (s.cmd! src)
  else
    let r := s.copyRead src fab
    (r.2.copyWrite src fab r.1).finishCounted src stOk []

def execCopy (src : CmdSource) (fab : Fab) (s : State) : Res :=
  let cmd := s.cmd! src
  let c := srcCtx src
  when "COPY"
    (s.runs src 0x0302 &&
     (!copyOk cmd || ((copyHostSrc cmd || s.readable c (cmd.param 0 8) (cmd.param 16 8)) &&
                      (copyHostDst cmd || s.writable c (cmd.param 8 8) (cmd.param 16 8)))))
    (s.copyCmd src fab)

/-- FILL (R315). -/
def fillOk (cmd : Cmd) : Bool := cmd.restZero [(0, 24)] && cmd.param 8 8 % 8 == 0 && vaRange (cmd.param 0 8) (cmd.param 8 8)
def State.fillCmd (s : State) (src : CmdSource) (fab : Fab) : State :=
  let cmd := s.cmd! src
  if !fillOk cmd then s.badParam cmd
  else
    let bs := (List.replicate (cmd.param 8 8 / 8) (natLE (cmd.param 16 8) 8)).flatten
    (s.engineWrite (srcCtx src) (.cmd src) fab (cmd.param 0 8) bs).2.finishCounted src stOk []

def execFill (src : CmdSource) (fab : Fab) (s : State) : Res :=
  let cmd := s.cmd! src
  when "FILL" (s.runs src 0x0303 && (!fillOk cmd || s.writable (srcCtx src) (cmd.param 0 8) (cmd.param 8 8))) (s.fillCmd src fab)

/-- INVALIDATE (R207, R315): replied to when every subtree has acknowledged. -/
def invalidateOk (cmd : Cmd) : Bool :=
  let n := cmd.param 8 8
  cmd.restZero [(0, 16)] && decide (1 ≤ n ∧ n ≤ 2 ^ 32) && vaRange (cmd.param 0 8) n
def State.invalidateCmd (s : State) (src : CmdSource) : State :=
  let cmd := s.cmd! src
  let c := srcCtx src
  if !invalidateOk cmd then s.badParam cmd
  else
    let q := match src with | .queue q => some q.toNat | .mailbox => none
    let t := s.issueInval c (cmd.param 0 8) (cmd.param 8 8) .memory none q
    if s.subtree (s.ctx c).moduleSet [0, 1, 2] = 0 then t.ok cmd else t.modCmd src (fun x => { x with handed := true })

/-- It waits for a reply slot (R197). -/
def execInvalidate (src : CmdSource) (s : State) : Res :=
  when "INVALIDATE" (s.runs src 0x0304 && (!invalidateOk (s.cmd! src) || decide (s.slotsHeld < replySlots))) (s.invalidateCmd src)

/-! ### PIN -/

/-- PIN and where it stands: a status when it has failed, and the parcels it has set moving. -/
structure PinRun where
  st : State
  fail : Option Nat := none
  moved : List Nat := []

/-- A parcel set moving: it counts once, however often its move is abandoned and begun again (R184, R193). -/
def PinRun.move (x : PinRun) (s : State) (pn : Nat) : PinRun :=
  { x with st := s, moved := if x.moved.contains pn then x.moved else pn :: x.moved }

/-- The parcel is marked where it stands here. -/
def State.pinHere (s : State) (job : BitVec 16) (pn : Nat) : State :=
  s.modParcel job pn (fun p => { p with pinned := true, attr := p.attr ||| 0x10 })

/-- A PIN that fails, with the fault record of a module that does not answer (R193). -/
def PinRun.failed (x : PinRun) (c : Nat) (att : Attrib) (pn target st : Nat) : PinRun :=
  { x with fail := some st
           st := if st = stFabricDead then
               x.st.raise { code := 0x0205, ctx := some c, va := pn * frameBytes, target := target, attr := att }
             else x.st }

/-- The policy and attributes of a pinned entry (R193). -/
def pinned (m : Nat) (e : CadEntry) : CadEntry :=
  { e with policy := 2, policyArg := BitVec.ofNat 32 m, attr := e.attr ||| 0x10 }
def State.pinEntry (s : State) (job : BitVec 16) (pn m : Nat) : State :=
  let s := s.modEntry job pn (pinned m)
  if m = s.self then s.pinHere job pn else s

/-- The frame that the named module gives: NO_SPACE or FABRIC_DEAD when it gives none. -/
def State.pinFrame (s : State) (m : Nat) (fab : Fab) : Nat ⊕ Nat :=
  match s.frameAt false fab m with
  | some f => .inl f
  | none => .inr (if m = s.self ∨ (fabReg fab (frameAnswer false m)).isSome then stNoSpace else stFabricDead)

/-- The lines of a paged parcel of another home, as they come. -/
def fabFrame (fab : Fab) (pn : Nat) : Option (List Byte) :=
  let ls := (List.range frameLines).map (fun i => fabLine fab (pn * frameBytes + 128 * i))
  if ls.all (fun l => match l with | some (.ok _) => true | _ => false) then
    some (ls.map (fun l => match l with | some (.ok bs) => slice bs 0 128 | _ => [])).flatten
  else none

/-- A paged parcel is paged in to the named module (R187, R193). -/
def State.pinPaged (s : State) (e : CadEntry) (m f : Nat) (fab : Fab) : Option State :=
  let up := fun (e : CadEntry) =>
    pinned m { e with state := .resident, home := BitVec.ofNat 16 m, frame := BitVec.ofNat 18 f, gen := e.gen + 1 }
  if e.home.toNat = s.self then
    if m = s.self then
      some ((((s.beginPageIn e.job e.parcel).pageIn e.job e.parcel).pinEntry e.job e.parcel m).releaseHeld e.job e.parcel)
    else
      let p := s.parcel? e.job e.parcel
      let slot := (p.bind (·.slot)).getD 0
      let s := s.emit (.engineWrite m (e.parcel * frameBytes) (s.getHost (s.slotAddr slot) frameBytes))
      let s := ((p.map (·.held)).getD []).foldl
        (fun s r => s.forwardHeld (BitVec.ofNat 15 m) (BitVec.ofNat 18 f) (e.gen + 1) r) s
      some ((s.releaseHome e.job e.parcel).modEntry e.job e.parcel up)
  else if m = s.self then
    (fabFrame fab e.parcel).map (fun bs =>
      let s := s.grantFrame e.job e.parcel (BitVec.ofNat 18 f) (e.gen + 1) (attrByte (e.attr ||| 0x10) 2)
      let s := s.modHome (fun h => { h with pageIns := h.pageIns + 1 })
      (s.putDram (f * frameBytes) bs).modEntry e.job e.parcel up)
  else some ((s.emit (.ctrl e.home.toNat (.pinEntry e.job e.parcel (BitVec.ofNat 15 m)))).modEntry e.job e.parcel up)

/-- A parcel whose move has been abandoned is not moved again before MIGRATE_COOLDOWN (R184). -/
def State.cooling (s : State) (e : CadEntry) : Bool :=
  match e.abandonedAt with
  | some t => decide (s.time < t + s.regs.global.migrateCooldown.toNat * 1000000)
  | none => false

/-- One parcel of which this module is the registrar (R193). -/
def PinRun.parcel (x : PinRun) (c : Nat) (att : Attrib) (m : Nat) (fab : Fab) (pn : Nat) : PinRun :=
  let s := x.st
  match x.fail, s.entry? (s.ctx c).job pn with
  | none, some e =>
    (match e.state with
     | .unmaterialised => { x with st := s.modEntry e.job pn (pinned m) }
     | .resident =>
       if e.home.toNat = m then { x with st := s.pinEntry e.job pn m }
       else if s.cooling e then x
       else
         (match s.canForwardAt fab e.home.toNat, s.pinFrame m fab with
          | none, _ => x.failed c att pn e.home.toNat stFabricDead
          | some false, _ => x
          | some true, .inr st => x.failed c att pn m st
          | some true, .inl f =>
            let t := (s.modEntry e.job pn (pinned m)).beginMove e m f
            let t := if e.home.toNat = s.self then t.startCopy e.job pn (BitVec.ofNat 15 m) (BitVec.ofNat 18 f)
              else t.emit (.ctrl e.home.toNat (.startMove e.job pn (BitVec.ofNat 15 m) (BitVec.ofNat 18 f)))
            x.move t pn)
     | .paged =>
       (match s.pinFrame m fab with
        | .inr st => x.failed c att pn m st
        | .inl f =>
          (match s.pinPaged e m f fab with
           | some t => x.move t pn
           | none => x.failed c att pn e.home.toNat stFabricDead))
     | _ => x)
  | _, _ => x

/-- One parcel of which another module is the registrar: DONE for a parcel that stands right, a bearing for one that has moved. -/
def PinRun.remote (x : PinRun) (c : Nat) (att : Attrib) (m : Nat) (fab : Fab) (pn : Nat) : PinRun :=
  match x.fail with
  | some _ => x
  | none =>
    let reg := x.st.registrar c pn
    let job := (x.st.ctx c).job
    let t := x.st.emit (.ctrl reg (.pinEntry job pn (BitVec.ofNat 15 m)))
    let t := if m = t.self then t.pinHere job pn else t
    match fabReg fab pn with
    | none => x.failed c att pn reg stFabricDead
    | some .done => { x with st := t }
    | some (.bearing _ _ _ _) => x.move t pn
    | some _ => { x with fail := some stNoSpace }

/-- Whether every parcel of this registrar stands as PIN leaves it. -/
def State.pinSettled (s : State) (c m : Nat) (pn : Nat) : Bool :=
  match s.entry? (s.ctx c).job pn with
  | some e => e.state == .unmaterialised || (e.state == .resident && e.home.toNat == m && !s.parcelBusy e.job pn)
  | none => true

def pinOk (cmd : Cmd) : Bool := wholeParcels (cmd.param 0 8) (cmd.param 8 8) && cmd.restZero [(0, 18)]

/-- The parcels of a PIN of which this module is, or is not, the registrar. -/
def State.pinParcels (s : State) (src : CmdSource) (mine : Bool) : List Nat :=
  let cmd := s.cmd! src
  (parcelsIn (cmd.param 0 8) (cmd.param 8 8)).filter (fun pn => (s.registrar (srcCtx src) pn == s.self) == mine)

/-- The parcels of this registrar, with what has been set moving so far kept in the command. -/
def State.pinMine (s : State) (src : CmdSource) (fab : Fab) : PinRun :=
  let cmd := s.cmd! src
  let x := (s.pinParcels src true).foldl (fun (x : PinRun) pn => x.parcel (srcCtx src) (.cmd src) (cmd.param 16 2) fab pn)
    { st := s, moved := cmd.moved }
  { x with st := x.st.modCmd src (fun k => { k with moved := x.moved }) }

/-- The parcels of other registrars. -/
def PinRun.others (x : PinRun) (src : CmdSource) (m : Nat) (fab : Fab) (pns : List Nat) : PinRun :=
  pns.foldl (fun (x : PinRun) pn => x.remote (srcCtx src) (.cmd src) m fab pn) x

/-- A PIN ends: with the status that a parcel failed with, or with the parcels moved. -/
def PinRun.reply (x : PinRun) (src : CmdSource) : State :=
  match x.fail with
  | some st => x.st.finishCounted src st []
  | none => x.st.finishCounted src stOk (natLE x.moved.length 4)

def State.pinCmd (s : State) (src : CmdSource) (fab : Fab) : State :=
  let cmd := s.cmd! src
  let c := srcCtx src
  let m := cmd.param 16 2
  if !pinOk cmd || !s.inSet c m then s.badParam cmd
  else if (s.pinParcels src true).any (fun pn => (s.entry? (s.ctx c).job pn).isNone) ||
      (s.pinParcels src false).any (fun pn => fabReg fab pn == some .unmapped) then s.badParam cmd
  else
    let x := s.pinMine src fab
    if x.fail.isSome then x.reply src
    else if !(s.pinParcels src true).all (x.st.pinSettled c m) then x.st
    else (x.others src m fab (s.pinParcels src false)).reply src

/-- PIN: given again until every parcel stands at the named module. -/
def execPin (src : CmdSource) (fab : Fab) (s : State) : Res := when "PIN" (s.runs src 0x0305) (s.pinCmd src fab)

/-! ### HINT -/

/-- A HINT of a kind. -/
def State.hints (s : State) (src : CmdSource) (kind : Nat) : Bool := s.runs src 0x0306 && (s.cmd! src).param 0 1 == kind

/-- The parameters of the three kinds that name a range. -/
def hintRange (cmd : Cmd) : Bool := cmd.restZero [(0, 1), (16, 18)] && vaRange (cmd.param 16 8) (cmd.param 24 8)

/-- The first parcel of such a range and how many it touches. -/
def hintParcels (cmd : Cmd) : Nat × Nat :=
  let a := cmd.param 16 8
  let n := cmd.param 24 8
  (parcelOf a, if n = 0 then 0 else parcelOf (a + n - 1) + 1 - parcelOf a)

/-- HINT ANCHOR (R189, R193), and a HINT of an unknown kind. -/
def State.hintAnchor (s : State) (src : CmdSource) : State :=
  let cmd := s.cmd! src
  let c := srcCtx src
  let k := (cmd.param 4 4, cmd.param 8 4)
  if cmd.param 0 1 ≠ 0 ∨ !cmd.restZero [(0, 1), (4, 9)] ∨ (s.findKernel c k.1 k.2).isNone ∨ cmd.param 12 1 > 7 then s.badParam cmd
  else
    let p := BitVec.ofNat 32 k.1
    let n := BitVec.ofNat 32 k.2
    (s.modCtx c (fun x =>
      { x with anchors := x.anchors.filter (fun a => !(a.1 == p && a.2.1 == n)) ++ [(p, n, cmd.param 12 1)] })).ok cmd

def execHintAnchor (src : CmdSource) (s : State) : Res :=
  when "HINT_ANCHOR" (s.runs src 0x0306 && ((s.cmd! src).param 0 1 == 0 || decide ((s.cmd! src).param 0 1 > 3))) (s.hintAnchor src)

/-- HINT PREFER (R193, R457). -/
def State.hintPrefer (s : State) (src : CmdSource) : State :=
  let cmd := s.cmd! src
  let c := srcCtx src
  let m := cmd.param 32 2
  if !hintRange cmd ∨ !s.inSet c m then s.badParam cmd
  else
    let r := hintParcels cmd
    (s.modCtx c (fun x => { x with prefers := (r.1, r.2, BitVec.ofNat 15 m) :: x.prefers })).ok cmd

def execHintPrefer (src : CmdSource) (s : State) : Res := when "HINT_PREFER" (s.hints src 1) (s.hintPrefer src)

/-- HINT COLD (R193): parcels held here go first to the backstore. -/
def State.hintCold (s : State) (src : CmdSource) : State :=
  let cmd := s.cmd! src
  let job := (s.ctx (srcCtx src)).job
  if !hintRange cmd then s.badParam cmd
  else
    let r := hintParcels cmd
    let mine := fun (p : HomeParcel) => p.job == job && decide (r.1 ≤ p.parcel) && decide (p.parcel < r.1 + r.2)
    (s.modHome (fun h => { h with parcels := updateAll mine (fun p => { p with cold := true }) h.parcels })).ok cmd

def execHintCold (src : CmdSource) (s : State) : Res := when "HINT_COLD" (s.hints src 2) (s.hintCold src)

/-- HINT WILL_USE (R193, R457): the registrars are asked; R182 still decides. -/
def State.hintWillUse (s : State) (src : CmdSource) : State :=
  let cmd := s.cmd! src
  let c := srcCtx src
  let m := cmd.param 32 2
  if !hintRange cmd ∨ !s.inSet c m then s.badParam cmd
  else
    let r := hintParcels cmd
    let ask := fun (s : State) (i : Nat) =>
      let reg := s.registrar c (r.1 + i)
      if reg = s.self then s else s.emit (.ctrl reg (.wantMove (s.ctx c).job (r.1 + i) (BitVec.ofNat 15 m)))
    ((List.range r.2).foldl ask s).ok cmd

def execHintWillUse (src : CmdSource) (s : State) : Res := when "HINT_WILL_USE" (s.hints src 3) (s.hintWillUse src)

/-! ### LEND_BACKSTORE -/

def lendOk (cmd : Cmd) : Bool := cmd.restZero [(0, 12)] && decide (cmd.param 8 4 ≤ 524288)

/-- The withdrawal: every parcel in the range comes back into a frame, and what it held is performed (R185, R187). -/
def State.withdraw (s : State) : State :=
  let s := s.modHome (fun h => { h with lentSlots := 0 })
  let s := (s.home.parcels.filter (fun p => p.slot.isSome)).foldl
    (fun s p => ((s.beginPageIn p.job p.parcel).pageIn p.job p.parcel).releaseHeld p.job p.parcel) s
  s.modHome (fun h => { h with lentBase := 0 })

def State.lend (s : State) (src : CmdSource) : State :=
  let cmd := s.cmd! src
  let n := cmd.param 8 4
  let used := s.usedSlots.length
  let paged := s.home.parcels.countP (fun p => p.state == .paged)
  if !lendOk cmd then s.badParam cmd
  else if n = 0 then (if paged ≤ s.framesFree then s.withdraw.ok cmd (natLE 0 4) else s.status cmd stNoSpace)
  else if used ≠ 0 then s.status cmd stBusy
  else (s.modHome (fun h => { h with lentBase := BitVec.ofNat 64 (cmd.param 0 8), lentSlots := n })).ok cmd (natLE n 4)

/-- LEND_BACKSTORE (R185); a withdrawal waits for page-outs in progress. -/
def execLendBackstore (src : CmdSource) (s : State) : Res :=
  when "LEND_BACKSTORE"
    (s.runs src 0x0307 && ((s.cmd! src).param 8 4 != 0 || !s.home.parcels.any (fun p => p.state == .pagingOut)))
    (s.lend src)

end Sys2Proof.Machine
end

