-- ==== Sys2Proof/Machine/Reduction.lean ====
section
/-!
DEFINITION. The reduction unit and the gradient-noise registers (R106 to R111, R130).
-/
namespace Sys2Proof.Machine

/-- What a reduction reads and where it writes (R130). -/
structure RedSpec where
  rows : Nat
  mask : Word64
  dest : Nat
  res : Nat
  idx : Nat
  base : Word32
  merge : Bool
  deriving DecidableEq, Repr

/-- −0 and −∞: what masked elements enter as (R108). -/
def negZero32 : Word32 := 0x80000000
def negInf32 : Word32 := 0xFF800000

/-- The 64 values of row i, masked ones as given. -/
def rowVals (f : Nat → Nat → Word32) (mask : Word64) (hole : Word32) (i : Nat) : List Word32 :=
  (List.range 64).map (fun j => if mask.getLsbD j then f i j else hole)

/-- RSUM and RSUMSQ of one row: the tree over columns 0 to 63 (R108). -/
def rowSum (f : Nat → Nat → Word32) (mask : Word64) (i : Nat) : FRes :=
  treeSum 6 ((rowVals f mask negZero32 i).map (fun v => ⟨v, {}⟩))
def rowSumSq (f : Nat → Nat → Word32) (mask : Word64) (i : Nat) : FRes :=
  treeSum 6 ((List.range 64).map (fun j => if mask.getLsbD j then fmul (f i j) (f i j) else ⟨negZero32, {}⟩))

/-- Values added in order from −0, one FP32 RNE addition each (CSUM, R108). -/
def chainSum (l : List FRes) : FRes :=
  l.foldl (fun a b => let r := fadd a.v b.v; ⟨r.v, (a.made.add b.made).add r.made⟩) ⟨negZero32, {}⟩

/-- The maximum of values from −∞. -/
def chainMax (l : List Word32) : Word32 := l.foldl (fun a b => (fmax a b).v) negInf32

/-- A column of a tile buffer written over rows, a row over masked columns. -/
def putCol (t : Table Word32) (c rows : Nat) (f : Nat → Word32) : Table Word32 :=
  (List.range rows).foldl (fun t i => put64 t i c (f i)) t
def putRow (t : Table Word32) (r : Nat) (mask : Word64) (f : Nat → Word32) : Table Word32 :=
  (List.range 64).foldl (fun t j => if mask.getLsbD j then put64 t r j (f j) else t) t

/-- RARGMAX of one row (R109): the maximum of the elements that are no NaN, in the order of R36, with its lowest column; poison first. -/
def rowArg (f : Nat → Nat → Word32) (mask : Word64) (base : Word32) (i : Nat) : Word32 × Word32 :=
  let cols := (List.range 64).filter (fun j => mask.getLsbD j)
  match cols.find? (fun j => val32 (f i j) == .poison) with
  | some j => (poison32, base + BitVec.ofNat 32 j)
  | none =>
    match (cols.filter (fun j => !isNan (val32 (f i j)))).foldl
        (fun b j => match b with
          | none => some j
          | some k => if ltOrd (val32 (f i k)) (val32 (f i j)) then some j else some k) (none : Option Nat) with
    | some j => (f i j, base + BitVec.ofNat 32 j)
    | none => (nan32, 0xFFFFFFFF)

/-- Whether a merging RARGMAX replaces what it holds (R109): a poison, or a strictly greater maximum. -/
def argReplaces (old new : Word32) : Bool :=
  if val32 new = .poison then val32 old != .poison
  else !isNan (val32 old) && !isNan (val32 new) && ltOrd (val32 old) (val32 new)

/-- What one row of RARGMAX made: a maximum without any operand gives the canonical NaN, which R35 counts; one of which NaNs take no part
had NaN operands. -/
def argMade (mask : Word64) : Made := if mask = 0 then ⟨1, 0, 0, 0⟩ else {}

/-- The column of alpha that goes with the column of m (R110; its field is not given, notes/assumptions/6.md). -/
def alphaCol (m : Nat) : Nat := Config.alphaColumn m % 64

/-- RMAXUPD of one row (R110): the new m, alpha, and what was made. -/
def maxUpd (m r : Word32) : Word32 × Word32 × Made :=
  let n := (fmax m r).v
  if n = negInf32 then (n, 0x3F800000, {})
  else
    let d := fsub m n
    let a := fexp2 d.v
    (n, a.v, d.made.add a.made)

/-- RMAXUPD has m in its result column; RSUMACC, the tap of an EXP2S whose operand b is the column broadcast of m, has l there and m in
its index field (R110, R130). A reduction of rows and masked columns of f into a tile buffer or a gradient-noise register (R108 to R111). -/
def Core.reduce (c : Core) (nn : Nat) (x : RedSpec) (f : Nat → Nat → Word32) : Core × Made :=
  let b := x.dest - 0x40
  let t := c.buf b
  let rs := List.range x.rows
  let sums := fun (g : Nat → FRes) => rs.map g
  let madeOf := fun (l : List FRes) => l.foldl (fun (m : Made) r => m.add r.made) {}
  match nn with
  | 0 =>
    let l := sums (rowSum f x.mask)
    (c.setBuf b (putCol t x.res x.rows (fun i => (l.getD i ⟨0, {}⟩).v)), madeOf l)
  | 1 =>
    let l := sums (rowSumSq f x.mask)
    (c.setBuf b (putCol t x.res x.rows (fun i => (l.getD i ⟨0, {}⟩).v)), madeOf l)
  | 2 =>
    let l := (List.range 64).map (fun j => if x.mask.getLsbD j then chainSum (rs.map (fun i => ⟨f i j, {}⟩)) else ⟨0, {}⟩)
    (c.setBuf b (putRow t x.res x.mask (fun j => (l.getD j ⟨0, {}⟩).v)), madeOf l)
  | 3 => (c.setBuf b (putCol t x.res x.rows (fun i => chainMax (rowVals f x.mask negInf32 i))), {})
  | 4 => (c.setBuf b (putRow t x.res x.mask (fun j => chainMax (rs.map (fun i => f i j)))), {})
  | 5 =>
    let new := rs.map (rowArg f x.mask x.base)
    let keep := rs.map (fun i => x.merge && !argReplaces (at64 t i x.res) (new.getD i (0, 0)).1)
    let pick := fun (i : Nat) => if keep.getD i false then (at64 t i x.res, at64 t i x.idx) else new.getD i (0, 0)
    (c.setBuf b (putCol (putCol t x.res x.rows (fun i => (pick i).1)) x.idx x.rows (fun i => (pick i).2)),
      rs.foldl (fun (m : Made) _ => m.add (argMade x.mask)) {})
  | 6 =>
    let r := chainSum (sums (rowSumSq f x.mask))
    if x.dest = 0x58 then
      let p := combine c.gns.localS c.gns.localC r.v 0
      ({ c with gns := { c.gns with localS := p.1, localC := p.2 } }, r.made.add (combineMade c.gns.localS c.gns.localC r.v 0))
    else if x.dest = 0x59 then
      let p := combine c.gns.redS c.gns.redC r.v 0
      ({ c with gns := { c.gns with redS := p.1, redC := p.2 } }, r.made.add (combineMade c.gns.redS c.gns.redC r.v 0))
    else (c.setBuf b (put64 t x.idx x.res r.v), r.made)
  | 7 =>
    let l := rs.map (fun i => maxUpd (at64 t i x.res) (chainMax (rowVals f x.mask negInf32 i)))
    let u := putCol t (alphaCol x.res) x.rows (fun i => (l.getD i (0, 0, {})).2.1)
    (c.setBuf b (putCol u x.res x.rows (fun i => (l.getD i (0, 0, {})).1)), l.foldl (fun (m : Made) r => m.add r.2.2) {})
  | _ =>
    let l := rs.map (fun i =>
      let s := rowSum f x.mask i
      let r := ffma (at64 t i x.res) (at64 t i (alphaCol x.idx)) s.v
      (⟨r.v, s.made.add r.made⟩ : FRes))
    (c.setBuf b (putCol t x.res x.rows (fun i => (l.getD i ⟨0, {}⟩).v)), madeOf l)

/-- The fields of a reduction instruction (R130). -/
def redSpecOf (w : InstrWord) (dest : Nat) : RedSpec :=
  { rows := wm w 16 6 + 1, mask := w.imm, dest := dest, res := wx w 0 40 6, idx := wx w 0 32 6
    base := BitVec.ofNat 32 (wx w 0 64 32), merge := wx w 0 57 1 == 1 }

/-- A reduction instruction on a tile. -/
def State.reduceStep (s : State) (k nn : Nat) (w : InstrWord) : State :=
  let x := s.core k
  let r := x.reduce nn (redSpecOf w (selD w)) (at64 (x.lane (selA w)))
  ((s.setCore k r.1).tallyTile x.exeTile r.2).issueExe k

/-- RSUM (R108). -/
def execRsum (c : CoreId) (w : InstrWord) (s : State) : Res :=
  onCore "RSUM" 0x1400 w (s.exeReady c) (s.reduceStep (coreKey c) 0 w)

/-- RSUMSQ (R108). -/
def execRsumsq (c : CoreId) (w : InstrWord) (s : State) : Res :=
  onCore "RSUMSQ" 0x1401 w (s.exeReady c) (s.reduceStep (coreKey c) 1 w)

/-- CSUM (R108). -/
def execCsum (c : CoreId) (w : InstrWord) (s : State) : Res :=
  onCore "CSUM" 0x1402 w (s.exeReady c) (s.reduceStep (coreKey c) 2 w)

/-- RMAX (R108). -/
def execRmax (c : CoreId) (w : InstrWord) (s : State) : Res :=
  onCore "RMAX" 0x1403 w (s.exeReady c) (s.reduceStep (coreKey c) 3 w)

/-- CMAX (R108). -/
def execCmax (c : CoreId) (w : InstrWord) (s : State) : Res :=
  onCore "CMAX" 0x1404 w (s.exeReady c) (s.reduceStep (coreKey c) 4 w)

/-- RARGMAX (R109). -/
def execRargmax (c : CoreId) (w : InstrWord) (s : State) : Res :=
  onCore "RARGMAX" 0x1405 w (s.exeReady c) (s.reduceStep (coreKey c) 5 w)

/-- TSUMSQ (R108, R111). -/
def execTsumsq (c : CoreId) (w : InstrWord) (s : State) : Res :=
  onCore "TSUMSQ" 0x1406 w (s.exeReady c) (s.reduceStep (coreKey c) 6 w)

/-- RMAXUPD (R110). -/
def execRmaxupd (c : CoreId) (w : InstrWord) (s : State) : Res :=
  onCore "RMAXUPD" 0x1407 w (s.exeReady c) (s.reduceStep (coreKey c) 7 w)

/-- RSUMACC (R110). -/
def execRsumacc (c : CoreId) (w : InstrWord) (s : State) : Res :=
  onCore "RSUMACC" 0x1408 w (s.exeReady c) (s.reduceStep (coreKey c) 8 w)

/-- GNS_MARK (R111): adds its immediate to GNS_COUNT, which saturates. -/
def execGnsMark (c : CoreId) (w : InstrWord) (s : State) : Res :=
  let k := coreKey c
  onCore "GNS_MARK" 0x1410 w (s.exeReady c)
    ((s.modCore k (fun c => { c with gns := { c.gns with count := satAdd c.gns.count (wx w 0 0 32) } })).issueExe k)

end Sys2Proof.Machine
end

