-- ==== Sys2Proof/Machine/Vector.lean ====
section
/-!
DEFINITION. The vector engine (R98 to R105, R107, R130): lane operations with their taps, and VLOAD and VSTORE (R102, R103).
-/
namespace Sys2Proof.Machine

/-- A truth value as FP32 (R105). -/
def cmpRes (b : Bool) : FRes := ⟨if b then 0x3F800000 else 0, {}⟩

/-- Comparisons (R105): unordered operands hold only CMP.UNORD. -/
def cmpVal (r : Nat) (a b : Word32) : Bool :=
  let x := val32 a
  let y := val32 b
  let un := isNan x || isNan y
  match r with
  | 0 => !un && !ltVal x y && !ltVal y x
  | 1 => !un && ltVal x y
  | 2 => !un && !ltVal y x
  | _ => un

/-- SEL(c, a, b) (R105). -/
def selVal (a b c : Word32) : Word32 := if isNan (val32 c) || isZero (val32 c) then b else a

/-- CVT.I2F in a rounding mode (R38, R104). -/
def i2f (mode : RMode) (a : Word32) : FRes :=
  let r := fp32L.ofFin mode false (decide (a.toInt < 0)) a.toInt.natAbs 0 false
  ⟨BitVec.ofNat 32 r.1, r.2⟩

/-- CVT.F2I in a rounding mode (R39). -/
def f2i (mode : RMode) (a : Word32) : FRes := let r := toInt 32 mode (val32 a); ⟨BitVec.ofNat 32 r.1, r.2⟩

/-- The lane operations by nn (R104, R105, R130). -/
def laneOp (nn : Nat) (mode : RMode) (a b c : Word32) : FRes :=
  match nn with
  | 0x00 => fadd a b
  | 0x01 => fsub a b
  | 0x02 => fmul a b
  | 0x03 => ffma a b c
  | 0x04 => ffms a b c
  | 0x05 => fneg a
  | 0x06 => fabs a
  | 0x08 => fmax a b
  | 0x09 => fmin a b
  | 0x0A => cmpRes (cmpVal 0 a b)
  | 0x0B => cmpRes (cmpVal 1 a b)
  | 0x0C => cmpRes (cmpVal 2 a b)
  | 0x0D => cmpRes (cmpVal 3 a b)
  | 0x0E => ⟨selVal a b c, {}⟩
  | 0x10 => ⟨a + b, {}⟩
  | 0x11 => ⟨a - b, {}⟩
  | 0x12 => ⟨if a.toInt ≤ b.toInt then a else b, {}⟩
  | 0x13 => ⟨if a.toInt ≥ b.toInt then a else b, {}⟩
  | 0x14 => ⟨a &&& b, {}⟩
  | 0x15 => ⟨a ||| b, {}⟩
  | 0x16 => ⟨a ^^^ b, {}⟩
  | 0x17 => ⟨BitVec.ofNat 32 (shiftBy 0 32 a.toNat b.toNat), {}⟩
  | 0x18 => ⟨BitVec.ofNat 32 (shiftBy 1 32 a.toNat b.toNat), {}⟩
  | 0x19 => ⟨BitVec.ofNat 32 (shiftBy 2 32 a.toNat b.toNat), {}⟩
  | 0x1C => ⟨a, {}⟩
  | 0x1D => f2i mode a
  | 0x1E => i2f mode a
  | 0x20 => fdiv a b
  | 0x21 => frcp a
  | 0x22 => fsqrt a
  | 0x23 => frsqrt a
  | 0x24 => fexp2 a
  | 0x25 => flog2 a
  | _ => fexp2s a b

/-- Operand b of element (i, j) by its mode (R99, R130). -/
def Core.laneB (c : Core) (w : InstrWord) (i j : Nat) : Word32 :=
  match wm w 22 2 with
  | 0 => at64 (c.lane (selB w)) i j
  | 1 => at64 (c.lane (selB w)) (wx w 0 32 6) j
  | 2 => at64 (c.lane (selB w)) i (wx w 0 32 6)
  | _ => BitVec.ofNat 32 (wx w 0 0 32)

/-- The rounding of a lane conversion (R38); SR into a tile buffer has no stated address and draws free values (notes/assumptions/22.md). -/
def laneMode (w : InstrWord) (free i j : Nat) : RMode :=
  match wm w 28 2 with
  | 1 => .sr ((Config.freeWord (free + 64 * i + j)).toNat % 65536)
  | 2 => .rtz
  | _ => .rne

/-- The result of a lane instruction at (i, j): a unary operation with no operand a reads operand b. -/
def Core.laneRes (c : Core) (nn : Nat) (w : InstrWord) (free i j : Nat) : FRes :=
  let b := c.laneB w i j
  let a := if vecUnary.contains nn ∧ selA w = 0 then b else at64 (c.lane (selA w)) i j
  laneOp nn (laneMode w free i j) a b (at64 (c.lane (selC w)) i j)

/-- The rows and masked columns of an instruction, as element numbers 64 × i + j (R98). -/
def laneCells (w : InstrWord) : List Nat :=
  ((List.range (wm w 16 6 + 1)).map (fun i => ((List.range 64).filter (fun j => w.imm.getLsbD j)).map (fun j => 64 * i + j))).flatten

/-- A lane instruction (R98, R104, R107): its result, and its tap over the rows it wrote. -/
def State.laneStep (s : State) (k nn : Nat) (w : InstrWord) : State :=
  let x := s.core k
  let rs := (laneCells w).map (fun n => (n, x.laneRes nn w s.free (n / 64) (n % 64)))
  let out : Table Word32 := rs.map (fun r => (r.1, r.2.v))
  let made := rs.foldl (fun (m : Made) r => m.add r.2.made) {}
  let y := x.setLane (selD w) (out.foldl (fun t e => tset t e.1 e.2) (x.lane (selD w)))
  let tap := wm w 24 4
  let z := if tap = 0 then (y, made)
    else
      let r := y.reduce (tap - 1) (redSpecOf w (wx w 0 48 8)) (fun i j => tget out (64 * i + j) 0)
      (r.1, made.add r.2)
  let s := (s.setCore k z.1).tallyTile x.exeTile z.2
  ({ s with free := if (nn = 0x1D ∨ nn = 0x1E) ∧ wm w 28 2 = 1 then s.free + 4096 else s.free }).issueExe k

/-! ### VLOAD and VSTORE -/

/-- Bytes of one row of 64 elements, and where the scales of a tile of rows begin (R102, R124). -/
def tileRow (fmt : Nat) : Nat := elemBytes fmt 64
def tileScales (fmt rows : Nat) : Nat := ceilDiv (rows * tileRow fmt) 64 * 64

/-- Whether row i of a tile lies in its range, with its scales. -/
def rowFits (fmt rows len i : Nat) : Bool :=
  decide ((i + 1) * tileRow fmt ≤ len) && (!isMx fmt || decide (tileScales fmt rows + 2 * i + 2 ≤ len))

/-- An element widened into a lane (R37, R102): FP32 and INT32 as they stand. -/
def laneIn (fmt code scale : Nat) : FRes :=
  if fmt = 0 ∨ fmt = 6 then ⟨BitVec.ofNat 32 code, {}⟩
  else if isMx fmt then widenMx fmt code scale else ⟨widen fmt code, {}⟩

/-- VLOAD (R102): a tile from the scratchpad into a tile buffer or a shadow tile (R99). VLOAD has no POP bit: a data-queue
operand is popped by it (notes/assumptions/78.md). A row outside the range has no stated value (notes/assumptions/23.md). -/
def execVload (c : CoreId) (w : InstrWord) (s : State) : Res :=
  let k := coreKey c
  let x := s.core k
  let fmt := wm w 24 4
  let rows := wm w 16 6 + 1
  let src := x.source (selA w) (wx w 0 0 32)
  let elem := fun (n : Nat) =>
    let i := n / 64
    let j := n % 64
    if rowFits fmt rows src.2 i then
      let code := elemAt fmt (x.bytes (src.1 + i * tileRow fmt) (tileRow fmt)) j
      laneIn fmt code (memRead x.spad (src.1 + tileScales fmt rows + 2 * i + j / 32)).toNat
    else (⟨BitVec.ofNat 32 (Config.freeWord (s.free + n)).toNat, {}⟩ : FRes)
  let rs := (laneCells w).map (fun n => (n, elem n))
  let t := rs.foldl (fun t r => tset t r.1 r.2.v) (x.lane (selD w))
  let made := rs.foldl (fun (m : Made) r => m.add r.2.made) {}
  let eff := ((({ s with free := s.free + 4096 }).modCore k (fun c => c.setLane (selD w) t)).tallyTile x.exeTile made).popSource k (selA w) true
  onCore "VLOAD" 0x1330 w (s.exeReady c) (s.exeOr k (x.sourceWait (selA w)) (eff.issueExe k))

/-- The base address of the draws of a VSTORE with SR (R103). -/
def vstoreBase (c : Core) (w : InstrWord) : Nat :=
  let f := wx w 0 64 32
  let td := (c.exeTile.td (bitsOf f 0 3)).toNat
  let disp := signedOf (bitsOf f 7 25) 25 * 64
  let ln := if bitOf f 6 then (c.loop (bitsOf f 3 3)).toNat * wx w 0 32 24 else 0
  (((td : Int) + disp + (ln : Int)) % ((2 ^ 56 : Nat) : Int)).toNat

/-- The rounding of element n of a VSTORE (R42, R103). -/
def vstoreMode (job : BitVec 16) (c : Core) (w : InstrWord) (width n : Nat) : RMode :=
  match wm w 28 2 with
  | 1 => .sr (srDraw job (BitVec.ofNat 32 (wx w 0 96 32)) ((vstoreBase c w + n * width) % 2 ^ 56) 3)
  | 2 => .rtz
  | _ => .rne

/-- A lane value converted for the scratchpad (R39, R43, R102): FP32 and INT32 as they stand, any other format from FP32. -/
def laneOut (fmt : Nat) (mode : RMode) (sat : Bool) (v : Word32) : Nat × Made :=
  if fmt = 0 ∨ fmt = 6 then (v.toNat, {}) else narrow fmt mode sat v

/-- The bytes a plain VSTORE writes: address and bytes, element by element. -/
def plainStores (job : BitVec 16) (c : Core) (w : InstrWord) (fmt base len : Nat) (t : Table Word32) :
    List (Nat × List Byte) × Made :=
  let wd := elemBits fmt / 8
  let rows := wm w 16 6 + 1
  (laneCells w).foldl
    (fun acc n =>
      if rowFits fmt rows len (n / 64) then
        let r := laneOut fmt (vstoreMode job c w wd n) (wx w 0 56 1 == 0) (tget t n 0)
        (acc.1 ++ [(base + n * wd, natLE r.1 wd)], acc.2.add r.2)
      else acc) ([], {})

/-- The half-rows that a VSTORE to an MX format writes: those with a column in the mask (R98, R102). -/
def halfRows (w : InstrWord) : List Nat :=
  (List.range (2 * (wm w 16 6 + 1))).filter (fun h => (List.range 32).any (fun j => w.imm.getLsbD (32 * (h % 2) + j)))

/-- The bytes that a VSTORE to an MX format writes, block by block (R41): the scale of the whole half-row, and the codes of the elements
in the mask, those outside it left as they are (R98, notes/assumptions/26.md). -/
def mxStores (job : BitVec 16) (c : Core) (w : InstrWord) (fmt base len : Nat) (t : Table Word32) :
    List (Nat × List Byte) × Made :=
  let rows := wm w 16 6 + 1
  let bb := elemBytes fmt 32
  (halfRows w).foldl
    (fun acc h =>
      if rowFits fmt rows len (h / 2) then
        let ns := (List.range 32).map (fun j => 32 * h + j)
        let modes := ns.map (fun n => if wm w 28 2 = 1 then vstoreMode job c w 1 n else .rne)
        let q := quantiseElems fmt modes (ns.map (fun n => tget t n 0))
        let old := c.bytes (base + h * bb) bb
        let inMask := fun (j : Nat) => w.imm.getLsbD (32 * (h % 2) + j)
        let codes := (List.range 32).map (fun j => if inMask j then (q.2.1.getD j (0, {})).1 else elemAt fmt old j)
        let made := (List.range 32).foldl (fun (m : Made) j => if inMask j then m.add (q.2.1.getD j (0, {})).2 else m) q.2.2
        (acc.1 ++ [(base + h * bb, packElems fmt codes), (base + tileScales fmt rows + h, [BitVec.ofNat 8 q.1])], acc.2.add made)
      else acc) ([], {})

/-- VSTORE (R102, R103): a tile buffer, or a shadow tile (R99), to the scratchpad. A data-queue entry whose range it takes stays in its
queue (notes/assumptions/78.md). -/
def execVstore (c : CoreId) (w : InstrWord) (s : State) : Res :=
  let k := coreKey c
  let x := s.core k
  let fmt := wm w 24 4
  let dst := x.source (selD w) (wx w 0 0 32)
  let job := s.drawJob x.exeTile.ctx
  let t := x.lane (selA w)
  let r := if isMx fmt then mxStores job x w fmt dst.1 dst.2 t else plainStores job x w fmt dst.1 dst.2 t
  let eff := (s.modCore k (fun c => { c with spad := r.1.foldl (fun m e => memWriteN m e.1 e.2) c.spad })).tallyTile x.exeTile r.2
  onCore "VSTORE" 0x1331 w (s.exeReady c) (s.exeOr k (x.sourceWait (selD w)) (eff.issueExe k))

/-! ### The lane instructions -/

/-- ADD (R104). -/
def execVAdd (c : CoreId) (w : InstrWord) (s : State) : Res :=
  onCore "ADD" 0x1300 w (s.exeReady c) (s.laneStep (coreKey c) 0x00 w)

/-- SUB (R104). -/
def execVSub (c : CoreId) (w : InstrWord) (s : State) : Res :=
  onCore "SUB" 0x1301 w (s.exeReady c) (s.laneStep (coreKey c) 0x01 w)

/-- MUL (R104). -/
def execVMul (c : CoreId) (w : InstrWord) (s : State) : Res :=
  onCore "MUL" 0x1302 w (s.exeReady c) (s.laneStep (coreKey c) 0x02 w)

/-- FMA (R104). -/
def execVFma (c : CoreId) (w : InstrWord) (s : State) : Res :=
  onCore "FMA" 0x1303 w (s.exeReady c) (s.laneStep (coreKey c) 0x03 w)

/-- FMS (R104). -/
def execVFms (c : CoreId) (w : InstrWord) (s : State) : Res :=
  onCore "FMS" 0x1304 w (s.exeReady c) (s.laneStep (coreKey c) 0x04 w)

/-- NEG (R104). -/
def execVNeg (c : CoreId) (w : InstrWord) (s : State) : Res :=
  onCore "NEG" 0x1305 w (s.exeReady c) (s.laneStep (coreKey c) 0x05 w)

/-- ABS (R104). -/
def execVAbs (c : CoreId) (w : InstrWord) (s : State) : Res :=
  onCore "ABS" 0x1306 w (s.exeReady c) (s.laneStep (coreKey c) 0x06 w)

/-- MAX (R105). -/
def execVMax (c : CoreId) (w : InstrWord) (s : State) : Res :=
  onCore "MAX" 0x1308 w (s.exeReady c) (s.laneStep (coreKey c) 0x08 w)

/-- MIN (R105). -/
def execVMin (c : CoreId) (w : InstrWord) (s : State) : Res :=
  onCore "MIN" 0x1309 w (s.exeReady c) (s.laneStep (coreKey c) 0x09 w)

/-- CMP_EQ (R105). -/
def execCmpEq (c : CoreId) (w : InstrWord) (s : State) : Res :=
  onCore "CMP_EQ" 0x130A w (s.exeReady c) (s.laneStep (coreKey c) 0x0A w)

/-- CMP_LT (R105). -/
def execCmpLt (c : CoreId) (w : InstrWord) (s : State) : Res :=
  onCore "CMP_LT" 0x130B w (s.exeReady c) (s.laneStep (coreKey c) 0x0B w)

/-- CMP_LE (R105). -/
def execCmpLe (c : CoreId) (w : InstrWord) (s : State) : Res :=
  onCore "CMP_LE" 0x130C w (s.exeReady c) (s.laneStep (coreKey c) 0x0C w)

/-- CMP_UNORD (R105). -/
def execCmpUnord (c : CoreId) (w : InstrWord) (s : State) : Res :=
  onCore "CMP_UNORD" 0x130D w (s.exeReady c) (s.laneStep (coreKey c) 0x0D w)

/-- SEL (R105). -/
def execVSel (c : CoreId) (w : InstrWord) (s : State) : Res :=
  onCore "SEL" 0x130E w (s.exeReady c) (s.laneStep (coreKey c) 0x0E w)

/-- IADD (R104). -/
def execIAdd (c : CoreId) (w : InstrWord) (s : State) : Res :=
  onCore "IADD" 0x1310 w (s.exeReady c) (s.laneStep (coreKey c) 0x10 w)

/-- ISUB (R104). -/
def execISub (c : CoreId) (w : InstrWord) (s : State) : Res :=
  onCore "ISUB" 0x1311 w (s.exeReady c) (s.laneStep (coreKey c) 0x11 w)

/-- IMIN (R104). -/
def execIMin (c : CoreId) (w : InstrWord) (s : State) : Res :=
  onCore "IMIN" 0x1312 w (s.exeReady c) (s.laneStep (coreKey c) 0x12 w)

/-- IMAX (R104). -/
def execIMax (c : CoreId) (w : InstrWord) (s : State) : Res :=
  onCore "IMAX" 0x1313 w (s.exeReady c) (s.laneStep (coreKey c) 0x13 w)

/-- AND (R104). -/
def execVAnd (c : CoreId) (w : InstrWord) (s : State) : Res :=
  onCore "AND" 0x1314 w (s.exeReady c) (s.laneStep (coreKey c) 0x14 w)

/-- OR (R104). -/
def execVOr (c : CoreId) (w : InstrWord) (s : State) : Res :=
  onCore "OR" 0x1315 w (s.exeReady c) (s.laneStep (coreKey c) 0x15 w)

/-- XOR (R104). -/
def execVXor (c : CoreId) (w : InstrWord) (s : State) : Res :=
  onCore "XOR" 0x1316 w (s.exeReady c) (s.laneStep (coreKey c) 0x16 w)

/-- SHL (R104). -/
def execVShl (c : CoreId) (w : InstrWord) (s : State) : Res :=
  onCore "SHL" 0x1317 w (s.exeReady c) (s.laneStep (coreKey c) 0x17 w)

/-- SHR (R104). -/
def execVShr (c : CoreId) (w : InstrWord) (s : State) : Res :=
  onCore "SHR" 0x1318 w (s.exeReady c) (s.laneStep (coreKey c) 0x18 w)

/-- SRA (R104). -/
def execVSra (c : CoreId) (w : InstrWord) (s : State) : Res :=
  onCore "SRA" 0x1319 w (s.exeReady c) (s.laneStep (coreKey c) 0x19 w)

/-- MOV (R104). -/
def execVMov (c : CoreId) (w : InstrWord) (s : State) : Res :=
  onCore "MOV" 0x131C w (s.exeReady c) (s.laneStep (coreKey c) 0x1C w)

/-- CVT_F2I (R39). -/
def execCvtF2i (c : CoreId) (w : InstrWord) (s : State) : Res :=
  onCore "CVT_F2I" 0x131D w (s.exeReady c) (s.laneStep (coreKey c) 0x1D w)

/-- CVT_I2F (R104). -/
def execCvtI2f (c : CoreId) (w : InstrWord) (s : State) : Res :=
  onCore "CVT_I2F" 0x131E w (s.exeReady c) (s.laneStep (coreKey c) 0x1E w)

/-- DIV (R105). -/
def execVDiv (c : CoreId) (w : InstrWord) (s : State) : Res :=
  onCore "DIV" 0x1320 w (s.exeReady c) (s.laneStep (coreKey c) 0x20 w)

/-- RCP (R105). -/
def execVRcp (c : CoreId) (w : InstrWord) (s : State) : Res :=
  onCore "RCP" 0x1321 w (s.exeReady c) (s.laneStep (coreKey c) 0x21 w)

/-- SQRT (R105). -/
def execVSqrt (c : CoreId) (w : InstrWord) (s : State) : Res :=
  onCore "SQRT" 0x1322 w (s.exeReady c) (s.laneStep (coreKey c) 0x22 w)

/-- RSQRT (R105). -/
def execVRsqrt (c : CoreId) (w : InstrWord) (s : State) : Res :=
  onCore "RSQRT" 0x1323 w (s.exeReady c) (s.laneStep (coreKey c) 0x23 w)

/-- EXP2 (R105). -/
def execVExp2 (c : CoreId) (w : InstrWord) (s : State) : Res :=
  onCore "EXP2" 0x1324 w (s.exeReady c) (s.laneStep (coreKey c) 0x24 w)

/-- LOG2 (R105). -/
def execVLog2 (c : CoreId) (w : InstrWord) (s : State) : Res :=
  onCore "LOG2" 0x1325 w (s.exeReady c) (s.laneStep (coreKey c) 0x25 w)

/-- EXP2S (R105). -/
def execVExp2s (c : CoreId) (w : InstrWord) (s : State) : Res :=
  onCore "EXP2S" 0x1326 w (s.exeReady c) (s.laneStep (coreKey c) 0x26 w)

end Sys2Proof.Machine
end

