-- ==== Sys2Proof/Machine/Optimiser.lean ====
section
/-!
DEFINITION. The fused optimiser instructions (R112 to R117, R132).
-/
namespace Sys2Proof.Machine

/-- The address that an operand's draws count from (R132): TD + displacement + Ln × stride. -/
def optBase (c : Core) (f : Nat) : Nat :=
  let td := (c.exeTile.td (bitsOf f 0 3)).toNat
  let disp := signedOf (bitsOf f 8 32) 32
  let ln := if bitOf f 6 then (c.loop (bitsOf f 3 3)).toNat * bitsOf f 40 24 else 0
  (((td : Int) + disp + (ln : Int)) % ((2 ^ 56 : Nat) : Int)).toNat

/-- The values of one update: new w, m and v, and what was made. -/
structure OptRes where
  w : Word32
  m : Word32
  v : Word32
  made : Made
  deriving DecidableEq, Repr

/-- What several operations made. -/
def madeAll (l : List FRes) : Made := l.foldl (fun (m : Made) r => m.add r.made) {}

/-- ADAMW of one element after the gradient's scaling (R114). -/
def adamwElem (k : OptConst) (w m0 v0 g : Word32) : OptRes :=
  let t1 := fmul k.omb1 g
  let m := ffma k.b1 m0 t1.v
  let t2 := fmul g g
  let t3 := fmul k.omb2 t2.v
  let v := ffma k.b2 v0 t3.v
  let mh := fmul m.v k.bc1
  let vh := fmul v.v k.bc2
  let r := fsqrt vh.v
  let d := fadd r.v k.eps
  let u := fdiv mh.v d.v
  let u2 := ffma k.wd w u.v
  let n := ffma (fneg k.lr).v u2.v w
  ⟨n.v, m.v, v.v, madeAll [t1, m, t2, t3, v, mh, vh, r, d, u, u2, n]⟩

/-- MOMENTUM of one element after the gradient's scaling (R115). -/
def momentumElem (k : OptConst) (nesterov : Bool) (w m0 g : Word32) : OptRes :=
  let m := ffma k.mu m0 g
  let u := if nesterov then ffma k.mu m.v g else ⟨m.v, {}⟩
  let u2 := ffma k.wd w u.v
  let n := ffma (fneg k.lr).v u2.v w
  ⟨n.v, m.v, 0, madeAll [m, u, u2, n]⟩

/-- The running state of a fused instruction: scratchpad, tallies, skips. -/
structure OptAcc where
  spad : Mem
  made : Made := {}
  skips : Nat := 0
  deriving DecidableEq, Repr

/-- Element n of a range lies in it. -/
def inRange (r width n : Nat) : Bool := decide ((n + 1) * width ≤ rangeLen r)

/-- Element n updated (R112, R117): w, m and v rounded to bfloat16 by streams 0, 1 and 2; an element outside one of its ranges is
left alone (notes/assumptions/23.md). -/
def optElem (adam : Bool) (k : OptConst) (job : BitVec 16) (c : Core) (w : InstrWord) (acc : OptAcc) (n : Nat) : OptAcc :=
  let rw := wx w 0 0 32
  let rm := wx w 0 32 32
  let rv := wx w 0 64 32
  let rg := wx w 0 96 32
  let gf := wm w 24 2
  let gw := if gf = 0 then 4 else 2
  if !(inRange rw 2 n && inRange rm 2 n && (!adam || inRange rv 2 n) && inRange rg gw n) then acc
  else
    let rd := fun (r width : Nat) => leNat (memReadN acc.spad (rangeBase r + n * width) width)
    let g0 := if gf = 0 then BitVec.ofNat 32 (rd rg 4) else widen gf (rd rg 2)
    let g := fmul g0 k.gscale
    let odd := isNan (val32 g.v) || isInf32 g.v
    if wm w 22 1 = 1 ∧ odd then { acc with made := acc.made.add g.made, skips := acc.skips + 1 }
    else
      let w0 := widen 1 (rd rw 2)
      let m0 := widen 1 (rd rm 2)
      let r := if adam then adamwElem k w0 m0 (widen 1 (rd rv 2)) g.v else momentumElem k (wm w 23 1 == 1) w0 m0 g.v
      let put := fun (x : Mem × Made) (rng f : Nat) (v : Word32) (stream : Nat) =>
        let a := (optBase c f + 2 * n) % 2 ^ 56
        let q := narrow 1 (.sr (srDraw job k.s a stream)) true v
        (memWriteN x.1 (rangeBase rng + 2 * n) (natLE q.1 2), x.2.add q.2)
      let x := put (acc.spad, (acc.made.add g.made).add r.made) rw (wx w 1 0 64) r.w 0
      let x := put x rm (wx w 1 64 64) r.m 1
      let x := if adam then put x rv (wx w 2 0 64) r.v 2 else x
      { acc with spad := x.1, made := x.2 }

/-- A fused instruction over its rows and masked columns; without an OPT_STEP launch it raises OPT_NO_STEP (R113). -/
def State.optStepExe (s : State) (k : Nat) (adam : Bool) (w : InstrWord) : State :=
  let x := s.core k
  let t := x.exeTile
  match (s.grid? t.grid).bind (·.opt) with
  | none => (s.issueExe k).raise (s.tileErr k 0x0106 t 0 0)
  | some kc =>
    let r := (laneCells w).foldl (optElem adam kc (s.drawJob t.ctx) x w) { spad := x.spad }
    let s := s.modCore k (fun c => { c with spad := r.spad })
    let s := s.tallyTile t r.made
    let s := s.modCtx t.ctx (fun c => { c with nonfiniteSkips := satAdd c.nonfiniteSkips r.skips })
    (s.modGrid t.grid (fun g => { g with skips := g.skips + r.skips })).issueExe k

/-- ADAMW (R114). -/
def execAdamw (c : CoreId) (w : InstrWord) (s : State) : Res :=
  onCore "ADAMW" 0x1500 w (s.exeReady c) (s.optStepExe (coreKey c) true w)

/-- MOMENTUM (R115). -/
def execMomentum (c : CoreId) (w : InstrWord) (s : State) : Res :=
  onCore "MOMENTUM" 0x1501 w (s.exeReady c) (s.optStepExe (coreKey c) false w)

end Sys2Proof.Machine
end

