-- ==== Sys2Proof/Machine/Power.lean ====
section
/-!
DEFINITION. Power, clock and thermal control by the HRP (R28 to R30, R365, R404 to R407, R411), and the commands of families 0x08 and 0x0F
(R315, R329, R400).
-/
namespace Sys2Proof.Machine

/-! ### Clock states (R404, R365) -/

/-- A change of clock state: each CORE island pauses for at most 2.0 µs, which the stall tally of its cluster shows (R404). -/
def State.setClock (s : State) (n : Nat) : State :=
  if n = s.power.clock then s
  else
    let s := s.modPower (fun p => { p with clock := n })
    (List.range s.enabledClusters).foldl (fun (s : State) r =>
      let x := s.draw
      x.2.modCluster r (fun c => { c with stallCycles := c.stallCycles + BitVec.ofNat 64 (x.1.toNat % 3201) })) s

/-- Every STRICT context with a run is reset with STRICT_CLOCK_LOST (R365). -/
def State.strictLost (s : State) : State :=
  ((s.contexts.map (fun (e : Nat × Context) => e.1)).filter s.inStrictRun).foldl (fun (s : State) c => s.raise { code := 0x0304, ctx := some c }) s

/-- A safety action takes the clock to a lower state (R329, R365). -/
def State.safetyClock (s : State) (n : Nat) : State := if s.power.clock < n then s.strictLost.setClock n else s

/-! ### The control loop (R405) -/

/-- One step down of the power manager, at most one each ms: a clock state, or from the lowest a sixteenth of issue. -/
def State.powerStepDown (s : State) : State :=
  let p := s.power
  if (p.lastStep.map (fun t => decide (s.time < t + 1000000))).getD false then s
  else
    let s := s.modPower (fun p => { p with lastStep := some s.time })
    if p.clock < 3 then (s.setClock (p.clock + 1)).modPower (fun p => { p with throttle := p.throttle + 1 })
    else s.modPower (fun p => { p with gate := if p.gate > 2 then p.gate - 1 else p.gate })

/-- Time since when a condition has held. -/
def since (holds : Bool) (old : Option Nat) (now : Nat) : Option Nat := if holds then some (old.getD now) else none

/-- A condition has held for 10 ms. -/
def longSince (x : Option Nat) (now : Nat) : Bool :=
  match x with
  | some t => decide (t + 10000000 ≤ now)
  | none => false

/-- One step up: a sixteenth of issue while gated, else a clock state up to CEILING where no safety action holds it. -/
def State.powerStepUp (s : State) : State :=
  let p := s.power
  if p.gate < 16 then
    if longSince p.below90 s.time then s.modPower (fun p => { p with gate := p.gate + 1, below90 := some s.time }) else s
  else if p.ceiling < p.clock ∧ longSince p.below80 s.time ∧ !p.thermal ∧ !p.current ∧ !p.pmbusDead then
    (s.setClock (p.clock - 1)).modPower (fun p => { p with below80 := some s.time })
  else s

/-- The power manager on an average: in a STRICT run it holds the clock up to 3,600 W (R365). -/
def State.manage (s : State) (avg : Nat) : State :=
  let p := s.power
  if s.strictRuns then
    if avg > 3600 then ((if p.clock < 3 then s.strictLost else s).powerStepDown).modPower (fun p => { p with strictOverCap := false })
    else s.modPower (fun p => { p with strictOverCap := decide (avg > p.cap) })
  else
    let s := s.modPower (fun p => { p with strictOverCap := false })
    if avg > p.cap then s.powerStepDown else s.powerStepUp

/-- POWER_SAMPLE (R405): the average of the last 100 samples; the current safety action comes first. -/
def State.powerSampled (s : State) (watts : Nat) (over95A : Bool) : State :=
  let l := (watts :: s.power.samples).take 100
  let avg := l.foldl (· + ·) 0 / l.length
  let was := s.power.current
  let s := s.modPower (fun p =>
    { p with
      samples := l
      input := min avg 65535
      current := over95A
      below80 := since (decide (avg * 100 < p.cap * 80)) p.below80 s.time
      below90 := since (decide (avg * 100 < p.cap * 90)) p.below90 s.time })
  if over95A then (if was then s else s.raise { code := 0x0902 }).safetyClock 3 else s.manage avg

def execPowerSample (watts : Nat) (over95A : Bool) (s : State) : Res :=
  when "POWER_SAMPLE" (s.mainUp && !s.recov.hrpStopped) (s.powerSampled watts over95A)

/-! ### Thermal control (R406) -/

/-- Whether a thermal action holds after a reading, and since when the reading has been 5 °C below its limit. -/
def thermalHold (limit reading now : Nat) (on : Bool) (cool : Option Nat) : Bool × Option Nat :=
  if limit ≤ reading then (true, none)
  else if !on then (false, none)
  else if reading + 5 ≤ limit then
    let t := cool.getD now
    if t + 100000000 ≤ now then (false, none) else (true, some t)
  else (true, none)

/-- The stack part: which stacks run at the doubled refresh rate. -/
def doubledAfter (old : List (Nat × Option Nat)) (dramStacks : List Nat) (now : Nat) : List (Nat × Option Nat) :=
  dramStacks.zipIdx.filterMap (fun (e : Nat × Nat) =>
    let o := old.find? (fun (x : Nat × Option Nat) => x.1 == e.2)
    let h := thermalHold 95 e.1 now o.isSome (o.bind (fun (x : Nat × Option Nat) => x.2))
    if h.1 then some (e.2, h.2) else none)

/-- THERMAL_LIMIT, raised when an action begins (R406). -/
def State.thermalLimit (s : State) (began : Bool) (stack : Option Nat) (limit : Nat) : State :=
  if began then s.raise { code := 0x0901, unitKind := (if stack.isSome then 3 else 0), unitIndex := stack.getD 0, detail := limit } else s

/-- THERMAL_SAMPLE: readings kept, actions begun, held and ended, and the clock lowered. -/
def State.thermalSampled (s : State) (dies dramStacks : List Nat) : State :=
  let now := s.time
  let p := s.power
  let die := dies.foldl max 0
  let a := thermalHold 95 die now p.thermal95 p.cool95
  let b := thermalHold 105 die now p.thermal105 p.cool105
  let d := doubledAfter p.refreshDoubled dramStacks now
  let s := s.modPower (fun p =>
    { p with
      tempMax := min (max die (dramStacks.foldl max 0)) 255
      thermal95 := a.1
      cool95 := a.2
      thermal105 := b.1
      cool105 := b.2
      refreshDoubled := d })
  let s := dramStacks.zipIdx.foldl (fun (s : State) (e : Nat × Nat) => s.modStack e.2 (fun k => { k with temp := BitVec.ofNat 8 (min e.1 255) })) s
  let s := s.thermalLimit (a.1 && !p.thermal95) none 95
  let s := s.thermalLimit (b.1 && !p.thermal105) none 105
  let s := (d.map (fun (e : Nat × Option Nat) => e.1)).foldl (fun (s : State) k =>
    s.thermalLimit (!p.refreshDoubled.any (fun (x : Nat × Option Nat) => x.1 == k)) (some k) 95) s
  if 105 ≤ die then s.safetyClock 3
  else if 95 ≤ die ∨ dramStacks.any (fun t => decide (95 ≤ t)) then
    if (p.lastThermal.map (fun t => decide (now < t + 10000000))).getD false then s
    else (s.modPower (fun p => { p with lastThermal := some now })).safetyClock (min 3 (p.clock + 1))
  else s

def execThermalSample (dies : List Nat) (dramStacks : List Nat) (s : State) : Res :=
  when "THERMAL_SAMPLE" (s.mainUp && !s.recov.hrpStopped && dies.length == 6 && dramStacks.length == 8) (s.thermalSampled dies dramStacks)

/-- THERMAL_TRIP (R406): in the boot logic, with nothing of the HRP: in every state with standby in which the module is not held in reset and
the latch is not set. -/
def execThermalTrip (s : State) : Res :=
  when "THERMAL_TRIP" (s.boot.standby && (s.boot.state != .unpowered && s.boot.state != .inReset && s.boot.state != .tripped))
    (s.railsDown.modBoot (fun b => { b with state := .tripped, tripLatched := true, tripFlash := true }))

/-- PMBUS_RECOVERY (R411): three failures in a row and the line is dead until module reset. -/
def execPmbusRecovery (recovered : Bool) (s : State) : Res :=
  let n := s.power.pmbusFails + 1
  let eff :=
    if recovered then s.modPower (fun p => { p with pmbusFails := 0 })
    else if n < 3 then s.modPower (fun p => { p with pmbusFails := n })
    else (s.modPower (fun p => { p with pmbusFails := n, pmbusDead := true })).raise { code := 0x0904 }
  when "PMBUS_RECOVERY" (s.sideUp && !s.recov.hrpStopped && !s.power.pmbusDead) eff

/-! ### Family 0x08 (R315, R322, R329, R365) -/

/-- POWER_QUERY. -/
def execPowerQuery (src : CmdSource) (s : State) : Res :=
  let c := s.cmd! src
  let p := s.power
  let result := natLE p.input 2 ++ natLE p.cap 2 ++ [BitVec.ofNat 8 p.clock, BitVec.ofNat 8 p.flags, 0, 0] ++ natLE p.throttle.toNat 4
  when "POWER_QUERY" (s.runs src 0x0800) (if !c.restZero [] then s.badParam c else s.ok c result)

/-- A safety action holds the clock state or the power below a limit (R329). -/
def Power.safety (p : Power) : Bool := p.thermal || p.current || p.regulator

/-- How a master's command for a control fares: BUSY in a STRICT run, CONFLICT_LOST under a hold or a safety action, or performed (R322,
R329). -/
def State.controlled (s : State) (src : CmdSource) (hold held changes raises : Bool) (perform : State → State) : State :=
  let c := s.cmd! src
  let side := src == .mailbox
  if s.strictRuns ∧ !(side && hold) then s.status c stBusy
  else if !side ∧ held ∧ changes then s.finish c stConflictLost 1 []
  else if raises ∧ s.power.safety then s.finish c stConflictLost 2 []
  else
    let s := if s.strictRuns then s.strictLost else s
    (perform s).ok c

/-- Parameters of a control command: HOLD comes from the sideband alone. -/
def Cmd.holdOk (c : Cmd) (side : Bool) : Bool := decide (c.param 2 1 < 2) && (side || c.param 2 1 == 0)

/-- POWER_CAP. -/
def execPowerCap (src : CmdSource) (s : State) : Res :=
  let c := s.cmd! src
  let n := c.param 0 2
  let side := src == .mailbox
  let hold := bitOf (c.param 2 1) 0
  let eff :=
    if !c.restZero [(0, 3)] ∨ n < 1200 ∨ 3600 < n ∨ !c.holdOk side then s.badParam c
    else s.controlled src hold s.power.capHeld (n != s.power.cap) (decide (s.power.cap < n))
      (fun s => s.modPower (fun p => { p with cap := n, capHeld := if side then hold else p.capHeld }))
  when "POWER_CAP" (s.runs src 0x0801) eff

/-- CLOCK_CEILING: a clock state above the new ceiling is left at once. -/
def execClockCeiling (src : CmdSource) (s : State) : Res :=
  let c := s.cmd! src
  let n := c.param 0 1
  let side := src == .mailbox
  let hold := bitOf (c.param 2 1) 0
  let eff :=
    if !c.restZero [(0, 1), (2, 1)] ∨ 3 < n ∨ !c.holdOk side then s.badParam c
    else s.controlled src hold s.power.ceilingHeld (n != s.power.ceiling) (decide (n < s.power.ceiling) && decide (n < s.power.clock))
      (fun s => (s.modPower (fun p => { p with ceiling := n, ceilingHeld := if side then hold else p.ceilingHeld })).setClock
        (max s.power.clock n))
  when "CLOCK_CEILING" (s.runs src 0x0802) eff

/-- Stores and atomics of the module in flight: accesses without an answer, and those that the cores hold on confirmed paths (R165). -/
def State.storesInFlight (s : State) : Nat :=
  s.fabric.accesses.countP (fun a => match a.purpose, a.stage with
    | _, .timedOut _ => false
    | .store _ _, _ => true
    | .atomic _ _ _ _, _ => true
    | _, _ => false) +
  (s.cores.map (fun (e : Nat × Core) => e.2.heldStores)).foldl (· + ·) 0

/-- The drain of R166 has ended: no store in flight, and no command runs but the one that asked. -/
def State.storesDrained (s : State) (src : CmdSource) : Bool :=
  s.storesInFlight == 0 && (List.range 64).all (fun c => (s.openCmds c).all (fun x => x.src == src))

/-- POWER_DOWN: drains when first given, and ends once it has drained: the reply, the rails down, MAIN_GO cleared (R165, R166). -/
def execPowerDown (src : CmdSource) (s : State) : Res :=
  let c := s.cmd! src
  let begin_ := s.modPower (fun p => { p with down := true, drain := (0, 0) })
  let done :=
    let st := if s.power.drain.2 ≠ 0 then stFabricDead else stOk
    ((s.finish c st 0 (natLE s.power.drain.1 4)).railsDown).modBoot (fun b => { b with state := .readyMain, mainGo := false })
  if !c.restZero [] then when "POWER_DOWN" (s.runs src 0x0803) (s.badParam c)
  else if !s.power.down then when "POWER_DOWN" (s.runs src 0x0803) begin_
  else when "POWER_DOWN" (s.runs src 0x0803 && s.storesDrained src) done

/-! ### Family 0x0F (R315, R400) -/

/-- FW_QUERY. -/
def execFwQuery (src : CmdSource) (s : State) : Res :=
  let c := s.cmd! src
  let staged := if s.boot.staged then s.boot.stagedVersion.toNat else 0
  when "FW_QUERY" (s.runs src 0x0F00)
    (if !c.restZero [] then s.badParam c else s.ok c (natLE s.boot.version.toNat 4 ++ natLE staged 4))

/-- FW_STAGE: the inactive bank is written, then verified there (R399, R400). -/
def execFwStage (src : CmdSource) (v : BankVerdict) (s : State) : Res :=
  let c := s.cmd! src
  let eff :=
    if !c.restZero [(0, 12)] then s.badParam c
    else
      match judgeBank s.fuses.security v with
      | .ok x => (s.modBoot (fun b => { b with staged := true, stagedVersion := x.1 })).ok c (natLE x.1.toNat 4)
      | .error _ => (s.modBoot (fun b => { b with staged := false, stagedVersion := 0 })).badParam c
  when "FW_STAGE" (s.runs src 0x0F01) eff

/-- FW_ACTIVATE: for the next module reset. -/
def execFwActivate (src : CmdSource) (s : State) : Res :=
  let c := s.cmd! src
  let eff :=
    if !c.restZero [] ∨ !s.boot.staged then s.badParam c
    else (s.modBoot (fun b => { b with activeB := !b.runningB })).ok c
  when "FW_ACTIVATE" (s.runs src 0x0F02) eff

end Sys2Proof.Machine
end

