-- ==== Sys2Proof/Machine/Sideband.lean ====
section
/-!
DEFINITION. The SMBus target with its mailbox and alerts (R328, R329, R397, R408 to R410, R444), and the test port (R413).
-/
namespace Sys2Proof.Machine

/-! ### What every state answers (R397, R409) -/

/-- The code of a module state (R397). -/
def ModState.code : ModState → Nat
  | .standbyBoot => 0
  | .bootFailed => 1
  | .readyMain => 2
  | .ramping => 3
  | .init => 4
  | .running => 5
  | .stopped => 6
  | .inReset => 7
  | .tripped => 8
  | .powerFault => 9
  | .unpowered => 0xFF

/-- The presence block (R409). -/
def State.presenceBlock (s : State) : List Byte :=
  let f := s.fuses
  let b := s.boot
  let mask := f.mask0.toNat + 2 ^ 38 * f.mask1.toNat + 2 ^ 76 * f.mask2.toNat + 2 ^ 114 * f.mask3.toNat
  natLE 0x0001 2 ++ natLE 0x4800 2 ++
  [f.grade, steppingCode, BitVec.ofNat 8 s.enabledClusters, BitVec.ofNat 8 b.state.code] ++ natLE b.version.toNat 4 ++
  [b.status, BitVec.ofNat 8 b.retiredFlash.length, 0, 0] ++ natLE f.serial.toNat 8 ++ natLE mask 19 ++ zeros 5

/-- PRESENCE. -/
def execPresence (s : State) : Res :=
  when "PRESENCE" s.boot.standby (s.smbus true (fun s => s.emit (.smbus s.presenceBlock)))

/-- SB_STATUS (R408). -/
def State.sbStatusBytes (s : State) : List Byte :=
  let b := s.boot
  let flags := b2n b.mainGo + 2 * b2n s.mainUp + 4 * b2n b.resetPending + 8 * b2n s.side.mbox.isSome
  [BitVec.ofNat 8 b.state.code, BitVec.ofNat 8 flags] ++ natLE s.errs.alerts.length 2 ++ natLE s.side.pecErrors.toNat 2 ++ zeros 2

def execSbStatus (s : State) : Res :=
  when "SB_STATUS" s.boot.standby (s.smbus (s.boot.state != .inReset) (fun s => s.emit (.smbus s.sbStatusBytes)))

/-! ### Control and register transport (R329, R408) -/

/-- A change of the sideband transport. -/
def State.modSide (s : State) (f : Sideband → Sideband) : State := { s with side := f s.side }

/-- ALERT_EN_WRITE (R408, R410). -/
def execAlertEnWrite (on : Bool) (s : State) : Res :=
  when "ALERT_EN_WRITE" s.boot.standby (s.smbus s.sideUp (fun s => s.modSide (fun x => { x with alertEn := on })))

/-- A block write whose PEC is wrong or missing is discarded and counted (R408). -/
def State.blockWrite (s : State) (pecOk : Bool) (eff : State → State) : State :=
  if pecOk then eff s else s.modSide (fun x => { x with pecErrors := BitVec.ofNat 16 (min 65535 (x.pecErrors.toNat + 1)) })

/-- REG_ADDR. -/
def execRegAddr (offset : Word32) (pecOk : Bool) (s : State) : Res :=
  when "REG_ADDR" s.boot.standby
    (s.smbus s.sideUp (fun s => s.blockWrite pecOk (fun s => s.modSide (fun x => { x with regAddr := offset }))))

/-- The address of REG_DATA advances by 8. -/
def State.advanceReg (s : State) : State := s.modSide (fun x => { x with regAddr := x.regAddr + 8 })

/-- REG_DATA read: the register at REG_ADDR as an 8-byte access of the sideband; an unaligned address reads zero (R332). -/
def State.regData (s : State) : State :=
  let a := s.side.regAddr.toNat
  let x := if a % 8 = 0 then s.readReg .sideband a else (0, s)
  (x.2.emit (.smbus (natLE x.1.toNat 8))).advanceReg

def execRegDataRead (s : State) : Res := when "REG_DATA_READ" s.boot.standby (s.smbus s.sideUp (fun s => s.regData))

/-- REG_DATA write (R329, R334, R408): where a host write meets it, the host write is discarded and counted. -/
def State.putRegData (s : State) (v : Word64) (hostMeets : Bool) : State :=
  let a := s.side.regAddr.toNat
  let s := if a % 8 = 0 then s.writeReg .sideband a fullMask v else s.refuseWrite .sideband 0
  let s := if hostMeets then s.modGlobal (fun g => { g with conflictsLost := satAdd g.conflictsLost 1 }) else s
  s.advanceReg

def execRegDataWrite (v : Word64) (pecOk : Bool) (hostMeets : Bool) (s : State) : Res :=
  when "REG_DATA_WRITE" (s.boot.standby && (!hostMeets || s.hostUp))
    (s.smbus s.sideUp (fun s => s.blockWrite pecOk (fun s => s.putRegData v hostMeets)))

/-! ### The mailbox (R328, R408) -/

/-- Commands that the mailbox accepts. -/
def mailboxTakes (opcode : Nat) : Bool := [8, 10, 15].contains (opcode / 256) || opcode == 0x0103

/-- Header checks of a mailbox slot: 0xFF in CONTEXT and QUEUE, and R312. -/
def mailboxHeaderOk (slot : List Byte) : Bool :=
  field slot 8 1 == 0xFF && field slot 9 1 == 0xFF && decide (field slot 2 1 < 2) && field slot 12 4 == 0 && decide (field slot 3 1 ≤ 6)

/-- A slot taken: handed to the HRP, or answered at once. -/
def State.takeMail (s : State) (slot : List Byte) : State :=
  let c : Cmd := { src := .mailbox, slot := slot, datum := s.datum.counter, time := s.time }
  if !mailboxHeaderOk slot then s.writeReply c stBadParam 0 []
  else if !knownOpcodes.contains c.opcode then s.writeReply c stBadOpcode 0 []
  else if !mailboxTakes c.opcode then s.writeReply c stDenied 0 []
  else { s.modSide (fun x => { x with mbox := some slot }) with mboxCmd := some c }

/-- MBOX_CMD: not acknowledged while a command is pending. -/
def execMboxCmd (slot : List Byte) (pecOk : Bool) (s : State) : Res :=
  when "MBOX_CMD" (s.boot.standby && slot.length == 64)
    (s.smbus (s.sideUp && s.side.mbox.isNone) (fun s => s.blockWrite pecOk (fun s => s.takeMail slot)))

/-- MBOX_REPLY. -/
def execMboxReply (s : State) : Res :=
  when "MBOX_REPLY" s.boot.standby (s.smbus s.sideUp (fun s => s.emit (.smbus (slice s.side.mboxReply 0 32))))

/-! ### Alerts (R385, R408, R410) -/

/-- ALERT_READ: the oldest record, and an alarm of the backlog into its place; zeros from an empty mailbox (notes/assumptions/49.md). -/
def State.readAlert (s : State) : State :=
  match s.errs.alerts with
  | [] => s.emit (.smbus (zeros 64))
  | r :: rest =>
    (s.modErrs (fun e => { e with alerts := rest ++ e.alertBacklog.take 1, alertBacklog := e.alertBacklog.drop 1 })).emit (.smbus r.bytes)

def execAlertRead (s : State) : Res := when "ALERT_READ" s.boot.standby (s.smbus s.sideUp (fun s => s.readAlert))

/-- ALERT# is held low. -/
def State.alertLow (s : State) : Bool := s.sideUp && s.side.alertEn && !s.errs.alerts.isEmpty

/-- ALERT_RESPONSE: the target's own address in bits [7:1]. -/
def execAlertResponse (s : State) : Res :=
  let a := 0x58 + ((s.boot.addr.map (fun x => x.toNat)).getD 0)
  when "ALERT_RESPONSE" s.boot.standby (s.smbus s.alertLow (fun s => s.emit (.smbus [BitVec.ofNat 8 (2 * a)])))

/-- SMBUS_LINE_TIMEOUT (R410, R444). -/
def execSmbusLineTimeout (s : State) : Res :=
  when "SMBUS_LINE_TIMEOUT" s.boot.standby (s.modSide (fun x => { x with deafUntil := some (s.time + 10000) }))

/-! ### The test port (R413) -/

/-- An instruction loaded into the test port: cells that EXTEST drives are driven no more. -/
def State.loadIr (s : State) (ir : JtagIr) : State := { s with jtag := { s.jtag with ir := ir, driven := [] } }

/-- EXTEST and SAMPLE/PRELOAD take effect. -/
def State.testAllowed (s : State) : Bool := [ModState.inReset, .standbyBoot, .bootFailed, .readyMain].contains s.boot.state

/-- JTAG_BYPASS. -/
def execJtagBypass (s : State) : Res := when "JTAG_BYPASS" s.boot.standby (s.loadIr .bypass)

/-- IDCODE: version 1, part number 0x4800; its low bits are open (notes/assumptions/50.md). -/
def idcode : BitVec 32 := 0x14800000 ||| (Config.idcodeLow.setWidth 32)

/-- JTAG_IDCODE: shifted out from bit 0. -/
def execJtagIdcode (s : State) : Res :=
  when "JTAG_IDCODE" s.boot.standby ((s.loadIr .idcode).emit (.jtag ((List.range 32).map (fun i => idcode.getLsbD i))))

/-- JTAG_SAMPLE_PRELOAD. -/
def execJtagSamplePreload (contacts : List Bool) (s : State) : Res :=
  let t := s.loadIr .samplePreload
  when "JTAG_SAMPLE_PRELOAD" s.boot.standby
    (if s.testAllowed then ({ t with jtag := { t.jtag with captured := contacts } }).emit (.jtag contacts) else s.loadIr .bypass)

/-- JTAG_EXTEST. -/
def execJtagExtest (cells : List Bool) (s : State) : Res :=
  let t := s.loadIr .extest
  when "JTAG_EXTEST" s.boot.standby
    (if s.testAllowed then { t with jtag := { t.jtag with driven := cells } } else s.loadIr .bypass)

/-- A token that checks unlocks: every context reset, and an alarm, to which no rule gives a code (notes/assumptions/51.md). -/
def State.unlock (s : State) : State :=
  let x := s.draw
  let code := x.1.toNat % 65536
  let s := { x.2 with jtag := { s.jtag with unlocked := true } }
  let s := s.queueRec { s.record { code := code } with alarm := true, action := 1 }
  ((s.contexts.filter (fun (e : Nat × Context) => e.2.state != 0)).map (fun (e : Nat × Context) => e.1)).foldl
    (fun (s : State) c => s.askCtxReset c code) s

/-- DEBUG_UNLOCK: the HRP checks the token. -/
def execDebugUnlock (tokenOk : Bool) (s : State) : Res :=
  when "DEBUG_UNLOCK" (s.sideUp && !s.recov.hrpStopped) (if tokenOk then s.unlock else s)

end Sys2Proof.Machine
end

