-- ==== Sys2Proof/Machine/TrainSteps.lean ====
section
/-!
DEFINITION. Gradient-noise statistics (R299 to R302) and step replay (R303 to R306). The layout of a recording's header and snapshots is the
model's (notes/assumptions/35.md).
-/
namespace Sys2Proof.Machine

/-! ### GNS_READ (R300, R301) -/

/-- Cores whose registers hold statistics of a context, by rank and core. -/
def State.gnsCores (s : State) (c : Nat) : List Nat := (s.cores.filter (fun e => e.2.prevCtx == some c)).map (·.1)

/-- LOCAL and REDUCED as pairs in words, and COUNT. -/
structure GnsSum where
  loc : Word64
  red : Word64
  count : Nat
  deriving DecidableEq, Repr

/-- The registers of one core or the accumulator as a sum. -/
def Gns.sum (g : Gns) : GnsSum := ⟨pairWord (g.localS, g.localC), pairWord (g.redS, g.redC), g.count.toNat⟩

/-- Two sums combined, the first one first (R50). -/
def GnsSum.fold (a b : GnsSum) : GnsSum := ⟨pairComb a.loc b.loc, pairComb a.red b.red, a.count + b.count⟩

/-- The statistics of a context: a copy of the accumulator with every core's registers folded into it in order (R300). -/
def State.gnsTotal (s : State) (c : Nat) : GnsSum :=
  (s.gnsCores c).foldl (fun t k => t.fold (s.core k).gns.sum) (s.ctx c).gns.sum

/-- CLEAR: the registers of those cores and the accumulator are zeroed. -/
def State.gnsClear (s : State) (c : Nat) : State :=
  ((s.gnsCores c).foldl (fun s k => s.modCore k (fun x => { x with gns := {} })) s).modCtx c (fun x => { x with gns := {} })

/-- The 24 result bytes. -/
def GnsSum.bytes (g : GnsSum) : List Byte := natLE g.loc.toNat 8 ++ natLE g.red.toNat 8 ++ natLE (g.count % 2 ^ 64) 8

/-- The parameters of GNS_READ. -/
def gnsOk (c : Cmd) : Bool := c.restZero [(0, 2)] && decide (c.param 0 1 < 4)

/-- GNS_READ (R300). -/
def execGnsRead (src : CmdSource) (s : State) : Res :=
  let cmd := s.cmd! src
  let c := srcCtx src
  let t := s.gnsTotal c
  when "GNS_READ" (s.runs src 0x0601 && !bitOf (cmd.param 0 1) 1)
    (if gnsOk cmd then (if bitOf (cmd.param 0 1) 0 then s.gnsClear c else s).ok cmd t.bytes else s.badParam cmd)

/-- GNS_READ with PLAT goes to the collective engine (R301). -/
def State.gnsColl (s : State) (src : CmdSource) (p : Nat) (y : Plat) : State :=
  let cmd := s.cmd! src
  let c := srcCtx src
  let t := s.gnsTotal c
  let s := if bitOf (cmd.param 0 1) 0 then s.gnsClear c else s
  let x := s.newColl cmd .gns p y
  s.beginColl src { x with
    len := 1
    input := [t.loc, t.red, BitVec.ofNat 64 t.count]
    reformable := y.reformable && !(s.ctx c).strict }

/-- GNS_READ_PLAT (R301). -/
def execGnsReadPlat (src : CmdSource) (s : State) : Res :=
  let cmd := s.cmd! src
  when "GNS_READ_PLAT" (s.runs src 0x0601 && bitOf (cmd.param 0 1) 1 && cmd.bound.isSome)
    (match (cmd.bound.getD none).bind (fun p => ((s.plat? p).filter (fun y => y.owner == srcCtx src)).map (fun y => (p, y))) with
     | none => s.badParam cmd
     | some (p, y) =>
       if !gnsOk cmd then s.badParam cmd
       else if y.excluded then s.status cmd stAborted
       else s.gnsColl src p y)

/-! ### Recording (R303, R304) -/

/-- Smallest and largest record region. -/
def replayMin : Nat := 2097152
def replayMax : Nat := 68719476736

/-- The snapshot ranges of a list: address and length. -/
def snapList (b : List Byte) (n : Nat) : List (Nat × Nat) :=
  (List.range n).map (fun i => (field b (16 * i) 8, field b (16 * i + 8) 8))

/-- Bytes that a snapshot takes in the region: address, length, and the bytes up to a multiple of 8. -/
def snapSize (r : Nat × Nat) : Nat := 16 + 8 * ceilDiv r.2 8

/-- This module's index in the module set of a context. -/
def State.setIndex (s : State) (c : Nat) : Nat := (s.ctx c).moduleSet.idxOf (BitVec.ofNat 15 s.self)

/-- The 64-byte header of a recording. -/
def State.replayHeader (s : State) (c snaps : Nat) : List Byte :=
  let x := s.ctx c
  natLE x.job.toNat 2 ++ natLE (s.setIndex c) 2 ++ natLE x.setCrc.toNat 4 ++
  [s.fuses.grade, steppingCode, BitVec.ofNat 8 (b2n x.strict), 0] ++ natLE x.moduleSet.length 4 ++
  natLE Config.translator.toNat 4 ++ zeros 4 ++ natLE 0 4 ++ natLE snaps 4 ++ zeros 32

/-- One snapshot copied into the region. -/
def State.takeSnap (s : State) (c : Nat) (att : Attrib) (fab : Fab) (at_ : Nat) (r : Nat × Nat) : State :=
  let d := s.engineRead c att fab r.1 r.2
  (d.2.2.engineWrite c att fab at_ (natLE r.1 8 ++ natLE r.2 8 ++ d.1)).2

/-- The snapshots copied in order; the place after the last. -/
def State.takeSnaps (s : State) (c : Nat) (att : Attrib) (fab : Fab) : Nat → List (Nat × Nat) → Nat × State
  | at_, [] => (at_, s)
  | at_, r :: rs => (s.takeSnap c att fab at_ r).takeSnaps c att fab (at_ + snapSize r) rs

/-- The snapshot list of a REPLAY_RECORD. -/
def State.snapsOf (s : State) (src : CmdSource) (fab : Fab) : List (Nat × Nat) × State :=
  let c := s.cmd! src
  let n := min (c.param 32 1) 16
  let b := s.engineRead (srcCtx src) (.cmd src) fab (c.param 24 8) (16 * n)
  (snapList b.1 n, b.2.2)

/-- START (R303, R304). -/
def State.recordStart (s : State) (src : CmdSource) (fab : Fab) : State :=
  let cmd := s.cmd! src
  let c := srcCtx src
  let region := cmd.param 8 8
  let size := cmd.param 16 8
  if (s.ctx c).recording.isSome then s.finish cmd stBusy 0 []
  else if !cmd.restZero [(0, 1), (8, 25), (40, 8)] ∨ cmd.param 32 1 > 16 ∨ size < replayMin ∨ size > replayMax ∨
      !s.holdRangeOk c region size fab ∨ !vaRange (cmd.param 24 8) 256 then s.badParam cmd
  else
    let l := s.snapsOf src fab
    let s := l.2
    let total := 64 + (l.1.map snapSize).foldl (· + ·) 0
    if l.1.any (fun r => !vaRange r.1 r.2) then s.badParam (s.cmd! src)
    else if total > size then s.finish (s.cmd! src) stNoSpace 0 (natLE 0 4)
    else
      let s := (s.engineWrite c (.cmd src) fab region (s.replayHeader c l.1.length)).2
      let x := s.takeSnaps c (.cmd src) fab (region + 64) l.1
      let r : Recording :=
        { region := BitVec.ofNat 56 region, size := size, used := total, stopDatum := BitVec.ofNat 64 (cmd.param 40 8), entries := 0
          active := true, full := false }
      let s := x.2.modCtx c (fun y => { y with recording := some r })
      s.finish (s.cmd! src) ((s.cmd! src).statusOr stOk) 0 (natLE 0 4)

/-- REPLAY_RECORD_START (R303): nothing that it reads or writes waits for a move. A SUB other than START and STOP ends here. -/
def execReplayRecordStart (src : CmdSource) (fab : Fab) (s : State) : Res :=
  let cmd := s.cmd! src
  let c := srcCtx src
  let ranges := if cmd.param 32 1 ≤ 16 then (s.snapsOf src fab).1 else []
  when "REPLAY_RECORD_START"
    (s.runs src 0x0602 && cmd.param 0 1 != 1 && s.readable c (cmd.param 24 8) 256 && s.writable c (cmd.param 8 8) (max 1 (min (cmd.param 16 8) replayMax)) &&
     ranges.all (fun r => s.readable c r.1 (min r.2 replayMax)))
    (if cmd.param 0 1 = 0 then s.recordStart src fab else s.badParam cmd)

/-- REPLAY_RECORD_STOP (R303). -/
def execReplayRecordStop (src : CmdSource) (s : State) : Res :=
  let cmd := s.cmd! src
  let c := srcCtx src
  when "REPLAY_RECORD_STOP" (s.runs src 0x0602 && cmd.param 0 1 == 1)
    (if !cmd.restZero [(0, 1)] then s.badParam cmd
     else
       match (s.ctx c).recording with
       | none => s.ok cmd (natLE 0 4)
       | some r =>
         (s.modCtx c (fun y => { y with recording := none })).finish cmd (if r.full then stNoSpace else stOk) 0 (natLE r.entries 4))

/-- REPLAY_STOP_DATUM (R303). -/
def execReplayStopDatum (ctx : BitVec 6) (s : State) : Res :=
  match (s.ctx ctx.toNat).recording with
  | some r =>
    when "REPLAY_STOP_DATUM" (s.works && r.active && r.stopDatum != 0 && decide (r.stopDatum.toNat ≤ s.datum.counter.toNat))
      (s.modCtx ctx.toNat (fun y => { y with recording := some { r with active := false } }))
  | none => .refused (.notOccurring "REPLAY_STOP_DATUM")

/-! ### Replay (R305) -/

/-- The rack of a module (R426, R427). -/
def State.rackOf (s : State) (m : BitVec 15) : Nat × Nat × Nat := let p := s.plan.pos m.toNat; (p.x / 5, p.y / 4, p.z / 4)

/-- A module set lies within one rack. -/
def State.oneRack (s : State) (l : List (BitVec 15)) : Bool := l.all (fun m => l.all (fun k => s.rackOf m == s.rackOf k))

/-- The snapshots written back to their recorded addresses; the place after the last. -/
def State.putSnaps (s : State) (c : Nat) (att : Attrib) (fab : Fab) : Nat → Nat → Nat × State
  | 0, at_ => (at_, s)
  | n + 1, at_ =>
    let h := s.engineRead c att fab at_ 16
    let len := min (field h.1 8 8) replayMax
    let d := h.2.2.engineRead c att fab (at_ + 16) len
    ((d.2.2.engineWrite c att fab (field h.1 0 8) d.1).2).putSnaps c att fab n (at_ + snapSize (0, len))

/-- A replay starts: its requirements, the snapshots, the recorded Job ID (R305). -/
def State.replayStart (s : State) (src : CmdSource) (fab : Fab) : State :=
  let cmd := s.cmd! src
  let c := srcCtx src
  let region := cmd.param 8 8
  let h := s.engineRead c (.cmd src) fab region 64
  let s := h.2.2
  let bad := !cmd.restZero [(8, 8)] || !vaRange region 64 || !s.oneRack (s.ctx c).moduleSet ||
    field h.1 12 4 != (s.ctx c).moduleSet.length || field h.1 2 2 != s.setIndex c
  if bad then s.badParam (s.cmd! src)
  else if (s.ctx c).replay.isSome then s.status (s.cmd! src) stBusy
  else
    let x := s.putSnaps c (.cmd src) fab (min (field h.1 28 4) 16) (region + 64)
    let s := x.2
    let r : Replay := { cmd := { s.cmd! src with handed := true }, next := x.1, left := field h.1 24 4 }
    let s := s.modCtx c (fun y => { y with replay := some r, replayJob := some (BitVec.ofNat 16 (field h.1 0 2)) })
    match src with
    | .queue q => s.modQueue q.toNat (fun x => { x with cur := none })
    | .mailbox => s

/-- The queue on which the next entry is issued: the queue of this context with the recorded number modulo 4. -/
def replayQueue (c : Nat) (e : List Byte) : Nat := 4 * c + field e 8 1 % 4

/-- One entry issued: its block stands again where its command names it, and it is decoded with the shifted datum (R305). -/
def State.replayEntry (s : State) (c : Nat) (r : Replay) (fab : Fab) : State :=
  let att := Attrib.cmd r.cmd.src
  let e := s.engineRead c att fab r.next 80
  let len := 8 * field e.1 10 2
  let b := e.2.2.engineRead c att fab (r.next + 80) len
  let s := b.2.2
  let q := replayQueue c e.1
  let shift := r.shift.getD (s.datum.counter - BitVec.ofNat 64 (field e.1 0 8))
  let k : Cmd :=
    { src := .queue (BitVec.ofNat 8 q), slot := patch (slice e.1 16 64) 8 [BitVec.ofNat 8 c, BitVec.ofNat 8 q]
      datum := BitVec.ofNat 64 (field e.1 0 8) + shift, time := s.time, order := s.decoded + 1, replayed := true }
  let s := match (s.blockOf c k fab).1 with
    | some (a, n) => (s.engineWrite c att fab a (b.1.take (min n len))).2
    | none => s
  let up := fun (z : Replay) => { z with next := z.next + 80 + len, left := z.left - 1, issued := z.issued + 1, shift := some shift }
  (s.modCtx c (fun y => { y with replay := y.replay.map up })).startCmd q (s.bindPlat c k) fab

/-- Commands that the replay has issued and that have no reply yet. -/
def State.replayOpen (s : State) (c : Nat) : Bool :=
  (s.openCmds c).any (·.replayed) || s.grids.any (fun g => g.ctx == c && ((g.cmd.map (·.replayed)).getD false))

/-- The next entry can be issued: its queue is free. -/
def State.replayFree (s : State) (c : Nat) (r : Replay) (fab : Fab) : Bool :=
  let q := replayQueue c (s.engineRead c .none fab r.next 80).1
  (s.queue q).cur.isNone && (s.queue q).barrier.isNone

/-- A replay goes on: its next entry, or its end when every command of it has ended. -/
def State.replayOn (s : State) (c : Nat) (r : Replay) (fab : Fab) : State :=
  if r.left > 0 then s.replayEntry c r fab
  else (s.modCtx c (fun y => { y with replay := none, replayJob := none })).finish r.cmd stOk 0 (natLE r.issued 4)

/-- The replay of a source that runs. -/
def State.replayAt (s : State) (src : CmdSource) : Option Replay := (s.ctx (srcCtx src)).replay.filter (fun r => r.cmd.src == src)

/-- REPLAY_RUN (R305): given again for each entry, and for its end. -/
def execReplayRun (src : CmdSource) (fab : Fab) (s : State) : Res :=
  let c := srcCtx src
  match s.replayAt src with
  | some r =>
    when "REPLAY_RUN" (s.cpUp && s.ctxLive c && (if r.left > 0 then s.readable c r.next 524288 && s.replayFree c r fab else !s.replayOpen c))
      (s.replayOn c r fab)
  | none => when "REPLAY_RUN" (s.runs src 0x0603 && s.readable c ((s.cmd! src).param 8 8) 64) (s.replayStart src fab)

end Sys2Proof.Machine
end

