-- ==== Sys2Proof/Machine/Dispatch.lean ====
section
/-!
DEFINITION. One arm for each command of the module: a direct call of its meaning.
-/
namespace Sys2Proof.Machine

/-- The effect of a command on everything but the queue of waiting commands. -/
def exec (i : Instr) (s : State) : Host.Outcome State Fault Refusal :=
  match i with
  | .doorbellWrite q v => Sys2Proof.Machine.execDoorbellWrite q v s
  | .doorbellMirrorStore job va v => Sys2Proof.Machine.execDoorbellMirrorStore job va v s
  | .doorbellDiscardedAccess a => Sys2Proof.Machine.execDoorbellDiscardedAccess a s
  | .commandFetch fab => Sys2Proof.Machine.execCommandFetch fab s
  | .nop src => Sys2Proof.Machine.execNop src s
  | .fenceCommand src => Sys2Proof.Machine.execFenceCommand src s
  | .waitFlag src fab => Sys2Proof.Machine.execWaitFlag src fab s
  | .waitFlagReread src fab => Sys2Proof.Machine.execWaitFlagReread src fab s
  | .waitFlagTimeout src => Sys2Proof.Machine.execWaitFlagTimeout src s
  | .setFlag src fab => Sys2Proof.Machine.execSetFlag src fab s
  | .signalHost src => Sys2Proof.Machine.execSignalHost src s
  | .ctxCreate src => Sys2Proof.Machine.execCtxCreate src s
  | .ctxDestroy src => Sys2Proof.Machine.execCtxDestroy src s
  | .ctxReset src => Sys2Proof.Machine.execCtxReset src s
  | .ctxQuery src => Sys2Proof.Machine.execCtxQuery src s
  | .loadProgram src fab => Sys2Proof.Machine.execLoadProgram src fab s
  | .translationTimeout src => Sys2Proof.Machine.execTranslationTimeout src s
  | .launch src fab => Sys2Proof.Machine.execLaunch src fab s
  | .launchDeferred src fab => Sys2Proof.Machine.execLaunchDeferred src fab s
  | .sliceAssignment grid fab => Sys2Proof.Machine.execSliceAssignment grid fab s
  | .remoteSliceRequest r => Sys2Proof.Machine.execRemoteSliceRequest r s
  | .tileStart rank => Sys2Proof.Machine.execTileStart rank s
  | .tileEnd c => Sys2Proof.Machine.execTileEnd c s
  | .sliceComplete r => Sys2Proof.Machine.execSliceComplete r s
  | .gridComplete grid fab => Sys2Proof.Machine.execGridComplete grid fab s
  | .segmentComplete grid fab => Sys2Proof.Machine.execSegmentComplete grid fab s
  | .alloc src fab => Sys2Proof.Machine.execAlloc src fab s
  | .allocTimeout src => Sys2Proof.Machine.execAllocTimeout src s
  | .free src fab => Sys2Proof.Machine.execFree src fab s
  | .copy src fab => Sys2Proof.Machine.execCopy src fab s
  | .fill src fab => Sys2Proof.Machine.execFill src fab s
  | .invalidate src => Sys2Proof.Machine.execInvalidate src s
  | .pin src fab => Sys2Proof.Machine.execPin src fab s
  | .hintAnchor src => Sys2Proof.Machine.execHintAnchor src s
  | .hintPrefer src => Sys2Proof.Machine.execHintPrefer src s
  | .hintCold src => Sys2Proof.Machine.execHintCold src s
  | .hintWillUse src => Sys2Proof.Machine.execHintWillUse src s
  | .lendBackstore src => Sys2Proof.Machine.execLendBackstore src s
  | .platLoad src fab => Sys2Proof.Machine.execPlatLoad src fab s
  | .platsetActivate src => Sys2Proof.Machine.execPlatsetActivate src s
  | .platsetSwitch ctx => Sys2Proof.Machine.execPlatsetSwitch ctx s
  | .barrier src => Sys2Proof.Machine.execBarrier src s
  | .broadcast src fab => Sys2Proof.Machine.execBroadcast src fab s
  | .reduceScatter src fab => Sys2Proof.Machine.execReduceScatter src fab s
  | .allGather src fab => Sys2Proof.Machine.execAllGather src fab s
  | .allReduce src fab => Sys2Proof.Machine.execAllReduce src fab s
  | .allToAll src fab => Sys2Proof.Machine.execAllToAll src fab s
  | .collectiveSlotStart fab => Sys2Proof.Machine.execCollectiveSlotStart fab s
  | .preemption => Sys2Proof.Machine.execPreemption s
  | .collectiveSegment p fab => Sys2Proof.Machine.execCollectiveSegment p fab s
  | .segmentGrant p fab => Sys2Proof.Machine.execSegmentGrant p fab s
  | .waitReportInterval coll => Sys2Proof.Machine.execWaitReportInterval coll s
  | .waitReport w => Sys2Proof.Machine.execWaitReport w s
  | .stragglerTimeout coll fab => Sys2Proof.Machine.execStragglerTimeout coll fab s
  | .deputyTakeover coll => Sys2Proof.Machine.execDeputyTakeover coll s
  | .reformRecord r fab => Sys2Proof.Machine.execReformRecord r fab s
  | .collectiveAbort a => Sys2Proof.Machine.execCollectiveAbort a s
  | .collectiveOwnAbort coll => Sys2Proof.Machine.execCollectiveOwnAbort coll s
  | .platReform src fab => Sys2Proof.Machine.execPlatReform src fab s
  | .inboxConfigInbox src fab => Sys2Proof.Machine.execInboxConfigInbox src fab s
  | .inboxConfigMap src fab => Sys2Proof.Machine.execInboxConfigMap src fab s
  | .inboxConfigOrigin src => Sys2Proof.Machine.execInboxConfigOrigin src s
  | .inboxQuery src fab => Sys2Proof.Machine.execInboxQuery src fab s
  | .scatterDispatch ctx fab => Sys2Proof.Machine.execScatterDispatch ctx fab s
  | .expertRowSegment p fab => Sys2Proof.Machine.execExpertRowSegment p fab s
  | .expertMarker p fab => Sys2Proof.Machine.execExpertMarker p fab s
  | .batchDeadline inbox fab => Sys2Proof.Machine.execBatchDeadline inbox fab s
  | .batchLatencyFloor inbox fab => Sys2Proof.Machine.execBatchLatencyFloor inbox fab s
  | .expertBatchComplete inbox fab => Sys2Proof.Machine.execExpertBatchComplete inbox fab s
  | .expertReturn p fab => Sys2Proof.Machine.execExpertReturn p fab s
  | .expertReceipt p fab => Sys2Proof.Machine.execExpertReceipt p fab s
  | .expertResetNotice p fab => Sys2Proof.Machine.execExpertResetNotice p fab s
  | .waveTimeout ctx wave => Sys2Proof.Machine.execWaveTimeout ctx wave s
  | .optStep src fab => Sys2Proof.Machine.execOptStep src fab s
  | .gnsRead src => Sys2Proof.Machine.execGnsRead src s
  | .gnsReadPlat src => Sys2Proof.Machine.execGnsReadPlat src s
  | .replayRecordStart src fab => Sys2Proof.Machine.execReplayRecordStart src fab s
  | .replayRecordStop src => Sys2Proof.Machine.execReplayRecordStop src s
  | .replayStopDatum ctx => Sys2Proof.Machine.execReplayStopDatum ctx s
  | .replayRun src fab => Sys2Proof.Machine.execReplayRun src fab s
  | .datumBarrier src => Sys2Proof.Machine.execDatumBarrier src s
  | .barrierStage q fab => Sys2Proof.Machine.execBarrierStage q fab s
  | .barrierRelease q fab => Sys2Proof.Machine.execBarrierRelease q fab s
  | .datumRead src => Sys2Proof.Machine.execDatumRead src s
  | .powerQuery src => Sys2Proof.Machine.execPowerQuery src s
  | .powerCap src => Sys2Proof.Machine.execPowerCap src s
  | .clockCeiling src => Sys2Proof.Machine.execClockCeiling src s
  | .powerDown src => Sys2Proof.Machine.execPowerDown src s
  | .portProfile src => Sys2Proof.Machine.execPortProfile src s
  | .portQuery src => Sys2Proof.Machine.execPortQuery src s
  | .errRead src => Sys2Proof.Machine.execErrRead src s
  | .huskRead src => Sys2Proof.Machine.execHuskRead src s
  | .tallyRead src => Sys2Proof.Machine.execTallyRead src s
  | .fwQuery src => Sys2Proof.Machine.execFwQuery src s
  | .fwStage src v => Sys2Proof.Machine.execFwStage src v s
  | .fwActivate src => Sys2Proof.Machine.execFwActivate src s
  | .waitCycleCheck => Sys2Proof.Machine.execWaitCycleCheck s
  | .accessNop c w => Sys2Proof.Machine.execAccessNop c w s
  | .xalu c w => Sys2Proof.Machine.execXalu c w s
  | .xmovi c w => Sys2Proof.Machine.execXmovi c w s
  | .brx c w => Sys2Proof.Machine.execBrx c w s
  | .brt c w => Sys2Proof.Machine.execBrt c w s
  | .branchOutcome c => Sys2Proof.Machine.execBranchOutcome c s
  | .jmp c w => Sys2Proof.Machine.execJmp c w s
  | .aend c w => Sys2Proof.Machine.execAend c w s
  | .ld c w => Sys2Proof.Machine.execLd c w s
  | .ld2d c w => Sys2Proof.Machine.execLd2d c w s
  | .gather c w => Sys2Proof.Machine.execGather c w s
  | .tld c w => Sys2Proof.Machine.execTld c w s
  | .loadDataWritten c load => Sys2Proof.Machine.execLoadDataWritten c load s
  | .pf c w => Sys2Proof.Machine.execPf c w s
  | .st c w => Sys2Proof.Machine.execSt c w s
  | .st2d c w => Sys2Proof.Machine.execSt2d c w s
  | .atom c w => Sys2Proof.Machine.execAtom c w s
  | .inv c w => Sys2Proof.Machine.execInv c w s
  | .fence c w => Sys2Proof.Machine.execFence c w s
  | .fenceSc c w => Sys2Proof.Machine.execFenceSc c w s
  | .tpush c w => Sys2Proof.Machine.execTpush c w s
  | .tpop c w => Sys2Proof.Machine.execTpop c w s
  | .stallCleared c stream => Sys2Proof.Machine.execStallCleared c stream s
  | .executeNop c w => Sys2Proof.Machine.execExecuteNop c w s
  | .loopi c w => Sys2Proof.Machine.execLoopi c w s
  | .bnzd c w => Sys2Proof.Machine.execBnzd c w s
  | .brtx c w => Sys2Proof.Machine.execBrtx c w s
  | .xend c w => Sys2Proof.Machine.execXend c w s
  | .latch c w => Sys2Proof.Machine.execLatch c w s
  | .latchLoadDone c cube => Sys2Proof.Machine.execLatchLoadDone c cube s
  | .pass c w => Sys2Proof.Machine.execPass c w s
  | .swap c w => Sys2Proof.Machine.execSwap c w s
  | .accld c w => Sys2Proof.Machine.execAccld c w s
  | .mv c w => Sys2Proof.Machine.execMv c w s
  | .eow c w => Sys2Proof.Machine.execEow c w s
  | .gang c w => Sys2Proof.Machine.execGang c w s
  | .gangItemStart rank group => Sys2Proof.Machine.execGangItemStart rank group s
  | .gangItemEnd rank group => Sys2Proof.Machine.execGangItemEnd rank group s
  | .gangDrainDone rank group => Sys2Proof.Machine.execGangDrainDone rank group s
  | .vAdd c w => Sys2Proof.Machine.execVAdd c w s
  | .vSub c w => Sys2Proof.Machine.execVSub c w s
  | .vMul c w => Sys2Proof.Machine.execVMul c w s
  | .vFma c w => Sys2Proof.Machine.execVFma c w s
  | .vFms c w => Sys2Proof.Machine.execVFms c w s
  | .vNeg c w => Sys2Proof.Machine.execVNeg c w s
  | .vAbs c w => Sys2Proof.Machine.execVAbs c w s
  | .vMax c w => Sys2Proof.Machine.execVMax c w s
  | .vMin c w => Sys2Proof.Machine.execVMin c w s
  | .cmpEq c w => Sys2Proof.Machine.execCmpEq c w s
  | .cmpLt c w => Sys2Proof.Machine.execCmpLt c w s
  | .cmpLe c w => Sys2Proof.Machine.execCmpLe c w s
  | .cmpUnord c w => Sys2Proof.Machine.execCmpUnord c w s
  | .vSel c w => Sys2Proof.Machine.execVSel c w s
  | .iAdd c w => Sys2Proof.Machine.execIAdd c w s
  | .iSub c w => Sys2Proof.Machine.execISub c w s
  | .iMin c w => Sys2Proof.Machine.execIMin c w s
  | .iMax c w => Sys2Proof.Machine.execIMax c w s
  | .vAnd c w => Sys2Proof.Machine.execVAnd c w s
  | .vOr c w => Sys2Proof.Machine.execVOr c w s
  | .vXor c w => Sys2Proof.Machine.execVXor c w s
  | .vShl c w => Sys2Proof.Machine.execVShl c w s
  | .vShr c w => Sys2Proof.Machine.execVShr c w s
  | .vSra c w => Sys2Proof.Machine.execVSra c w s
  | .vMov c w => Sys2Proof.Machine.execVMov c w s
  | .cvtF2i c w => Sys2Proof.Machine.execCvtF2i c w s
  | .cvtI2f c w => Sys2Proof.Machine.execCvtI2f c w s
  | .vDiv c w => Sys2Proof.Machine.execVDiv c w s
  | .vRcp c w => Sys2Proof.Machine.execVRcp c w s
  | .vSqrt c w => Sys2Proof.Machine.execVSqrt c w s
  | .vRsqrt c w => Sys2Proof.Machine.execVRsqrt c w s
  | .vExp2 c w => Sys2Proof.Machine.execVExp2 c w s
  | .vLog2 c w => Sys2Proof.Machine.execVLog2 c w s
  | .vExp2s c w => Sys2Proof.Machine.execVExp2s c w s
  | .vload c w => Sys2Proof.Machine.execVload c w s
  | .vstore c w => Sys2Proof.Machine.execVstore c w s
  | .rsum c w => Sys2Proof.Machine.execRsum c w s
  | .rsumsq c w => Sys2Proof.Machine.execRsumsq c w s
  | .csum c w => Sys2Proof.Machine.execCsum c w s
  | .rmax c w => Sys2Proof.Machine.execRmax c w s
  | .cmax c w => Sys2Proof.Machine.execCmax c w s
  | .rargmax c w => Sys2Proof.Machine.execRargmax c w s
  | .tsumsq c w => Sys2Proof.Machine.execTsumsq c w s
  | .rmaxupd c w => Sys2Proof.Machine.execRmaxupd c w s
  | .rsumacc c w => Sys2Proof.Machine.execRsumacc c w s
  | .gnsMark c w => Sys2Proof.Machine.execGnsMark c w s
  | .adamw c w => Sys2Proof.Machine.execAdamw c w s
  | .momentum c w => Sys2Proof.Machine.execMomentum c w s
  | .tpushx c w => Sys2Proof.Machine.execTpushx c w s
  | .tpushe c w => Sys2Proof.Machine.execTpushe c w s
  | .tpopx c w => Sys2Proof.Machine.execTpopx c w s
  | .read r => Sys2Proof.Machine.execRead r s
  | .write r => Sys2Proof.Machine.execWrite r s
  | .atomic r => Sys2Proof.Machine.execAtomic r s
  | .invalidateRequest p => Sys2Proof.Machine.execInvalidateRequest p s
  | .invalidateAck p => Sys2Proof.Machine.execInvalidateAck p s
  | .regLookup r fab => Sys2Proof.Machine.execRegLookup r fab s
  | .pageInDone job parcel => Sys2Proof.Machine.execPageInDone job parcel s
  | .pageOutStart => Sys2Proof.Machine.execPageOutStart s
  | .pageOutDone job parcel => Sys2Proof.Machine.execPageOutDone job parcel s
  | .tallyEpochEnd => Sys2Proof.Machine.execTallyEpochEnd s
  | .tallyReport r fab => Sys2Proof.Machine.execTallyReport r fab s
  | .moveData r => Sys2Proof.Machine.execMoveData r s
  | .moveCopyComplete m => Sys2Proof.Machine.execMoveCopyComplete m s
  | .drainDone r => Sys2Proof.Machine.execDrainDone r s
  | .moveAbandon job parcel => Sys2Proof.Machine.execMoveAbandon job parcel s
  | .reply r => Sys2Proof.Machine.execReply r s
  | .retryResend access => Sys2Proof.Machine.execRetryResend access s
  | .bearingMissRepeat access => Sys2Proof.Machine.execBearingMissRepeat access s
  | .fabricTimeout access => Sys2Proof.Machine.execFabricTimeout access s
  | .replySlotReclaim access => Sys2Proof.Machine.execReplySlotReclaim access s
  | .packetForward src => Sys2Proof.Machine.execPacketForward src s
  | .combinedReply r => Sys2Proof.Machine.execCombinedReply r s
  | .multicastCopy port p => Sys2Proof.Machine.execMulticastCopy port p s
  | .flitTransmit port => Sys2Proof.Machine.execFlitTransmit port s
  | .dataFlit port f => Sys2Proof.Machine.execDataFlit port f s
  | .idleFlit port f => Sys2Proof.Machine.execIdleFlit port f s
  | .creditFlit port f => Sys2Proof.Machine.execCreditFlit port f s
  | .replayReq port f => Sys2Proof.Machine.execReplayReq port f s
  | .managementFlit port f => Sys2Proof.Machine.execManagementFlit port f s
  | .groupTrainingMilestone group m => Sys2Proof.Machine.execGroupTrainingMilestone group m s
  | .identityBlock group bytes => Sys2Proof.Machine.execIdentityBlock group bytes s
  | .groupJoined group => Sys2Proof.Machine.execGroupJoined group s
  | .trainingBoundMissed group => Sys2Proof.Machine.execTrainingBoundMissed group s
  | .laneSignalLoss group => Sys2Proof.Machine.execLaneSignalLoss group s
  | .groupErrorThreshold group e => Sys2Proof.Machine.execGroupErrorThreshold group e s
  | .downNotice port p => Sys2Proof.Machine.execDownNotice port p s
  | .datumExchangeTimer => Sys2Proof.Machine.execDatumExchangeTimer s
  | .datumTimestampExchange group t1 t2 t3 t4 => Sys2Proof.Machine.execDatumTimestampExchange group t1 t2 t3 t4 s
  | .creditViewExchange port k consumed => Sys2Proof.Machine.execCreditViewExchange port k consumed s
  | .datumSlewTick => Sys2Proof.Machine.execDatumSlewTick s
  | .holdoverReparent => Sys2Proof.Machine.execHoldoverReparent s
  | .datumPpsEdge => Sys2Proof.Machine.execDatumPpsEdge s
  | .ppsEdgeMissing => Sys2Proof.Machine.execPpsEdgeMissing s
  | .errorRaised e => Sys2Proof.Machine.execErrorRaised e s
  | .logWindowClose code ctx => Sys2Proof.Machine.execLogWindowClose code ctx s
  | .contextReset => Sys2Proof.Machine.execContextReset s
  | .contextResetDone => Sys2Proof.Machine.execContextResetDone s
  | .coreReset => Sys2Proof.Machine.execCoreReset s
  | .coreResetDone => Sys2Proof.Machine.execCoreResetDone s
  | .processorRestart => Sys2Proof.Machine.execProcessorRestart s
  | .procRestarted => Sys2Proof.Machine.execProcRestarted s
  | .processorHeartbeat p => Sys2Proof.Machine.execProcessorHeartbeat p s
  | .coreStall c stream => Sys2Proof.Machine.execCoreStall c stream s
  | .coreHang c => Sys2Proof.Machine.execCoreHang c s
  | .engineHang u => Sys2Proof.Machine.execEngineHang u s
  | .procTimeout p => Sys2Proof.Machine.execProcTimeout p s
  | .hrpTimerExpiry => Sys2Proof.Machine.execHrpTimerExpiry s
  | .resetOverrun k => Sys2Proof.Machine.execResetOverrun k s
  | .moduleStop => Sys2Proof.Machine.execModuleStop s
  | .modResetAssert => Sys2Proof.Machine.execModResetAssert s
  | .perstAssert => Sys2Proof.Machine.execPerstAssert s
  | .moduleReset => Sys2Proof.Machine.execModuleReset s
  | .standbyApplied => Sys2Proof.Machine.execStandbyApplied s
  | .addrStrapSample straps => Sys2Proof.Machine.execAddrStrapSample straps s
  | .bootVerificationDone bankA bankB failedCores => Sys2Proof.Machine.execBootVerificationDone bankA bankB failedCores s
  | .standbyLost => Sys2Proof.Machine.execStandbyLost s
  | .inputInRange => Sys2Proof.Machine.execInputInRange s
  | .inputPowerLoss => Sys2Proof.Machine.execInputPowerLoss s
  | .railPowerGood => Sys2Proof.Machine.execRailPowerGood s
  | .railFault rail => Sys2Proof.Machine.execRailFault rail s
  | .processorImagesVerified ok => Sys2Proof.Machine.execProcessorImagesVerified ok s
  | .stackTrainingDone stack ok => Sys2Proof.Machine.execStackTrainingDone stack ok s
  | .pcieLinkUp => Sys2Proof.Machine.execPcieLinkUp s
  | .cpReady => Sys2Proof.Machine.execCpReady s
  | .powerSample watts over95A => Sys2Proof.Machine.execPowerSample watts over95A s
  | .thermalSample dies dramStacks => Sys2Proof.Machine.execThermalSample dies dramStacks s
  | .thermalTrip => Sys2Proof.Machine.execThermalTrip s
  | .pmbusRecovery recovered => Sys2Proof.Machine.execPmbusRecovery recovered s
  | .presence => Sys2Proof.Machine.execPresence s
  | .sbStatus => Sys2Proof.Machine.execSbStatus s
  | .mainGoWrite on => Sys2Proof.Machine.execMainGoWrite on s
  | .alertEnWrite on => Sys2Proof.Machine.execAlertEnWrite on s
  | .resetModuleWrite => Sys2Proof.Machine.execResetModuleWrite s
  | .regAddr offset pecOk => Sys2Proof.Machine.execRegAddr offset pecOk s
  | .regDataRead => Sys2Proof.Machine.execRegDataRead s
  | .regDataWrite v pecOk hostMeets => Sys2Proof.Machine.execRegDataWrite v pecOk hostMeets s
  | .mboxCmd slot pecOk => Sys2Proof.Machine.execMboxCmd slot pecOk s
  | .mboxReply => Sys2Proof.Machine.execMboxReply s
  | .alertRead => Sys2Proof.Machine.execAlertRead s
  | .alertResponse => Sys2Proof.Machine.execAlertResponse s
  | .smbusLineTimeout => Sys2Proof.Machine.execSmbusLineTimeout s
  | .registerWrite m offset size8 v => Sys2Proof.Machine.execRegisterWrite m offset size8 v s
  | .qenableWrite m n v => Sys2Proof.Machine.execQenableWrite m n v s
  | .planCommit m => Sys2Proof.Machine.execPlanCommit m s
  | .errPop m => Sys2Proof.Machine.execErrPop m s
  | .apCtrlWrite m v => Sys2Proof.Machine.execApCtrlWrite m v s
  | .rcRegisterRead m offset => Sys2Proof.Machine.execRcRegisterRead m offset s
  | .lowHalfRead m offset => Sys2Proof.Machine.execLowHalfRead m offset s
  | .memberDataRead m size8 high => Sys2Proof.Machine.execMemberDataRead m size8 high s
  | .bar0BadAccess m write => Sys2Proof.Machine.execBar0BadAccess m write s
  | .bar4Read offset len fab => Sys2Proof.Machine.execBar4Read offset len fab s
  | .bar4Write offset bytes fab => Sys2Proof.Machine.execBar4Write offset bytes fab s
  | .jtagBypass => Sys2Proof.Machine.execJtagBypass s
  | .jtagIdcode => Sys2Proof.Machine.execJtagIdcode s
  | .jtagSamplePreload contacts => Sys2Proof.Machine.execJtagSamplePreload contacts s
  | .jtagExtest cells => Sys2Proof.Machine.execJtagExtest cells s
  | .debugUnlock tokenOk => Sys2Proof.Machine.execDebugUnlock tokenOk s
  | .modResetRelease => Sys2Proof.Machine.execModResetRelease s
  | .perstDeassert => Sys2Proof.Machine.execPerstDeassert s
  | .forwardingRecordAged job parcel => Sys2Proof.Machine.execForwardingRecordAged job parcel s

end Sys2Proof.Machine
end

