-- ==== Sys2Proof/Machine/Tick.lean ====
section
/-!
DEFINITION. What happens when no command waits: the model's clock and the datum advance (notes/assumptions/3.md, R352).
-/
namespace Sys2Proof.Machine

/-- One nanosecond: the datum counts while the main rails are up. -/
def State.tick (s : State) : State :=
  { s with
    time := s.time + 1
    datum := if s.mainUp then { s.datum with counter := s.datum.counter + 1 } else s.datum }

end Sys2Proof.Machine
end

