-- ==== Sys2Proof/Safety.lean ====
section
/-!
DEFINITION. What counts as a safe run: a step that gives a next state, memories in their canonical form, and a module that stays the
module it is; and the words in which the statements say what a command leaves alone.
-/
namespace Sys2Proof.Machine

/-- The step gives a next state. -/
def State.Proceeds (s : State) : Prop := ∃ t, step s = .next t

/-- DRAM, host memory and every scratchpad are in canonical form: addresses strictly rising, no byte zero. -/
def State.MemoriesOk (s : State) : Prop :=
  Memory.wf s.dram = true ∧ Memory.wf s.hostMem = true ∧ ∀ e ∈ s.cores, Memory.wf e.2.spad = true

/-- The fuses that fix the module's grade, its enabled clusters and its serial number are the same, and its security version has not
fallen (R2, R3, R399). -/
def Fuses.SameModule (f g : Fuses) : Prop :=
  g.gradeC = f.gradeC ∧ g.mask0 = f.mask0 ∧ g.mask1 = f.mask1 ∧ g.mask2 = f.mask2 ∧ g.mask3 = f.mask3 ∧ g.serial = f.serial ∧
    f.security ≤ g.security

/-! ### When a core takes a word -/

/-- The access stream takes a word: the translator lets it pass (R137), the stream is free to issue, and it is fewer than 512
commands ahead (R62, R63). -/
def State.AccTakes (s : State) (c : CoreId) (op : Nat) (w : InstrWord) : Prop :=
  wordOk op w = true ∧ s.accReady c = true ∧ (s.core (coreKey c)).ops.length < 512

/-- The execute stream takes a word. -/
def State.ExeTakes (s : State) (c : CoreId) (op : Nat) (w : InstrWord) : Prop := wordOk op w = true ∧ s.exeReady c = true

/-! ### What a command leaves alone -/

/-- Nothing outside one core has changed. -/
def State.OnlyCore (s t : State) (c : CoreId) : Prop := t = { s with cores := t.cores } ∧ ∀ j, j ≠ coreKey c → t.core j = s.core j

/-- A core's queues are unchanged. -/
def Core.SameQueues (a b : Core) : Prop := b.dqs = a.dqs ∧ b.tqs = a.tqs

/-- A core's tile buffers, cubes, MV batches and gradient-noise registers are unchanged. -/
def Core.SameArrays (a b : Core) : Prop :=
  b.tiles0 = a.tiles0 ∧ b.tiles1 = a.tiles1 ∧ b.tiles2 = a.tiles2 ∧ b.tiles3 = a.tiles3 ∧ b.cubes = a.cubes ∧ b.fill = a.fill ∧ b.gns = a.gns

/-- A core's execute stream is where it was. -/
def Core.SameExecute (a b : Core) : Prop := b.exePc = a.exePc ∧ b.loops = a.loops ∧ b.exeStall = a.exeStall

/-- A core's access stream is where it was, with its registers, its path epochs and its accesses. -/
def Core.SameAccess (a b : Core) : Prop :=
  b.accPc = a.accPc ∧ b.x = a.x ∧ b.epochs = a.epochs ∧ b.loads = a.loads ∧ b.stores = a.stores ∧ b.barriers = a.barriers ∧
    b.accStall = a.accStall

/-- An access instruction that touches registers and the program counter alone (R52, R126). -/
def Core.AccFrame (a b : Core) : Prop :=
  a.SameQueues b ∧ a.SameArrays b ∧ a.SameExecute b ∧ b.spad = a.spad ∧ b.loads = a.loads ∧ b.stores = a.stores ∧ b.barriers = a.barriers

/-- An execute instruction that touches loop counters, token queues and its program counter alone (R52, R128). -/
def Core.ExeFrame (a b : Core) : Prop :=
  a.SameAccess b ∧ a.SameArrays b ∧ b.spad = a.spad ∧ b.dqs = a.dqs ∧ b.exeStall = a.exeStall

/-- An instruction of the cubes (R129): registers, tokens, tile buffers and the scratchpad stay. -/
def Core.CubeFrame (a b : Core) : Prop :=
  a.SameAccess b ∧ b.tqs = a.tqs ∧ b.loops = a.loops ∧ b.spad = a.spad ∧ b.exePc = a.exePc + 1 ∧ b.exeStall = a.exeStall ∧
    b.tiles0 = a.tiles0 ∧ b.tiles1 = a.tiles1 ∧ b.tiles2 = a.tiles2 ∧ b.tiles3 = a.tiles3 ∧ b.gns = a.gns

/-- An instruction of the lanes or the reduction unit (R98, R106): registers, queues, planes, active accumulators and the scratchpad
stay. -/
def Core.LaneFrame (a b : Core) : Prop :=
  a.SameAccess b ∧ a.SameQueues b ∧ b.loops = a.loops ∧ b.spad = a.spad ∧ b.exePc = a.exePc + 1 ∧ b.exeStall = a.exeStall ∧
    b.fill = a.fill ∧ ∀ i, (b.cube i).active = (a.cube i).active ∧ (b.cube i).planeActive = (a.cube i).planeActive ∧
      (b.cube i).planeShadow = (a.cube i).planeShadow

/-- Nothing has changed but cores, the numeric tallies of contexts and grids, and the counter of free values; of the cores, only one. -/
def State.CoreAndTallies (s t : State) (c : CoreId) : Prop :=
  t = { s with cores := t.cores, contexts := t.contexts, grids := t.grids, free := t.free } ∧ ∀ j, j ≠ coreKey c → t.core j = s.core j

/-- A range operand of the execute stream is there (R54, R55, R67, R124): a range of the word, or the ready head of a data queue that is
of the tile the execute stream is at and of no path that is not confirmed. -/
def Core.OperandAt (x : Core) (sel range base len : Nat) : Prop :=
  if isDq sel then ∃ e, (x.entries (sel - 0x20)).head? = some e ∧ e.tile = x.exeTile.seq ∧ x.unconfirmed e.epoch = false ∧
    e.ready = true ∧ base = e.base ∧ len = e.len
  else base = rangeBase range ∧ len = rangeLen range

/-- The data queues after an operand is used: its entry popped where the word says so (R55). -/
def Core.OperandUsed (a b : Core) (sel : Nat) (pop : Bool) : Prop :=
  ∀ q, b.entries q = if isDq sel = true ∧ pop = true ∧ q = sel - 0x20 then (a.entries q).drop 1 else a.entries q

end Sys2Proof.Machine
end

