-- ==== Sys2Proof/Certificates/Slice0/Obligations.lean ====
section
/-!
DEFINITION. The statements about the machine, for the provers.
-/
open Sys2Proof Sys2Proof.Machine

/-! ### The access stream -/

/-- R126: NOP, XALU and XMOVI of the access stream. The register written holds the result of the operation that MOD[19:16] selects,
X0 discards it, every other X register and everything else of the machine stays. A shift by 64 or more is left out: R126 states no
result for it (notes/assumptions/2.md). -/
def Obligations.AccessArithmetic : Prop :=
  ∀ (c : CoreId) (w : InstrWord) (s : State),
    let k := coreKey c
    let a := s.accX k (selA w)
    let b := if wm w 20 1 = 1 then w.imm else s.accX k (selB w)
    (s.AccTakes c 0x0100 w → ∃ t, exec (.accessNop c w) s = .next t ∧ s.OnlyCore t c ∧ (s.core k).AccFrame (t.core k) ∧
      (t.core k).accPc = (s.core k).accPc + 1 ∧ (t.core k).x = (s.core k).x) ∧
    (s.AccTakes c 0x0101 w → ∃ t v, exec (.xalu c w) s = .next t ∧ s.OnlyCore t c ∧ (s.core k).AccFrame (t.core k) ∧
      (t.core k).accPc = (s.core k).accPc + 1 ∧
      (∀ i, (t.core k).xreg i = if i ≠ 0 ∧ i = selD w then v else (s.core k).xreg i) ∧
      (wm w 16 4 = 0 → v = a + b) ∧ (wm w 16 4 = 1 → v = a - b) ∧ (wm w 16 4 = 2 → v = a * b) ∧
      (wm w 16 4 = 3 → v = a &&& b) ∧ (wm w 16 4 = 4 → v = a ||| b) ∧ (wm w 16 4 = 5 → v = a ^^^ b) ∧
      (wm w 16 4 = 6 → b.toNat < 64 → v = a <<< b.toNat) ∧ (wm w 16 4 = 7 → b.toNat < 64 → v = a >>> b.toNat) ∧
      (wm w 16 4 = 8 → b.toNat < 64 → v = a.sshiftRight b.toNat) ∧
      (wm w 16 4 = 9 → v = if a.sle b then a else b) ∧ (wm w 16 4 = 10 → v = if b.sle a then a else b) ∧
      (wm w 16 4 = 11 → v = if a ≤ b then a else b) ∧ (wm w 16 4 = 12 → v = if b ≤ a then a else b)) ∧
    (s.AccTakes c 0x0102 w → ∃ t, exec (.xmovi c w) s = .next t ∧ s.OnlyCore t c ∧ (s.core k).AccFrame (t.core k) ∧
      (t.core k).accPc = (s.core k).accPc + 1 ∧
      (∀ i, (t.core k).xreg i = if i ≠ 0 ∧ i = selD w then w.imm else (s.core k).xreg i))

/-- R126, R122, R61, R64: BRX, JMP and AEND. A branch counts base words from the instruction after it; AEND ends the tile's access stream,
which waits for the tokens of the branches that are still open; the registers and everything else of the machine stay. -/
def Obligations.AccessBranches : Prop :=
  ∀ (c : CoreId) (w : InstrWord) (s : State),
    let k := coreKey c
    let a := s.accX k (selA w)
    let b := s.accX k (selB w)
    let pc := (s.core k).accPc
    (s.AccTakes c 0x0103 w → ∃ t taken, exec (.brx c w) s = .next t ∧ s.OnlyCore t c ∧ (s.core k).AccFrame (t.core k) ∧
      (t.core k).x = (s.core k).x ∧ (t.core k).accPc = (if taken = true then ((pc : Int) + 1 + wTarget w).toNat else pc + 1) ∧
      (wm w 16 3 = 0 → (taken = true ↔ a = b)) ∧ (wm w 16 3 = 1 → (taken = true ↔ a ≠ b)) ∧
      (wm w 16 3 = 2 → (taken = true ↔ a.toInt < b.toInt)) ∧ (wm w 16 3 = 3 → (taken = true ↔ b.toInt ≤ a.toInt)) ∧
      (wm w 16 3 = 4 → (taken = true ↔ a < b)) ∧ (wm w 16 3 = 5 → (taken = true ↔ b ≤ a))) ∧
    (s.AccTakes c 0x0105 w → ∃ t, exec (.jmp c w) s = .next t ∧ s.OnlyCore t c ∧ (s.core k).AccFrame (t.core k) ∧
      (t.core k).x = (s.core k).x ∧ (t.core k).accPc = ((pc : Int) + 1 + wTarget w).toNat) ∧
    (s.AccTakes c 0x0106 w → ∃ t, exec (.aend c w) s = .next t ∧ s.OnlyCore t c ∧ (s.core k).AccFrame (t.core k) ∧
      (t.core k).x = (s.core k).x ∧ (t.core k).accPc = pc + 1 ∧ (t.core k).accTile.accEnd = true ∧
      (t.core k).accStall = if (s.core k).epochs = [] then none else some (.outcome, s.time))

/-- R58, R59: BRT is predicted by its hint, or by the sign of its target, and opens a path epoch that keeps the registers and the other
path; R60: BRANCH_OUTCOME confirms the oldest epoch or refutes it. -/
def Obligations.BranchPrediction : Prop :=
  ∀ (c : CoreId) (w : InstrWord) (s : State),
    let k := coreKey c
    let x := s.core k
    let goes := fun (taken : Bool) => if taken then ((x.accPc : Int) + 1 + wTarget w).toNat else x.accPc + 1
    (s.AccTakes c 0x0104 w → x.epochs.length < 16 → ∃ t e, exec (.brt c w) s = .next t ∧ s.OnlyCore t c ∧ x.AccFrame (t.core k) ∧
      (t.core k).x = x.x ∧ (t.core k).epochs.getLast? = some e ∧ (t.core k).epochs.length = x.epochs.length + 1 ∧
      e.tile = x.accTile.seq ∧ e.queue = selA w - 0x30 ∧ e.savedX = x.x ∧ (t.core k).accPc = goes e.predicted ∧ e.altPc = goes (!e.predicted) ∧
      (wm w 16 2 = 1 → e.predicted = true) ∧ (wm w 16 2 = 2 → e.predicted = false) ∧
      (wm w 16 2 = 0 → (e.predicted = true ↔ wTarget w < 0))) ∧
    (∀ e tok, s.works = true → x.frozen = false → x.epochs.head? = some e → (x.tokens e.queue).head? = some tok →
      tok.tile = x.accTile.seq →
      let u := s.modCore k (fun y => { y.popToken e.queue with lastIssue := s.time })
      exec (.branchOutcome c) s = .next (if (tok.val != 0) = e.predicted then u.confirm k e else u.refute k e))

/-- R126, R56: TPUSH appends a token to T0 to T3, TPOP takes the head of T4 to T7 into an X register, zero-extended, once no open branch
waits for a token of that queue (R58). -/
def Obligations.AccessTokens : Prop :=
  ∀ (c : CoreId) (w : InstrWord) (s : State),
    let k := coreKey c
    let x := s.core k
    (s.AccTakes c 0x0500 w → (x.tokens (selD w - 0x30)).length < 32 → ∃ t tok, exec (.tpush c w) s = .next t ∧ s.OnlyCore t c ∧
      (∀ q, (t.core k).tokens q = if q = selD w - 0x30 then x.tokens q ++ [tok] else x.tokens q) ∧
      tok.val = (if selB w = 0 then BitVec.ofNat 32 (wi w 0 32) else (s.accX k (selB w)).setWidth 32) ∧
      tok.tile = x.accTile.seq ∧ (t.core k).accPc = x.accPc + 1 ∧ (t.core k).x = x.x ∧ (t.core k).dqs = x.dqs ∧
      x.SameArrays (t.core k) ∧ x.SameExecute (t.core k) ∧ (t.core k).spad = x.spad ∧ (t.core k).stores = x.stores) ∧
    (∀ tok, s.AccTakes c 0x0501 w → (∀ e ∈ x.epochs, e.queue ≠ selA w - 0x30) → (x.tokens (selA w - 0x30)).head? = some tok → tok.tile = x.accTile.seq →
      ∃ t, exec (.tpop c w) s = .next t ∧ s.OnlyCore t c ∧
      (∀ q, (t.core k).tokens q = if q = selA w - 0x30 then (x.tokens q).drop 1 else x.tokens q) ∧
      (∀ i, (t.core k).xreg i = if i ≠ 0 ∧ i = selD w then tok.val.setWidth 64 else x.xreg i) ∧
      (t.core k).accPc = x.accPc + 1 ∧ (t.core k).dqs = x.dqs ∧ x.SameArrays (t.core k) ∧ x.SameExecute (t.core k) ∧
      (t.core k).spad = x.spad ∧ (t.core k).stores = x.stores)

/-- R54, R63, R85, R124, R126, R127: when no branch is open, the data queue has room and a reply slot is free or not needed, a load of a
range in bounds starts, as a transposing load where the translator has put one in its place (R83 to R86), and PF prefetches the lines of
its range. -/
def Obligations.LoadsIssue : Prop :=
  ∀ (c : CoreId) (w : InstrWord) (s : State),
    let k := coreKey c
    let x := s.core k
    let free := fun (ranges : List (Nat × Nat × Nat)) =>
      s.slotsShort k x.accTile.ctx ((byLine (cutPieces ranges)).map (·.1))
        (decide (wm w 20 1 = 1) || (decide (wm w 17 1 = 1) && decide (wm w 18 2 ≥ 2))) = false
    let starts := fun (i : Instr) (base len : Nat) (rows : List (Nat × Nat × Nat)) =>
      ∀ ranges, (s.substitute k w base len = none → ranges = rows) →
        (s.substitute k w base len ≠ none → ranges = rows.map (fun r => (r.1, r.2.1, r.2.2 - base))) →
        (∀ e ∈ rows, e.1 + e.2.1 ≤ 2 ^ 56) → free ranges →
        ∃ y : LoadSpec, exec i s = .next (s.startLoads k w y (byLine (cutPieces ranges))) ∧ y.base = base ∧ y.len = len ∧
          y.ranges = ranges ∧ y.tld = s.substitute k w base len
    let room := x.epochs = [] ∧ (selC w ≠ 0 → (x.entries (selC w - 0x20)).length < 64)
    let r := slot0 w
    let a := (s.accX k (selA w)).toNat
    let pitch := (s.accX k (selB w)).toNat
    (∀ base addr, s.AccTakes c 0x0200 w → room → base = rangeBase r + pitch % 2 ^ 20 → base + rangeLen r ≤ spadReserved →
      addr = (s.accX k (selA w) + BitVec.ofInt 64 (dispOf w)).toNat →
      starts (.ld c w) base (rangeLen r) [(addr, rangeLen r, base)]) ∧
    (s.AccTakes c 0x0201 w → room →
      starts (.ld2d c w) (rangeBase r) (rangeLen r) (rows2d a pitch (rowLen w) (rangeBase r) (rangeLen r))) ∧
    (∀ offs, s.AccTakes c 0x0202 w → room → pitch ≤ rangeLen (slot1 w) / 4 → pitch ≤ rangeLen r / gatherSize w →
      offs = (List.range pitch).map (fun i => leNat (s.getSpad k (rangeBase (slot1 w) + 4 * i) 4)) →
      x.loadPending (rangeBase (slot1 w)) (rangeLen (slot1 w)) = false →
      starts (.gather c w) (rangeBase r) (rangeLen r)
        (offs.zipIdx.map (fun o => ((a + o.1) % 2 ^ 64, gatherSize w, rangeBase r + o.2 * gatherSize w)))) ∧
    (∀ rows, s.AccTakes c 0x0203 w → room → rows = (List.range 64).map (fun i => ((a + i * pitch) % 2 ^ 64, rowLen w, i * rowLen w)) →
      (∀ e ∈ rows, e.1 + e.2.1 ≤ 2 ^ 56) → free rows →
      ∃ y : LoadSpec, exec (.tld c w) s = .next (s.startLoads k w y (byLine (cutPieces rows))) ∧ y.ranges = rows ∧
        y.base = rangeBase r ∧
        ∃ p, y.tld = some p ∧ p.format.toNat = wm w 24 4 ∧ p.rowLen = rowLen w ∧ p.rows = 64 ∧ p.cols = 64 ∧
          p.requantise = (wm w 28 1 == 1) ∧ p.sr = (wm w 29 1 == 1) ∧ p.dest = rangeBase r) ∧
    (s.AccTakes c 0x0204 w → exec (.pf c w) s =
      .next ((s.issueAcc k none).prefetchLines k none x.accTile ((linesIn a pitch).map (fun p => lineOf p.1))))

/-- R53, R54, R63, R126, R127, R155, R160, R207: when no branch is open and a reply slot is free or not needed, a store of a range in bounds
goes to the hold buffer with the scratchpad's bytes, an aligned atomic with its code and operand, and INV with its length. -/
def Obligations.StoresIssue : Prop :=
  ∀ (c : CoreId) (w : InstrWord) (s : State),
    let k := coreKey c
    let x := s.core k
    let t := x.accTile
    let r := slot0 w
    let a := (s.accX k (selA w)).toNat
    let b := (s.accX k (selB w)).toNat
    let writes := fun (rows : List (Nat × Nat × Nat)) =>
      (cutPieces rows).map (fun p => s.coreReq t .write p.va (p.len - 1) 0 (s.getSpad k p.spad p.len))
    let free := fun (rows : List (Nat × Nat × Nat)) => s.slotsShort k t.ctx ((cutPieces rows).map (·.va)) true = false
    let tokenOk := selC w = 0 ∨ x.accToken (selC w - 0x30) ≠ none
    let popped := if selC w = 0 then s else s.modCore k (fun y => y.accPop (selC w - 0x30))
    (∀ n base addr, s.AccTakes c 0x0205 w → x.epochs = [] → tokenOk → n = rangeLen r → base = rangeBase r + b % 2 ^ 20 →
      base + n ≤ spadReserved → addr = (s.accX k (selA w) + BitVec.ofInt 64 (dispOf w)).toNat → addr + n ≤ 2 ^ 56 →
      x.loadPending base n = false → free [(addr, n, base)] →
      exec (.st c w) s = .next (popped.putHeld k w (writes [(addr, n, base)]) false false 0)) ∧
    (∀ rows, s.AccTakes c 0x0206 w → x.epochs = [] → tokenOk → rows = rows2d a b (rowLen w) (rangeBase r) (rangeLen r) →
      (∀ e ∈ rows, e.1 + e.2.1 ≤ 2 ^ 56) → x.loadPending (rangeBase r) (rangeLen r) = false → free rows →
      exec (.st2d c w) s = .next (popped.putHeld k w (writes rows) false false 0)) ∧
    (∀ wide go, s.AccTakes c 0x0300 w → x.epochs = [] → wide = (wm w 26 1 == 1) → a < 2 ^ 56 →
      a % (if wide then 8 else 4) = 0 → ((s.ctx t.ctx).strict = true → wm w 22 4 ≠ 9) → s.slotsShort k t.ctx [a] true = false →
      go = s.putHeld k w
        [{ s.coreReq t .atomic a (wm w 22 4 + 16 * b2n wide) (b % (if wide then 2 ^ 64 else 2 ^ 32)) [] with
           noCombine := decide (wm w 22 4 = 9) && !(s.ctx t.ctx).fpCombine }] false true (selD w) →
      exec (.atom c w) s = .next (if selD w ≠ 0 ∧ go.atomicsOpen k (x.nextId + 1) = true then go.stallAcc k .ordering else go)) ∧
    (s.AccTakes c 0x0301 w → x.epochs = [] → a + b ≤ 2 ^ 56 → a < 2 ^ 56 → s.slotsHeld < replySlots →
      exec (.inv c w) s = .next (s.putHeld k w [s.coreReq t .invalidate a 0 b []] true false 0))

/-- R149, R161, R162, R63: a fence that no open branch holds back is put in order, waits for what went before it, and the stream goes on;
STALL_CLEARED lets a stream go on once what it waited for has come. R54, R55: when the last byte of a load has been written its entry becomes
ready and the load is no longer outstanding; a transposing load puts out its tile then. (Scales of an MX source that have not come:
notes/assumptions/16.md.) -/
def Obligations.FencesAndLoadEnds : Prop :=
  ∀ (c : CoreId) (w : InstrWord) (s : State) (l : Load),
    let k := coreKey c
    let x := s.core k
    let ended := fun (t : State) => (t.modCore k (fun y =>
      { y with loads := y.loads.filter (fun z => z.id != l.id), dqs := y.dqs.map (fun q => (q.1, entryReady l.entry q.2)) })).pump k
    let owner := ((x.tiles.find? (fun t => t.seq == l.tile)).getD noTile).ctx
    let whole := s.works = true ∧ x.load? l.id = some l ∧ l.missing = 0
    let put := fun (kind : BarrierKind) =>
      ((s.modCore k (fun y => { y with barriers := y.barriers ++
        [{ seq := x.nextId, scope := wm w 18 2, kind := kind, mark := decide (wm w 18 2 ≥ 2), upTo := s.fabric.nextAccess }] })).issueAcc k
          none).pump k
    (s.AccTakes c 0x0400 w → x.epochs = [] → exec (.fence c w) s = .next (put .fence)) ∧
    (s.AccTakes c 0x0401 w → x.epochs = [] → exec (.fenceSc c w) s = .next (put .fenceSc)) ∧
    (∀ p, s.works = true → x.frozen = false → x.accStall = some p → s.accFree k p.1 = true → ∃ t,
      exec (.stallCleared c .access) s = .next t ∧ s.OnlyCore t c ∧ t.core k = { x with accStall := none }) ∧
    (∀ p, s.works = true → x.frozen = false → x.exeStall = some p → s.exeFree k p.1 = true → ∃ t,
      exec (.stallCleared c .execute) s = .next t ∧ t.core k = { x with exeStall := none } ∧ t.dram = s.dram ∧ t.hostMem = s.hostMem) ∧
    (whole → l.tld = none → exec (.loadDataWritten c l.id) s = .next (ended s)) ∧
    (∀ p scales, whole → l.tld = some p → (isMx p.format.toNat = false ∧ scales = [] ∨
        isMx p.format.toNat = true ∧ p.scalesIn = true ∧ scales = p.stagedScales) →
      let o := p.output (s.drawJob owner) scales
      exec (.loadDataWritten c l.id) s = .next (ended ((s.putSpad k p.dest o.1).tallyOn k l.epoch owner o.2))) ∧
    (∀ p, whole → l.tld = some p → isMx p.format.toNat = true → p.scalesIn = false → ∃ t,
      exec (.loadDataWritten c l.id) s = .next (ended t) ∧ t.dram = s.dram ∧ t.hostMem = s.hostMem)

/-! ### The execute stream -/

/-- R57, R122, R128: NOP, LOOPI, BNZD and BRTX of the execute stream; a branch counts base words from the instruction after it, and BRTX
takes the head of its token queue, never one of a path that is not confirmed (R67). -/
def Obligations.ExecuteLoops : Prop :=
  ∀ (c : CoreId) (w : InstrWord) (s : State),
    let k := coreKey c
    let x := s.core k
    let goes := fun (taken : Prop) (y : Core) =>
      (taken → y.exePc = ((x.exePc : Int) + 1 + wTarget w).toNat) ∧ (¬ taken → y.exePc = x.exePc + 1)
    (s.ExeTakes c 0x1000 w → ∃ t, exec (.executeNop c w) s = .next t ∧ s.OnlyCore t c ∧ x.ExeFrame (t.core k) ∧
      (t.core k).tqs = x.tqs ∧ (t.core k).loops = x.loops ∧ (t.core k).exePc = x.exePc + 1) ∧
    (s.ExeTakes c 0x1001 w → ∃ t, exec (.loopi c w) s = .next t ∧ s.OnlyCore t c ∧ x.ExeFrame (t.core k) ∧ (t.core k).tqs = x.tqs ∧
      (∀ i, (t.core k).loop i = if i = selD w - 0x38 then w.imm.setWidth 32 else x.loop i) ∧ (t.core k).exePc = x.exePc + 1) ∧
    (s.ExeTakes c 0x1002 w → ∃ t, exec (.bnzd c w) s = .next t ∧ s.OnlyCore t c ∧ x.ExeFrame (t.core k) ∧ (t.core k).tqs = x.tqs ∧
      (∀ i, (t.core k).loop i = if i = selD w - 0x38 then x.loop i - 1 else x.loop i) ∧ goes (x.loop (selD w - 0x38) ≠ 1) (t.core k)) ∧
    (∀ tok, s.ExeTakes c 0x1003 w → (x.tokens (selA w - 0x30)).head? = some tok → tok.tile = x.exeTile.seq →
      x.unconfirmed tok.epoch = false →
      ∃ t, exec (.brtx c w) s = .next t ∧ s.OnlyCore t c ∧ x.ExeFrame (t.core k) ∧ (t.core k).loops = x.loops ∧
      (∀ q, (t.core k).tokens q = if q = selA w - 0x30 then (x.tokens q).drop 1 else x.tokens q) ∧ goes (tok.val ≠ 0) (t.core k))

/-- R56, R128: TPUSHX and TPUSHE append a token to T4 to T7, TPUSHE a 1 where the element of the tile buffer has the relation to the
immediate; TPOPX takes the head of T0 to T3 into a loop counter, never one of a path that is not confirmed (R67). -/
def Obligations.ExecuteTokens : Prop :=
  ∀ (c : CoreId) (w : InstrWord) (s : State),
    let k := coreKey c
    let x := s.core k
    let qd := selD w - 0x30
    let qa := selA w - 0x30
    let e := at64 (x.buf (selA w - 0x40)) (wi w 32 6) (wi w 40 6)
    (s.ExeTakes c 0x1600 w → (x.tokens qd).length < 32 → ∃ t tok, exec (.tpushx c w) s = .next t ∧ s.OnlyCore t c ∧
      x.ExeFrame (t.core k) ∧ (t.core k).loops = x.loops ∧ (t.core k).exePc = x.exePc + 1 ∧
      (∀ q, (t.core k).tokens q = if q = qd then x.tokens q ++ [tok] else x.tokens q) ∧ tok.val = w.imm.setWidth 32 ∧
      tok.tile = x.exeTile.seq) ∧
    (s.ExeTakes c 0x1601 w → (x.tokens qd).length < 32 → ∃ t tok, exec (.tpushe c w) s = .next t ∧ s.OnlyCore t c ∧
      x.ExeFrame (t.core k) ∧ (t.core k).loops = x.loops ∧ (t.core k).exePc = x.exePc + 1 ∧
      (∀ q, (t.core k).tokens q = if q = qd then x.tokens q ++ [tok] else x.tokens q) ∧
      tok.val = (if relHolds (wm w 16 3) e (w.imm.setWidth 32) = true then 1 else 0) ∧ tok.tile = x.exeTile.seq) ∧
    (∀ tok, s.ExeTakes c 0x1602 w → (x.tokens qa).head? = some tok → tok.tile = x.exeTile.seq →
      x.unconfirmed tok.epoch = false →
      ∃ t, exec (.tpopx c w) s = .next t ∧ s.OnlyCore t c ∧ x.ExeFrame (t.core k) ∧ (t.core k).exePc = x.exePc + 1 ∧
      (∀ q, (t.core k).tokens q = if q = qa then (x.tokens q).drop 1 else x.tokens q) ∧
      (∀ i, (t.core k).loop i = if selD w ≠ 0 ∧ i = selD w - 0x38 then tok.val else x.loop i))

/-- R48, R77, R80, R81, R85, R129: LATCH copies a plane into the shadow plane and leaves the active one (a plane of a tensor that the
translator turns over is read as its transposing load would have left it), LATCH_LOAD_DONE ends its load, SWAP exchanges the two
accumulator tiles, the partial tiles of a split contraction added first, and ACCLD sets the shadow tile from 4-byte elements of the
scratchpad; the other cubes stay. -/
def Obligations.PlanesAndTiles : Prop :=
  ∀ (c : CoreId) (w : InstrWord) (s : State),
    let k := coreKey c
    let x := s.core k
    let d := selD w - 0x48
    (∀ base len, s.ExeTakes c 0x1100 w → x.OperandAt (selA w) (slot0 w) base len → (x.cube d).loading = false →
      ∃ t, exec (.latch c w) s = .next t ∧ s.CoreAndTallies t c ∧ x.CubeFrame (t.core k) ∧ (t.core k).fill = x.fill ∧
      x.OperandUsed (t.core k) (selA w) (wm w 17 1 == 1) ∧ (∀ i, i ≠ d → (t.core k).cube i = x.cube i) ∧
      ((t.core k).cube d).planeShadow =
        readPlane (s.viewSlot k (wordSlot w) base len).1 base (wm w 24 4) (s.latchTransposed k w) ∧
      (wordSlot w = none → (s.viewSlot k (wordSlot w) base len).1 = x) ∧ ((t.core k).cube d).loading = true ∧
      ((t.core k).cube d).planeActive = (x.cube d).planeActive ∧ ((t.core k).cube d).active = (x.cube d).active ∧
      ((t.core k).cube d).shadow = (x.cube d).shadow) ∧
    (∀ n : BitVec 2, s.works = true → (x.cube n.toNat).loading = true → ∃ t, exec (.latchLoadDone c n) s = .next t ∧ s.OnlyCore t c ∧
      t.core k = x.setCube n.toNat { x.cube n.toNat with loading := false }) ∧
    (s.ExeTakes c 0x1102 w → ∃ t u, exec (.swap c w) s = .next t ∧ u = s.closeBatches k (fun b => b.cube == d) ∧
      u.CoreAndTallies t c ∧ (u.core k).CubeFrame (t.core k) ∧ (t.core k).fill = (u.core k).fill ∧ (t.core k).dqs = (u.core k).dqs ∧
      ((t.core k).cube d).active = ((u.core k).cube d).shadow ∧ ((t.core k).cube d).shadow = ((u.core k).cube d).whole.1 ∧
      (((u.core k).cube d).partials = [] → ((t.core k).cube d).shadow = ((u.core k).cube d).active) ∧
      ((t.core k).cube d).planeActive = ((u.core k).cube d).planeActive ∧
      ((t.core k).cube d).planeShadow = ((u.core k).cube d).planeShadow ∧ ∀ i, i ≠ d → (t.core k).cube i = (u.core k).cube i) ∧
    (s.ExeTakes c 0x1103 w → ∃ t, exec (.accld c w) s = .next t ∧ s.OnlyCore t c ∧ x.CubeFrame (t.core k) ∧ (t.core k).fill = x.fill ∧
      (t.core k).dqs = x.dqs ∧ (∀ i, i ≠ d → (t.core k).cube i = x.cube i) ∧ ((t.core k).cube d).active = (x.cube d).active ∧
      ((t.core k).cube d).planeActive = (x.cube d).planeActive ∧ ((t.core k).cube d).planeShadow = (x.cube d).planeShadow ∧
      ∀ r j, r < 64 → j < 64 → at64 ((t.core k).cube d).shadow r j =
        BitVec.ofNat 32 (leNat (memReadN x.spad (rangeBase (slot0 w) + 4 * (64 * r + j)) 4)))

/-- R46, R48, R78, R79: PASS adds the products of the rows of A and the columns of the plane to the elements of the active tile inside its
rows and columns, from zero where CLEAR is set or a new part of a split contraction begins, and leaves every other element. Formats that
may not meet give values that no rule states (notes/assumptions/19.md). -/
def Obligations.PassAccumulates : Prop :=
  ∀ (c : CoreId) (w : InstrWord) (s : State) (base len : Nat),
    let k := coreKey c
    let d := selD w - 0x48
    let rows := 8 * (wm w 18 3 + 1)
    let cols := 8 * (wm w 21 3 + 1)
    let clear := wm w 16 1 == 1
    let u := s.closeBatches k (fun b => b.below d rows)
    let y := u.core k
    let q := ((y.cube d).takePlane).enterPart (u.kParts k) clear
    let p := q.planeActive
    let fa := wm w 24 4
    let fb := p.format.toNat
    let v := (u.viewSlot k (wordSlot w) base len).1
    s.ExeTakes c 0x1101 w → (s.core k).OperandAt (selA w) (slot0 w) base len → ((s.core k).cube d).loading = false →
      ∃ t, exec (.pass c w) s = .next t ∧ u.CoreAndTallies t c ∧ y.CubeFrame (t.core k) ∧ (t.core k).fill = y.fill ∧
      (s.core k).OperandUsed (t.core k) (selA w) (wm w 17 1 == 1) ∧ ((t.core k).cube d).shadow = q.shadow ∧
      ((t.core k).cube d).planeActive = p ∧ ((t.core k).cube d).planes = q.planes + 1 ∧ (∀ i, i ≠ d → (t.core k).cube i = y.cube i) ∧
      (wordSlot w = none → v = y) ∧ (t.core k).spad = (s.core k).spad ∧
      ∀ r j, r < 64 → j < 64 →
        (¬ (r < rows ∧ j < cols) → at64 ((t.core k).cube d).active r j = at64 q.active r j) ∧
        (r < rows ∧ j < cols → mixable fa fb = true → at64 ((t.core k).cube d).active r j =
          (accumulate fa fb (rowCodes v base fa r) (p.col j) (if isMx fa then rowScales v base fa rows r else []) (p.colScales j)
            (if clear then 0 else at64 q.active r j)).v)

/-- R73, R74, R75, R57: MV closes the batches that write its accumulator row; then its row, with its operands as it finds them, joins the
batch of its B operand, and the eighth row closes that. A new B operand opens a batch, for which the oldest closes where four are open.
EOW closes every batch, and so does XEND, which ends the tile's execute stream; a batch that closes runs its rows in order. -/
def Obligations.FillBuffer : Prop :=
  ∀ (c : CoreId) (w : InstrWord) (s : State),
    let k := coreKey c
    let x := s.core k
    let cube := selD w - 0x48
    let row := mvRow x w
    let v := s.closeBatches k (fun b => b.writes cube row.acc)
    let y := v.core k
    let mine := fun (b : MvBatch) => b.sharesB cube (rangeBase (slot1 w)) (rangeLen (slot1 w)) (wm w 24 4)
    let joined := updateFirst mine (fun b => { b with rows := b.rows ++ [row] }) y.fill
    let fresh : MvBatch := { cube := cube, bBase := rangeBase (slot1 w), bLen := rangeLen (slot1 w),
                             format := BitVec.ofNat 8 (wm w 24 4), rows := [row] }
    let runs := fun (b : MvBatch) => (b.rows.foldl (fun (z : Table Word32 × Made) (e : MvRow) =>
      rowPass e.plane b.format.toNat e.a e.scales 64 e.acc false z) ((x.cube b.cube).active, {})).1
    (row.acc = wm w 16 6 ∧ row.a = rowCodes x (rangeBase (slot0 w)) (wm w 24 4) 0 ∧
      row.plane = readPlane x (rangeBase (slot1 w)) (wm w 24 4) false) ∧
    (y.fill = x.fill.filter (fun b => !b.writes cube row.acc)) ∧
    (s.ExeTakes c 0x1104 w → y.fill.any mine = true → (∀ b ∈ joined, mine b = true → b.rows.length < 8) →
      ∃ t, exec (.mv c w) s = .next t ∧ v.OnlyCore t c ∧ y.CubeFrame (t.core k) ∧ (t.core k).cubes = y.cubes ∧ (t.core k).fill = joined) ∧
    (s.ExeTakes c 0x1104 w → y.fill.any mine = true → ∃ t, exec (.mv c w) s = .next t ∧
      (t.core k).fill = joined.filter (fun b => !(mine b && decide (b.rows.length ≥ 8)))) ∧
    (s.ExeTakes c 0x1104 w → y.fill.any mine = false → ∃ t, exec (.mv c w) s = .next t ∧
      (t.core k).fill =
        (match y.fill.head? with | some o => if y.fill.length ≥ 4 then y.fill.filter (fun b => !(b == o)) else y.fill | none => y.fill)
          ++ [fresh]) ∧
    (s.ExeTakes c 0x1105 w → ∃ t, exec (.eow c w) s = .next t ∧ (t.core k).fill = [] ∧ (t.core k).exePc = x.exePc + 1 ∧
      (t.core k).spad = x.spad ∧ x.SameAccess (t.core k) ∧ ∀ b, x.fill = [b] → ((t.core k).cube b.cube).active = runs b) ∧
    (s.ExeTakes c 0x1004 w → ∃ t, exec (.xend c w) s = .next t ∧ (t.core k).fill = [] ∧ (t.core k).exeTile.exeEnd = true ∧
      (t.core k).spad = x.spad ∧ x.SameAccess (t.core k) ∧ ∀ b, x.fill = [b] → ((t.core k).cube b.cube).active = runs b)

/-! ### The vector engine -/

/-- R98, R99, R104, R105, R107, R130: an instruction of the lanes gives every element inside its row count and its column mask the result
of its operation and leaves every other element; a tap then reduces the results. A shift by 32 or more is left out: no rule states its
result (notes/assumptions/2.md); a conversion with SR draws a value that no rule states (notes/assumptions/22.md). -/
def Obligations.LaneResults : Prop :=
  ∀ (c : CoreId) (w : InstrWord) (s : State),
    let k := coreKey c
    let x := s.core k
    let one : Word32 := 0x3F800000
    let un := fun (f : Word32 → Word32) (a b _c v : Word32) => v = f (if selA w = 0 then b else a)
    let bi := fun (f : Word32 → Word32 → Word32) (a b _c v : Word32) => v = f a b
    let ops : List ((CoreId → InstrWord → Instr) × Nat × (Word32 → Word32 → Word32 → Word32 → Prop)) :=
      [(.vAdd, 0x1300, bi (fun a b => (fadd a b).v)), (.vSub, 0x1301, bi (fun a b => (fsub a b).v)),
       (.vMul, 0x1302, bi (fun a b => (fmul a b).v)), (.vFma, 0x1303, fun a b c v => v = (ffma a b c).v),
       (.vFms, 0x1304, fun a b c v => v = (ffms a b c).v), (.vNeg, 0x1305, un (fun a => (fneg a).v)),
       (.vAbs, 0x1306, un (fun a => (fabs a).v)), (.vMax, 0x1308, bi (fun a b => (fmax a b).v)),
       (.vMin, 0x1309, bi (fun a b => (fmin a b).v)), (.cmpEq, 0x130A, bi (fun a b => if cmpVal 0 a b = true then one else 0)),
       (.cmpLt, 0x130B, bi (fun a b => if cmpVal 1 a b = true then one else 0)),
       (.cmpLe, 0x130C, bi (fun a b => if cmpVal 2 a b = true then one else 0)),
       (.cmpUnord, 0x130D, bi (fun a b => if isNan (val32 a) = true ∨ isNan (val32 b) = true then one else 0)),
       (.vSel, 0x130E, fun a b c v => v = if isNan (val32 c) = true ∨ isZero (val32 c) = true then b else a),
       (.iAdd, 0x1310, bi (fun a b => a + b)), (.iSub, 0x1311, bi (fun a b => a - b)),
       (.iMin, 0x1312, bi (fun a b => if a.toInt ≤ b.toInt then a else b)),
       (.iMax, 0x1313, bi (fun a b => if b.toInt ≤ a.toInt then a else b)), (.vAnd, 0x1314, bi (fun a b => a &&& b)),
       (.vOr, 0x1315, bi (fun a b => a ||| b)), (.vXor, 0x1316, bi (fun a b => a ^^^ b)),
       (.vShl, 0x1317, fun a b _ v => b.toNat < 32 → v = a <<< b.toNat), (.vShr, 0x1318, fun a b _ v => b.toNat < 32 → v = a >>> b.toNat),
       (.vSra, 0x1319, fun a b _ v => b.toNat < 32 → v = a.sshiftRight b.toNat), (.vMov, 0x131C, un (fun a => a)),
       (.cvtF2i, 0x131D, fun a b _ v =>
          (wm w 28 2 = 0 → v = BitVec.ofNat 32 (toInt 32 .rne (val32 (if selA w = 0 then b else a))).1) ∧
          (wm w 28 2 = 2 → v = BitVec.ofNat 32 (toInt 32 .rtz (val32 (if selA w = 0 then b else a))).1)),
       (.cvtI2f, 0x131E, fun a b _ v =>
          let i := (if selA w = 0 then b else a).toInt
          (wm w 28 2 = 0 → v = (fin32 (decide (i < 0)) i.natAbs 0).v) ∧
          (wm w 28 2 = 2 → v = BitVec.ofNat 32 (fp32L.ofFin .rtz false (decide (i < 0)) i.natAbs 0 false).1)),
       (.vDiv, 0x1320, bi (fun a b => (fdiv a b).v)),
       (.vRcp, 0x1321, un (fun a => (frcp a).v)), (.vSqrt, 0x1322, un (fun a => (fsqrt a).v)),
       (.vRsqrt, 0x1323, un (fun a => (frsqrt a).v)), (.vExp2, 0x1324, un (fun a => (fexp2 a).v)),
       (.vLog2, 0x1325, un (fun a => (flog2 a).v)), (.vExp2s, 0x1326, bi (fun a b => (fexp2s a b).v))]
    ∀ e ∈ ops, s.ExeTakes c e.2.1 w → isLane (selD w) = true →
      ∃ (t : State) (y : Core) (f : Nat → Nat → Word32), exec (e.1 c w) s = .next t ∧ s.CoreAndTallies t c ∧ x.LaneFrame (t.core k) ∧
        (∀ i j, i < 64 → j < 64 →
          if i ≤ wm w 16 6 ∧ w.imm.getLsbD j = true then
            e.2.2 (at64 (x.lane (selA w)) i j) (x.laneB w i j) (at64 (x.lane (selC w)) i j) (f i j) ∧
              at64 (y.lane (selD w)) i j = f i j
          else at64 (y.lane (selD w)) i j = at64 (x.lane (selD w)) i j) ∧
        (∀ d, isLane d = true → d ≠ selD w → y.lane d = x.lane d) ∧ y.gns = x.gns ∧
        (if wm w 24 4 = 0 then y else (y.reduce (wm w 24 4 - 1) (redSpecOf w (wx w 0 48 8)) f).1).SameArrays (t.core k)

/-- R34, R35: a poison NaN operand gives the poison NaN, else any NaN operand the canonical NaN; an invalid operation gives the canonical
NaN and counts one. -/
def Obligations.NanPrecedence : Prop :=
  ∀ a b c : Word32,
    let p := fun (v : Word32) => val32 v = .poison
    let n := fun (v : Word32) => isNan (val32 v) = true
    let two : List (Word32 → Word32 → FRes) := [fadd, fsub, fmul, fdiv, fmax, fmin, fexp2s]
    let three : List (Word32 → Word32 → Word32 → FRes) := [ffma, ffms]
    let one : List (Word32 → FRes) := [fneg, fabs, frcp, fsqrt, frsqrt, fexp2, flog2]
    (∀ f ∈ two, (p a ∨ p b → (f a b).v = poison32) ∧ (n a ∨ n b → ¬ p a → ¬ p b → (f a b).v = nan32)) ∧
    (∀ f ∈ three, (p a ∨ p b ∨ p c → (f a b c).v = poison32) ∧ (n a ∨ n b ∨ n c → ¬ p a → ¬ p b → ¬ p c → (f a b c).v = nan32)) ∧
    (∀ f ∈ one, (p a → (f a).v = poison32) ∧ (n a → ¬ p a → (f a).v = nan32)) ∧
    (val32 a = .inf false → val32 b = .inf true → fadd a b = ⟨nan32, ⟨1, 0, 0, 0⟩⟩) ∧
    (isZero (val32 a) = true → ∀ g, val32 b = .inf g → fmul a b = ⟨nan32, ⟨1, 0, 0, 0⟩⟩)

/-- R36, R105: the special values of the long operations, by their FP32 patterns: zeros, infinities, and values below zero. -/
def Obligations.SpecialValues : Prop :=
  let inf : Word32 := 0x7F800000
  let ninf : Word32 := 0xFF800000
  let nz : Word32 := 0x80000000
  (∀ a b, val32 a = .inf true ∨ val32 a = .inf false → val32 b = .inf true ∨ val32 b = .inf false → (fdiv a b).v = nan32) ∧
  (∀ a b, isZero (val32 a) = true → isZero (val32 b) = true → (fdiv a b).v = nan32) ∧
  (∀ a b, (∃ g m e, val32 a = .fin g (m + 1) e) → isZero (val32 b) = true →
    fdiv a b = ⟨if isNeg (val32 a) = isNeg (val32 b) then inf else ninf, ⟨0, 1, 0, 0⟩⟩) ∧
  (∀ a b g, (∃ h m e, val32 a = .fin h m e) → val32 b = .inf g → (fdiv a b).v = if isNeg (val32 a) = g then 0 else nz) ∧
  (frcp 0).v = inf ∧ (frcp nz).v = ninf ∧ (frcp inf).v = 0 ∧ (frcp ninf).v = nz ∧ (fsqrt nz).v = nz ∧ (fsqrt inf).v = inf ∧
  (frsqrt 0).v = inf ∧ (frsqrt nz).v = ninf ∧ (frsqrt inf).v = 0 ∧ (flog2 0).v = ninf ∧ (flog2 nz).v = ninf ∧ (flog2 inf).v = inf ∧
  (∀ a, val32 a = .inf true ∨ (∃ m e, val32 a = .fin true (m + 1) e) →
    (fsqrt a).v = nan32 ∧ (frsqrt a).v = nan32 ∧ (flog2 a).v = nan32) ∧
  (fexp2 ninf).v = 0 ∧ (fexp2 inf).v = inf ∧ (∀ x, isNan (val32 x) = false → (fexp2s x ninf).v = 0)

/-- R41, R98, R102, R130: VLOAD widens the elements of its rows into the masked columns and leaves the rest of the tile; a data-queue
operand is popped (the model's choice, notes/assumptions/78.md). VSTORE writes the elements that its mask names, of an MX format with the
scale of their half-row, and no other byte of the scratchpad. Elements outside the range have no stated value
(notes/assumptions/23.md). -/
def Obligations.TileTransfers : Prop :=
  ∀ (c : CoreId) (w : InstrWord) (s : State) (base len : Nat),
    let k := coreKey c
    let x := s.core k
    let fmt := wm w 24 4
    let rows := wm w 16 6 + 1
    let wd := elemBits fmt / 8
    let frame := fun (y : Core) => x.SameAccess y ∧ y.tqs = x.tqs ∧ y.loops = x.loops ∧ y.exePc = x.exePc + 1 ∧ y.fill = x.fill ∧
      y.gns = x.gns
    (s.ExeTakes c 0x1330 w → x.OperandAt (selA w) (wx w 0 0 32) base len → isLane (selD w) = true →
      ∃ t, exec (.vload c w) s = .next t ∧ s.CoreAndTallies t c ∧ frame (t.core k) ∧ (t.core k).spad = x.spad ∧
        x.OperandUsed (t.core k) (selA w) true ∧ (∀ d, isLane d = true → d ≠ selD w → (t.core k).lane d = x.lane d) ∧
        ∀ i j, i < 64 → j < 64 →
          (¬ (i ≤ wm w 16 6 ∧ w.imm.getLsbD j = true) → at64 ((t.core k).lane (selD w)) i j = at64 (x.lane (selD w)) i j) ∧
          (i ≤ wm w 16 6 → w.imm.getLsbD j = true → rowFits fmt rows len i = true → at64 ((t.core k).lane (selD w)) i j =
            (laneIn fmt (elemAt fmt (memReadN x.spad (base + i * tileRow fmt) (tileRow fmt)) j)
              (memRead x.spad (base + tileScales fmt rows + 2 * i + j / 32)).toNat).v)) ∧
    (s.ExeTakes c 0x1331 w → x.OperandAt (selD w) (wx w 0 0 32) base len → Memory.wf x.spad = true →
      let job := s.drawJob x.exeTile.ctx
      let tile := x.lane (selA w)
      let pieces := if isMx fmt then (mxStores job x w fmt base len tile).1 else (plainStores job x w fmt base len tile).1
      ∃ t, exec (.vstore c w) s = .next t ∧ s.CoreAndTallies t c ∧ frame (t.core k) ∧ (t.core k).dqs = x.dqs ∧
        (∀ d, (t.core k).lane d = x.lane d) ∧
        (isMx fmt = false → ∀ i j, i ≤ wm w 16 6 → j < 64 → w.imm.getLsbD j = true → rowFits fmt rows len i = true →
          memReadN (t.core k).spad (base + (64 * i + j) * wd) wd =
            natLE (laneOut fmt (vstoreMode job x w wd (64 * i + j)) (wx w 0 56 1 == 0) (at64 tile i j)).1 wd) ∧
        (isMx fmt = true → ∀ i h, i ≤ wm w 16 6 → h < 2 → (∃ j, j < 32 ∧ w.imm.getLsbD (32 * h + j) = true) →
          rowFits fmt rows len i = true →
          let bb := elemBytes fmt 32
          let n := 2 * i + h
          let vs := (List.range 32).map (fun j => at64 tile i (32 * h + j))
          let modes := (List.range 32).map (fun j => if wm w 28 2 = 1 then vstoreMode job x w 1 (32 * n + j) else .rne)
          let e := quantiseElems fmt modes vs
          memRead (t.core k).spad (base + tileScales fmt rows + n) = BitVec.ofNat 8 e.1 ∧
            memReadN (t.core k).spad (base + n * bb) bb = packElems fmt ((List.range 32).map (fun j =>
              if w.imm.getLsbD (32 * h + j) then (e.2.1.getD j (0, {})).1 else elemAt fmt (memReadN x.spad (base + n * bb) bb) j))) ∧
        ∀ a, (∀ p ∈ pieces, a < p.1 ∨ p.1 + p.2.length ≤ a) → memRead (t.core k).spad a = memRead x.spad a)

/-- R106, R108 to R110, R130: a reduction writes its column, its row or its one element, and nothing else of the tile buffer. The column
of alpha is a free value (notes/assumptions/6.md). -/
def Obligations.ReductionResults : Prop :=
  ∀ (c : CoreId) (w : InstrWord) (s : State),
    let k := coreKey c
    let x := s.core k
    let r := redSpecOf w (selD w)
    let f := at64 (x.lane (selA w))
    let old := at64 (x.buf (selD w - 0x40))
    let best := fun (i : Nat) => chainMax (rowVals f r.mask negInf32 i)
    let gives := fun (op : Nat) (i : Instr) (at_ : Nat → Nat → Prop) (v : Nat → Nat → Word32) =>
      s.ExeTakes c op w → isBuf (selD w) = true → ∃ t, exec i s = .next t ∧ s.CoreAndTallies t c ∧ x.LaneFrame (t.core k) ∧
        (t.core k).gns = x.gns ∧ (∀ n, n < 4 → n ≠ selD w - 0x40 → (t.core k).buf n = x.buf n) ∧ (t.core k).cubes = x.cubes ∧
        ∀ m n, m < 64 → n < 64 → (at_ m n → at64 ((t.core k).buf (selD w - 0x40)) m n = v m n) ∧
          (¬ at_ m n → at64 ((t.core k).buf (selD w - 0x40)) m n = old m n)
    let col := fun (m n : Nat) => m < r.rows ∧ n = r.res
    let row := fun (m n : Nat) => m = r.res ∧ r.mask.getLsbD n = true
    gives 0x1400 (.rsum c w) col (fun m _ => (rowSum f r.mask m).v) ∧
    gives 0x1401 (.rsumsq c w) col (fun m _ => (rowSumSq f r.mask m).v) ∧
    gives 0x1402 (.csum c w) row (fun _ n => (chainSum ((List.range r.rows).map (fun i => ⟨f i n, {}⟩))).v) ∧
    gives 0x1403 (.rmax c w) col (fun m _ => best m) ∧
    gives 0x1404 (.cmax c w) row (fun _ n => chainMax ((List.range r.rows).map (fun i => f i n))) ∧
    gives 0x1405 (.rargmax c w) (fun m n => m < r.rows ∧ (n = r.res ∨ n = r.idx)) (fun m n =>
      let new := rowArg f r.mask r.base m
      let keep := r.merge && !argReplaces (old m r.res) new.1
      if n = r.idx then (if keep then old m r.idx else new.2) else (if keep then old m r.res else new.1)) ∧
    gives 0x1406 (.tsumsq c w) (fun m n => m = r.idx ∧ n = r.res)
      (fun _ _ => (chainSum ((List.range r.rows).map (rowSumSq f r.mask))).v) ∧
    gives 0x1407 (.rmaxupd c w) (fun m n => m < r.rows ∧ (n = r.res ∨ n = alphaCol r.res)) (fun m n =>
      let u := maxUpd (old m r.res) (best m)
      if n = r.res then u.1 else u.2.1) ∧
    gives 0x1408 (.rsumacc c w) col (fun m _ => (ffma (old m r.res) (old m (alphaCol r.idx)) (rowSum f r.mask m).v).v)

/-- R111: TSUMSQ into a gradient-noise register combines its value with the register first, and GNS_MARK adds its immediate to GNS_COUNT,
which saturates; each leaves the other gradient-noise registers. -/
def Obligations.GradientNoise : Prop :=
  ∀ (c : CoreId) (w : InstrWord) (s : State),
    let k := coreKey c
    let x := s.core k
    let g := x.gns
    let v := (chainSum ((List.range (wm w 16 6 + 1)).map (rowSumSq (at64 (x.lane (selA w))) w.imm))).v
    (s.ExeTakes c 0x1406 w → selD w = 0x58 → ∃ t, exec (.tsumsq c w) s = .next t ∧ s.CoreAndTallies t c ∧ x.LaneFrame (t.core k) ∧
      (t.core k).gns = { g with localS := (combine g.localS g.localC v 0).1, localC := (combine g.localS g.localC v 0).2 }) ∧
    (s.ExeTakes c 0x1406 w → selD w = 0x59 → ∃ t, exec (.tsumsq c w) s = .next t ∧ s.CoreAndTallies t c ∧ x.LaneFrame (t.core k) ∧
      (t.core k).gns = { g with redS := (combine g.redS g.redC v 0).1, redC := (combine g.redS g.redC v 0).2 }) ∧
    (s.ExeTakes c 0x1410 w → ∃ t, exec (.gnsMark c w) s = .next t ∧ s.OnlyCore t c ∧ x.LaneFrame (t.core k) ∧
      (t.core k).gns = { g with count := (t.core k).gns.count } ∧
      (t.core k).gns.count.toNat = min (g.count.toNat + wx w 0 0 32) (2 ^ 32 - 1))

/-- R112 to R115, R117, R132: ADAMW and MOMENTUM update their elements in order over the scratchpad with the constants of the OPT_STEP
launch, and count what NF_SKIP passed over; in any other launch they raise OPT_NO_STEP. The order of the operations of one element is
that of R114 and R115. -/
def Obligations.OptimiserSteps : Prop :=
  ∀ (c : CoreId) (w : InstrWord) (s : State) (adam : Bool),
    let k := coreKey c
    let x := s.core k
    let t := x.exeTile
    let i : Instr := if adam then .adamw c w else .momentum c w
    s.ExeTakes c (if adam then 0x1500 else 0x1501) w →
      ((s.grid? t.grid).bind (·.opt) = none → exec i s = .next ((s.issueExe k).raise (s.tileErr k 0x0106 t 0 0))) ∧
      (∀ o, (s.grid? t.grid).bind (·.opt) = some o → ∃ u r, exec i s = .next u ∧ s.CoreAndTallies u c ∧
        r = (laneCells w).foldl (optElem adam o (s.drawJob t.ctx) x w) { spad := x.spad } ∧ (u.core k).spad = r.spad ∧
        (u.ctx t.ctx).nonfiniteSkips = satAdd (s.ctx t.ctx).nonfiniteSkips r.skips ∧ x.SameAccess (u.core k) ∧
        x.SameQueues (u.core k) ∧ x.SameArrays (u.core k) ∧ (u.core k).loops = x.loops ∧ (u.core k).exePc = x.exePc + 1) ∧
      ∀ (o : OptConst) (nesterov : Bool) (w0 m0 v0 g : Word32),
        let m := (ffma o.mu m0 g).v
        let u := if nesterov then (ffma o.mu m g).v else m
        let am := (ffma o.b1 m0 (fmul o.omb1 g).v).v
        let av := (ffma o.b2 v0 (fmul o.omb2 (fmul g g).v).v).v
        let d := (fadd (fsqrt (fmul av o.bc2).v).v o.eps).v
        let r := momentumElem o nesterov w0 m0 g
        let a := adamwElem o w0 m0 v0 g
        r.m = m ∧ r.w = (ffma (fneg o.lr).v (ffma o.wd w0 u).v w0).v ∧ a.m = am ∧ a.v = av ∧
          a.w = (ffma (fneg o.lr).v (ffma o.wd w0 (fdiv (fmul am o.bc1).v d).v).v w0).v

/-! ### The gang unit -/

/-- R90, R91, R94, R95, R131: the items of an instruction whose launch holds the cluster's unit join its queue, each no larger than a group
of the launch's shape and together every row and column of the instruction; a free unit is taken in that shape. A launch that does not
hold it waits, and so does an instruction whose items do not fit the queue. -/
def Obligations.GangIssue : Prop :=
  ∀ (c : CoreId) (w : InstrWord) (s : State) (a al b bl : Nat),
    let k := coreKey c
    let x := s.core k
    let r := k / 32
    let g := (s.cluster r).gang
    let mine := g.holder = some x.exeTile.grid ∨ g.holder = none
    let cut := ((s.grid? x.exeTile.grid).map (fun y => y.shape.toNat)).getD 0
    let shape := if g.holder = none then cut else g.shape
    let its := gangItems x k cut s.time x.exeTile w a b
    s.ExeTakes c 0x1200 w → x.OperandAt (selA w) (wx w 0 32 32) a al → x.OperandAt (selB w) (wx w 0 64 32) b bl →
      (mine → g.queue.length + its.length ≤ 32 → ∃ t, exec (.gang c w) s = .next t ∧ (t.cluster r).gang.queue = g.queue ++ its ∧
        (its ≠ [] → (t.cluster r).gang.holder = some x.exeTile.grid ∧ (t.cluster r).gang.shape = shape) ∧
        (t.cluster r).gang.groups = g.groups ∧ (t.core k).exePc = x.exePc + 1 ∧
        (t.core k).spad = x.spad ∧ x.SameAccess (t.core k) ∧ x.SameArrays (t.core k) ∧ (∀ j, j ≠ r → t.cluster j = s.cluster j) ∧
        ∀ j, j ≠ k → t.core j = s.core j) ∧
      (∀ it ∈ its, it.core = k ∧ it.grid = x.exeTile.grid ∧ it.aBase = a ∧ it.bBase = b ∧ it.dBase = rangeBase (wx w 0 0 32) ∧
        it.k = wi w 0 16 + 1 ∧ it.width = wi w 23 7 ∧ it.rows ≤ gangRows cut ∧ it.cols ≤ gangCols cut ∧
        it.aRow + it.rows ≤ wi w 16 7 ∧ it.bCol + it.cols ≤ it.width ∧ (it.chain = true ↔ wm w 16 1 = 1)) ∧
      (∀ i j, i < wi w 16 7 → j < wi w 23 7 → ∃ it ∈ its, it.aRow ≤ i ∧ i < it.aRow + it.rows ∧ it.bCol ≤ j ∧ j < it.bCol + it.cols) ∧
      (¬ mine → ∃ t, exec (.gang c w) s = .next t ∧ (t.core k).exeStall = some (.gangUnit, s.time) ∧ (t.core k).exePc = x.exePc ∧
        (t.cluster r).gang.queue = g.queue ∧ (t.cluster r).gang.groups = g.groups ∧ (t.cluster r).gang.holder = g.holder) ∧
      (mine → 32 < g.queue.length + its.length → exec (.gang c w) s = .next (s.stallExe k .gangQueue))

/-- R87, R91, R92, R93: an idle group takes its next item in order of arrival, a chain's core first, and reads its operands from the issuing
core's scratchpad; a chained item keeps its cells and the group, another starts its drain, and the drain writes the results, row by row,
to the issuing core's scratchpad. -/
def Obligations.GangGroups : Prop :=
  ∀ (rank : BitVec 8) (group : BitVec 3) (s : State) (x : GangItem),
    let r := rank.toNat
    let i := group.toNat
    let g := (s.cluster r).gang
    let p := g.group i
    let spad := (s.core x.core).spad
    let read := s.gangRead x
    let fmt := x.opFormat.toNat
    let row := fun (n : Nat) => x.dBase + elemBytes x.outFormat.toNat ((x.aRow + n) * x.width + x.bCol)
    (read = { x with a := read.a, b := read.b } ∧
      (∀ m, m < x.rows * x.k → read.a[m]? =
        some (elemAt fmt (memReadN spad x.aBase (elemBytes fmt (x.aRow * x.k + x.rows * x.k))) (x.aRow * x.k + m))) ∧
      (∀ m j, m < x.k → j < x.cols → read.b[m * x.cols + j]? =
        some (elemAt fmt (memReadN spad x.bBase (elemBytes fmt (m * x.width + x.bCol + x.cols))) (m * x.width + x.bCol + j)))) ∧
    (s.works = true →
      (i < gangGroups g.shape → p.running = none → g.nextItem i = some x → ∃ t, exec (.gangItemStart rank group) s = .next t ∧
        ((t.cluster r).gang.group i).running = some read ∧ ((t.cluster r).gang.group i).acc = (if p.chain = none then [] else p.acc) ∧
        ((t.cluster r).gang.group i).chain = p.chain ∧ ((t.cluster r).gang.group i).lastServed = x.core % 32 ∧
        (∀ y ∈ (t.cluster r).gang.queue, y ∈ g.queue ∧ ¬ (y.id = x.id ∧ y.core = x.core)) ∧
        (∀ j, j ≠ i → (t.cluster r).gang.group j = g.group j) ∧ t.cores = s.cores) ∧
      (p.running = some x → x.chain = true → ∃ t, exec (.gangItemEnd rank group) s = .next t ∧
        (t.cluster r).gang.group i = { p with running := none, acc := (gangCells x p.acc).1, chain := some x.core } ∧
        t.cores = s.cores ∧ t.dram = s.dram) ∧
      (p.running = some x → x.chain = false → p.draining = none → ∃ t, exec (.gangItemEnd rank group) s = .next t ∧
        (t.cluster r).gang.group i =
          { p with running := none, acc := [], done := (gangCells x p.acc).1, draining := some x, chain := none } ∧
        t.cores = s.cores ∧ t.dram = s.dram) ∧
      (p.draining = some x → Memory.wf spad = true → x.outFormat.toNat ≤ 2 → x.bCol + x.cols ≤ x.width →
        ∃ t, exec (.gangDrainDone rank group) s = .next t ∧
        (t.cluster r).gang.group i = { p with draining := none, done := [] } ∧
        (∀ n, n < x.rows → memReadN (t.core x.core).spad (row n) (elemBytes x.outFormat.toNat x.cols) = (drainRow x p.done n).1) ∧
        (∀ a, (∀ n, n < x.rows → a < row n ∨ row n + elemBytes x.outFormat.toNat x.cols ≤ a) →
          memRead (t.core x.core).spad a = memRead spad a) ∧ ∀ j, j ≠ x.core → t.core j = s.core j))

/-! ### The memory side -/

/-- R157, R180, R199, R213: a READ, WRITE or ATOMIC of another module that reaches its home here is performed on its frame, held, handed
on, or refused, as the checks decide; only a performed WRITE or ATOMIC changes DRAM, and only at its own bytes. -/
def Obligations.HomeRequests : Prop :=
  ∀ (r : Request) (s : State) (la : Nat),
    let t := s.takeIn r
    let pn := parcelOf r.va.toNat
    let wide := atomWide r
    let n := if r.op = .write then r.size.toNat + 1 else if wide then 8 else 4
    let i : Instr := match r.op with | .read => .read r | .write => .write r | _ => .atomic r
    let old := leNat (s.getDram la (if wide then 8 else 4))
    (r.op = .read ∨ r.op = .write ∨ r.op = .atomic) → s.homeReady r = true → s.ownSent r = false → s.boot.state ≠ .stopped →
      (∀ m, t.homeAct r = .denied m → exec i s = .next (t.sendReply r (t.answer r .denied m []))) ∧
      (∀ p, t.homeAct r = .hold → t.parcel? r.job pn = some p → p.held.length < 256 →
        exec i s = .next ((t.countReq r.job pn r.src.toNat).holdReq r)) ∧
      (∀ p, t.homeAct r = .hold → t.parcel? r.job pn = some p → 256 ≤ p.held.length → ∃ u : State,
        exec i s = .next (u.sendReply r (t.answer r .retry 0 [])) ∧ u.dram = s.dram ∧ u.home.moveRetries = s.home.moveRetries + 1) ∧
      (t.homeAct r = .drop → exec i s = .next (t.sendReply r (t.answer r .noFrame 0 []))) ∧
      (t.homeAct r = .poison → ∃ u : State, exec i s = .next (u.sendReply r
        (t.answer r .poison 0 (if r.op = .read then List.replicate 128 0xFF else []))) ∧ u.dram = s.dram) ∧
      (∀ f, t.homeAct r = .away → s.home.forwards.find? (fun f => f.job == r.job && f.parcel == pn) = some f → r.fwd = false →
        exec i s = .next (t.forwardReq r f.home)) ∧
      (t.homeAct r = .away → (s.home.forwards.find? (fun f => f.job == r.job && f.parcel == pn) = none ∨ r.fwd = true) →
        exec i s = .next (t.sendReply r (t.answer r .bearingMiss 0 []))) ∧
      (t.homeAct r = .perform → s.localAddr r.job r.va.toNat = some la → Memory.wf s.dram = true →
        ∃ (u : State) (rep : Reply), exec i s = .next (u.sendReply r rep) ∧ rep.status = .ok ∧ rep.dest = r.src ∧ rep.tag = r.tag ∧
        (r.op = .read → rep.data = s.getDram (lineOf la) 128 ∧ u.dram = s.dram) ∧
        (r.op = .write → rep.data = [] ∧ u.getDram la n = slice r.payload 0 n) ∧
        (r.op = .atomic → rep.data = natLE old 8 ∧ u.getDram la n = natLE (atomApply (atomCode r) wide old r.arg.toNat).1 n) ∧
        ∀ a, r.op ≠ .read → a < la ∨ la + n ≤ a → memRead u.dram a = memRead s.dram a)

/-- R200, R207 to R209: a copy of an INVALIDATE is taken out of what has arrived, relayed and acknowledged; an acknowledgement counts at
its relay, known by its TAG and its issuer, or at its issuer, where the last one ends the INVALIDATE; a reply reaches the access whose tag
it carries. A stopped module drops a copy. -/
def Obligations.HomeMessages : Prop :=
  ∀ (p : Packet) (r : Request) (tag : BitVec 16) (issuer : BitVec 15) (rep : Reply) (s : State), s.mainUp = true →
    let t := s.takeArrived (· == p)
    let u := s.takeArrived (isRep rep)
    let mine := fun (y : Relay) => y.tag == tag && y.issuer == issuer && y.left != 0
    (invalidateOf p = some r → s.boot.state ≠ .stopped → exec (.invalidateRequest p) s = .next (t.invalidated p r)) ∧
    (invalidateOf p = some r → s.boot.state = .stopped → exec (.invalidateRequest p) s = .next t) ∧
    (ackOf p = some (tag, issuer) → p.env.dest.toNat = s.self →
      (∀ x, issuer.toNat ≠ s.self → s.fabric.relays.find? mine = some x → x.left ≠ 1 → exec (.invalidateAck p) s =
        .next (t.modFabric (fun f => { f with relays := updateFirst (· == x) (fun y => { y with left := y.left - 1 }) f.relays }))) ∧
      (∀ x, issuer.toNat ≠ s.self → s.fabric.relays.find? mine = some x → x.left = 1 → exec (.invalidateAck p) s =
        .next ((t.modFabric (fun f => { f with relays := takeFirst (· == x) f.relays })).sendAck x.dst p.env.cls x.va x.tag x.issuer)) ∧
      (issuer.toNat ≠ s.self → s.fabric.relays.find? mine = none → exec (.invalidateAck p) s = .next t) ∧
      (∀ x, issuer.toNat = s.self → s.fabric.invals.find? (fun y => y.tag == tag) = some x → 1 < x.left → exec (.invalidateAck p) s =
        .next (t.modFabric (fun f =>
          { f with invals := updateFirst (fun y => y.id == x.id) (fun y => { y with left := y.left - 1 }) f.invals }))) ∧
      (∀ x, issuer.toNat = s.self → s.fabric.invals.find? (fun y => y.tag == tag) = some x → x.left ≤ 1 →
        exec (.invalidateAck p) s = .next (t.invalDone x)) ∧
      (issuer.toNat = s.self → s.fabric.invals.find? (fun y => y.tag == tag) = none → exec (.invalidateAck p) s = .next t)) ∧
    (∀ a, rep.dest.toNat = s.self → s.fabric.accesses.find? (fun a => a.slot && a.req.tag == rep.tag) = some a →
      exec (.reply rep) s = .next (u.answered a rep).ownNext) ∧
    (rep.dest.toNat = s.self → s.fabric.accesses.find? (fun a => a.slot && a.req.tag == rep.tag) = none →
      exec (.reply rep) s = .next u)

/-- R172, R180, R197, R210, R211, R395: a request answered RETRY, or repeated after a BEARING_MISS, goes again 1 µs later, a bearing request
when a reply slot is free; an access or an INVALIDATE without an answer for its context's timeout fails; the slot kept for a timed-out
request is given back 100 µs after its target was declared unreachable. -/
def Obligations.SenderTimers : Prop :=
  ∀ (id : Nat) (s : State) (at_ : Nat), s.mainUp = true →
    (∀ a, s.access? id = some a →
      (at_ ≤ s.time →
        (a.stage = .retry at_ → a.purpose ≠ .lookup → exec (.retryResend id) s = .next (s.route a)) ∧
        (a.stage = .retry at_ → a.purpose = .lookup → s.slotsHeld < replySlots → exec (.retryResend id) s = .next (s.lookupAgain a)) ∧
        ((a.purpose = .lookup → s.slotsHeld < replySlots) →
          (∀ b, a.stage = .repeatAt at_ → s.bearing? a.req.job a.parcel = some b → a.missed = some (b.home, b.gen) →
            ∃ t, exec (.bearingMissRepeat id) s = .next t ∧ t = { s with fabric := t.fabric } ∧ t.fabric.accesses =
              updateFirst (fun x => x.id == a.id) (fun x => { x with stage := .repeatAt (s.time + 1000), missed := none }) s.fabric.accesses) ∧
          (a.stage = .repeatAt at_ → (∀ b, s.bearing? a.req.job a.parcel = some b → a.missed ≠ some (b.home, b.gen)) →
            exec (.bearingMissRepeat id) s = .next (s.route a)))) ∧
      (a.waits = true → a.sentAt + s.fabricTimeout a.ctx ≤ s.time → exec (.fabricTimeout id) s = .next (s.timeOut a)) ∧
      (∀ u, a.stage = .timedOut at_ → u ∈ s.fabric.unreachable → u.1 = a.req.dest.toNat →
        max at_ (u.2 + 100000) ≤ s.time → exec (.replySlotReclaim id) s = .next (s.dropAccess id).ownNext)) ∧
    ∀ x, s.access? id = none → s.fabric.invals.find? (fun x => x.id == id) = some x →
      (x.orphan = none → x.sentAt + s.fabricTimeout x.ctx ≤ s.time → exec (.fabricTimeout id) s = .next (s.timeOutInval x)) ∧
      (∀ u m, x.orphan = some at_ → u ∈ s.fabric.unreachable → m ∈ x.mods → u.1 = m.toNat → max at_ (u.2 + 100000) ≤ s.time →
        exec (.replySlotReclaim id) s =
          .next (s.modFabric (fun f => { f with invals := f.invals.filter (fun y => y.id != x.id) })).ownNext)

/-- R172, R179, R187, R199: a registrar answers a bearing request of its own job with the entry it holds, ATTR and POLICY in one byte
(notes/assumptions/27.md), or holds it at the parcel's home for a page-in; a job without a context, another
module set, or an address without an entry is refused, and another module set is reported. -/
def Obligations.RegistrarAnswers : Prop :=
  ∀ (r : Request) (fab : Fab) (s : State), r.op = .regLookup → s.registrarReach r = true →
    let t := s.takeIn r
    let run := exec (.regLookup r fab) s
    (s.boot.state = .stopped → run = .next t) ∧
    (s.boot.state ≠ .stopped → t.ctxOf r.job = none → run = .next (t.refuse r .denied 1)) ∧
    ∀ c, s.boot.state ≠ .stopped → t.ctxOf r.job = some c →
      (r.arg.toNat % 2 ^ 32 ≠ (t.ctx c).setCrc.toNat → run = .next ((t.refuse r .denied 3).raise { code := 0x0109, ctx := some c })) ∧
      (r.arg.toNat % 2 ^ 32 = (t.ctx c).setCrc.toNat → t.entry? r.job (parcelOf r.va.toNat) = none →
        run = .next (t.refuse r .addrUnmapped 0)) ∧
      ∀ e, r.arg.toNat % 2 ^ 32 = (t.ctx c).setCrc.toNat → t.entry? r.job (parcelOf r.va.toNat) = some e →
        (e.state = .resident ∨ e.state = .moving ∨ e.state = .pagingOut → ∃ rep : Reply, run = .next (t.sendReply r rep) ∧
          rep.status = .ok ∧ rep.dest = r.src ∧ rep.tag = r.tag ∧ rep.home = e.home ∧ rep.frame = e.frame ∧ rep.gen = e.gen ∧
          rep.reason = attrByte e.attr e.policy) ∧
        (∀ p, e.state = .pagingIn ∨ e.state = .paged → e.parcel = parcelOf r.va.toNat → e.home.toNat = t.self →
          t.parcel? r.job e.parcel = some p →
          (p.held.length < 256 → run = .next (t.holdReq r)) ∧
          (256 ≤ p.held.length → ∃ u : State, run = .next (u.sendReply r (t.answer r .retry 0 [])) ∧
            u.home.moveRetries = s.home.moveRetries + 1)) ∧
        run = .next (t.lookedUp c r e fab)

/-- R171, R180, R182 to R184: tallies end their epoch 1 ms after the last; a tally report may begin a move; a line of a copy is taken into
the arriving frame; the switch, within the bound of R184, advances the entry's generation; the drain releases what the new home holds; a move 50 µs old is abandoned; a
forwarding record ages after 10 ms. -/
def Obligations.Moves : Prop :=
  ∀ (r : Request) (fab : Fab) (s : State) (job : BitVec 16) (parcel : BitVec 35),
    let pn := parcel.toNat
    let t := s.takeIn r
    (s.surveys = true → s.home.lastEpochEnd + 1000000 ≤ s.time → ∃ u, exec .tallyEpochEnd s = .next u ∧ u.home.lastEpochEnd = s.time) ∧
    (r.op = .tallyReport → s.registrarReach r = true → exec (.tallyReport r fab) s = .next (s.tallied r fab)) ∧
    (r.op = .moveData → s.registrarReach r = true → exec (.moveData r) s = .next (s.moveLine r)) ∧
    (∀ c x, r.op = .moveData → s.registrarReach r = true → s.boot.state ≠ .stopped → t.ctxOf r.job = some c → Memory.wf s.dram = true →
      (t.openIncoming r).home.incoming.find? (fun x => x.job == r.job && x.parcel == parcelOf r.va.toNat) = some x →
      x.got + 1 ≠ frameLines → ∃ u : State, exec (.moveData r) s = .next (u.refuse r .ok 0) ∧
        (let la := x.frame * frameBytes + lineOf (r.va.toNat % frameBytes)
         u.getDram la 128 = slice r.payload 0 128 ∧ ∀ a, a < la ∨ la + 128 ≤ a → memRead u.dram a = memRead s.dram a)) ∧
    (∀ e m f, s.surveys = true → s.entry? job pn = some e → e.state = .moving → e.moveTo = some (m, f) →
      s.moveInTime job e.parcel e.moveStart 1000 = true →
      (m.toNat = s.self → s.arrivedHere job e.parcel = true) → e.home.toNat ≠ s.self →
      ∃ u, exec (.moveCopyComplete (.registrar job parcel)) s = .next u ∧ u.dram = s.dram ∧ u.cores = s.cores ∧
        u.home.movesDone = s.home.movesDone + 1 ∧ u.out = s.out ++ [.ctrl e.home.toNat (.switched e.job e.parcel m f (e.gen + 1))] ∧
        u.entry? job pn = some { e with state := .resident, prevHome := e.home, home := BitVec.ofNat 16 m.toNat, frame := f,
                                        gen := e.gen + 1, moveTo := none, lastMove := some s.time }) ∧
    (∀ e m f, s.surveys = true → s.entry? job pn = some e → e.state = .moving → e.moveTo = some (m, f) →
      s.moveInTime job e.parcel e.moveStart 1000 = true →
      (m.toNat = s.self → s.arrivedHere job e.parcel = true) → e.home.toNat = s.self → s.canGive job e.parcel = true →
      exec (.moveCopyComplete (.registrar job parcel)) s = .next (s.switchEntry e m f)) ∧
    (∀ m f g, s.surveys = true → s.canGive job pn = true → s.moveInTime job pn s.time 2000 = true →
      exec (.moveCopyComplete (.oldHome job parcel m f g)) s = .next (s.giveUp job pn m f g)) ∧
    (r.op = .drainDone → s.registrarReach r = true → exec (.drainDone r) s = .next (s.drained r)) ∧
    (s.surveys = true → s.moveOverdue job pn = true →
      exec (.moveAbandon job parcel) s = .next (((s.abandonEntry job pn).abandonIncoming job pn).abandonCopy job pn)) ∧
    (∀ f, s.surveys = true → f ∈ s.home.forwards → f.job = job → f.parcel = pn → f.aged = false → f.made + 10000000 ≤ s.time →
      ∃ u, exec (.forwardingRecordAged job parcel) s = .next u ∧ u = { s with home := { s.home with forwards := u.home.forwards } } ∧
        u.home.forwards.length = s.home.forwards.length ∧
        u.home.forwards.countP (fun g => g.aged) = s.home.forwards.countP (fun g => g.aged) + 1)

/-- R186, R187: above the high-water mark, and on from there to the low-water mark, the coldest parcels start to page out; a parcel paged out
lies in its slot of host memory and its frame is zero; a parcel paged in is filled from its slot, and its held requests are performed,
above the high-water mark not before a page-out has ended. -/
def Obligations.Paging : Prop :=
  ∀ (s : State) (job : BitVec 16) (parcel : BitVec 35) (p : HomeParcel),
    let pn := parcel.toNat
    (s.surveys = true → (s.aboveHigh = true ∨ s.home.paging = true) → s.atLow = false → s.coldest ≠ none → s.freeSlot ≠ none →
      ∃ t, exec .pageOutStart s = .next t ∧ t.dram = s.dram ∧ t.hostMem = s.hostMem ∧ t.cores = s.cores ∧ t.home.paging = true ∧
        t.home.parcels.length = s.home.parcels.length ∧
        s.home.parcels.countP (fun q => q.state == .pagingOut) ≤ t.home.parcels.countP (fun q => q.state == .pagingOut)) ∧
    (s.surveys = true → s.parcel? job pn = some p → p.state = .pagingOut → Memory.wf s.hostMem = true → Memory.wf s.dram = true →
      ∃ t, exec (.pageOutDone job parcel) s = .next t ∧ t.home.pageOuts = s.home.pageOuts + 1 ∧ t.cores = s.cores ∧
        (∀ a, memRead t.hostMem a = if s.slotAddr (p.slot.getD 0) ≤ a ∧ a < s.slotAddr (p.slot.getD 0) + frameBytes then
          memRead s.dram (p.frame * frameBytes + (a - s.slotAddr (p.slot.getD 0))) else memRead s.hostMem a) ∧
        ∀ a, memRead t.dram a =
          if p.frame * frameBytes ≤ a ∧ a < p.frame * frameBytes + frameBytes then 0 else memRead s.dram a) ∧
    (s.surveys = true → s.parcel? job pn = some p → p.state = .pagingIn →
      (s.aboveHigh = false ∨ ∀ q ∈ s.home.parcels, q.state ≠ .pagingOut) →
      let u := s.pageIn job pn
      exec (.pageInDone job parcel) s = .next (u.releaseHeld job pn) ∧ u.home.pageIns = s.home.pageIns + 1 ∧ u.cores = s.cores ∧
        (Memory.wf s.hostMem = true → Memory.wf s.dram = true → ∀ a, memRead u.dram a =
          if p.frame * frameBytes ≤ a ∧ a < p.frame * frameBytes + frameBytes then
            memRead s.hostMem (s.slotAddr (p.slot.getD 0) + (a - p.frame * frameBytes)) else memRead s.dram a))

/-! ### Launches -/

/-- R125, R136, R284, R291, R295, R317: a launch whose parameters hold reads its argument block once and hands one grid to the Surveyor;
others return BAD_PARAM, with the holds of their RELEASE_MASK released (R289). LOAD_PROGRAM loads an image, and returns TIMEOUT after 200 ms. -/
def Obligations.Launches : Prop :=
  ∀ (src : CmdSource) (fab : Fab) (s : State),
    let c := srcCtx src
    let cmd := s.cmd! src
    let i : LaunchKind → Instr := fun k => match k with | .launch => .launch src fab | .deferred => .launchDeferred src fab | .opt => .optStep src fab
    let op := fun (k : LaunchKind) => match k with | .launch => 0x0201 | .deferred => 0x0202 | .opt => 0x0600
    (∀ k, s.runs src (op k) = true → s.launchReady src k = true → s.launchOk c k cmd = none →
      let u := s.releaseMask c (.cmd src) fab (BitVec.ofNat 64 (cmd.param 24 8))
      exec (i k) s = .next (u.finish (u.cmd! src) stBadParam 0 [])) ∧
    (∀ k pk, k ≠ .opt → s.runs src (op k) = true → s.launchReady src k = true → s.launchOk c k cmd = some pk →
      let x := s.engineRead c (.cmd src) fab (cmd.param 16 8) (32 + 8 * pk.2.tensors.length)
      let u := x.2.2
      let args := (List.range (4 + pk.2.tensors.length)).map (fun n => BitVec.ofNat 64 (field x.1 (8 * n) 8))
      let gate := match src with | .queue q => (u.queue q.toNat).release.map (·.1) | .mailbox => none
      ∃ t, exec (i k) s = .next t ∧ t.nextGrid = u.nextGrid + 1 ∧
        t.grids = u.grids ++ [u.gridOf c k (u.cmd! src) pk args none gate]) ∧
    (∀ k cm pk args o gate, k ≠ .opt →
      let g := s.gridOf c k cm pk args o gate
      g.id = s.nextGrid ∧ g.ctx = c ∧ g.program = pk.1.handle ∧ g.kernel = pk.2.id ∧ g.argBlock = BitVec.ofNat 64 (cm.param 16 8) ∧
        g.args = args ∧ g.segCount = segCountOf (cm.param 32 4) (s.segLenOf c cm) ∧ g.assigned = false ∧ (g.deferred = none ↔ k = .launch)) ∧
    (∀ pk, s.runs src 0x0600 = true → s.launchReady src .opt = true → s.launchOk c .opt cmd = some pk →
      exec (.optStep src fab) s = .next (s.afterDeferred src (cmd.param 40 2) (s.handLaunch src .opt pk fab))) ∧
    (s.runs src 0x0200 = true → (loadOk cmd = false ∨ imageSizeOk (cmd.param 8 8) = false ∨ s.readable c (cmd.param 0 8) (cmd.param 8 8) = true) →
      exec (.loadProgram src fab) s = .next (s.load src fab)) ∧
    (s.runs src 0x0200 = true → loadOk cmd = true → cmd.time + 200000000 ≤ s.time →
      exec (.translationTimeout src) s = .next (s.status cmd stTimeout))

/-- R125, R143, R296, R299: a tile that starts on a core of another context first folds that core's gradient-noise registers into the
earlier context's accumulator, as the first operand, and clears them; the scratchpad and the tiles of the core start at zero. TD0 to TD7
hold the tile's place and its argument block, and X1 to X31 are zero. -/
def Obligations.TileBegins : Prop :=
  ∀ (rank : BitVec 8) (s : State) (x : Slice) (g : Grid) (t : Nat × Nat × Nat) (k : Nat),
    s.works = true → s.errs.stopped 2 rank.toNat = false → rank.toNat < s.enabledClusters → s.tileChoice rank.toNat = some (x, g, t, k) →
      ∃ u run, exec (.tileStart rank) s = .next u ∧ (u.core k).tiles = (s.core k).tiles ++ [run] ∧ run.grid = g.id ∧ run.ctx = g.ctx ∧
        run.td0 = BitVec.ofNat 64 t.1 ∧ run.td1 = BitVec.ofNat 64 t.2.1 ∧ run.td2 = BitVec.ofNat 64 t.2.2 ∧ run.td3 = g.argBlock ∧
        run.td4 = g.args.getD 0 0 ∧ run.td5 = g.args.getD 1 0 ∧
        (g.tokens = 0 → run.td6 = g.args.getD 2 0 ∧ run.td7 = g.args.getD 3 0) ∧
        (∀ i, (u.core k).xreg i = 0) ∧ (u.core k).accPc = 0 ∧ (u.core k).prevCtx = some g.ctx ∧
        ((s.core k).prevCtx = some g.ctx → (u.core k).spad = (s.core k).spad ∧ (u.core k).gns = (s.core k).gns) ∧
        ((s.core k).prevCtx ≠ some g.ctx → (u.core k).spad = [] ∧ ∀ n i j, at64 ((u.core k).buf n) i j = 0) ∧
        ∀ p, (s.core k).prevCtx = some p → p ≠ g.ctx →
          let a := (s.ctx p).gns
          let b := (s.core k).gns
          let l := combine a.localS a.localC b.localS b.localC
          let r := combine a.redS a.redC b.redS b.redC
          (u.core k).gns = {} ∧ (u.ctx p).gns =
            { localS := l.1, localC := l.2, redS := r.1, redC := r.2
              count := BitVec.ofNat 32 (min (a.count.toNat + b.count.toNat) 0xFFFFFFFF) }

/-- R20, R21, R57, R188 to R192, R296: a grid is cut into slices once; a peer's slice is taken under the conditions of R192, with
its launch's shape and segment; a tile ends when both streams have ended and no branch and no work of it is open; a slice is reported when all its tiles have run, and a grid completes when every
slice is reported. -/
def Obligations.SlicesAndGrids : Prop :=
  ∀ (s : State) (grid : Nat) (g : Grid) (x : Slice) (fab : Fab) (c : CoreId) (r : SliceRequest),
    let k := coreKey c
    let e := (s.core k).exeTile
    (s.surveys = true → s.grid? grid = some g → s.ctxLive g.ctx = true → g.assigned = false → g.peer = none →
      exec (.sliceAssignment grid fab) s = .next (s.assign g fab)) ∧
    (∀ y p, s.surveys = true → s.ctxOf r.job = some y → s.ctxLive y = true → s.peerProgram y r = some p → r.clusters = s.enabledClusters →
      exec (.remoteSliceRequest r) s = .next (s.takeSlice y p r)) ∧
    (∀ y p, s.peerGrid r = none → ∃ h ∈ (s.takeSlice y p r).grids, h.peer = some (r.issuer.toNat, r.grid) ∧ h.ctx = y ∧
      h.program = p.handle ∧ h.kernel = r.kernelId ∧ h.cls = r.cls ∧ h.shape = r.shape ∧ h.tokens = r.tokens ∧
      h.segIndex = r.segIndex ∧ h.segCount = r.segCount ∧ h.argBlock = r.argBlock ∧ h.args = r.args) ∧
    (s.works = true → (s.core k).tiles ≠ [] → (s.core k).frozen = false → e.accEnd = true → e.exeEnd = true →
      (∀ p ∈ (s.core k).epochs, p.tile ≠ e.seq) →
      s.ctxLive e.ctx = true → s.tileOpen k e.seq = false → exec (.tileEnd c) s = .next (s.endTile k e)) ∧
    (s.surveys = true → s.slice? grid = some x → s.grid? x.grid = some g → s.ctxLive g.ctx = true → sliceDone x = true → g.peer = none →
      exec (.sliceComplete (.own grid)) s = .next (s.modSlice x.id (fun y => { y with reported := true }))) ∧
    (s.surveys = true → s.slice? grid = some x → s.grid? x.grid = some g → s.ctxLive g.ctx = true → sliceDone x = true →
      s.gridStoresOpen g = false → exec (.sliceComplete (.own grid)) s = .next (s.reportSlice x g)) ∧
    (∀ n records dead, s.surveys = true → s.grid? grid = some g → s.ctxLive g.ctx = true →
      s.slices.find? (fun x => x.grid == grid && x.module.isSome && x.id == n / 256 && !x.reported) = some x →
      exec (.sliceComplete (.peer grid n records dead)) s = .next ((s.modSlice x.id (fun y => { y with reported := true })).modGrid grid
        (fun g => { g with records := g.records + records, dead := g.dead || dead }))) ∧
    (s.grid? grid = some g → s.gridDone g = true → g.tokens ≠ 0 → g.segIndex < g.segCount →
      (g.segFlag = 0 ∨ s.rangeReady (s.ctx g.ctx).job g.segFlag.toNat 8 true = true) →
      exec (.segmentComplete grid fab) s = .next (s.endSegment g fab)) ∧
    (s.grid? grid = some g → s.gridDone g = true → (g.tokens = 0 ∨ g.segIndex = g.segCount) →
      exec (.gridComplete grid fab) s = .next (s.completeGrid g fab))

/-! ### Queues and commands -/

/-- R309, R310, R321, R343: a doorbell write sets TAIL, and halts the queue with reason 1 when TAIL lies more than the ring ahead of HEAD; a
mirror store does the same for the job's queue; a discarded access is counted and changes no queue; the CP fetches from the next ready
queue after the last it served. -/
def Obligations.Doorbells : Prop :=
  ∀ (s : State) (q : BitVec 8) (v : Word32) (job : BitVec 16) (va : Va) (fab : Fab),
    let n := q.toNat
    let x := s.queue n
    let ahead := (v - x.head).toNat
    let mine := fun (a : Nat) => isMirror a = true ∧ mirrorModule a = s.self
    (s.hostUp = true → (ahead ≤ x.size ∨ x.haltReason ≠ 0) →
      exec (.doorbellWrite q v) s = .next (s.modQueue n (fun y => { y with tail := v }))) ∧
    (s.hostUp = true → x.size < ahead → x.haltReason = 0 →
      exec (.doorbellWrite q v) s = .next ((s.modQueue n (fun y => { y with tail := v })).halt n 1 .none)) ∧
    (∀ c, s.mainUp = true → isDoorbell va.toNat 4 = true → mirrorModule va.toNat = s.self → s.ctxOf job = some c →
      exec (.doorbellMirrorStore job va v) s =
        .next ((s.doorbell (4 * c + mirrorQueue va.toNat) v).mirrorDone (s.mirrorReq job va.toNat 4 (some v)) .ok 0)) ∧
    (s.mainUp = true → isDoorbell va.toNat 4 = true → mirrorModule va.toNat = s.self → s.ctxOf job = none →
      exec (.doorbellMirrorStore job va v) s = .next (s.mirrorDone (s.mirrorReq job va.toNat 4 (some v)) .denied 1)) ∧
    (∀ offset size, s.hostUp = true → ¬ (offset = 0 ∧ size = 4) → ∃ t,
      exec (.doorbellDiscardedAccess (.pageWrite q offset size)) s = .next t ∧ t = s.ignoreDoorbell ∧ t.queues = s.queues ∧ t.dram = s.dram) ∧
    (∀ size, s.mainUp = true → mine va.toNat → isDoorbell va.toNat size = false →
      exec (.doorbellDiscardedAccess (.mirrorStore job va size)) s =
        .next (s.ignoreDoorbell.mirrorDone (s.mirrorReq job va.toNat size none) .ok 0)) ∧
    (∀ r : Request, mine r.va.toNat → r.op = .atomic → s.canReach r = true →
      exec (.doorbellDiscardedAccess (.mirrorAtomic r)) s =
        .next ((s.ignoreDoorbell.takeArrived (isReq r)).sendReply r (s.answer r .ok 0 (zeros 8)))) ∧
    (∀ m, s.cpUp = true → s.nextQueue = some m → exec (.commandFetch fab) s = .next (s.fetch m fab))

/-- R311, R313, R320: a command of a queue with its reply ring in host memory ends with the 32 bytes of its reply slot written there and
nothing else of host memory, MSI-X vector q signalled with IRQ, and the queue free for the next command. -/
def Obligations.ReplyWritten : Prop :=
  ∀ (s : State) (c : Cmd) (q : BitVec 8) (status detail : Nat) (result : List Byte),
    let n := q.toNat
    let a := (s.queue n).replyBase.toNat + 32 * field c.slot 10 2
    let t := s.finish c status detail result
    c.src = .queue q → (s.queue n).replyDev = false → Memory.wf s.hostMem = true →
      slice (t.getHost a 32) 0 4 = slice c.slot 4 4 ∧ slice (t.getHost a 32) 4 2 = natLE status 2 ∧
      (t.getHost a 32).getD 6 0 = BitVec.ofNat 8 detail ∧ (t.getHost a 32).getD 7 0 = 1 ∧ slice (t.getHost a 32) 8 24 = slice result 0 24 ∧
      (∀ b, b < a ∨ a + 32 ≤ b → memRead t.hostMem b = memRead s.hostMem b) ∧ t.dram = s.dram ∧
      t.out = s.out ++ (if bitOf (field c.slot 2 1) 0 = true then [.msix n] else []) ∧
      ((s.queue n).cur.map (·.order) = some c.order → (t.queue n).cur = none) ∧ (∀ m, m ≠ n → t.queue m = s.queue m)

/-- R315, R322 to R326: the commands of family 0x00. -/
def Obligations.QueueCommands : Prop :=
  ∀ (src : CmdSource) (s : State) (fab : Fab),
    let c := s.cmd! src
    let x := srcCtx src
    let a := c.param 0 8
    let host := leNat (s.getHost a 8)
    (s.runs src 0x0000 = true → exec (.nop src) s = .next (if c.restZero [] then s.ok c else s.badParam c)) ∧
    (s.runs src 0x0001 = true → (c.restZero [(0, 1), (2, 2)] = false ∨ 1 < c.param 0 1) → exec (.fenceCommand src) s = .next (s.badParam c)) ∧
    (s.runs src 0x0001 = true → c.restZero [(0, 1), (2, 2)] = true → c.param 0 1 ≤ 1 → exec (.fenceCommand src) s =
      .next (if s.fenceOpen src c then s.promote x (c.param 2 2) c.order else s.ok c)) ∧
    (s.runs src 0x0002 = true → c.lastRead = none → s.flagReady src = true → waitFlagOk c = false →
      exec (.waitFlag src fab) s = .next (s.badParam c)) ∧
    (s.runs src 0x0002 = true → c.lastRead = none → s.flagReady src = true → waitFlagOk c = true →
      exec (.waitFlag src fab) s = .next (s.readFlag src fab)) ∧
    (∀ w t, s.runs src 0x0002 = true → c.lastRead = some (w, t) → t ≤ s.time → s.flagReady src = true →
      exec (.waitFlagReread src fab) s = .next (s.readFlag src fab)) ∧
    (bitOf (c.param 25 1) 0 = true → c.dead = false → s.readFlag src fab =
      if flagHolds c host then s.finish c stOk 0 (natLE host 8)
      else s.modCmd src (fun k => { k with lastRead := some (BitVec.ofNat 64 host, s.time + 2000) })) ∧
    (∀ w t, s.runs src 0x0002 = true → c.lastRead = some (w, t) → c.param 28 4 ≠ 0 → c.time + c.param 28 4 * 1000 ≤ s.time →
      exec (.waitFlagTimeout src) s = .next (s.finish c stTimeout 0 (natLE w.toNat 8))) ∧
    (s.runs src 0x0003 = true → (bitOf (c.param 17 1) 0 = true ∨ s.writable x a 8 = true) →
      (2 ≤ c.param 16 1 ∨ 2 ≤ c.param 17 1 ∨ c.restZero [(0, 18)] = false ∨ (bitOf (c.param 17 1) 0 = false ∧ vaRange a 8 = false)) → exec (.setFlag src fab) s = .next (s.badParam c)) ∧
    (s.runs src 0x0003 = true → c.restZero [(0, 18)] = true → c.param 16 1 = 1 → c.param 17 1 = 1 →
      let u := s.putHost a (natLE (host + c.param 8 8) 8)
      exec (.setFlag src fab) s = .next (u.finish c (c.statusOr stOk) 0 (natLE host 8))) ∧
    (s.runs src 0x0003 = true → c.restZero [(0, 18)] = true → c.param 16 1 = 0 → c.param 17 1 = 1 →
      exec (.setFlag src fab) s = .next ((s.putHost a (natLE (c.param 8 8) 8)).finish c (c.statusOr stOk) 0 [])) ∧
    (s.runs src 0x0003 = true → c.restZero [(0, 18)] = true → c.param 16 1 ≤ 1 → c.param 17 1 = 0 → vaRange a 8 = true → s.writable x a 8 = true →
      let r := s.setFlag src c fab
      exec (.setFlag src fab) s = .next (r.2.finish (r.2.cmd! src) ((r.2.cmd! src).statusOr stOk) 0 r.1)) ∧
    (∀ q : BitVec 8, src = .queue q → s.runs src 0x0004 = true → c.restZero [(0, 16)] = true → exec (.signalHost src) s =
      .next (((if a = 0 then s else s.putHost a (natLE (c.param 8 8) 8)).emit (.msix q.toNat)).ok c)) ∧
    (s.runs src 0x0004 = true → c.restZero [(0, 16)] = false → exec (.signalHost src) s = .next (s.badParam c)) ∧
    (s.cpUp = true → s.lastCycleCheck + cyclePeriod ≤ s.time → ∃ t, exec .waitCycleCheck s = .next t ∧ t.lastCycleCheck = s.time)

/-- R173, R177, R185, R193, R207, R315, R457: the commands on memory; parameters that no rule allows return BAD_PARAM with nothing done, and
a COPY within host memory moves its bytes. -/
def Obligations.MemoryCommands : Prop :=
  ∀ (src : CmdSource) (s : State) (fab : Fab),
    let c := s.cmd! src
    let x := srcCtx src
    let bad : Host.Outcome State Fault Refusal := .next (s.badParam c)
    (s.runs src 0x0300 = true → s.allocParams x c = false → exec (.alloc src fab) s = bad) ∧
    (s.runs src 0x0300 = true → s.allocParams x c = true → s.time ≤ c.time + 20000000 → s.allocAnswered x c fab = true → c.param 16 1 ≠ 1 →
      exec (.alloc src fab) s = .next (s.allocate src [] fab)) ∧
    (s.runs src 0x0300 = true → s.allocParams x c = true → s.time ≤ c.time + 20000000 → s.allocAnswered x c fab = true → c.param 16 1 = 1 →
      s.readable x (c.param 24 8) (2 * c.param 20 4) = true →
      let r := s.engineRead x (.cmd src) fab (c.param 24 8) (2 * c.param 20 4)
      exec (.alloc src fab) s = .next (r.2.2.allocate src ((chunks 2 r.1).map leNat) fab)) ∧
    (s.runs src 0x0300 = true → s.allocParams x c = true → c.time + 20000000 ≤ s.time →
      exec (.allocTimeout src) s = .next (s.status c stTimeout)) ∧
    (s.runs src 0x0301 = true → freeOk c = false → exec (.free src fab) s = bad) ∧
    (s.runs src 0x0301 = true → freeOk c = true → (∀ pn ∈ parcelsIn (c.param 0 8) (c.param 8 8), s.parcelBusy (s.ctx x).job pn = false) →
      let r := s.freeRange x (.cmd src) fab (c.param 0 8) (c.param 8 8)
      exec (.free src fab) s = .next (r.2.finishCounted src r.1 [])) ∧
    (s.runs src 0x0302 = true → copyOk c = false → exec (.copy src fab) s = bad) ∧
    (s.runs src 0x0302 = true → copyOk c = true → copyHostSrc c = true → copyHostDst c = true → exec (.copy src fab) s =
      .next ((s.putHost (c.param 8 8) (s.getHost (c.param 0 8) (c.param 16 8))).finishCounted src stOk [])) ∧
    (s.runs src 0x0302 = true → copyOk c = true → (copyHostSrc c = true ∨ s.readable x (c.param 0 8) (c.param 16 8) = true) →
      (copyHostDst c = true ∨ s.writable x (c.param 8 8) (c.param 16 8) = true) →
      let r := s.copyRead src fab
      exec (.copy src fab) s = .next ((r.2.copyWrite src fab r.1).finishCounted src stOk [])) ∧
    (s.runs src 0x0303 = true → fillOk c = false → exec (.fill src fab) s = bad) ∧
    (s.runs src 0x0303 = true → fillOk c = true → s.writable x (c.param 0 8) (c.param 8 8) = true → exec (.fill src fab) s =
      .next ((s.engineWrite x (.cmd src) fab (c.param 0 8)
        (List.replicate (c.param 8 8 / 8) (natLE (c.param 16 8) 8)).flatten).2.finishCounted src stOk [])) ∧
    (s.runs src 0x0304 = true → invalidateOk c = false → exec (.invalidate src) s = bad) ∧
    (s.runs src 0x0304 = true → invalidateOk c = true → s.slotsHeld < replySlots → exec (.invalidate src) s = .next (s.invalidateCmd src)) ∧
    (s.runs src 0x0305 = true → pinOk c = false ∨ s.inSet x (c.param 16 2) = false → exec (.pin src fab) s = bad) ∧
    (s.runs src 0x0305 = true → exec (.pin src fab) s = .next (s.pinCmd src fab)) ∧
    (s.runs src 0x0306 = true → (c.param 0 1 = 0 ∨ 3 < c.param 0 1) → exec (.hintAnchor src) s = .next (s.hintAnchor src)) ∧
    (s.runs src 0x0306 = true → c.param 0 1 = 1 → exec (.hintPrefer src) s = .next (s.hintPrefer src)) ∧
    (s.runs src 0x0306 = true → c.param 0 1 = 2 → exec (.hintCold src) s = .next (s.hintCold src)) ∧
    (s.runs src 0x0306 = true → c.param 0 1 = 3 → exec (.hintWillUse src) s = .next (s.hintWillUse src)) ∧
    (s.runs src 0x0307 = true → (c.param 8 4 ≠ 0 ∨ ∀ p ∈ s.home.parcels, p.state ≠ .pagingOut) →
      exec (.lendBackstore src) s = .next (s.lend src))

/-- R16, R166, R169, R315, R316, R379: CTX_CREATE makes a FREE context ACTIVE with its job, its mode and its module set; CTX_DESTROY frees one
without work, which keeps LAST_RESET_DISCARDS; CTX_RESET, and CTX_DESTROY of one with work, ask for its reset and wait for it; CTX_QUERY
reports the context's state, mode, programs, frames and slack, and every context as FREE while the CP does not run. (The ORPHAN_RETURNS
of a job that comes back: the model's choice, notes/assumptions/90.md.) -/
def Obligations.ContextCommands : Prop :=
  ∀ (src : CmdSource) (s : State),
    let cmd := s.cmd! src
    let t := cmd.param 0 1
    let job := BitVec.ofNat 16 (cmd.param 2 2)
    let bs := s.getHost (cmd.param 16 8) (2 * cmd.param 8 4)
    let list := (chunks 2 bs).map leNat
    (s.runs src 0x0100 = true → createOk cmd = false → exec (.ctxCreate src) s = .next (s.badParam cmd)) ∧
    (s.runs src 0x0100 = true → createOk cmd = true → (∃ m ∈ list, 32768 ≤ m) → exec (.ctxCreate src) s = .next (s.badParam cmd)) ∧
    (s.runs src 0x0100 = true → createOk cmd = true → (∀ m ∈ list, m < 32768) → (s.ctx t).state ≠ 0 →
      exec (.ctxCreate src) s = .next (s.status cmd stBusy)) ∧
    (s.runs src 0x0100 = true → createOk cmd = true → (∀ m ∈ list, m < 32768) → (s.ctx t).state = 0 → s.ctxOf job ≠ none →
      exec (.ctxCreate src) s = .next (s.finish cmd stDenied 4 [])) ∧
    (s.runs src 0x0100 = true → createOk cmd = true → (∀ m ∈ list, m < 32768) → (s.ctx t).state = 0 → s.ctxOf job = none →
      ∃ u : State, exec (.ctxCreate src) s = .next (u.ok cmd (natLE (crc32 bs).toNat 4 ++ natLE u.framesAvailable 4)) ∧
        u = { s with contexts := u.contexts, clusters := u.clusters } ∧
        (u.ctx t).state = 1 ∧ (u.ctx t).job = job ∧ ((u.ctx t).strict = true ↔ cmd.param 4 1 = 1) ∧
        (u.ctx t).moduleSet = list.map (BitVec.ofNat 15) ∧ (u.ctx t).setCrc = crc32 bs ∧ (u.ctx t).programs = [] ∧ (u.ctx t).slack = 0 ∧
        (u.ctx t).orphanReturns = (if (s.ctx t).former = some job then (s.ctx t).orphanReturns else 0) ∧
        (∀ n, n ≠ t → u.ctx n = s.ctx n) ∧ ∀ n, (u.cluster n).hoard = (s.cluster n).hoard ∧ (u.cluster n).gang = (s.cluster n).gang) ∧
    (s.runs src 0x0101 = true → targetOk cmd = true → (s.ctx t).state = 1 → s.holdsWork t cmd.order = false → ∃ u v,
      exec (.ctxDestroy src) s = .next u ∧ v = (s.ok cmd (natLE 0 4)).releaseCtx t ∧ u = v.freeCtx t ∧ (u.ctx t).state = 0 ∧
      (u.ctx t).discards = (v.ctx t).discards ∧ (u.ctx t).orphanReturns = (v.ctx t).orphanReturns ∧ (u.ctx t).programs = [] ∧
      ∀ n, n ≠ t → u.ctx n = v.ctx n) ∧
    (s.runs src 0x0101 = true → targetOk cmd = true → (s.ctx t).state ≠ 0 → ((s.ctx t).state = 2 ∨ s.holdsWork t cmd.order = true) →
      exec (.ctxDestroy src) s = .next (s.askReset src t)) ∧
    (s.runs src 0x0102 = true → targetOk cmd = true → (s.ctx t).state ≠ 0 → exec (.ctxReset src) s = .next (s.askReset src t)) ∧
    (∀ i ∈ [(0x0101, Instr.ctxDestroy src), (0x0102, .ctxReset src)], s.runs src i.1 = true → targetOk cmd = true →
      (s.ctx t).state = 0 → exec i.2 s = .next (s.ok cmd (natLE 0 4))) ∧
    (∀ i ∈ [(0x0101, Instr.ctxDestroy src), (0x0102, .ctxReset src), (0x0103, .ctxQuery src)], s.runs src i.1 = true →
      targetOk cmd = false → exec i.2 s = .next (s.badParam cmd)) ∧
    (s.runs src 0x0103 = true → targetOk cmd = true → s.cpUp = true → exec (.ctxQuery src) s = .next (s.ok cmd
      ([(s.ctx t).state, if (s.ctx t).strict = true then 1 else 0, BitVec.ofNat 8 (s.ctx t).programs.length, 0] ++
        natLE (s.framesHeld t) 4 ++ natLE (s.ctx t).slack.toNat 8))) ∧
    (s.runs src 0x0103 = true → targetOk cmd = true → s.cpUp = false → exec (.ctxQuery src) s = .next (s.ok cmd (zeros 16)))

/-! ### Plats and collectives -/

/-- R242, R245 to R247, R264: PLAT_LOAD and PLAT_REFORM read their descriptor and act on it, PLAT_LOAD of a PLAT_ID that
another context holds with DENIED (R313); PLATSET_ACTIVATE switches the set at once when its
time has come and waits otherwise, and the switch writes its reply and binds what it held. -/
def Obligations.PlatCommands : Prop :=
  ∀ (src : CmdSource) (s : State) (fab : Fab) (ctx : BitVec 6),
    let cmd := s.cmd! src
    let c := srcCtx src
    let a := cmd.param 0 8
    let b := cmd.param 8 8
    let free := (s.ctx c).activate = none ∧ s.activateWaits c cmd.order = false
    let ok := cmd.restZero [(0, 1), (8, 8)] = true ∧ cmd.param 0 1 ≤ 15
    (s.runs src 0x0400 = true → s.platReady src a = true → cmd.restZero [(0, 8)] = true → vaRange a (64 + 65536) = true →
      exec (.platLoad src fab) s = .next ((s.readPlat src fab a).2.loadPlat src (s.readPlat src fab a).1)) ∧
    (s.runs src 0x0400 = true → s.platReady src a = true → (cmd.restZero [(0, 8)] = false ∨ vaRange a (64 + 65536) = false) →
      exec (.platLoad src fab) s = .next (s.badParam cmd)) ∧
    (∀ d y, platOf c d = y → s.platOk c d = true → (∀ x, s.plat? (field d 0 2) = some x → x.owner = c) →
      (s.ctx c).inActive (field d 0 2) = false → y.setMask.getLsbD (s.ctx c).activeSet = false →
      s.membersBut (field d 0 2) + y.members.length ≤ platMembers → ∃ u : State,
      s.loadPlat src d = u.finish cmd (cmd.statusOr stOk) 0 [] ∧ u.plat? (field d 0 2) = some y ∧
        (∀ p, p ≠ field d 0 2 → u.plat? p = s.plat? p) ∧ u.dram = s.dram ∧ u.hostMem = s.hostMem) ∧
    (∀ d x, s.platOk c d = true → s.plat? (field d 0 2) = some x → x.owner ≠ c → cmd.dead = false →
      s.loadPlat src d = s.finish cmd stDenied 3 []) ∧
    (∀ d, s.platOk c d = false → s.loadPlat src d = s.finish cmd (cmd.statusOr stBadParam) 0 []) ∧
    (s.runs src 0x0403 = true → s.platReady src b = true → cmd.restZero [(0, 2), (8, 8)] = true → vaRange b (64 + 65536) = true →
      exec (.platReform src fab) s = .next ((s.readPlat src fab b).2.reformPlat src (cmd.param 0 2) (s.readPlat src fab b).1)) ∧
    (s.runs src 0x0403 = true → s.platReady src b = true → (cmd.restZero [(0, 2), (8, 8)] = false ∨ vaRange b (64 + 65536) = false) →
      exec (.platReform src fab) s = .next (s.badParam cmd)) ∧
    (s.runs src 0x0401 = true → free → ¬ ok → exec (.platsetActivate src) s = .next ((s.badParam cmd).bindHeld c)) ∧
    (s.runs src 0x0401 = true → free → ok → b ≤ s.datum.counter.toNat →
      exec (.platsetActivate src) s = .next (s.switchSet cmd (cmd.param 0 1) (decide (b < cmd.datum.toNat)))) ∧
    (s.runs src 0x0401 = true → free → ok → s.datum.counter.toNat < b → ∃ t, exec (.platsetActivate src) s = .next t ∧
      (t.ctx c).activate = some (cmd.param 0 1, BitVec.ofNat 64 b) ∧ (t.ctx c).activeSet = (s.ctx c).activeSet ∧ t.hostMem = s.hostMem) ∧
    (∀ set at_ k, (s.ctx ctx.toNat).activate = some (set, at_) → s.activator ctx.toNat = some k → s.works = true →
      s.ctxLive ctx.toNat = true → at_.toNat ≤ s.datum.counter.toNat → exec (.platsetSwitch ctx) s = .next (s.switchSet k set false))

/-- R246, R248 to R254, R263: a collective command with its plat bound joins the engine; the next that may take a free slot runs; a GENERATE
collective puts out the one that started last, at its next step boundary; a segment or a grant of a collective of this module is taken in,
one of none is discarded. (That a removed member is told by the discard: the model's choice, notes/assumptions/89.md.) -/
def Obligations.Collectives : Prop :=
  ∀ (src : CmdSource) (s : State) (fab : Fab) (p : Packet),
    let c := s.cmd! src
    (s.runs src 0x0402 = true → (c.param 1 1 = 0 ∨ 5 < c.param 1 1) → c.bound ≠ none →
      exec (.barrier src) s = .next (s.collective src { lines := [], regs := [] })) ∧
    (∀ i ∈ [(1, Instr.broadcast src fab), (2, .reduceScatter src fab), (3, .allGather src fab), (4, .allReduce src fab),
        (5, .allToAll src fab)], s.collRuns src i.1 = true → exec i.2 s = .next (s.collective src fab)) ∧
    (∀ x, s.nextColl? = some x → s.works = true → s.slotsUsed.length < collSlots → s.collReady x = true →
      let y := { x with run := 1, slotNo := some (firstFree s.slotsUsed s.slotsUsed.length 0), started := s.time }
      exec (.collectiveSlotStart fab) s = .next (if x.run = 2 then (s.putColl { y with lastHeard := s.time }).runColl fab x.id
        else s.enterColl fab y)) ∧
    (∀ x, s.lastStarted = some x → s.works = true → s.slotsUsed.length = collSlots →
      (∃ y ∈ s.colls, y.generate = true ∧ (y.run = 0 ∨ y.run = 2) ∧ s.ctxLive y.ctx = true) → (∀ y ∈ s.colls, y.yields = false) →
      ∃ t, exec .preemption s = .next t ∧ t = { s with colls := t.colls, home := t.home } ∧
        (x.atBoundary = true → t.home = { s.home with preemptions := s.home.preemptions + 1 } ∧
          t.colls = updateFirst (fun y => y.id == x.id) (fun _ => { x with run := 2, slotNo := none, yields := false }) s.colls) ∧
        (x.atBoundary = false → t.home = s.home ∧
          t.colls = updateFirst (fun y => y.id == x.id) (fun _ => { x with yields := true }) s.colls)) ∧
    (∀ g x, p.body = .seg g → s.segColl g = some x → s.forMe p = true → s.collReady x = true →
      exec (.collectiveSegment p fab) s = .next
        (((s.takeArrived (· == p)).putColl ({ x with landing := x.landing ++ [g] }.hear s.time g.member.toNat)).runColl fab x.id)) ∧
    (∀ g, p.body = .seg g → s.segColl g = none → s.forMe p = true → ∃ t,
      exec (.collectiveSegment p fab) s = .next t ∧ t = ((s.takeArrived (· == p)).staleSeg g.job).tellRemoved g p.env.src ∧
      t.colls = s.colls ∧ t.dram = s.dram ∧
      ∀ m, s.ctxOf g.job = some m → (t.ctx m).staleSegments = (s.ctx m).staleSegments + 1) ∧
    (∀ g x, p.body = .grant g → s.grantColl g = some x → s.forMe p = true → s.collReady x = true →
      exec (.segmentGrant p fab) s = .next ((s.takeArrived (· == p)).takeGrant fab x g p.env.src.toNat)) ∧
    (∀ g, p.body = .grant g → s.grantColl g = none → s.forMe p = true → s.grantEarly g = false →
      exec (.segmentGrant p fab) s = .next (s.takeArrived (· == p)))

/-- R258 to R263: a member with an unfinished step reports what it waits on to the coordinator and the deputy every interval, and they keep
the report; the coordinator removes stragglers from a REFORMABLE plat and aborts any other; the deputy takes over 10 ms after the limit; a
re-form record gives the plat its new list, or aborts where the plat may not be re-formed; a member told to abort does, and one that hears
nothing for twice the limit aborts alone. -/
def Obligations.Stragglers : Prop :=
  ∀ (s : State) (id : Nat) (x : Coll) (fab : Fab) (w : WaitReport) (r : ReformRec) (a : AbortRec),
    let told := fun (b : Body) => s.takeArrived (isBody b)
    let y := { x with lastReport := some s.time }
    let mine : WaitReport := { platId := BitVec.ofNat 12 x.platId, job := (s.ctx x.ctx).job, collSeq := x.seq, epoch := x.epoch,
                               member := BitVec.ofNat 16 x.me, waitsOn := BitVec.ofNat 16 x.waitsOn }
    (s.works = true → s.coll? id = some x → x.unfinished = true → max x.lastHeard (x.lastReport.getD 0) + x.interval ≤ s.time →
      exec (.waitReportInterval id) s = .next ((x.members.take 2).foldl (fun u m => u.tell m x.cls (.waitReport mine))
        (s.putColl (if x.me ≤ 1 then y.report s.time x.me x.waitsOn else y)))) ∧
    (∀ z, s.mainUp = true → (s.collFor w.platId.toNat w.job w.collSeq).filter (fun z => z.epoch == w.epoch && decide (z.me ≤ 1)) = some z →
      exec (.waitReport w) s = .next ((told (.waitReport w)).putColl (z.report s.time w.member.toNat w.waitsOn.toNat))) ∧
    (s.mainUp = true → (s.collFor w.platId.toNat w.job w.collSeq).filter (fun z => z.epoch == w.epoch && decide (z.me ≤ 1)) = none →
      exec (.waitReport w) s = .next (told (.waitReport w))) ∧
    (s.works = true → s.coll? id = some x → (x.run = 1 ∨ x.run = 2) → (x.me = 0 ∨ (x.me = 1 ∧ x.acting = true)) → s.collReady x = true →
      (∃ e ∈ x.fresh s.time, e.2.2.1 + x.limit ≤ s.time) →
      exec (.stragglerTimeout id fab) s = .next
        (if x.stragglers s.time = [] ∨ x.reformable = false then s.abortAll x else s.reformColl fab x (x.stragglers s.time))) ∧
    (s.works = true → s.coll? id = some x → x.unfinished = true → x.me = 1 → x.acting = false → x.lastHeard + x.interval ≤ s.time →
      x.coordinatorHeard + x.limit + 10000000 ≤ s.time → exec (.deputyTakeover id) s = .next (s.putColl { x with acting := true })) ∧
    (s.mainUp = true → (∀ z ∈ s.colls, z.platId = r.platId.toNat → s.collReady z = true) →
      (s.reformPlat? r = none → exec (.reformRecord r fab) s = .next (told (.reform r))) ∧
      ∀ q, s.reformPlat? r = some q →
        (q.reformable = true → (s.ctx q.owner).strict = false →
          exec (.reformRecord r fab) s = .next ((told (.reform r)).takeReform fab r.platId.toNat q r.members r.epoch r.listCrc)) ∧
        (q.reformable = false ∨ (s.ctx q.owner).strict = true →
          exec (.reformRecord r fab) s = .next ((told (.reform r)).refuseReform r.platId.toNat q))) ∧
    (∀ n q, s.colls.filter (fun z => z.platId == n && z.ctx == q.owner && z.run != 3) = [] →
      let t := s.takeReform fab n q r.members r.epoch r.listCrc
      (BitVec.ofNat 15 s.self ∈ r.members → t.plat? n = some (q.reform r.members r.epoch r.listCrc) ∧
        (t.ctx q.owner).platReforms = (s.ctx q.owner).platReforms + 1) ∧
      (BitVec.ofNat 15 s.self ∉ r.members → t.plat? n = some { q with excluded := true, epoch := r.epoch } ∧ t.contexts = s.contexts)) ∧
    (s.mainUp = true → ∀ z, s.collFor a.platId.toNat a.job a.collSeq = some z →
      exec (.collectiveAbort a) s = .next ((told (.abort a)).abortColl z)) ∧
    (s.mainUp = true → s.collFor a.platId.toNat a.job a.collSeq = none →
      exec (.collectiveAbort a) s = .next (told (.abort a))) ∧
    (s.works = true → s.coll? id = some x → x.unfinished = true → x.lastHeard + 2 * x.limit ≤ s.time →
      exec (.collectiveOwnAbort id) s = .next (s.abortColl x)) ∧
    ∃ u : State, s.abortColl x = u.replyColl x stAborted [] ∧ u.colls = s.colls.filter (fun z => z.id != x.id) ∧
      (u.ctx x.ctx).collAborts = (s.ctx x.ctx).collAborts + 1 ∧ u.queues = s.queues

/-! ### Training steps -/

/-- R300, R301: GNS_READ returns LOCAL, REDUCED and COUNT over every core of the context, in order, and CLEAR zeroes them; with PLAT it goes
to the collective engine on the plat bound to it. -/
def Obligations.GradientNoiseReads : Prop :=
  ∀ (src : CmdSource) (s : State),
    let cmd := s.cmd! src
    let c := srcCtx src
    let t := s.gnsTotal c
    let plat := (cmd.bound.getD none).bind (fun p => ((s.plat? p).filter (fun y => y.owner == c)).map (fun y => (p, y)))
    (s.runs src 0x0601 = true → bitOf (cmd.param 0 1) 1 = false → gnsOk cmd = false → exec (.gnsRead src) s = .next (s.badParam cmd)) ∧
    (s.runs src 0x0601 = true → bitOf (cmd.param 0 1) 1 = false → gnsOk cmd = true → exec (.gnsRead src) s =
      .next ((if bitOf (cmd.param 0 1) 0 = true then s.gnsClear c else s).ok cmd
        (natLE t.loc.toNat 8 ++ natLE t.red.toNat 8 ++ natLE (t.count % 2 ^ 64) 8))) ∧
    ((s.gnsClear c).ctx c = { s.ctx c with gns := {} } ∧ ∀ k ∈ s.gnsCores c, ((s.gnsClear c).core k).gns = {}) ∧
    (s.runs src 0x0601 = true → bitOf (cmd.param 0 1) 1 = true → cmd.bound ≠ none → (plat = none ∨ gnsOk cmd = false) →
      exec (.gnsReadPlat src) s = .next (s.badParam cmd)) ∧
    (∀ p y, s.runs src 0x0601 = true → bitOf (cmd.param 0 1) 1 = true → cmd.bound ≠ none → plat = some (p, y) → gnsOk cmd = true →
      exec (.gnsReadPlat src) s = .next (if y.excluded = true then s.status cmd stAborted else s.gnsColl src p y))

/-- R303 to R306: REPLAY_RECORD starts and stops a recording, a recording ends at its stop datum, and REPLAY_RUN starts a replay and carries
it on, one recorded command at a time. -/
def Obligations.Replays : Prop :=
  ∀ (src : CmdSource) (s : State) (fab : Fab) (ctx : BitVec 6) (r : Recording),
    let cmd := s.cmd! src
    let c := srcCtx src
    let ranges := if cmd.param 32 1 ≤ 16 then (s.snapsOf src fab).1 else []
    (s.runs src 0x0602 = true → s.readable c (cmd.param 24 8) 256 = true →
      s.writable c (cmd.param 8 8) (max 1 (min (cmd.param 16 8) replayMax)) = true →
      (∀ e ∈ ranges, s.readable c e.1 (min e.2 replayMax) = true) →
      (cmd.param 0 1 = 0 → exec (.replayRecordStart src fab) s = .next (s.recordStart src fab)) ∧
      (1 < cmd.param 0 1 → exec (.replayRecordStart src fab) s = .next (s.badParam cmd))) ∧
    (s.runs src 0x0602 = true → cmd.param 0 1 = 1 → cmd.restZero [(0, 1)] = false → exec (.replayRecordStop src) s = .next (s.badParam cmd)) ∧
    (s.runs src 0x0602 = true → cmd.param 0 1 = 1 → cmd.restZero [(0, 1)] = true → (s.ctx c).recording = none →
      exec (.replayRecordStop src) s = .next (s.ok cmd (natLE 0 4))) ∧
    (s.runs src 0x0602 = true → cmd.param 0 1 = 1 → cmd.restZero [(0, 1)] = true → (s.ctx c).recording = some r →
      exec (.replayRecordStop src) s = .next ((s.modCtx c (fun y => { y with recording := none })).finish cmd
        (if r.full = true then stNoSpace else stOk) 0 (natLE r.entries 4))) ∧
    ((s.ctx ctx.toNat).recording = some r → s.works = true → r.active = true → r.stopDatum ≠ 0 → r.stopDatum.toNat ≤ s.datum.counter.toNat →
      exec (.replayStopDatum ctx) s = .next (s.modCtx ctx.toNat (fun y => { y with recording := some { r with active := false } }))) ∧
    (s.replayAt src = none → s.runs src 0x0603 = true → s.readable c (cmd.param 8 8) 64 = true →
      exec (.replayRun src fab) s = .next (s.replayStart src fab)) ∧
    (∀ y, s.replayAt src = some y → s.cpUp = true → s.ctxLive c = true →
      (0 < y.left → s.readable c y.next 524288 = true ∧ s.replayFree c y fab = true) → (y.left = 0 → s.replayOpen c = false) →
      exec (.replayRun src fab) s = .next (s.replayOn c y fab))

/-! ### Datum -/

/-- R355 to R358, R412: an exchange every period; the link delay is half the round trip less the time at the peer; the slew moves the
counter 1 ns at most every 4 us while the error exceeds 500 ps; a module in holdover takes a new parent after 100 ms; a pulse sets the
error of its second, and three missing pulses end the lock. -/
def Obligations.DatumTiming : Prop :=
  ∀ (s : State) (group : BitVec 6) (t1 t2 t3 t4 : Nat),
    let g := group.toNat
    let d := s.datum
    let free := ∀ at_, d.lastSlew = some at_ → at_ + 4000 ≤ s.time
    (s.lmpUp = true → (∀ at_, d.lastExchange = some at_ → at_ + exchangePeriod ≤ s.time) → ∃ t, exec .datumExchangeTimer s = .next t ∧
      t = { s with datum := { d with lastExchange := some s.time }, out := t.out } ∧
      t.out = s.out ++ ((List.range 36).filter (fun i => (s.group i).state == 2)).map .timestamp ++ s.activePorts.map .creditView) ∧
    (s.lmpUp = true → g < 36 → ((s.group g).state = 1 ∨ (s.group g).state = 2) → ∃ t,
      exec (.datumTimestampExchange group t1 t2 t3 t4) s = .next t ∧ (t.group g).measured = true ∧
      (t.group g).linkDelay = BitVec.ofInt 32 ((((t4 : Int) - t1) - ((t3 : Int) - t2)) / 2) ∧ t.dram = s.dram ∧ t.cores = s.cores) ∧
    (s.lmpUp = true → d.calibrated = true → d.holdover = none → free → 500 < s.slewDue → ∃ t, exec .datumSlewTick s = .next t ∧
      t.datum.counter = d.counter ∧ t.datum.lastSlew = some s.time ∧ t.time = s.time + 1 ∧ t.dram = s.dram) ∧
    (s.lmpUp = true → d.calibrated = true → d.holdover = none → free → s.slewDue < -500 → ∃ t, exec .datumSlewTick s = .next t ∧
      t.datum.counter = d.counter + 2 ∧ t.datum.lastSlew = some s.time ∧ t.time = s.time + 1 ∧ t.dram = s.dram) ∧
    (∀ at_ p, d.holdover = some at_ → s.newParent = some p → s.lmpUp = true → at_ + 100000000 ≤ s.time → d.parent ≠ some p →
      ∃ t, exec .holdoverReparent s = .next t ∧ t = { s with datum := t.datum } ∧ t.datum.parent = some p ∧ t.datum.holdover = none ∧
        t.datum.counter = d.counter) ∧
    (s.mainUp = true → (s.ppsActs = false ∨ (d.ppsLocked = true ∧ 1000000 < (secondError d.counter).natAbs)) →
      exec .datumPpsEdge s = .next s) ∧
    (s.mainUp = true → s.ppsActs = true → ¬ (d.ppsLocked = true ∧ 1000000 < (secondError d.counter).natAbs) → ∃ t,
      exec .datumPpsEdge s = .next t ∧ t = { s with datum := t.datum } ∧ t.datum.ppsError = -secondError d.counter ∧
      (t.datum.ppsLocked = true ↔ d.ppsLocked = true ∨ secondError d.counter = 0) ∧ t.datum.ppsMissed = 0) ∧
    (∀ at_, d.ppsLast = some at_ → s.ppsActs = true → at_ + 1001000000 ≤ s.time → ∃ t, exec .ppsEdgeMissing s = .next t ∧
      t = { s with datum := t.datum } ∧ t.datum.ppsMissed = d.ppsMissed + 1 ∧ (3 ≤ t.datum.ppsMissed → t.datum.ppsLocked = false))

/-- R360 to R362, R354: DATUM_BARRIER agrees a start time through the collective engine; the command behind it is staged before that time
and released at it; DATUM_READ returns the counter. -/
def Obligations.StartBarriers : Prop :=
  ∀ (src : CmdSource) (s : State) (fab : Fab) (q : BitVec 8),
    let cmd := s.cmd! src
    let n := q.toNat
    let lead := barrierLead cmd
    let bad := cmd.restZero [(0, 1), (4, 4)] = false ∨ lead < 30000 ∨ 1000000000 < lead
    let plat := (cmd.bound.getD none).bind (fun p => ((s.plat? p).filter (fun y => y.owner == srcCtx src)).map (fun y => (p, y)))
    (s.runs src 0x0700 = true → cmd.bound ≠ none → bad → exec (.datumBarrier src) s = .next (s.badParam cmd)) ∧
    (s.runs src 0x0700 = true → cmd.bound ≠ none → ¬ bad → s.datum.calibrated = false →
      exec (.datumBarrier src) s = .next (s.status cmd stBusy)) ∧
    (s.runs src 0x0700 = true → cmd.bound ≠ none → ¬ bad → s.datum.calibrated = true → plat = none →
      exec (.datumBarrier src) s = .next (s.badParam cmd)) ∧
    (∀ p y, s.runs src 0x0700 = true → cmd.bound ≠ none → ¬ bad → s.datum.calibrated = true → plat = some (p, y) →
      exec (.datumBarrier src) s = .next (if y.excluded = true then s.status cmd stAborted else s.barrierColl src p y)) ∧
    (s.cpUp = true → s.ctxLive (n / 4) = true → s.barrierAgreed n = true → s.stageable n = true →
      let past := fun (r : Word64 × Bool) => (r.1, r.2 || decide (r.1.toNat < s.datum.counter.toNat))
      exec (.barrierStage q fab) s =
        .next ((s.modQueue n (fun x => { x with barrier := x.cur, cur := none, release := x.release.map past })).fetch n fab)) ∧
    (∀ r late, (s.queue n).release = some (r, late) → s.works = true → s.ctxLive (n / 4) = true → r.toNat ≤ s.datum.counter.toNat →
      ((s.queue n).barrier ≠ none ∨ s.stageable n = false) → (∀ x ∈ s.colls, x.queue = n → s.collReady x = true) →
      exec (.barrierRelease q fab) s = .next (s.releaseBarrier n fab r late)) ∧
    (s.runs src 0x0701 = true → exec (.datumRead src) s =
      .next (if cmd.restZero [] = true then s.ok cmd (natLE s.datum.counter.toNat 8) else s.badParam cmd))


/-! ### Experts -/

/-- R266 to R268, R278, R319: INBOX_CONFIG reads its descriptor, its map or its origin and takes it when its checks pass; a dispatch advances
HEAD by one in the engine and in the block; INBOX_QUERY writes 128 bytes of counters. -/
def Obligations.ExpertCommands : Prop :=
  ∀ (src : CmdSource) (s : State) (fab : Fab) (ctx : BitVec 6),
    let cmd := s.cmd! src
    let c := srcCtx src
    let a := cmd.param 8 8
    let n := cmd.param 4 4
    let sub := cmd.param 0 1
    let read := fun (k : Nat) => s.engineRead c (.cmd src) fab a k
    (s.runs src 0x0500 = true → sub = 0 → s.readable c a 64 = true → cmd.restZero [(0, 1), (8, 8)] = true → vaRange a 64 = true →
      exec (.inboxConfigInbox src fab) s = .next ((read 64).2.2.configInbox src (read 64).1 fab)) ∧
    (s.runs src 0x0500 = true → sub ≠ 1 → sub ≠ 2 → s.readable c a 64 = true →
      (sub ≠ 0 ∨ cmd.restZero [(0, 1), (8, 8)] = false ∨ vaRange a 64 = false) →
      exec (.inboxConfigInbox src fab) s = .next (s.badParam cmd)) ∧
    (∀ b, s.inboxOk c b fab = true → ((s.inbox (field b 0 1)).enable = true → (s.inbox (field b 0 1)).owner = c ∧
        (s.inbox (field b 0 1)).waves = []) → bitOf (field b 3 1) 0 = true → ∃ t : State,
      s.configInbox src b fab = t.finish cmd (cmd.statusOr stOk) 0 [] ∧ t.inbox (field b 0 1) = s.inboxOf c b ∧
        (∀ i, i ≠ field b 0 1 → t.inbox i = s.inbox i) ∧ t.dram = s.dram) ∧
    (∀ b, s.inboxOk c b fab = false → s.configInbox src b fab = s.finish cmd (cmd.statusOr stBadParam) 0 []) ∧
    (∀ b, s.inboxOk c b fab = true → (s.inbox (field b 0 1)).enable = true → (s.inbox (field b 0 1)).owner ≠ c →
      s.configInbox src b fab = s.finish cmd (cmd.statusOr stDenied) 0 []) ∧
    (s.runs src 0x0500 = true → sub = 1 → s.readable c a 65536 = true →
      (cmd.restZero [(0, 1), (4, 12)] = false ∨ n = 0 ∨ 16384 < n ∨ vaRange a (4 * n) = false) →
      exec (.inboxConfigMap src fab) s = .next (s.badParam cmd)) ∧
    (s.runs src 0x0500 = true → sub = 1 → s.readable c a 65536 = true → cmd.restZero [(0, 1), (4, 12)] = true → 0 < n → n ≤ 16384 →
      vaRange a (4 * n) = true →
      let m := (chunks 4 (read (4 * n)).1).map (fun b => BitVec.ofNat 32 (leNat b))
      let t := (read (4 * n)).2.2
      exec (.inboxConfigMap src fab) s = .next (if mapOk m = true
        then (t.modCtx c (fun x => { x with expertMap := m })).finish (t.cmd! src) ((t.cmd! src).statusOr stOk) 0 []
        else t.finish (t.cmd! src) ((t.cmd! src).statusOr stBadParam) 0 [])) ∧
    (s.runs src 0x0500 = true → sub = 2 → s.originOk c cmd = false → exec (.inboxConfigOrigin src) s = .next (s.badParam cmd)) ∧
    (s.runs src 0x0500 = true → sub = 2 → s.originOk c cmd = true → ((s.ctx c).places ≠ [] ∨ (s.ctx c).waves ≠ []) →
      exec (.inboxConfigOrigin src) s = .next (s.status cmd stBusy)) ∧
    (s.runs src 0x0500 = true → sub = 2 → s.originOk c cmd = true → (s.ctx c).places = [] → (s.ctx c).waves = [] →
      exec (.inboxConfigOrigin src) s = .next ((s.modCtx c (fun x => { x with origin := some (s.originOf c cmd) })).ok cmd)) ∧
    (∀ o, (s.ctx ctx.toNat).origin = some o → s.works = true → s.ctxLive ctx.toNat = true →
      s.blockWord ctx.toNat o 0 ≠ o.head.toNat → s.writable ctx.toNat o.block.toNat 16 = true →
      s.readable ctx.toNat (field (s.dispatchRec ctx.toNat o) 0 7) 16384 = true →
      exec (.scatterDispatch ctx fab) s = .next (s.dispatch ctx.toNat o fab)) ∧
    (s.runs src 0x0501 = true → s.writable c a 128 = true → (cmd.restZero [(0, 2), (8, 8)] = false ∨ 1 < sub ∨ vaRange a 128 = false ∨
        (sub = 1 ∧ (s.inbox (cmd.param 1 1)).enable = false)) → exec (.inboxQuery src fab) s = .next (s.badParam cmd)) ∧
    (s.runs src 0x0501 = true → s.writable c a 128 = true → cmd.restZero [(0, 2), (8, 8)] = true → sub = 1 → vaRange a 128 = true →
      (s.inbox (cmd.param 1 1)).enable = true → (s.inbox (cmd.param 1 1)).owner ≠ c →
      exec (.inboxQuery src fab) s = .next (s.finish cmd stDenied 0 [])) ∧
    (s.runs src 0x0501 = true → s.writable c a 128 = true → cmd.restZero [(0, 2), (8, 8)] = true → sub = 0 → vaRange a 128 = true →
      let t := (s.engineWrite c (.cmd src) fab a (counterBytes (s.ctx c).originCounters)).2
      exec (.inboxQuery src fab) s = .next (t.finish (t.cmd! src) ((t.cmd! src).statusOr stOk) 0
        (natLE (s.ctx c).rowsOut.toNat 8 ++ natLE (t.ctx c).wavesDone.toNat 8)))

/-- R269 to R280: a row segment is taken in, or its row refused; a marker counts for its origin; a batch closes at its deadline or its latency
floor and ends with its grid; a return and a receipt are taken by the origin, and what answers no job of this module is discarded. -/
def Obligations.ExpertTraffic : Prop :=
  ∀ (s : State) (p : Packet) (g : RowSeg) (inbox : Byte) (ctx : BitVec 6) (wave : Word32) (fab : Fab) (v : Wave) (b : Batch) (r : Receipt),
    let i := inbox.toNat
    let t := s.takeArrived (· == p)
    let m := p.env.src
    let row := p.body = .row g ∧ s.forMe p = true
    (row → g.kind = .row → s.inRowOrder p g = true → s.inboxFor g m = none → exec (.expertRowSegment p fab) s = .next (t.rowSegment fab p g)) ∧
    (∀ x, row → g.kind = .row → s.inRowOrder p g = true → s.inboxFor g m = some x → s.ctxLive x.owner = true → (g.offset ≠ 0 ∨ s.rowRoom x g = true) →
      exec (.expertRowSegment p fab) s = .next (t.rowSegment fab p g)) ∧
    (t.inboxFor g m = none → t.rowSegment fab p g = if g.offset = 0 then t.refuseRow p g none else t) ∧
    (∀ x land, t.inboxFor g m = some x → g.offset = 0 → x.freeLand = some land →
      t.rowSegment fab p g = (t.newRow g.inbox.toNat x g m land).landRow fab g.inbox.toNat g m ∧
      ((t.newRow g.inbox.toNat x g m land).inbox g.inbox.toNat).received = (t.inbox g.inbox.toNat).received + 1 ∧
      ((t.newRow g.inbox.toNat x g m land).inbox g.inbox.toNat).nextArrival = (t.inbox g.inbox.toNat).nextArrival + 1) ∧
    (row → g.kind = .marker → s.inRowOrder p g = true → s.inboxFor g m = none → exec (.expertMarker p fab) s = .next (t.marker fab g m)) ∧
    (∀ x, row → g.kind = .marker → s.inRowOrder p g = true → s.inboxFor g m = some x → s.ctxLive x.owner = true → x.waveRoom g.wave = true →
      exec (.expertMarker p fab) s = .next (t.marker fab g m)) ∧
    (s.closingWave i .deadline = some v → s.inboxLive i = true →
      exec (.batchDeadline inbox fab) s = .next (s.closeBatch fab i v .deadline)) ∧
    (s.closingWave i .floor = some v → s.inboxLive i = true →
      exec (.batchLatencyFloor inbox fab) s = .next (s.closeBatch fab i v .floor)) ∧
    ((s.inbox i).batches.find? s.batchDone = some b → s.works = true → (s.inbox i).enable = true →
      exec (.expertBatchComplete inbox fab) s = .next (s.endBatch fab i b)) ∧
    (row → g.kind = .ret → s.originCtx g.job = none → exec (.expertReturn p fab) s = .next (t.formerOrphan g)) ∧
    (∀ c, row → g.kind = .ret → s.originCtx g.job = some c → s.originReady c = true → exec (.expertReturn p fab) s =
      .next (match s.placeOf c g m.toNat with
        | none => t.orphanReturn c g m.toNat
        | some q => (t.takeReturn fab c g q).endOriginWave c fab g.wave)) ∧
    (p.body = .receipt r → s.forMe p = true → s.originCtx r.job = none → exec (.expertReceipt p fab) s = .next t) ∧
    (∀ c, p.body = .receipt r → s.forMe p = true → s.originCtx r.job = some c → s.originReady c = true →
      exec (.expertReceipt p fab) s = .next ((t.takeReceipt c r m.toNat).endOriginWave c fab r.wave)) ∧
    (row → g.kind = .resetNotice → exec (.expertResetNotice p fab) s = .next
      (match s.originCtx g.job with | none => t | some c => t.homeReset c g m.toNat)) ∧
    (s.works = true → s.ctxLive ctx.toNat = true → ∀ e, s.lateReceipts ctx.toNat wave = [e] →
      let u := s.modWaves ctx.toNat wave e.home e.inbox (fun v => { v with late := true })
      exec (.waveTimeout ctx wave) s = .next (if s.fabric.unreachable.any (fun v => v.1 == e.home) = true
        then (u.raise { code := 0x0205, ctx := some ctx.toNat, target := e.home, detail := waveDetail wave e.inbox }).markWave ctx.toNat wave
        else u.mismatch ctx.toNat wave e.home e.inbox)) ∧
    (s.works = true → s.ctxLive ctx.toNat = true → s.lateReceipts ctx.toNat wave ≠ [] → ∃ u, exec (.waveTimeout ctx wave) s = .next u)

/-! ### Errors and recovery -/

/-- R368 to R373, R445, R458: an error is raised with its record; a window closes 1 ms after it opened; ERR_READ returns the oldest records
and restarts the count of lost ones; HUSK_READ and TALLY_READ return what they name, BAD_PARAM for what is not there. -/
def Obligations.Errors : Prop :=
  ∀ (s : State) (src : CmdSource) (e : ErrEvent) (code : BitVec 16) (ctx : Byte) (w : LogWin),
    let cmd := s.cmd! src
    let name := cmd.param 0 4
    let b := (s.recov.husks.find? (fun h => h.index == name)).map (·.bytes)
    (s.mainUp = true → e.code.toNat ∈ errCodes → (errAction e.code.toNat = 2 → s.coreThere (unitCore e.unitIndex.toNat) = true) →
      let t := (s.errorSite e).raise (specOf e)
      exec (.errorRaised e) s = .next (if e.code = 0x0204 then t.watchStack (s.stackOf (lineOf e.detail.toNat)) else t)) ∧
    (e.code = 0x0204 → lineOf e.detail.toNat ∈ (s.errorSite e).home.ueLines) ∧
    (s.errs.windows.find? (fun w => w.code == code && w.ctx == ctx) = some w → s.mainUp = true →
      w.opened.toNat + logWindow ≤ s.datum.counter.toNat →
      exec (.logWindowClose code ctx) s = .next { s with errs := s.errs.closeWin w }) ∧
    (s.runs src 0x0A00 = true → exec (.errRead src) s = .next (s.errRead src)) ∧
    (cmd.restZero [(0, 12)] = false → s.errRead src = s.badParam cmd) ∧
    (∀ n, n = min (cmd.param 8 4) (s.errs.queue.length + s.errs.backlog.length + s.errs.held.length) → cmd.restZero [(0, 12)] = true →
      (popErrors n s).1.length ≤ n ∧
      (s.errs.backlog = [] → (popErrors n s).1 = s.errs.queue.take n ∧ (popErrors n s).2.errs.queue = s.errs.queue.drop n) ∧
      ∃ (u : State) (r : List Byte), s.errRead src = u.ok cmd (natLE (popErrors n s).1.length 4 ++ r) ∧ u.errs.overflow = 0 ∧
        u.errs.queue = (popErrors n s).2.errs.queue) ∧
    (s.runs src 0x0A01 = true → cmd.restZero [(0, 4), (8, 12)] = false → exec (.huskRead src) s = .next (s.badParam cmd)) ∧
    (s.runs src 0x0A01 = true → cmd.restZero [(0, 4), (8, 12)] = true → s.boot.state ≠ .powerFault → name ≠ 0xFFFFFFFF → b = none →
      exec (.huskRead src) s = .next (s.badParam cmd)) ∧
    (∀ l, s.runs src 0x0A01 = true → cmd.restZero [(0, 4), (8, 12)] = true → s.boot.state ≠ .powerFault →
      ((name = 0xFFFFFFFF ∧ l = s.traceBytes) ∨ (name ≠ 0xFFFFFFFF ∧ b = some l)) → exec (.huskRead src) s =
      .next ((s.putHost (cmd.param 8 8) (l.take (cmd.param 16 4))).ok cmd (natLE (l.take (cmd.param 16 4)).length 4))) ∧
    (s.runs src 0x0A02 = true → (cmd.restZero [(0, 2), (8, 8)] = false ∨ (cmd.param 1 1 ≠ 3 ∧ 64 ≤ cmd.param 0 1) ∨ 4 < cmd.param 1 1) →
      exec (.tallyRead src) s = .next (s.badParam cmd)) ∧
    (∀ k vs, s.runs src 0x0A02 = true → cmd.restZero [(0, 2), (8, 8)] = true → (cmd.param 1 1 = 3 ∨ cmd.param 0 1 < 64) →
      s.tallyGroup (cmd.param 0 1) (cmd.param 1 1) = some (k, vs) →
      let bs := [BitVec.ofNat 8 (cmd.param 1 1), BitVec.ofNat 8 vs.length, BitVec.ofNat 8 k] ++ zeros 5 ++ (vs.map (fun v => natLE v k)).flatten
      exec (.tallyRead src) s = .next ((s.putHost (cmd.param 8 8) bs).ok cmd (natLE bs.length 4)))

/-- R373, R375, R379 to R383: context resets, core resets and processor restarts run one at a time in the order they were asked for; a context
reset waits for the processor restarts; the end of each queues its record; a module stop freezes every context and asks for a module reset. -/
def Obligations.Recoveries : Prop :=
  ∀ (s : State) (x : CtxReset) (y : CoreReset) (z : ProcRestart) (xs : List CtxReset) (ys : List CoreReset) (zs : List ProcRestart),
    let ctxs := s.recov.ctxs = x :: xs ∧ s.hrpWorks = true
    let cores := s.recov.cores = y :: ys ∧ s.hrpWorks = true
    let procs := s.recov.procs = z :: zs ∧ s.hrpWorks = true
    (ctxs → s.recov.procs = [] → x.started = none → exec .contextReset s = .next (s.resetContext x)) ∧
    (∀ at_, ctxs → x.started = some at_ → exec .contextResetDone s = .next (s.contextDone x)) ∧
    (cores → y.started = none → exec .coreReset s = .next (s.resetCore y)) ∧
    (∀ at_, cores → y.started = some at_ → exec .coreResetDone s = .next (s.coreDone y)) ∧
    (procs → z.started = none → (∀ r ∈ s.recov.ctxs, r.started = none) → exec .processorRestart s = .next (s.restart z)) ∧
    (∀ at_, procs → z.started = some at_ → exec .procRestarted s = .next (s.restarted z)) ∧
    (∀ code, s.recov.stopDue = some code → s.hrpWorks = true → ∃ t, exec .moduleStop s = .next t ∧ t.boot.state = .stopped ∧
      t.boot.resetPending = true ∧ t.recov.stopDue = none ∧ (∃ pre, t.out = pre ++ [.msix 256, .resetRequest]) ∧ t.dram = s.dram)

/-- R374, R375: what the watchdogs raise and when: a processor without a heartbeat for 1 ms, a stalled stream past its bound, a core without
issue for 100 us, a dispatcher idle for 1 ms with work and a core, the HRP's own timer, a recovery past its bound. -/
def Obligations.Watchdogs : Prop :=
  ∀ (s : State) (p : Proc) (c : CoreId) (stream : Stream) (k : RecoveryKind),
    let key := coreKey c
    let x := s.core key
    let tile := match stream with | .access => x.accTile | .execute => x.exeTile
    let stall := match stream with | .access => x.accStall | .execute => x.exeStall
    (s.mainUp = true → (∀ r ∈ s.recov.procs, r.proc ≠ p) → exec (.processorHeartbeat p) s =
      .next (s.modRecov (fun r => { r with beats := tset r.beats (procIndex p) s.time }))) ∧
    (s.hrpWorks = true → s.boot.imagesOk = true → (∀ r ∈ s.recov.procs, r.proc ≠ p) →
      tget s.recov.beats (procIndex p) 0 + 1000000 ≤ s.time →
      exec (.procTimeout p) s = .next (s.raise { code := 0x0501, unitKind := 6, unitIndex := procIndex p })) ∧
    (∀ kind since, stall = some (kind, since) → s.hrpWorks = true → x.tiles ≠ [] → x.frozen = false →
      s.ctxLive tile.ctx = true → since + min 1000000000 (max 10000000 (4 * s.fabricTimeout tile.ctx)) ≤ s.time →
      exec (.coreStall c stream) s = .next (s.raise (s.tileErr key 0x0102 tile 0 0))) ∧
    (s.hrpWorks = true → x.tiles ≠ [] → x.frozen = false → x.retired = false → x.accStall = none → x.exeStall = none →
      (x.exeTile.accEnd = false ∨ x.exeTile.exeEnd = false) → x.lastIssue + 100000 ≤ s.time →
      exec (.coreHang c) s = .next (s.raise (s.tileErr key 0x0403 x.exeTile 0 0))) ∧
    (∀ (rank : BitVec 8) sl g e core, s.tileChoice rank.toNat = some (sl, g, e, core) → s.hrpWorks = true → rank.toNat < s.enabledClusters →
      max (max (s.core core).freeSince sl.since) (s.cluster rank.toNat).given + 1000000 ≤ s.time →
      exec (.engineHang (.dispatcher rank)) s = .next (s.raise { code := 0x0406, unitKind := 2, unitIndex := rank.toNat })) ∧
    (∀ stack, s.hrpWorks = true → exec (.engineHang (.memController stack)) s =
      .next (s.raise { code := 0x0406, unitKind := 3, unitIndex := stack.toNat })) ∧
    (s.hrpWorks = true → exec (.engineHang (.routerHalf false)) s =
      .next ((s.modFabric (fun f => { f with hungNorth := true })).raise { code := 0x0406, unitKind := 7, unitIndex := 0 }) ∧
      exec (.engineHang (.routerHalf true)) s =
      .next ((s.modFabric (fun f => { f with hungSouth := true })).raise { code := 0x0406, unitKind := 7, unitIndex := 1 })) ∧
    (s.boot.standby = true → s.recov.hrpStopped = false → ∃ t, exec .hrpTimerExpiry s = .next t ∧ t.recov.hrpStopped = true ∧
      t.boot.resetPending = true ∧ t.out = s.out ++ [.resetRequest] ∧ t.dram = s.dram ∧ t.cores = s.cores) ∧
    (s.hrpWorks = true → s.recov.stopDue = none →
      (match k with
        | .context => ∃ r ∈ s.recov.ctxs, ∃ at_, r.started = some at_ ∧ at_ + 2000000 < s.time
        | .core => ∃ r ∈ s.recov.cores, ∃ at_, r.started = some at_ ∧ at_ + 200000 < s.time
        | .processor => ∃ r ∈ s.recov.procs, ∃ at_, r.started = some at_ ∧ at_ + 20000000 < s.time) →
      exec (.resetOverrun k) s = .next (s.raise { code := 0x0702 }))


/-! ### The fabric -/

/-- R194, R196, R226, R231, R232, R237, R239, R391 to R393: a flit is 272 bytes under its CRC-32, over headers of 32, 16 and 8 bytes; one with
a bad check or ahead of SEQ draws REPLAY_REQ, one already accepted is discarded, the next in order is accepted with its ACK and its credits;
REPLAY_REQ sends again from the named SEQ on; a port sends a replayed flit first and a CREDIT or an IDLE flit when no packet can go; a
quarantined port sends only MANAGEMENT flits; a credit view that differs raises LEDGER. (What a module does with its ledger, and the flits of
a quarantined port, are the model's: notes/assumptions/41.md.) -/
def Obligations.LinkFlits : Prop :=
  ∀ (s : State) (port : BitVec 3) (f : Flit) (k : BitVec 12) (consumed : Nat),
    let p := port.toNat
    let x := s.port p
    let up := fun (n : Nat) => s.receives p f n = true
    let live := s.carries p = true ∨ s.manages p = true
    let mgmt := live ∧ f.type = 4 ∧ ∀ q ∈ f.packets, q.env.cls = .management
    let asks := live ∧ f.type = 3 ∧ f.packets = []
    let took := (s.modPort p (fun y =>
      { y.acked f.ack with rxSeq := y.rxSeq + 1, pool := y.pool.give f.pool.toNat f.count.toNat })).bookCheck 1 p
    let next := f.checkOk = true ∧ f.seq = x.rxSeq
    let old := f.checkOk = true ∧ f.seq ≠ x.rxSeq ∧ (x.rxSeq - f.seq).toNat ≤ 2048
    let bad := f.checkOk = false ∨ (f.seq ≠ x.rxSeq ∧ 2048 < (x.rxSeq - f.seq).toNat)
    let sends := s.carries p = true ∧ s.errs.stopped 5 p = false
    (f.bytes.length = 272 ∧ f.seal.checkOk = true ∧ (∀ r : Request, r.header.length = 32) ∧ (∀ r : Reply, r.header.length = 16) ∧
      (∀ e : Envelope, e.bytes.length = 8)) ∧
    (up 0 → next → exec (.dataFlit port f) s = .next (f.packets.foldl (fun t q => t.putInput p q) took)) ∧
    (up 0 → old → exec (.dataFlit port f) s = .next s) ∧
    (up 0 → bad → exec (.dataFlit port f) s = .next (s.askReplay p)) ∧
    (up 1 → f.packets = [] → (next → exec (.idleFlit port f) s = .next took) ∧ (old → exec (.idleFlit port f) s = .next s) ∧
      (bad → exec (.idleFlit port f) s = .next (s.askReplay p))) ∧
    (up 2 → f.packets = [] → (next → exec (.creditFlit port f) s = .next took) ∧ (old → exec (.creditFlit port f) s = .next s) ∧
      (bad → exec (.creditFlit port f) s = .next (s.askReplay p))) ∧
    (mgmt → (next → exec (.managementFlit port f) s = .next (took.modFabric (fun y => { y with arrived := y.arrived ++ f.packets }))) ∧
      (old → exec (.managementFlit port f) s = .next s) ∧ (bad → exec (.managementFlit port f) s = .next (s.askReplay p))) ∧
    (∃ g q, s.askReplay p = s.emit (.flit p g q) ∧ q.type = 3 ∧ q.seq = x.rxSeq ∧ q.checkOk = true) ∧
    (asks → f.checkOk = false → exec (.replayReq port f) s = .next (s.askReplay p)) ∧
    (asks → f.checkOk = true → ∃ t, exec (.replayReq port f) s = .next t ∧
      (t.port p).retry = (x.acked (f.seq - 1)).retry ∧
      (t.port p).resend = (x.acked (f.seq - 1)).retry.dropWhile (fun e => e.flit.seq != f.seq) ∧ t.dram = s.dram ∧ t.cores = s.cores) ∧
    (∀ e rest, sends → x.resend = e :: rest → exec (.flitTransmit port) s = .next (s.sendAgain p e)) ∧
    (∀ o y, sends → x.resend = [] → x.retry.length < retryFlits → x.choose (s.readyOut p) = some (o, y) →
      exec (.flitTransmit port) s = .next (s.sendData p o y)) ∧
    (sends → x.resend = [] → x.retry.length < retryFlits → x.choose (s.readyOut p) = none →
      exec (.flitTransmit port) s = .next ((s.modPort p Port.aged).sendFlit p (if x.dues.2 = 0 then 1 else 2) [] [] 0)) ∧
    (∀ o rest, s.manages p = true → s.errs.stopped 5 p = false → x.resend = [] → x.retry.length < retryFlits → x.out = o :: rest →
      exec (.flitTransmit port) s = .next (s.sendManagement p o)) ∧
    (s.carries p = true → s.procDown .lmp = false → consumed = x.drawnTo k → exec (.creditViewExchange port k consumed) s = .next s) ∧
    (s.carries p = true → s.procDown .lmp = false → consumed ≠ x.drawnTo k → exec (.creditViewExchange port k consumed) s = .next (s.raise
      { code := 0x0701, target := s.plan.neighbour s.self p, unitKind := 5, unitIndex := p
        detail := ledgerDetail 1 p ((consumed : Int) - x.drawnTo k) }))

/-- R201 to R206, R213, R226, R230, R234, R235, R238, R240: a multicast copy is delivered and sent on; the oldest packet of the module or of
an input pool is delivered, or goes to the port of its route, where a lost port discards it; a request that finds no credit opens an entry,
and one that matches an open entry joins it; a reply of a merged request answers every member and ends its entry. -/
def Obligations.Routing : Prop :=
  ∀ (s : State) (port : BitVec 3) (pool : BitVec 5) (p : Packet) (rest : List Packet) (r : Reply),
    let i := port.toNat
    let t := s.modFabric (fun f => { f with inject := rest })
    let first := (tget (s.port i).inputs pool.toNat []).head? = some p
    let open_ := fun (q : Request) => s.fabric.combines.find? (fun e => !e.sent && combineMatch e.lead q)
    (s.halfUp i = true → p.env.mcast = true → p.env.isReply = false → (p.env.hopsPos ≠ 0 ∨ p.env.hopsNeg ≠ 0) →
      exec (.multicastCopy port p) s = .next (((s.takeInput i p true).deliver p).copies (some i) p 1)) ∧
    (s.fabric.inject = p :: rest → s.mainUp = true → p.env.mcast = true →
      exec (.packetForward .fromModule) s = .next (t.copies none p 0)) ∧
    (s.fabric.inject = p :: rest → s.mainUp = true → p.env.mcast = false → s.exitUp p = true →
      exec (.packetForward .fromModule) s = .next (t.forward none p)) ∧
    (first → s.halfUp i = true → s.plain p = true → s.exitUp p = true → poolOf p = pool.toNat →
      exec (.packetForward (.fromInput port pool)) s = .next ((s.takeInput i p (s.exitOf p).isNone).forward (some i) p)) ∧
    (∀ from_, s.exitOf p = none → s.forward from_ p = s.deliver p) ∧
    (∀ from_ h, s.exitOf p = some h →
      let q := { p with env := { p.env with vc := vcOf from_ p.env.vc h.port h.dateline } }
      s.forward from_ p = if (s.port h.port).state = 0 ∨ ((s.port h.port).state = 3 ∧ s.forPeer h.port q = false)
        then s.discard h.port q else s.toPort h.port q) ∧
    (∀ q e, combinable p = some q → s.portLost i p = false → open_ q = some e → e.members.length < 16 →
      s.toPort i p = (s.modFabric (fun f =>
        { f with combines := updateFirst (· == e) (fun y => { y with members := y.members ++ [p] }) f.combines })).countJoin (s.southPort i) q) ∧
    (∀ q, combinable p = some q → s.portLost i p = false → open_ q = none → s.waitsCredit i p = true →
      s.fabric.combines.countP (fun e => !e.sent && e.south == s.southPort i) < 32 →
      s.toPort i p = (s.modFabric (fun f =>
        { f with combines := f.combines ++ [{ south := s.southPort i, lead := q, members := [p], sent := false }] })).queueAt i p) ∧
    (∀ e j q, s.entryOf r = some e → s.findReply r = some (j, q) → s.halfUp j = true → exec (.combinedReply r) s =
      .next (((s.modFabric (fun f => { f with combines := f.combines.filter (fun x => x != e) })).leaveInput j q).fanOut (some j) e r q.env)) ∧
    (∀ e, s.entryOf r = some e → s.findReply r = none → s.mainUp = true → exec (.combinedReply r) s =
      .next ((s.modFabric (fun f => { f with combines := f.combines.filter (fun x => x != e) })).fanOut none e r
        { (s.packet r.dest true e.lead.cls (16 + r.data.length) (.rep r)).env with src := r.src }))

/-- R218 to R230, R389, R393 to R395, R441: a group passes the points of its training in their order and joins with its credits; a bad
identity block is asked for three times; a third missed bound fails the group; a lost signal or too many errors fail a joined one; a port
profile retrains what it changes; a down notice is relayed once. (Choices about a profile: notes/assumptions/43.md.) -/
def Obligations.LinkTraining : Prop :=
  ∀ (s : State) (group : BitVec 6) (m : Milestone) (bytes : List Byte) (port : BitVec 3) (p : Packet) (src : CmdSource) (e : GroupError),
    let g := group.toNat
    let x := s.group g
    let c := s.cmd! src
    let n := milestoneIndex m
    let role := x.role.toNat % 16
    let joined := s.mainUp = true ∧ g < 36 ∧ x.state = 2
    let late := s.lmpUp = true ∧ g < 36 ∧ x.milestone < 6 ∧ x.started + (trainBounds.getD x.milestone (0, 0)).2 < s.time
    let failed := fun (t : State) (credits : Nat) =>
      ((t.modGroup g (fun y => { y with state := 4, attempts := 3, agreed := false, measured := false })).groupFailed g credits).settle_ g
    let note := s.takeArrived (· == p)
    (s.canPass g n = true → ((n = 5 ∧ x.state = 2 ∧ x.measured = true) ∨ (n ≠ 5 ∧ x.state = 1)) →
      exec (.groupTrainingMilestone group m) s =
      .next (((s.modGroup g (fun y => { y with milestone := n + 1 })).sendIdentity g n).settle_ g)) ∧
    ((s.ownIdentity g).length = 64 ∧ identityCheck (s.ownIdentity g) = true) ∧
    (s.canPass g 3 = true → x.state = 1 → role < 8 → bytes.length = 64 →
      (identityCheck bytes = true → exec (.identityBlock group bytes) s = .next ((s.identified g bytes).settle_ g)) ∧
      (identityCheck bytes = false → x.identityTries < 3 → exec (.identityBlock group bytes) s =
        .next ((s.modGroup g (fun y => { y with identityTries := y.identityTries + 1 })).emit (.identityAgain g))) ∧
      (identityCheck bytes = false → 3 ≤ x.identityTries → exec (.identityBlock group bytes) s = .next s)) ∧
    (s.canPass g 4 = true → x.state = 1 → x.agreed = true → exec (.groupJoined group) s =
      .next ((((s.modGroup g (fun y => { y with state := 2, milestone := 5 })).modPort role (fun y =>
        { y with pool := y.pool.issue })).bookCheck 1 role).settle_ g)) ∧
    (late → x.state = 1 → x.attempts < 2 → exec (.trainingBoundMissed group) s =
      .next ((s.modGroup g (fun y => y.start s.time (x.attempts + 1))).settle_ g)) ∧
    (late → x.state = 1 → 2 ≤ x.attempts → exec (.trainingBoundMissed group) s = .next (failed s 0)) ∧
    (late → x.state = 2 → x.attempts < 2 → exec (.trainingBoundMissed group) s =
      .next (((s.leave g).modGroup g (fun y => y.start s.time (x.attempts + 1))).settle_ g)) ∧
    (late → x.state = 2 → 2 ≤ x.attempts → exec (.trainingBoundMissed group) s = .next (failed (s.leave g) groupUnits)) ∧
    (joined → exec (.laneSignalLoss group) s = .next (s.failGroup g)) ∧
    (joined → exec (.groupErrorThreshold group e) s = .next ((match e with
      | .uncorrectable => s.modGroup g (fun y => { y with fecUncorrected := satAdd y.fecUncorrected 17 })
      | .replays => s).failGroup g)) ∧
    (∀ d, s.lmpUp = true → p.body = .downNote d → exec (.downNotice port p) s = .next (if d ∈ s.fabric.downNotes then note
      else (note.sendNotice d (relayAxes p.env.axis.toNat)).declare d)) ∧
    (s.runs src 0x0900 = true → (c.restZero [(0, 3), (8, 8)] = false ∨ 4 ≤ c.param 1 1) → exec (.portProfile src) s = .next (s.badParam c)) ∧
    (s.runs src 0x0900 = true → c.restZero [(0, 3), (8, 8)] = true → c.param 1 1 < 4 →
      (s.fabric.profile ≠ none ∨ (bitOf (c.param 1 1) 0 = false ∧ ∃ y ∈ s.contexts, y.2.state ≠ 0)) →
      exec (.portProfile src) s = .next (s.status c stBusy)) ∧
    (s.runs src 0x0900 = true → c.restZero [(0, 3), (8, 8)] = true → c.param 1 1 < 4 → s.fabric.profile = none →
      (bitOf (c.param 1 1) 0 = true ∨ ∀ y ∈ s.contexts, y.2.state = 0) → exec (.portProfile src) s = .next (match s.profileOf c with
        | none => s.badParam c
        | some roles => s.applyProfile src roles (bitOf (c.param 1 1) 1))) ∧
    (s.runs src 0x0901 = true → (8 ≤ c.param 0 1 ∨ c.restZero [(0, 1)] = false) → exec (.portQuery src) s = .next (s.badParam c)) ∧
    (s.runs src 0x0901 = true → c.param 0 1 < 8 → c.restZero [(0, 1)] = true →
      let q := s.port (c.param 0 1)
      exec (.portQuery src) s = .next (s.ok c ([q.state.toNat, q.reason.toNat, (s.portGroups (c.param 0 1)).length,
        (s.sparesOf (c.param 0 1)).length, q.minor.toNat, 0, 0, 0].map (BitVec.ofNat 8) ++ natLE q.peerPhys.toNat 2 ++
        [BitVec.ofNat 8 q.peerPort.toNat])))

/-! ### Control space -/

/-- R310, R331 to R340, R349, R350: a write reaches its register with the other half as it stood; a refused field sets WRITE_REFUSED; a
read of counters clears them; the low half of a 64-bit field holds its high half for the next read; MEMBER_DATA advances MEMBER_PTR by 4;
an access of another size or alignment reads zero or is refused; the aperture reads and writes the context's memory. (A FREE context under the
aperture: notes/assumptions/45.md; a queue enabled again with its HEAD: notes/assumptions/46.md.) -/
def Obligations.ControlRegisters : Prop :=
  ∀ (s : State) (m : Master) (offset : BitVec 24) (v : Word64) (n : BitVec 2) (at4 : BitVec 38) (len : Nat) (bytes : List Byte) (fab : Fab),
    let up := s.masterUp m = true
    let o := offset.toNat
    let g := s.regs.global
    (up → o % 8 = 0 → exec (.registerWrite m offset true v) s = .next (s.writeReg m o fullMask v) ∧
      exec (.registerWrite m offset false v) s = .next (s.writeReg m o 0xFFFFFFFF v)) ∧
    (up → o % 8 = 4 → exec (.registerWrite m offset false v) s = .next (s.writeReg m (o - 4) 0xFFFFFFFF00000000 (v <<< 32))) ∧
    (up → ∃ t, exec (.registerWrite m 0x000040 true v) s = .next t ∧ t.dram = s.dram ∧ t.contexts = s.contexts ∧
      t.regs.global.migrateThreshold = (if bitsOf v.toNat 0 32 = 0 then g.migrateThreshold else v.truncate 32) ∧
      t.regs.global.migrateCooldown.toNat = (if 1 ≤ bitsOf v.toNat 32 16 ∧ bitsOf v.toNat 32 16 ≤ 1000 then bitsOf v.toNat 32 16
        else g.migrateCooldown.toNat) ∧
      (bitsOf v.toNat 0 32 = 0 → g.migrateThreshold ≠ 0 → 0 ∈ (t.mst m).writeRefused)) ∧
    (up → exec (.qenableWrite m n v) s = .next (s.writeReg m (0x100118 + 0x40 * n.toNat) fullMask v)) ∧
    (∀ q, (s.queue q).enable = false → bitOf v.toNat 0 = true → ∃ t, s.writeQctrl m q v.toNat = t ∧ (t.queue q).enable = true ∧
      (t.queue q).haltReason = 0 ∧
      (t.queue q).head = (if (s.queue q).haltReason = 0 then (s.queue q).head else (s.queue q).tail) ∧ t.dram = s.dram) ∧
    (up → m = .host → exec (.planCommit m) s = .next (s.refuseWrite m 0)) ∧
    (up → m = .sideband → s.noContexts = false → exec (.planCommit m) s = .next (s.refuseWrite m 0)) ∧
    (up → m = .sideband → s.noContexts = true → exec (.planCommit m) s =
      .next (if s.regs.plan.ok = true then s.install s.regs.plan else s.noPlan)) ∧
    (up → exec (.errPop m) s = .next (popErrors 1 s).2) ∧
    (up → ∃ t, exec (.apCtrlWrite m v) s = .next t ∧ t.regs.global.apEnable = v.getLsbD 6 ∧ t.regs.global.apCtx = v.truncate 6 ∧
      t.regs.global.apBase = g.apShadow.getD g.apBase ∧ t.regs.global.apShadow = none ∧ t.dram = s.dram ∧ t.contexts = s.contexts) ∧
    (up → o % 8 = 0 → exec (.rcRegisterRead m offset) s =
      .next ((s.readReg m o).2.emit (.barRead m (s.readWord m o)))) ∧
    (up → ∃ t, exec (.rcRegisterRead m 0x000060) s = .next t ∧ t.regs.global.conflictsLost = 0 ∧ t.regs.global.doorbellIgnored = 0 ∧
      (∃ w, t.out = s.out ++ [.barRead m w] ∧ w.toNat = g.conflictsLost.toNat * 2 ^ 32 + g.doorbellIgnored.toNat) ∧
      t.queues = s.queues ∧ t.errs = s.errs) ∧
    (up → o % 4 = 0 → exec (.lowHalfRead m offset) s = .next ((s.readHalf m o).2.emit (.barRead m (s.readHalf m o).1))) ∧
    (o % 8 = 0 → latches o = true → (s.readHalf m o).1.toNat = (s.readWord m o).toNat % 2 ^ 32 ∧
      ((s.readHalf m o).2.mst m).latched o = some (BitVec.ofNat 32 ((s.readWord m o).toNat / 2 ^ 32)) ∧
      ∀ i, i ≠ o → ((s.readHalf m o).2.mst m).latched i = (s.mst m).latched i) ∧
    (∀ h, o % 8 = 4 → (s.mst m).latched (o - 4) = some h → (s.readHalf m o).1.toNat = h.toNat ∧
      ((s.readHalf m o).2.mst m).latched (o - 4) = none) ∧
    (up → ∃ t, exec (.memberDataRead m true false) s = .next t ∧ (t.mst m).memberPtr = (s.mst m).memberPtr + 4 ∧
      t.out = s.out ++ [.barRead m (s.readWord m 0x600028)] ∧ t.plats = s.plats ∧ t.dram = s.dram) ∧
    (up → exec (.memberDataRead m false false) s =
      .next ((s.readHalf m 0x600028).2.emit (.barRead m (s.readHalf m 0x600028).1)) ∧
      exec (.memberDataRead m false true) s = .next ((s.readHalf m 0x60002C).2.emit (.barRead m (s.readHalf m 0x60002C).1))) ∧
    (up → exec (.bar0BadAccess m true) s = .next (s.refuseWrite m 0) ∧ exec (.bar0BadAccess m false) s = .next (s.emit (.barRead m 0))) ∧
    (s.apCtx = none → s.inBar4 at4 len = true →
      exec (.bar4Read at4 len fab) s = .next (s.emit (.bar4Read (List.replicate len 0xFF)))) ∧
    (∀ c, s.apCtx = some c → s.inBar4 at4 len = true → s.readable c (s.apAddr at4) len = true →
      exec (.bar4Read at4 len fab) s = .next ((s.engineRead c .none fab (s.apAddr at4) len).2.2.emit
        (.bar4Read (s.engineRead c .none fab (s.apAddr at4) len).1))) ∧
    (s.apCtx = none → s.inBar4 at4 bytes.length = true → exec (.bar4Write at4 bytes fab) s = .next s) ∧
    (∀ c, s.apCtx = some c → s.inBar4 at4 bytes.length = true → s.writable c (s.apAddr at4) bytes.length = true →
      exec (.bar4Write at4 bytes fab) s = .next (apWrite c fab (linesIn (s.apAddr at4) bytes.length) bytes s))

/-- R338: a select register that names an instance that does not exist (a cluster rank at or above the enabled count, a lane group above 35, or
a FREE context, but for its queue fields, the register of STATE and LAST_RESET_DISCARDS): reads of the window return zero, its writes are
discarded, and SEL_INVALID is set in the master's STATUS; JOB and MODE of a FREE context read zero. -/
def Obligations.AbsentInstances : Prop :=
  ∀ (s : State) (m : Master) (o : Nat) (offset : BitVec 24) (v : Word64),
    let r := s.mst m
    let free := (s.ctx r.ctxSel.toNat).state = 0
    let q := 4 * r.ctxSel.toNat + (o - 0x100) / 0x40
    let absent := fun (base : Nat) => ∃ t, exec (.registerWrite m offset true v) s = .next t ∧ (∃ w, exec (.rcRegisterRead m offset) s =
      .next (w.emit (.barRead m 0)) ∧ w = t) ∧ t = s.modMst m (fun y => { y with selInvalid := (t.mst m).selInvalid }) ∧
        base ∈ (t.mst m).selInvalid
    (s.masterUp m = true → o % 8 = 0 → offset.toNat = 0x300000 + o → 0 < o → o < 0x10000 → s.enabledClusters ≤ r.cluRank.toNat →
      absent 0x300000) ∧
    (s.masterUp m = true → o % 8 = 0 → offset.toNat = 0x210000 + o → 0 < o → o < 0x10000 → 36 ≤ r.grpSel.toNat → absent 0x210000) ∧
    (s.masterUp m = true → o % 8 = 0 → offset.toNat = 0x100000 + o → 0x018 < o → (o < 0x100 ∨ 0x200 ≤ o) → o < 0x10000 → free →
      absent 0x100000) ∧
    (s.masterUp m = true → offset.toNat = 0x100010 → free → absent 0x100000) ∧
    (free → s.readWord m 0x100008 = 0 ∧ s.readWord m 0x100018 = BitVec.ofNat 64 (s.ctx r.ctxSel.toNat).discards.toNat) ∧
    (0x100 ≤ o → o < 0x200 → (o % 0x40 = 0 → s.readWord m (0x100000 + o) = (s.queue q).ringBase) ∧
      (o % 0x40 = 0x20 → (s.readWord m (0x100000 + o)).toNat = (s.queue q).head.toNat * 2 ^ 32 + (s.queue q).tail.toNat))


/-! ### Bring-up, power and firmware -/

/-- R165, R382, R397, R399 to R403, R418, and R26, R219, R223, R354 for INIT: a module reset and the loss of standby leave fuses, flash, pins
and host memory, and clear the rest; PERST# resets the host interface and every context, or the module where a request is pending; the banks
are verified in turn; the rails come up one after another and lead to INIT, training and RUNNING; a loss of input or a rail fault takes the
rails down, and DRAM, contexts and cores with them. (What the loss of the rails leaves, and the measured offsets, are the model's:
notes/assumptions/52.md, 87.md.) -/
def Obligations.BringUp : Prop :=
  ∀ (s : State) (straps : BitVec 3) (bankA bankB : BankVerdict) (failed : List CoreId) (rail stack : BitVec 3),
    let b := s.boot
    let first := judgeBank s.fuses.security (if b.activeB = true then bankB else bankA)
    let second := judgeBank s.fuses.security (if b.activeB = true then bankA else bankB)
    let keys := failed.map coreKey
    let hears := s.side.deafUntil = none ∨ ∃ t, s.side.deafUntil = some t ∧ t ≤ s.time
    let flash := fun (t : State) => t.fuses = s.fuses ∧ t.hostMem = s.hostMem ∧ t.boot.activeB = b.activeB ∧ t.boot.runningB = b.runningB ∧
      t.boot.staged = b.staged ∧ t.boot.stagedVersion = b.stagedVersion ∧ t.boot.tripFlash = b.tripFlash ∧
      t.boot.retiredFlash = b.retiredFlash ∧ t.boot.modResetLow = b.modResetLow ∧ t.boot.perstLow = b.perstLow
    let lost := fun (t : State) => t.dram = [] ∧ t.contexts = [] ∧ t.queues = [] ∧ t.cores = [] ∧ t.clusters = [] ∧ t.fabric = {} ∧
      t.ports = [] ∧ t.groups = [] ∧ t.boot.rails = 0 ∧ t.boot.hostIfUp = false ∧ t.boot.linkUp = false
    let anew := fun (t : State) => flash t ∧ lost t ∧ t.regs = {} ∧ t.errs = {} ∧ t.side = {} ∧ t.power = {} ∧ t.recov = {} ∧
      t.boot.mainGo = false ∧ t.boot.resetStarted = false ∧ t.boot.resetPending = false ∧ t.boot.input48 = b.input48
    (b.standby = true → b.modResetLow = false → exec .modResetAssert s =
      .next { s with boot := { b with modResetLow := true, resetStarted := true } }) ∧
    (b.standby = true → b.modResetLow = true → exec .modResetRelease s =
      .next { s with boot := { b with modResetLow := false, state := if b.state = .inReset then .standbyBoot else b.state } }) ∧
    (b.standby = true → s.sideUp = true → hears → exec .resetModuleWrite s = .next { s with boot := { b with resetStarted := true } }) ∧
    (b.standby = true → s.sideUp = false → exec .resetModuleWrite s = .next (s.emit .smbusNack)) ∧
    (b.standby = true → b.resetStarted = true → ∃ t, exec .moduleReset s = .next t ∧ anew t ∧ t.boot.addr = b.addr ∧
      t.boot.standby = true ∧ t.boot.state = (if b.modResetLow = true then .inReset else .standbyBoot)) ∧
    (b.standby = true → b.perstLow = false → s.mainUp = false → exec .perstAssert s = .next { s with boot := { b with perstLow := true } }) ∧
    (b.standby = true → b.perstLow = false → s.mainUp = true → b.resetPending = true →
      exec .perstAssert s = .next { s with boot := { b with perstLow := true, resetStarted := true } }) ∧
    (b.standby = true → b.perstLow = false → s.mainUp = true → b.resetPending = false → ∃ t, exec .perstAssert s = .next t ∧
      t.boot = { b with perstLow := true, hostIfUp := false, linkUp := false } ∧ t.dram = s.dram ∧ t.queues = s.queues ∧
      t.ports = s.ports ∧ t.groups = s.groups ∧ t.datum = s.datum ∧ t.regs = s.regs ∧
      (∀ c, (s.ctx c).state ≠ 0 → ∃ r ∈ t.recov.ctxs, r.ctx = c ∧ ((∀ q ∈ s.recov.ctxs, q.ctx ≠ c) → r.code = 0x010B))) ∧
    (b.standby = true → b.perstLow = true → exec .perstDeassert s =
      .next { s with boot := { b with perstLow := false, hostIfUp := s.mainUp } }) ∧
    (b.standby = false → exec .standbyApplied s =
      .next { s with boot := { b with standby := true, state := if b.modResetLow = true then .inReset else .standbyBoot } }) ∧
    (b.standby = true → ∃ t, exec .standbyLost s = .next t ∧ anew t ∧ t.boot.addr = none ∧ t.boot.standby = false ∧
      t.boot.state = .unpowered) ∧
    (b.standby = true → b.addr = none → exec (.addrStrapSample straps) s = .next { s with boot := { b with addr := some straps } }) ∧
    (∀ x, b.state = .standbyBoot → first = .ok x →
      exec (.bootVerificationDone bankA bankB failed) s = .next ((s.booted b.activeB x.1 x.2 0 keys).reportTrip)) ∧
    (∀ r x, b.state = .standbyBoot → first = .error r → second = .ok x → exec (.bootVerificationDone bankA bankB failed) s =
      .next (((s.booted (!b.activeB) x.1 x.2 5 keys).raise { code := 0x0905 }).reportTrip)) ∧
    (∀ r r', b.state = .standbyBoot → first = .error r → second = .error r' → exec (.bootVerificationDone bankA bankB failed) s =
      .next { s with boot := { b with state := .bootFailed, status := BitVec.ofNat 8 r } }) ∧
    (∀ bank version sec status, s.booted bank version sec status keys = { s with boot := { b with
      state := .readyMain, version := version, security := sec, status := BitVec.ofNat 8 status, staged := b.staged && (b.runningB == bank)
      runningB := bank, retiredFlash := b.retiredFlash.filter (fun k => keys.contains k) } }) ∧
    (b.tripFlash = false → s.reportTrip = s) ∧
    (b.tripFlash = true → s.reportTrip = ({ s with boot := { b with tripFlash := false } }).raise { code := 0x0906 }) ∧
    (∀ on, b.standby = true → s.sideUp = true → hears → exec (.mainGoWrite on) s =
      .next ({ s with boot := { b with mainGo := on } }).tryRamp) ∧
    (∀ on, b.standby = true → s.sideUp = false → exec (.mainGoWrite on) s = .next (s.emit .smbusNack)) ∧
    (b.standby = true → b.input48 = false → exec .inputInRange s = .next ({ s with boot := { b with input48 := true } }).tryRamp) ∧
    (b.state = .readyMain → b.mainGo = true → b.input48 = true →
      s.tryRamp = { s with boot := { b with state := .ramping }, jtag := s.tryRamp.jtag }) ∧
    (¬ (b.state = .readyMain ∧ b.mainGo = true ∧ b.input48 = true) → s.tryRamp = s) ∧
    (b.input48 = true → (s.mainUp = true ∨ b.state = .ramping) → ∃ t, exec .inputPowerLoss s = .next t ∧ flash t ∧ lost t ∧
      t.boot.state = .readyMain ∧ t.boot.input48 = false ∧ t.boot.mainGo = b.mainGo ∧ t.boot.standby = b.standby ∧ t.regs = s.regs ∧
      t.errs = s.errs ∧ t.side = s.side) ∧
    (b.input48 = true → s.mainUp = false → b.state ≠ .ramping →
      exec .inputPowerLoss s = .next { s with boot := { b with input48 := false } }) ∧
    (b.state = .ramping → b.rails + 1 < 7 → exec .railPowerGood s = .next { s with boot := { b with rails := b.rails + 1 } }) ∧
    (b.state = .ramping → 6 ≤ b.rails → ∃ t, exec .railPowerGood s = .next t ∧
      t = { s with boot := { b with rails := b.rails + 1, state := .init, hostIfUp := !b.perstLow }, dramStacks := t.dramStacks } ∧
      ∀ k < 8, (t.stack k).train = 1) ∧
    (rail ≠ 0 → (s.mainUp = true ∨ (b.state = .ramping ∧ rail.toNat ≤ b.rails + 1)) → ∃ t, exec (.railFault rail) s = .next t ∧
      flash t ∧ lost t ∧ t.boot.state = .powerFault ∧ t.power.regulator = true ∧ t.errs.alarms = min 65535 (s.errs.alarms + 1) ∧
      t.regs = s.regs ∧ t.side = s.side) ∧
    (b.state = .init → b.imagesOk = false → b.imagesBad = false → exec (.processorImagesVerified false) s =
      .next (({ s with boot := { b with imagesBad := true } }).raise { code := 0x0905 })) ∧
    (b.state = .init → b.imagesOk = false → b.imagesBad = false → ∃ t, exec (.processorImagesVerified true) s = .next t ∧
      t.boot = { b with imagesOk := true } ∧ t.dram = s.dram ∧ t.contexts = s.contexts ∧
      (∀ g < 36, (t.group g).role = interiorProfile.getD g 0x0F) ∧ (∀ g < 34, (t.group g).state = 1 ∧ (t.group g).started = s.time) ∧
      (∀ p < 8, (t.port p).state = 1) ∧ t.datum.coreOffset.toNat ≤ 3000 ∧
      ∀ d ∈ [0, 1, 2, 3, 5], (tget t.datum.dies d 0).natAbs ≤ 20) ∧
    (b.state = .init → (s.stack stack.toNat).train = 1 → exec (.stackTrainingDone stack true) s =
      .next (s.modStack stack.toNat (fun x => { x with train := 2 })) ∧ exec (.stackTrainingDone stack false) s =
      .next ((s.modStack stack.toNat (fun x => { x with train := 3 })).raise { code := 0x0405, unitKind := 3, unitIndex := stack.toNat })) ∧
    (s.mainUp = true → b.hostIfUp = true → b.linkUp = false → exec .pcieLinkUp s = .next { s with boot := { b with linkUp := true } }) ∧
    (b.state = .init → b.imagesOk = true → s.recov.stopDue = none → (∀ k < 8, (s.stack k).train = 2) → ∃ t, exec .cpReady s = .next t ∧
      t.boot.state = .running ∧ t.fuses = { s.fuses with security := max s.fuses.security b.security } ∧ t.dram = s.dram ∧
      t.contexts = s.contexts ∧ t.ports = s.ports ∧ t.groups = s.groups ∧ ∀ k ∈ b.retiredFlash, (t.core k).retired = true)

/-- R165, R166, R315, R322, R329, R365, R404 to R407, R411: samples are taken, the trip takes the rails down at once, three failures of the
regulator line end it; the commands of family 0x08, with BUSY in a STRICT run and CONFLICT_LOST under a hold or a safety action. (Which
samples average and when a step counts: notes/assumptions/47.md, 48.md, 53.md, 54.md.) -/
def Obligations.PowerCommands : Prop :=
  ∀ (s : State) (src : CmdSource) (watts : Nat) (hot : Bool) (dies temps : List Nat),
    let p := s.power
    let c := s.cmd! src
    let hrp := s.mainUp = true ∧ s.recov.hrpStopped = false
    let line := s.sideUp = true ∧ s.recov.hrpStopped = false ∧ p.pmbusDead = false
    let side := src == .mailbox
    let hold := bitOf (c.param 2 1) 0
    let n := c.param 0 2
    let m := c.param 0 1
    (hrp → exec (.powerSample watts hot) s = .next (s.powerSampled watts hot)) ∧
    (hrp → hot = true → ∃ t, exec (.powerSample watts hot) s = .next t ∧ t.power.current = true ∧
      t.power.samples = (watts :: p.samples).take 100 ∧ 3 ≤ t.power.clock ∧ t.dram = s.dram) ∧
    (hrp → dies.length = 6 → temps.length = 8 → exec (.thermalSample dies temps) s = .next (s.thermalSampled dies temps)) ∧
    (s.boot.standby = true → s.boot.state ≠ .unpowered → s.boot.state ≠ .inReset → s.boot.state ≠ .tripped → ∃ t,
      exec .thermalTrip s = .next t ∧ t.boot.state = .tripped ∧ t.boot.tripLatched = true ∧ t.boot.tripFlash = true ∧ t.boot.rails = 0 ∧
      t.dram = [] ∧ t.cores = [] ∧ t.contexts = [] ∧ t.fuses = s.fuses ∧ t.hostMem = s.hostMem) ∧
    (line → exec (.pmbusRecovery true) s = .next { s with power := { p with pmbusFails := 0 } }) ∧
    (line → p.pmbusFails < 2 → exec (.pmbusRecovery false) s = .next { s with power := { p with pmbusFails := p.pmbusFails + 1 } }) ∧
    (line → 2 ≤ p.pmbusFails → exec (.pmbusRecovery false) s =
      .next ({ s with power := { p with pmbusFails := p.pmbusFails + 1, pmbusDead := true } }.raise { code := 0x0904 })) ∧
    (s.runs src 0x0800 = true → exec (.powerQuery src) s = .next (if c.restZero [] = true
      then s.ok c (natLE p.input 2 ++ natLE p.cap 2 ++ [BitVec.ofNat 8 p.clock, BitVec.ofNat 8 p.flags, 0, 0] ++ natLE p.throttle.toNat 4)
      else s.badParam c)) ∧
    (s.runs src 0x0801 = true → (c.restZero [(0, 3)] = false ∨ n < 1200 ∨ 3600 < n ∨ c.holdOk side = false) →
      exec (.powerCap src) s = .next (s.badParam c)) ∧
    (s.runs src 0x0801 = true → c.restZero [(0, 3)] = true → 1200 ≤ n → n ≤ 3600 → c.holdOk side = true → exec (.powerCap src) s =
      .next (s.controlled src hold p.capHeld (n != p.cap) (decide (p.cap < n))
        (fun s => s.modPower (fun p => { p with cap := n, capHeld := if side then hold else p.capHeld })))) ∧
    (s.runs src 0x0802 = true → (c.restZero [(0, 1), (2, 1)] = false ∨ 3 < m ∨ c.holdOk side = false) →
      exec (.clockCeiling src) s = .next (s.badParam c)) ∧
    (s.runs src 0x0802 = true → c.restZero [(0, 1), (2, 1)] = true → m ≤ 3 → c.holdOk side = true → exec (.clockCeiling src) s =
      .next (s.controlled src hold p.ceilingHeld (m != p.ceiling) (decide (m < p.ceiling) && decide (m < p.clock))
        (fun s => (s.modPower (fun p => { p with ceiling := m, ceilingHeld := if side then hold else p.ceilingHeld })).setClock
          (max s.power.clock m)))) ∧
    (∀ held changes raises f, s.strictRuns = true → (side && hold) = false →
      s.controlled src hold held changes raises f = s.status c stBusy) ∧
    (∀ changes raises f, s.strictRuns = false → side = false → changes = true →
      s.controlled src hold true changes raises f = s.finish c stConflictLost 1 []) ∧
    (∀ held changes f, s.strictRuns = false → (side = true ∨ held = false ∨ changes = false) → p.safety = true →
      s.controlled src hold held changes true f = s.finish c stConflictLost 2 []) ∧
    (∀ held changes raises f, s.strictRuns = false → (side = true ∨ held = false ∨ changes = false) → (raises = false ∨ p.safety = false) →
      s.controlled src hold held changes raises f = (f s).ok c) ∧
    (s.runs src 0x0803 = true → c.restZero [] = false → exec (.powerDown src) s = .next (s.badParam c)) ∧
    (s.runs src 0x0803 = true → c.restZero [] = true → p.down = false → exec (.powerDown src) s =
      .next { s with power := { p with down := true, drain := (0, 0) } }) ∧
    (s.runs src 0x0803 = true → c.restZero [] = true → p.down = true → s.storesDrained src = true → ∃ t, exec (.powerDown src) s = .next t ∧
      t.boot.state = .readyMain ∧ t.boot.mainGo = false ∧ t.boot.rails = 0 ∧ t.dram = [] ∧ t.fuses = s.fuses ∧ t.out =
        (s.finish c (if p.drain.2 ≠ 0 then stFabricDead else stOk) 0 (natLE p.drain.1 4)).out)

/-- R400. FW_STAGE verifies what it wrote to the inactive bank; FW_ACTIVATE makes the inactive bank the active one, which the next boot
tries first, and changes nothing that runs; CP_READY advances the fused counter to the version of the bank that runs; a bank of a lower version than the counter does not
verify. FW_QUERY returns the versions (R315). -/
def Obligations.Firmware : Prop :=
  ∀ (s : State) (src : CmdSource) (v : BankVerdict),
    let c := s.cmd! src
    let b := s.boot
    (s.runs src 0x0F00 = true → exec (.fwQuery src) s = .next (if c.restZero [] = true
      then s.ok c (natLE b.version.toNat 4 ++ natLE (if b.staged = true then b.stagedVersion.toNat else 0) 4) else s.badParam c)) ∧
    (s.runs src 0x0F01 = true → c.restZero [(0, 12)] = false → exec (.fwStage src v) s = .next (s.badParam c)) ∧
    (∀ x, s.runs src 0x0F01 = true → c.restZero [(0, 12)] = true → judgeBank s.fuses.security v = .ok x → exec (.fwStage src v) s =
      .next (({ s with boot := { b with staged := true, stagedVersion := x.1 } }).ok c (natLE x.1.toNat 4))) ∧
    (∀ r, s.runs src 0x0F01 = true → c.restZero [(0, 12)] = true → judgeBank s.fuses.security v = .error r → exec (.fwStage src v) s =
      .next (({ s with boot := { b with staged := false, stagedVersion := 0 } }).badParam c)) ∧
    (s.runs src 0x0F02 = true → (c.restZero [] = false ∨ b.staged = false) → exec (.fwActivate src) s = .next (s.badParam c)) ∧
    (s.runs src 0x0F02 = true → c.restZero [] = true → b.staged = true → exec (.fwActivate src) s =
      .next (({ s with boot := { b with activeB := !b.runningB } }).ok c)) ∧
    (∀ t, exec .cpReady s = .next t → t.fuses.security = max s.fuses.security b.security) ∧
    (∀ version sec, judgeBank s.fuses.security (.verified version sec) =
      if s.fuses.security ≤ sec then .ok (version, sec) else .error 3) ∧
    (∀ bankA bankB failed x, b.state = .standbyBoot → judgeBank s.fuses.security (if b.activeB = true then bankB else bankA) = .ok x →
      exec (.bootVerificationDone bankA bankB failed) s = .next ((s.booted b.activeB x.1 x.2 0 (failed.map coreKey)).reportTrip)) ∧
    (∀ old bankA bankB failed t, exec (.bootVerificationDone bankA bankB failed) s = .next t → t.boot.state = .readyMain →
      old < s.fuses.security → t.boot.security ≠ old)

/-! ### Sideband and test port -/

/-- R328, R332, R334, R397, R408 to R410, R444: every transfer answers in the states that answer it, and is not acknowledged in the others; a
block write with a wrong PEC is discarded and counted; REG_DATA reaches the register at REG_ADDR and advances it by 8; the mailbox takes one
command at a time; the oldest alert is read first; after a timeout the target is deaf for 10 us. (An empty ALERT_READ:
notes/assumptions/49.md; the mailbox's checks: 55.md.) -/
def Obligations.SidebandTransfers : Prop :=
  ∀ (s : State) (on pecOk meets : Bool) (offset : Word32) (v : Word64) (slot : List Byte),
    let up := s.boot.standby = true
    let a := s.side.regAddr.toNat
    let hears := s.side.deafUntil = none ∨ ∃ t, s.side.deafUntil = some t ∧ t ≤ s.time
    (∀ f, s.smbus false f = s.emit .smbusNack) ∧ (∀ f, hears → s.smbus true f = f s) ∧
    (∀ f t, s.side.deafUntil = some t → s.time < t → s.smbus true f = s.draw.2.emit .smbusNack ∨ s.smbus true f = f s.draw.2) ∧
    (up → exec .presence s = .next (s.smbus true (fun s => s.emit (.smbus s.presenceBlock)))) ∧
    (up → exec .sbStatus s = .next (s.smbus (s.boot.state != .inReset) (fun s => s.emit (.smbus s.sbStatusBytes)))) ∧
    (up → exec (.alertEnWrite on) s = .next (s.smbus s.sideUp (fun s => { s with side := { s.side with alertEn := on } }))) ∧
    (up → exec (.regAddr offset pecOk) s = .next (s.smbus s.sideUp (fun s => s.blockWrite pecOk
      (fun s => { s with side := { s.side with regAddr := offset } })))) ∧
    (∀ f, s.blockWrite true f = f s) ∧
    (∀ f, s.blockWrite false f = { s with side := (s.blockWrite false f).side } ∧
      (s.blockWrite false f).side.pecErrors.toNat = min 65535 (s.side.pecErrors.toNat + 1)) ∧
    (up → exec .regDataRead s = .next (s.smbus s.sideUp (fun s => s.regData))) ∧
    (a % 8 = 0 → s.regData = ((s.readReg .sideband a).2.emit (.smbus (natLE (s.readReg .sideband a).1.toNat 8))).advanceReg) ∧
    (a % 8 ≠ 0 → s.regData = (s.emit (.smbus (natLE 0 8))).advanceReg) ∧
    (s.advanceReg = { s with side := { s.side with regAddr := s.side.regAddr + 8 } }) ∧
    (up → (meets = true → s.hostUp = true) → exec (.regDataWrite v pecOk meets) s =
      .next (s.smbus s.sideUp (fun s => s.blockWrite pecOk (fun s => s.putRegData v meets)))) ∧
    (a % 8 = 0 → s.putRegData v false = (s.writeReg .sideband a fullMask v).advanceReg) ∧
    (a % 8 ≠ 0 → s.putRegData v false = (s.refuseWrite .sideband 0).advanceReg) ∧
    (a % 8 = 0 → s.putRegData v true = ((s.writeReg .sideband a fullMask v).modGlobal
      (fun g => { g with conflictsLost := satAdd g.conflictsLost 1 })).advanceReg) ∧
    (up → slot.length = 64 → exec (.mboxCmd slot pecOk) s =
      .next (s.smbus (s.sideUp && s.side.mbox.isNone) (fun s => s.blockWrite pecOk (fun s => s.takeMail slot)))) ∧
    (up → exec .mboxReply s = .next (s.smbus s.sideUp (fun s => s.emit (.smbus (slice s.side.mboxReply 0 32))))) ∧
    (up → exec .alertRead s = .next (s.smbus s.sideUp (fun s => s.readAlert))) ∧
    (∀ r rest, s.errs.alerts = r :: rest → ∃ t, s.readAlert = t ∧ t.out = s.out ++ [.smbus r.bytes] ∧
      t.errs.alerts = rest ++ s.errs.alertBacklog.take 1 ∧ t.errs.queue = s.errs.queue) ∧
    (up → exec .alertResponse s = .next (s.smbus (s.sideUp && s.side.alertEn && !s.errs.alerts.isEmpty) (fun s => s.emit
      (.smbus [BitVec.ofNat 8 (2 * (0x58 + ((s.boot.addr.map (fun x => x.toNat)).getD 0)))])))) ∧
    (up → exec .smbusLineTimeout s = .next { s with side := { s.side with deafUntil := some (s.time + 10000) } })

/-- R413: BYPASS and IDCODE are loaded; SAMPLE/PRELOAD and EXTEST take effect in four states and act as BYPASS in every other; a token that
checks unlocks, raises an alarm and has every context frozen for its reset, and one that does not changes nothing. (The low bits of IDCODE
are free, notes/assumptions/50.md; the alarm's code too, 51.md.) -/
def Obligations.TestPort : Prop :=
  ∀ (s : State) (contacts cells : List Bool),
    let up := s.boot.standby = true
    let early := s.boot.state = .inReset ∨ s.boot.state = .standbyBoot ∨ s.boot.state = .bootFailed ∨ s.boot.state = .readyMain
    let load := fun (ir : JtagIr) => { s with jtag := { s.jtag with ir := ir, driven := [] } }
    (up → exec .jtagBypass s = .next (load .bypass)) ∧
    (up → ∃ l, exec .jtagIdcode s = .next ((load .idcode).emit (.jtag l)) ∧ l.length = 32 ∧
      (∀ i, 12 ≤ i → i < 28 → l.getD i false = (0x4800 : BitVec 16).getLsbD (i - 12)) ∧
      (∀ i, 28 ≤ i → i < 32 → l.getD i false = (1 : BitVec 4).getLsbD (i - 28))) ∧
    (up → early → exec (.jtagSamplePreload contacts) s =
      .next (({ load .samplePreload with jtag := { (load .samplePreload).jtag with captured := contacts } }).emit (.jtag contacts))) ∧
    (up → ¬ early → exec (.jtagSamplePreload contacts) s = .next (load .bypass)) ∧
    (up → early → exec (.jtagExtest cells) s = .next { load .extest with jtag := { (load .extest).jtag with driven := cells } }) ∧
    (up → ¬ early → exec (.jtagExtest cells) s = .next (load .bypass)) ∧
    (s.sideUp = true → s.recov.hrpStopped = false → exec (.debugUnlock false) s = .next s) ∧
    (s.sideUp = true → s.recov.hrpStopped = false → ∃ t, exec (.debugUnlock true) s = .next t ∧
      t.jtag = { s.jtag with unlocked := true } ∧ t.errs.alarms = min 65535 (s.errs.alarms + 1) ∧ t.dram = s.dram ∧ t.cores = s.cores ∧
      t.queues = s.queues ∧ t.regs = s.regs ∧ t.boot = s.boot ∧
      ∀ c, (s.ctx c).state ≠ 0 → (∃ r ∈ t.recov.ctxs, r.ctx = c) ∧
        ((∀ r ∈ s.recov.ctxs, r.ctx ≠ c) → (t.ctx c).frozen = true ∧ (t.ctx c).state = 2))

/-! ### The whole machine -/

/-- A step with a command at the front of the queue is the effect of that command on the state with the rest of the queue. With no command
waiting, a step is one nanosecond of the module's clock (the model's choice, notes/assumptions/3.md). -/
def Obligations.FrontCommandRuns : Prop :=
  (∀ (s : State) (c : Instr) (rest : List Instr), step { s with pending := c :: rest } = exec c { s with pending := rest }) ∧
  ∀ s : State, s.pending = [] → ∃ t, step s = .next t ∧ t.time = s.time + 1 ∧ t = { s with time := t.time, datum := t.datum } ∧
    t.datum.counter = (if s.mainUp = true then s.datum.counter + 1 else s.datum.counter)

/-- Right after reset the queue is empty, MOD_RESET# is still low with standby power applied, every memory is canonical with nothing listed, and what R339,
R340, R341 and R344 give a reset value holds it; a part of grade A has 144 clusters enabled and one of grade C 136 (R2; which part State.reset
is: notes/assumptions/1.md); the first step idles and no word of the table spells a command. -/
def Obligations.ResetState : Prop :=
  let s := State.reset
  s.pending = [] ∧ s.boot.state = .inReset ∧ s.boot.modResetLow = true ∧ s.dram = [] ∧ s.hostMem = [] ∧ s.cores = [] ∧ s.MemoriesOk ∧ s.contexts = [] ∧
  s.regs.global.migrateThreshold = 4096 ∧ s.regs.global.dramInterleave = false ∧ s.regs.global.apEnable = false ∧
  s.fuses.gradeOk = true ∧ s.fuses.gradeC = false ∧
  (∀ f : Fuses, f.gradeOk = true → (State.resetWith f).enabledClusters = if f.gradeC = true then 136 else 144) ∧
  s.regs.planValid = false ∧ (∀ q, (s.queue q).enable = false ∧ (s.queue q).head = 0 ∧ (s.queue q).tail = 0) ∧
  (∀ c, (s.ctx c).state = 0) ∧ (∀ nbits w, decodeTableWord nbits w = none) ∧ (∀ t, step s = .next t → t.boot = s.boot ∧ t.dram = [])

/-- Over every step of every state: the memories keep their canonical form, the front command leaves the queue and none is added, and the
module stays the module it is: its grade, its fused masks and its serial number never change, and its security version never falls (R2, R3,
R399), so that a part keeps the 144 or 136 clusters of its grade. -/
def Obligations.MemoriesStayCanonical : Prop :=
  ∀ s t : State, s.MemoriesOk → step s = .next t → t.MemoriesOk ∧ t.pending = s.pending.tail ∧ s.fuses.SameModule t.fuses ∧
    (s.fuses.gradeOk = true → t.fuses.gradeOk = true ∧ t.enabledClusters = if s.fuses.gradeC = true then 136 else 144)
end

