-- ==== Sys2Proof/Laws/Memory.lean ====
section
/-!
SUPPORT. Laws of tables and of memory: a read after a write, and the canonical form that every memory operation keeps.
-/
namespace Sys2Proof.Machine

/-! ### Tables -/

/-- A table read where it was just set gives the value set. -/
@[simp] theorem tget_tset_same {α : Type} (t : Table α) (k : Nat) (v d : α) : tget (tset t k v) k d = v := by
  induction t with
  | nil => simp [tset, tget]
  | cons e t ih =>
    obtain ⟨j, w⟩ := e
    by_cases h1 : k < j
    · simp [tset, tget, h1]
    · by_cases h2 : k = j
      · simp [tset, tget, h2]
      · have h3 : ¬ j = k := fun h => h2 h.symm
        simp [tset, tget, h1, h2, h3, ih]

/-- Setting one entry of a table leaves every other as it was. -/
theorem tget_tset_other {α : Type} (t : Table α) {k k' : Nat} (v d : α) (h : k' ≠ k) :
    tget (tset t k v) k' d = tget t k' d := by
  induction t with
  | nil => simp [tset, tget, Ne.symm h]
  | cons e t ih =>
    obtain ⟨j, w⟩ := e
    by_cases h1 : k < j
    · simp [tset, tget, h1, Ne.symm h]
    · by_cases h2 : k = j
      · subst h2; simp [tset, tget, Ne.symm h]
      · simp only [tset, h1, h2, if_false, tget, ih]

/-- A table read after one entry is set. -/
theorem tget_tset {α : Type} (t : Table α) (k k' : Nat) (v d : α) :
    tget (tset t k v) k' d = if k' = k then v else tget t k' d := by
  by_cases h : k' = k
  · subst h; simp
  · simp [h, tget_tset_other t v d h]

/-- What a table holds after an entry is set is that entry's value or what it held. -/
theorem mem_tset {α : Type} {t : Table α} {k : Nat} {v : α} {e : Nat × α} (h : e ∈ tset t k v) : e.2 = v ∨ e ∈ t := by
  induction t with
  | nil => simp [tset] at h; exact .inl (by rw [h])
  | cons x t ih =>
    obtain ⟨j, w⟩ := x
    simp only [tset] at h
    split at h
    · rcases List.mem_cons.mp h with h | h
      · exact .inl (by rw [h])
      · exact .inr h
    · split at h
      · rcases List.mem_cons.mp h with h | h
        · exact .inl (by rw [h])
        · exact .inr (List.mem_cons_of_mem _ h)
      · rcases List.mem_cons.mp h with h | h
        · exact .inr (by rw [h]; exact List.mem_cons_self)
        · exact (ih h).imp id (List.mem_cons_of_mem _)

/-- What a table holds at a key is its default or the value of one of its entries. -/
theorem tget_mem {α : Type} (t : Table α) (k : Nat) (d : α) : tget t k d = d ∨ (k, tget t k d) ∈ t := by
  induction t with
  | nil => exact .inl rfl
  | cons x t ih =>
    obtain ⟨j, w⟩ := x
    by_cases h : j = k
    · subst h; simp [tget]
    · simp only [tget, h, if_false]
      exact ih.imp id (List.mem_cons_of_mem _)

/-! ### The canonical form of memory -/

/-- Memory with nothing listed. -/
@[simp] theorem Memory.wf_nil : Memory.wf [] = true := rfl

/-- The canonical form, said of all pairs: addresses strictly rising, no byte zero. -/
theorem Memory.wf_iff (m : Mem) : Memory.wf m = true ↔ m.Pairwise (fun x y => x.1 < y.1) ∧ ∀ e ∈ m, e.2 ≠ 0 := by
  induction m with
  | nil => simp [Memory.wf]
  | cons e m ih =>
    obtain ⟨a, b⟩ := e
    cases m with
    | nil => simp [Memory.wf]
    | cons e' m =>
      obtain ⟨a', b'⟩ := e'
      simp only [Memory.wf, Bool.and_eq_true, bne_iff_ne, decide_eq_true_eq, ih]
      constructor
      · rintro ⟨⟨hb, ha⟩, hp, hz⟩
        refine ⟨List.pairwise_cons.mpr ⟨fun e he => ?_, hp⟩, ?_⟩
        · rcases List.mem_cons.mp he with rfl | he
          · exact ha
          · exact lt_trans ha ((List.pairwise_cons.mp hp).1 e he)
        · intro e he
          rcases List.mem_cons.mp he with rfl | he
          · exact hb
          · exact hz e he
      · rintro ⟨hp, hz⟩
        have hp' := List.pairwise_cons.mp hp
        exact ⟨⟨hz _ List.mem_cons_self, hp'.1 _ List.mem_cons_self⟩, hp'.2, fun e he => hz e (List.mem_cons_of_mem _ he)⟩

/-- The addresses of a written memory are the one written or old ones. -/
theorem memWrite_mem {m : Mem} {a : Nat} {b : Byte} {e : Host.Cell} (h : e ∈ memWrite m a b) : e = (a, b) ∧ b ≠ 0 ∨ e ∈ m := by
  induction m with
  | nil =>
    simp only [memWrite] at h
    split at h
    · exact absurd h List.not_mem_nil
    · next hb => exact .inl ⟨List.mem_singleton.mp h, hb⟩
  | cons x m ih =>
    obtain ⟨j, c⟩ := x
    simp only [memWrite] at h
    split at h
    · split at h
      · exact .inr h
      · next hb =>
        rcases List.mem_cons.mp h with h | h
        · exact .inl ⟨h, hb⟩
        · exact .inr h
    · split at h
      · split at h
        · exact .inr (List.mem_cons_of_mem _ h)
        · next hb =>
          rcases List.mem_cons.mp h with h | h
          · exact .inl ⟨h, hb⟩
          · exact .inr (List.mem_cons_of_mem _ h)
      · rcases List.mem_cons.mp h with h | h
        · exact .inr (by rw [h]; exact List.mem_cons_self)
        · exact (ih h).imp id (List.mem_cons_of_mem _)

/-- Writing a byte keeps the canonical form. -/
theorem memWrite_wf {m : Mem} (a : Nat) (b : Byte) (h : Memory.wf m = true) : Memory.wf (memWrite m a b) = true := by
  induction m with
  | nil => simp only [memWrite]; split <;> simp_all [Memory.wf]
  | cons x m ih =>
    obtain ⟨j, c⟩ := x
    rw [Memory.wf_iff] at h
    obtain ⟨hp, hz⟩ := h
    obtain ⟨hj, hp'⟩ := List.pairwise_cons.mp hp
    have htail : Memory.wf m = true := (Memory.wf_iff m).mpr ⟨hp', fun e he => hz e (List.mem_cons_of_mem _ he)⟩
    simp only [memWrite]
    split
    · next hlt =>
      split
      · exact (Memory.wf_iff _).mpr ⟨hp, hz⟩
      · next hb =>
        refine (Memory.wf_iff _).mpr ⟨List.pairwise_cons.mpr ⟨fun e he => ?_, hp⟩, fun e he => ?_⟩
        · rcases List.mem_cons.mp he with rfl | he
          · exact hlt
          · exact lt_trans hlt (hj e he)
        · rcases List.mem_cons.mp he with rfl | he
          · exact hb
          · exact hz e he
    · split
      · next heq =>
        split
        · exact htail
        · next hb =>
          refine (Memory.wf_iff _).mpr ⟨List.pairwise_cons.mpr ⟨fun e he => heq ▸ hj e he, hp'⟩, fun e he => ?_⟩
          rcases List.mem_cons.mp he with rfl | he
          · exact hb
          · exact hz e (List.mem_cons_of_mem _ he)
      · next h1 h2 =>
        obtain ⟨ip, iz⟩ := (Memory.wf_iff _).mp (ih htail)
        refine (Memory.wf_iff _).mpr ⟨List.pairwise_cons.mpr ⟨fun e he => ?_, ip⟩, fun e he => ?_⟩
        · rcases memWrite_mem he with ⟨rfl, _⟩ | he
          · exact lt_of_le_of_ne (Nat.le_of_not_lt h1) (fun h => h2 h.symm)
          · exact hj e he
        · rcases List.mem_cons.mp he with rfl | he
          · exact hz _ List.mem_cons_self
          · exact iz e he

/-- Writing bytes keeps the canonical form. -/
@[simp] theorem memWriteN_wf {m : Mem} (a : Nat) (bs : List Byte) (h : Memory.wf m = true) : Memory.wf (memWriteN m a bs) = true := by
  induction bs generalizing m a with
  | nil => exact h
  | cons b bs ih => exact ih (a + 1) (memWrite_wf a b h)

/-- Writing several runs of bytes keeps the canonical form. -/
@[simp] theorem memWriteN_foldl_wf {α : Type} (l : List α) (a : α → Nat) (bs : α → List Byte) {m : Mem} (h : Memory.wf m = true) :
    Memory.wf (l.foldl (fun m e => memWriteN m (a e) (bs e)) m) = true := by
  induction l generalizing m with
  | nil => exact h
  | cons e l ih => exact ih (memWriteN_wf _ _ h)

/-- Writing single bytes keeps the canonical form. -/
@[simp] theorem memWrite_foldl_wf (l : List (Nat × Byte)) {m : Mem} (h : Memory.wf m = true) :
    Memory.wf (l.foldl (fun m e => memWrite m e.1 e.2) m) = true := by
  induction l generalizing m with
  | nil => exact h
  | cons e l ih => exact ih (memWrite_wf e.1 e.2 h)

/-- Clearing a range keeps the canonical form. -/
theorem memClear_wf {m : Mem} (a n : Nat) (h : Memory.wf m = true) : Memory.wf (memClear m a n) = true := by
  rw [Memory.wf_iff] at h ⊢
  exact ⟨h.1.filter _, fun e he => h.2 e (List.mem_of_mem_filter he)⟩

/-- Copying a range keeps the canonical form of the memory written. -/
theorem memCopy_wf (src : Mem) (a : Nat) {dst : Mem} (b n : Nat) (h : Memory.wf dst = true) :
    Memory.wf (memCopy src a dst b n) = true := by
  unfold memCopy
  generalize memCells src a n = l
  have hc := memClear_wf b n h
  generalize memClear dst b n = m at hc
  induction l generalizing m with
  | nil => exact hc
  | cons e l ih => exact ih (memWrite m (b + e.1) e.2) (memWrite_wf _ _ hc)

/-! ### Reading what was written -/

/-- A byte below every listed address reads as zero. -/
theorem memRead_below {m : Mem} {a : Nat} (h : ∀ e ∈ m, a < e.1) : memRead m a = 0 := by
  induction m with
  | nil => rfl
  | cons x m ih =>
    obtain ⟨j, c⟩ := x
    have hj := h (j, c) List.mem_cons_self
    have : ¬ j = a := by simp only at hj; omega
    simp only [memRead, this, if_false]
    exact ih (fun e he => h e (List.mem_cons_of_mem _ he))

/-- A byte read after a byte is written, in a memory of canonical form. -/
theorem memRead_memWrite {m : Mem} (h : Memory.wf m = true) (a a' : Nat) (b : Byte) :
    memRead (memWrite m a b) a' = if a' = a then b else memRead m a' := by
  induction m with
  | nil =>
    simp only [memWrite]
    split
    · next hb => simp [memRead, hb]
    · simp [memRead, eq_comm]
  | cons x m ih =>
    obtain ⟨j, c⟩ := x
    rw [Memory.wf_iff] at h
    obtain ⟨hp, hz⟩ := h
    obtain ⟨hj, hp'⟩ := List.pairwise_cons.mp hp
    have htail : Memory.wf m = true := (Memory.wf_iff m).mpr ⟨hp', fun e he => hz e (List.mem_cons_of_mem _ he)⟩
    simp only [memWrite]
    split
    · next hlt =>
      split
      · next hb =>
        by_cases he : a' = a
        · subst he
          have hja : ¬ j = a' := by omega
          simp only [if_true, memRead, hja, if_false, hb]
          exact memRead_below (fun e he => lt_trans hlt (hj e he))
        · simp [he]
      · by_cases he : a' = a
        · subst he; simp [memRead]
        · have hea : ¬ a = a' := fun h => he h.symm
          simp [memRead, he, hea]
    · split
      · next heq =>
        subst heq
        split
        · next hb =>
          by_cases he : a' = a
          · subst he
            simp only [if_true, hb]
            exact memRead_below hj
          · have hea : ¬ a = a' := fun h => he h.symm
            simp [memRead, he, hea]
        · by_cases he : a' = a
          · subst he; simp [memRead]
          · have hea : ¬ a = a' := fun h => he h.symm
            simp [memRead, he, hea]
      · next h1 h2 =>
        by_cases hja : j = a'
        · subst hja
          have hne : ¬ j = a := fun h => h2 h.symm
          simp [memRead, hne]
        · simp only [memRead, hja, if_false]
          exact ih htail

/-- Bytes outside a written range read as before. -/
theorem memRead_memWriteN_other {m : Mem} (h : Memory.wf m = true) (a : Nat) (bs : List Byte) {x : Nat}
    (hx : x < a ∨ a + bs.length ≤ x) : memRead (memWriteN m a bs) x = memRead m x := by
  induction bs generalizing m a with
  | nil => rfl
  | cons b bs ih =>
    simp only [List.length_cons] at hx
    simp only [memWriteN]
    rw [ih (memWrite_wf a b h) (a + 1) (by omega), memRead_memWrite h]
    have : ¬ x = a := by omega
    simp [this]

/-- Bytes of a written range read as written. -/
theorem memRead_memWriteN_same {m : Mem} (h : Memory.wf m = true) (a : Nat) (bs : List Byte) {i : Nat} (hi : i < bs.length) :
    memRead (memWriteN m a bs) (a + i) = bs.getD i 0 := by
  induction bs generalizing m a i with
  | nil => simp at hi
  | cons b bs ih =>
    simp only [memWriteN]
    cases i with
    | zero =>
      rw [memRead_memWriteN_other (memWrite_wf a b h) (a + 1) bs (by omega), memRead_memWrite h]
      simp
    | succ i =>
      have hi' : i < bs.length := by simpa using hi
      have := ih (memWrite_wf a b h) (a + 1) hi'
      rw [show a + (i + 1) = a + 1 + i by omega, this]
      simp

/-- A range that was written reads back as the bytes written. -/
theorem memReadN_memWriteN {m : Mem} (h : Memory.wf m = true) (a : Nat) (bs : List Byte) :
    memReadN (memWriteN m a bs) a bs.length = bs := by
  apply List.ext_getElem
  · simp [memReadN]
  · intro i h1 h2
    have hi : i < bs.length := h2
    simp [memReadN, memRead_memWriteN_same h a bs hi, hi]

/-- A byte outside a cleared range reads as before, one inside reads as zero. -/
theorem memRead_memClear (m : Mem) (a n x : Nat) :
    memRead (memClear m a n) x = if a ≤ x ∧ x < a + n then 0 else memRead m x := by
  unfold memClear
  induction m with
  | nil => simp [memRead]
  | cons e m ih =>
    obtain ⟨j, c⟩ := e
    by_cases hj : j < a ∨ a + n ≤ j
    · have hf : (decide (j < a) || decide (a + n ≤ j)) = true := by simpa using hj
      simp only [List.filter_cons, hf, if_true, memRead, ih]
      by_cases hjx : j = x
      · subst hjx
        have : ¬ (a ≤ j ∧ j < a + n) := by omega
        simp [this]
      · simp [hjx]
    · have hf : (decide (j < a) || decide (a + n ≤ j)) = false := by simpa using hj
      simp only [List.filter_cons, hf, memRead]
      by_cases hjx : j = x
      · subst hjx
        have : a ≤ j ∧ j < a + n := by omega
        simp_all
      · simp [hjx, ih]

end Sys2Proof.Machine
end

