-- ==== Sys2Proof/Laws/Core.lean ====
section
/-!
SUPPORT. What the operations on one core leave of its scratchpad.
-/
namespace Sys2Proof.Machine

@[simp] theorem ite_spad (p : Prop) [Decidable p] (a b : Core) : (if p then a else b).spad = if p then a.spad else b.spad :=
  apply_ite Core.spad p a b
@[simp] theorem Core.setX_spad (c : Core) (i : Nat) (v : Word64) : (c.setX i v).spad = c.spad := by
  unfold Core.setX; split <;> rfl
@[simp] theorem Core.retire_spad (c : Core) : c.retire.spad = c.spad := rfl
@[simp] theorem Core.issueAcc_spad (c : Core) (item : Option Nat) (now : Nat) : (c.issueAcc item now).spad = c.spad := rfl
@[simp] theorem Core.pushToken_spad (c : Core) (q : Nat) (t : Token) : (c.pushToken q t).spad = c.spad := rfl
@[simp] theorem Core.popToken_spad (c : Core) (q : Nat) : (c.popToken q).spad = c.spad := rfl
@[simp] theorem Core.popEntry_spad (c : Core) (q : Nat) : (c.popEntry q).spad = c.spad := rfl
@[simp] theorem Core.accPop_spad (c : Core) (q : Nat) : (c.accPop q).spad = c.spad := by
  unfold Core.accPop; split <;> simp
@[simp] theorem unpop_spad (c : Core) (ps : List (Nat × Token)) : (unpop c ps).spad = c.spad := by
  unfold unpop
  induction ps generalizing c with
  | nil => rfl
  | cons p ps ih => rw [List.foldl_cons, ih]
@[simp] theorem dropEpochs_spad (es : List Epoch) (c : Core) : (dropEpochs es c).spad = c.spad := by
  rfl
@[simp] theorem Core.setBuf_spad (c : Core) (i : Nat) (t : Table Word32) : (c.setBuf i t).spad = c.spad := by
  unfold Core.setBuf; split <;> rfl
@[simp] theorem Core.setCube_spad (c : Core) (i : Nat) (x : Cube) : (c.setCube i x).spad = c.spad := rfl
@[simp] theorem Core.setLane_spad (c : Core) (sel : Nat) (t : Table Word32) : (c.setLane sel t).spad = c.spad := by
  unfold Core.setLane; repeat' split
  all_goals simp
@[simp] theorem Core.cleared_spad (c : Core) (now : Nat) : (c.cleared now).spad = [] := rfl
@[simp] theorem Core.reduce_spad (c : Core) (nn : Nat) (x : RedSpec) (f : Nat → Nat → Word32) : (c.reduce nn x f).1.spad = c.spad := by
  unfold Core.reduce
  dsimp only
  repeat' split
  all_goals simp

end Sys2Proof.Machine
end

