-- ==== Sys2Proof/Laws/State.lean ====
section
/-!
SUPPORT. The updates of the state: what each leaves as it was, field by field, and what it writes.
-/
namespace Sys2Proof.Machine

/-- `setCtx` writes `contexts` alone. -/
@[simp] theorem State.setCtx_frame (s : State) (c : Nat) (x : Context) :
    (s.setCtx c x).time = s.time ∧ (s.setCtx c x).free = s.free ∧ (s.setCtx c x).fuses = s.fuses ∧ (s.setCtx c x).boot = s.boot ∧
    (s.setCtx c x).power = s.power ∧ (s.setCtx c x).side = s.side ∧ (s.setCtx c x).regs = s.regs ∧ (s.setCtx c x).datum = s.datum ∧
    (s.setCtx c x).errs = s.errs ∧ (s.setCtx c x).recov = s.recov ∧ (s.setCtx c x).queues = s.queues ∧ (s.setCtx c x).lastQueue =
    s.lastQueue ∧ (s.setCtx c x).decoded = s.decoded ∧ (s.setCtx c x).lastCycleCheck = s.lastCycleCheck ∧ (s.setCtx c x).mboxCmd =
    s.mboxCmd ∧ (s.setCtx c x).nextHandle = s.nextHandle ∧ (s.setCtx c x).grids = s.grids ∧ (s.setCtx c x).slices = s.slices ∧
    (s.setCtx c x).nextGrid = s.nextGrid ∧ (s.setCtx c x).nextSlice = s.nextSlice ∧ (s.setCtx c x).clusters = s.clusters ∧ (s.setCtx c
    x).cores = s.cores ∧ (s.setCtx c x).home = s.home ∧ (s.setCtx c x).dram = s.dram ∧ (s.setCtx c x).hostMem = s.hostMem ∧ (s.setCtx
    c x).dramStacks = s.dramStacks ∧ (s.setCtx c x).fabric = s.fabric ∧ (s.setCtx c x).ports = s.ports ∧ (s.setCtx c x).groups =
    s.groups ∧ (s.setCtx c x).plats = s.plats ∧ (s.setCtx c x).colls = s.colls ∧ (s.setCtx c x).nextColl = s.nextColl ∧ (s.setCtx c
    x).inboxes = s.inboxes ∧ (s.setCtx c x).jtag = s.jtag ∧ (s.setCtx c x).out = s.out ∧ (s.setCtx c x).pending = s.pending :=
  ⟨rfl, rfl, rfl, rfl, rfl, rfl, rfl, rfl, rfl, rfl, rfl, rfl, rfl, rfl, rfl, rfl, rfl, rfl, rfl, rfl, rfl, rfl, rfl, rfl, rfl, rfl, rfl, rfl, rfl, rfl, rfl, rfl, rfl, rfl, rfl, rfl⟩

/-- `modCtx` writes `contexts` alone. -/
@[simp] theorem State.modCtx_frame (s : State) (c : Nat) (f : Context → Context) :
    (s.modCtx c f).time = s.time ∧ (s.modCtx c f).free = s.free ∧ (s.modCtx c f).fuses = s.fuses ∧ (s.modCtx c f).boot = s.boot ∧
    (s.modCtx c f).power = s.power ∧ (s.modCtx c f).side = s.side ∧ (s.modCtx c f).regs = s.regs ∧ (s.modCtx c f).datum = s.datum ∧
    (s.modCtx c f).errs = s.errs ∧ (s.modCtx c f).recov = s.recov ∧ (s.modCtx c f).queues = s.queues ∧ (s.modCtx c f).lastQueue =
    s.lastQueue ∧ (s.modCtx c f).decoded = s.decoded ∧ (s.modCtx c f).lastCycleCheck = s.lastCycleCheck ∧ (s.modCtx c f).mboxCmd =
    s.mboxCmd ∧ (s.modCtx c f).nextHandle = s.nextHandle ∧ (s.modCtx c f).grids = s.grids ∧ (s.modCtx c f).slices = s.slices ∧
    (s.modCtx c f).nextGrid = s.nextGrid ∧ (s.modCtx c f).nextSlice = s.nextSlice ∧ (s.modCtx c f).clusters = s.clusters ∧ (s.modCtx c
    f).cores = s.cores ∧ (s.modCtx c f).home = s.home ∧ (s.modCtx c f).dram = s.dram ∧ (s.modCtx c f).hostMem = s.hostMem ∧ (s.modCtx
    c f).dramStacks = s.dramStacks ∧ (s.modCtx c f).fabric = s.fabric ∧ (s.modCtx c f).ports = s.ports ∧ (s.modCtx c f).groups =
    s.groups ∧ (s.modCtx c f).plats = s.plats ∧ (s.modCtx c f).colls = s.colls ∧ (s.modCtx c f).nextColl = s.nextColl ∧ (s.modCtx c
    f).inboxes = s.inboxes ∧ (s.modCtx c f).jtag = s.jtag ∧ (s.modCtx c f).out = s.out ∧ (s.modCtx c f).pending = s.pending :=
  ⟨rfl, rfl, rfl, rfl, rfl, rfl, rfl, rfl, rfl, rfl, rfl, rfl, rfl, rfl, rfl, rfl, rfl, rfl, rfl, rfl, rfl, rfl, rfl, rfl, rfl, rfl, rfl, rfl, rfl, rfl, rfl, rfl, rfl, rfl, rfl, rfl⟩

/-- `setQueue` writes `queues` alone. -/
@[simp] theorem State.setQueue_frame (s : State) (q : Nat) (x : Queue) :
    (s.setQueue q x).time = s.time ∧ (s.setQueue q x).free = s.free ∧ (s.setQueue q x).fuses = s.fuses ∧ (s.setQueue q x).boot =
    s.boot ∧ (s.setQueue q x).power = s.power ∧ (s.setQueue q x).side = s.side ∧ (s.setQueue q x).regs = s.regs ∧ (s.setQueue q
    x).datum = s.datum ∧ (s.setQueue q x).errs = s.errs ∧ (s.setQueue q x).recov = s.recov ∧ (s.setQueue q x).contexts = s.contexts ∧
    (s.setQueue q x).lastQueue = s.lastQueue ∧ (s.setQueue q x).decoded = s.decoded ∧ (s.setQueue q x).lastCycleCheck =
    s.lastCycleCheck ∧ (s.setQueue q x).mboxCmd = s.mboxCmd ∧ (s.setQueue q x).nextHandle = s.nextHandle ∧ (s.setQueue q x).grids =
    s.grids ∧ (s.setQueue q x).slices = s.slices ∧ (s.setQueue q x).nextGrid = s.nextGrid ∧ (s.setQueue q x).nextSlice = s.nextSlice ∧
    (s.setQueue q x).clusters = s.clusters ∧ (s.setQueue q x).cores = s.cores ∧ (s.setQueue q x).home = s.home ∧ (s.setQueue q x).dram
    = s.dram ∧ (s.setQueue q x).hostMem = s.hostMem ∧ (s.setQueue q x).dramStacks = s.dramStacks ∧ (s.setQueue q x).fabric = s.fabric
    ∧ (s.setQueue q x).ports = s.ports ∧ (s.setQueue q x).groups = s.groups ∧ (s.setQueue q x).plats = s.plats ∧ (s.setQueue q
    x).colls = s.colls ∧ (s.setQueue q x).nextColl = s.nextColl ∧ (s.setQueue q x).inboxes = s.inboxes ∧ (s.setQueue q x).jtag =
    s.jtag ∧ (s.setQueue q x).out = s.out ∧ (s.setQueue q x).pending = s.pending :=
  ⟨rfl, rfl, rfl, rfl, rfl, rfl, rfl, rfl, rfl, rfl, rfl, rfl, rfl, rfl, rfl, rfl, rfl, rfl, rfl, rfl, rfl, rfl, rfl, rfl, rfl, rfl, rfl, rfl, rfl, rfl, rfl, rfl, rfl, rfl, rfl, rfl⟩

/-- `modQueue` writes `queues` alone. -/
@[simp] theorem State.modQueue_frame (s : State) (q : Nat) (f : Queue → Queue) :
    (s.modQueue q f).time = s.time ∧ (s.modQueue q f).free = s.free ∧ (s.modQueue q f).fuses = s.fuses ∧ (s.modQueue q f).boot =
    s.boot ∧ (s.modQueue q f).power = s.power ∧ (s.modQueue q f).side = s.side ∧ (s.modQueue q f).regs = s.regs ∧ (s.modQueue q
    f).datum = s.datum ∧ (s.modQueue q f).errs = s.errs ∧ (s.modQueue q f).recov = s.recov ∧ (s.modQueue q f).contexts = s.contexts ∧
    (s.modQueue q f).lastQueue = s.lastQueue ∧ (s.modQueue q f).decoded = s.decoded ∧ (s.modQueue q f).lastCycleCheck =
    s.lastCycleCheck ∧ (s.modQueue q f).mboxCmd = s.mboxCmd ∧ (s.modQueue q f).nextHandle = s.nextHandle ∧ (s.modQueue q f).grids =
    s.grids ∧ (s.modQueue q f).slices = s.slices ∧ (s.modQueue q f).nextGrid = s.nextGrid ∧ (s.modQueue q f).nextSlice = s.nextSlice ∧
    (s.modQueue q f).clusters = s.clusters ∧ (s.modQueue q f).cores = s.cores ∧ (s.modQueue q f).home = s.home ∧ (s.modQueue q f).dram
    = s.dram ∧ (s.modQueue q f).hostMem = s.hostMem ∧ (s.modQueue q f).dramStacks = s.dramStacks ∧ (s.modQueue q f).fabric = s.fabric
    ∧ (s.modQueue q f).ports = s.ports ∧ (s.modQueue q f).groups = s.groups ∧ (s.modQueue q f).plats = s.plats ∧ (s.modQueue q
    f).colls = s.colls ∧ (s.modQueue q f).nextColl = s.nextColl ∧ (s.modQueue q f).inboxes = s.inboxes ∧ (s.modQueue q f).jtag =
    s.jtag ∧ (s.modQueue q f).out = s.out ∧ (s.modQueue q f).pending = s.pending :=
  ⟨rfl, rfl, rfl, rfl, rfl, rfl, rfl, rfl, rfl, rfl, rfl, rfl, rfl, rfl, rfl, rfl, rfl, rfl, rfl, rfl, rfl, rfl, rfl, rfl, rfl, rfl, rfl, rfl, rfl, rfl, rfl, rfl, rfl, rfl, rfl, rfl⟩

/-- `setCore` writes `cores` alone. -/
@[simp] theorem State.setCore_frame (s : State) (k : Nat) (x : Core) :
    (s.setCore k x).time = s.time ∧ (s.setCore k x).free = s.free ∧ (s.setCore k x).fuses = s.fuses ∧ (s.setCore k x).boot = s.boot ∧
    (s.setCore k x).power = s.power ∧ (s.setCore k x).side = s.side ∧ (s.setCore k x).regs = s.regs ∧ (s.setCore k x).datum = s.datum
    ∧ (s.setCore k x).errs = s.errs ∧ (s.setCore k x).recov = s.recov ∧ (s.setCore k x).contexts = s.contexts ∧ (s.setCore k x).queues
    = s.queues ∧ (s.setCore k x).lastQueue = s.lastQueue ∧ (s.setCore k x).decoded = s.decoded ∧ (s.setCore k x).lastCycleCheck =
    s.lastCycleCheck ∧ (s.setCore k x).mboxCmd = s.mboxCmd ∧ (s.setCore k x).nextHandle = s.nextHandle ∧ (s.setCore k x).grids =
    s.grids ∧ (s.setCore k x).slices = s.slices ∧ (s.setCore k x).nextGrid = s.nextGrid ∧ (s.setCore k x).nextSlice = s.nextSlice ∧
    (s.setCore k x).clusters = s.clusters ∧ (s.setCore k x).home = s.home ∧ (s.setCore k x).dram = s.dram ∧ (s.setCore k x).hostMem =
    s.hostMem ∧ (s.setCore k x).dramStacks = s.dramStacks ∧ (s.setCore k x).fabric = s.fabric ∧ (s.setCore k x).ports = s.ports ∧
    (s.setCore k x).groups = s.groups ∧ (s.setCore k x).plats = s.plats ∧ (s.setCore k x).colls = s.colls ∧ (s.setCore k x).nextColl =
    s.nextColl ∧ (s.setCore k x).inboxes = s.inboxes ∧ (s.setCore k x).jtag = s.jtag ∧ (s.setCore k x).out = s.out ∧ (s.setCore k
    x).pending = s.pending :=
  ⟨rfl, rfl, rfl, rfl, rfl, rfl, rfl, rfl, rfl, rfl, rfl, rfl, rfl, rfl, rfl, rfl, rfl, rfl, rfl, rfl, rfl, rfl, rfl, rfl, rfl, rfl, rfl, rfl, rfl, rfl, rfl, rfl, rfl, rfl, rfl, rfl⟩

/-- `modCore` writes `cores` alone. -/
@[simp] theorem State.modCore_frame (s : State) (k : Nat) (f : Core → Core) :
    (s.modCore k f).time = s.time ∧ (s.modCore k f).free = s.free ∧ (s.modCore k f).fuses = s.fuses ∧ (s.modCore k f).boot = s.boot ∧
    (s.modCore k f).power = s.power ∧ (s.modCore k f).side = s.side ∧ (s.modCore k f).regs = s.regs ∧ (s.modCore k f).datum = s.datum
    ∧ (s.modCore k f).errs = s.errs ∧ (s.modCore k f).recov = s.recov ∧ (s.modCore k f).contexts = s.contexts ∧ (s.modCore k f).queues
    = s.queues ∧ (s.modCore k f).lastQueue = s.lastQueue ∧ (s.modCore k f).decoded = s.decoded ∧ (s.modCore k f).lastCycleCheck =
    s.lastCycleCheck ∧ (s.modCore k f).mboxCmd = s.mboxCmd ∧ (s.modCore k f).nextHandle = s.nextHandle ∧ (s.modCore k f).grids =
    s.grids ∧ (s.modCore k f).slices = s.slices ∧ (s.modCore k f).nextGrid = s.nextGrid ∧ (s.modCore k f).nextSlice = s.nextSlice ∧
    (s.modCore k f).clusters = s.clusters ∧ (s.modCore k f).home = s.home ∧ (s.modCore k f).dram = s.dram ∧ (s.modCore k f).hostMem =
    s.hostMem ∧ (s.modCore k f).dramStacks = s.dramStacks ∧ (s.modCore k f).fabric = s.fabric ∧ (s.modCore k f).ports = s.ports ∧
    (s.modCore k f).groups = s.groups ∧ (s.modCore k f).plats = s.plats ∧ (s.modCore k f).colls = s.colls ∧ (s.modCore k f).nextColl =
    s.nextColl ∧ (s.modCore k f).inboxes = s.inboxes ∧ (s.modCore k f).jtag = s.jtag ∧ (s.modCore k f).out = s.out ∧ (s.modCore k
    f).pending = s.pending :=
  ⟨rfl, rfl, rfl, rfl, rfl, rfl, rfl, rfl, rfl, rfl, rfl, rfl, rfl, rfl, rfl, rfl, rfl, rfl, rfl, rfl, rfl, rfl, rfl, rfl, rfl, rfl, rfl, rfl, rfl, rfl, rfl, rfl, rfl, rfl, rfl, rfl⟩

/-- `setCluster` writes `clusters` alone. -/
@[simp] theorem State.setCluster_frame (s : State) (r : Nat) (x : Cluster) :
    (s.setCluster r x).time = s.time ∧ (s.setCluster r x).free = s.free ∧ (s.setCluster r x).fuses = s.fuses ∧ (s.setCluster r x).boot
    = s.boot ∧ (s.setCluster r x).power = s.power ∧ (s.setCluster r x).side = s.side ∧ (s.setCluster r x).regs = s.regs ∧
    (s.setCluster r x).datum = s.datum ∧ (s.setCluster r x).errs = s.errs ∧ (s.setCluster r x).recov = s.recov ∧ (s.setCluster r
    x).contexts = s.contexts ∧ (s.setCluster r x).queues = s.queues ∧ (s.setCluster r x).lastQueue = s.lastQueue ∧ (s.setCluster r
    x).decoded = s.decoded ∧ (s.setCluster r x).lastCycleCheck = s.lastCycleCheck ∧ (s.setCluster r x).mboxCmd = s.mboxCmd ∧
    (s.setCluster r x).nextHandle = s.nextHandle ∧ (s.setCluster r x).grids = s.grids ∧ (s.setCluster r x).slices = s.slices ∧
    (s.setCluster r x).nextGrid = s.nextGrid ∧ (s.setCluster r x).nextSlice = s.nextSlice ∧ (s.setCluster r x).cores = s.cores ∧
    (s.setCluster r x).home = s.home ∧ (s.setCluster r x).dram = s.dram ∧ (s.setCluster r x).hostMem = s.hostMem ∧ (s.setCluster r
    x).dramStacks = s.dramStacks ∧ (s.setCluster r x).fabric = s.fabric ∧ (s.setCluster r x).ports = s.ports ∧ (s.setCluster r
    x).groups = s.groups ∧ (s.setCluster r x).plats = s.plats ∧ (s.setCluster r x).colls = s.colls ∧ (s.setCluster r x).nextColl =
    s.nextColl ∧ (s.setCluster r x).inboxes = s.inboxes ∧ (s.setCluster r x).jtag = s.jtag ∧ (s.setCluster r x).out = s.out ∧
    (s.setCluster r x).pending = s.pending :=
  ⟨rfl, rfl, rfl, rfl, rfl, rfl, rfl, rfl, rfl, rfl, rfl, rfl, rfl, rfl, rfl, rfl, rfl, rfl, rfl, rfl, rfl, rfl, rfl, rfl, rfl, rfl, rfl, rfl, rfl, rfl, rfl, rfl, rfl, rfl, rfl, rfl⟩

/-- `modCluster` writes `clusters` alone. -/
@[simp] theorem State.modCluster_frame (s : State) (r : Nat) (f : Cluster → Cluster) :
    (s.modCluster r f).time = s.time ∧ (s.modCluster r f).free = s.free ∧ (s.modCluster r f).fuses = s.fuses ∧ (s.modCluster r f).boot
    = s.boot ∧ (s.modCluster r f).power = s.power ∧ (s.modCluster r f).side = s.side ∧ (s.modCluster r f).regs = s.regs ∧
    (s.modCluster r f).datum = s.datum ∧ (s.modCluster r f).errs = s.errs ∧ (s.modCluster r f).recov = s.recov ∧ (s.modCluster r
    f).contexts = s.contexts ∧ (s.modCluster r f).queues = s.queues ∧ (s.modCluster r f).lastQueue = s.lastQueue ∧ (s.modCluster r
    f).decoded = s.decoded ∧ (s.modCluster r f).lastCycleCheck = s.lastCycleCheck ∧ (s.modCluster r f).mboxCmd = s.mboxCmd ∧
    (s.modCluster r f).nextHandle = s.nextHandle ∧ (s.modCluster r f).grids = s.grids ∧ (s.modCluster r f).slices = s.slices ∧
    (s.modCluster r f).nextGrid = s.nextGrid ∧ (s.modCluster r f).nextSlice = s.nextSlice ∧ (s.modCluster r f).cores = s.cores ∧
    (s.modCluster r f).home = s.home ∧ (s.modCluster r f).dram = s.dram ∧ (s.modCluster r f).hostMem = s.hostMem ∧ (s.modCluster r
    f).dramStacks = s.dramStacks ∧ (s.modCluster r f).fabric = s.fabric ∧ (s.modCluster r f).ports = s.ports ∧ (s.modCluster r
    f).groups = s.groups ∧ (s.modCluster r f).plats = s.plats ∧ (s.modCluster r f).colls = s.colls ∧ (s.modCluster r f).nextColl =
    s.nextColl ∧ (s.modCluster r f).inboxes = s.inboxes ∧ (s.modCluster r f).jtag = s.jtag ∧ (s.modCluster r f).out = s.out ∧
    (s.modCluster r f).pending = s.pending :=
  ⟨rfl, rfl, rfl, rfl, rfl, rfl, rfl, rfl, rfl, rfl, rfl, rfl, rfl, rfl, rfl, rfl, rfl, rfl, rfl, rfl, rfl, rfl, rfl, rfl, rfl, rfl, rfl, rfl, rfl, rfl, rfl, rfl, rfl, rfl, rfl, rfl⟩

/-- `setPort` writes `ports` alone. -/
@[simp] theorem State.setPort_frame (s : State) (p : Nat) (x : Port) :
    (s.setPort p x).time = s.time ∧ (s.setPort p x).free = s.free ∧ (s.setPort p x).fuses = s.fuses ∧ (s.setPort p x).boot = s.boot ∧
    (s.setPort p x).power = s.power ∧ (s.setPort p x).side = s.side ∧ (s.setPort p x).regs = s.regs ∧ (s.setPort p x).datum = s.datum
    ∧ (s.setPort p x).errs = s.errs ∧ (s.setPort p x).recov = s.recov ∧ (s.setPort p x).contexts = s.contexts ∧ (s.setPort p x).queues
    = s.queues ∧ (s.setPort p x).lastQueue = s.lastQueue ∧ (s.setPort p x).decoded = s.decoded ∧ (s.setPort p x).lastCycleCheck =
    s.lastCycleCheck ∧ (s.setPort p x).mboxCmd = s.mboxCmd ∧ (s.setPort p x).nextHandle = s.nextHandle ∧ (s.setPort p x).grids =
    s.grids ∧ (s.setPort p x).slices = s.slices ∧ (s.setPort p x).nextGrid = s.nextGrid ∧ (s.setPort p x).nextSlice = s.nextSlice ∧
    (s.setPort p x).clusters = s.clusters ∧ (s.setPort p x).cores = s.cores ∧ (s.setPort p x).home = s.home ∧ (s.setPort p x).dram =
    s.dram ∧ (s.setPort p x).hostMem = s.hostMem ∧ (s.setPort p x).dramStacks = s.dramStacks ∧ (s.setPort p x).fabric = s.fabric ∧
    (s.setPort p x).groups = s.groups ∧ (s.setPort p x).plats = s.plats ∧ (s.setPort p x).colls = s.colls ∧ (s.setPort p x).nextColl =
    s.nextColl ∧ (s.setPort p x).inboxes = s.inboxes ∧ (s.setPort p x).jtag = s.jtag ∧ (s.setPort p x).out = s.out ∧ (s.setPort p
    x).pending = s.pending :=
  ⟨rfl, rfl, rfl, rfl, rfl, rfl, rfl, rfl, rfl, rfl, rfl, rfl, rfl, rfl, rfl, rfl, rfl, rfl, rfl, rfl, rfl, rfl, rfl, rfl, rfl, rfl, rfl, rfl, rfl, rfl, rfl, rfl, rfl, rfl, rfl, rfl⟩

/-- `modPort` writes `ports` alone. -/
@[simp] theorem State.modPort_frame (s : State) (p : Nat) (f : Port → Port) :
    (s.modPort p f).time = s.time ∧ (s.modPort p f).free = s.free ∧ (s.modPort p f).fuses = s.fuses ∧ (s.modPort p f).boot = s.boot ∧
    (s.modPort p f).power = s.power ∧ (s.modPort p f).side = s.side ∧ (s.modPort p f).regs = s.regs ∧ (s.modPort p f).datum = s.datum
    ∧ (s.modPort p f).errs = s.errs ∧ (s.modPort p f).recov = s.recov ∧ (s.modPort p f).contexts = s.contexts ∧ (s.modPort p f).queues
    = s.queues ∧ (s.modPort p f).lastQueue = s.lastQueue ∧ (s.modPort p f).decoded = s.decoded ∧ (s.modPort p f).lastCycleCheck =
    s.lastCycleCheck ∧ (s.modPort p f).mboxCmd = s.mboxCmd ∧ (s.modPort p f).nextHandle = s.nextHandle ∧ (s.modPort p f).grids =
    s.grids ∧ (s.modPort p f).slices = s.slices ∧ (s.modPort p f).nextGrid = s.nextGrid ∧ (s.modPort p f).nextSlice = s.nextSlice ∧
    (s.modPort p f).clusters = s.clusters ∧ (s.modPort p f).cores = s.cores ∧ (s.modPort p f).home = s.home ∧ (s.modPort p f).dram =
    s.dram ∧ (s.modPort p f).hostMem = s.hostMem ∧ (s.modPort p f).dramStacks = s.dramStacks ∧ (s.modPort p f).fabric = s.fabric ∧
    (s.modPort p f).groups = s.groups ∧ (s.modPort p f).plats = s.plats ∧ (s.modPort p f).colls = s.colls ∧ (s.modPort p f).nextColl =
    s.nextColl ∧ (s.modPort p f).inboxes = s.inboxes ∧ (s.modPort p f).jtag = s.jtag ∧ (s.modPort p f).out = s.out ∧ (s.modPort p
    f).pending = s.pending :=
  ⟨rfl, rfl, rfl, rfl, rfl, rfl, rfl, rfl, rfl, rfl, rfl, rfl, rfl, rfl, rfl, rfl, rfl, rfl, rfl, rfl, rfl, rfl, rfl, rfl, rfl, rfl, rfl, rfl, rfl, rfl, rfl, rfl, rfl, rfl, rfl, rfl⟩

/-- `setGroup` writes `groups` alone. -/
@[simp] theorem State.setGroup_frame (s : State) (g : Nat) (x : Group) :
    (s.setGroup g x).time = s.time ∧ (s.setGroup g x).free = s.free ∧ (s.setGroup g x).fuses = s.fuses ∧ (s.setGroup g x).boot =
    s.boot ∧ (s.setGroup g x).power = s.power ∧ (s.setGroup g x).side = s.side ∧ (s.setGroup g x).regs = s.regs ∧ (s.setGroup g
    x).datum = s.datum ∧ (s.setGroup g x).errs = s.errs ∧ (s.setGroup g x).recov = s.recov ∧ (s.setGroup g x).contexts = s.contexts ∧
    (s.setGroup g x).queues = s.queues ∧ (s.setGroup g x).lastQueue = s.lastQueue ∧ (s.setGroup g x).decoded = s.decoded ∧ (s.setGroup
    g x).lastCycleCheck = s.lastCycleCheck ∧ (s.setGroup g x).mboxCmd = s.mboxCmd ∧ (s.setGroup g x).nextHandle = s.nextHandle ∧
    (s.setGroup g x).grids = s.grids ∧ (s.setGroup g x).slices = s.slices ∧ (s.setGroup g x).nextGrid = s.nextGrid ∧ (s.setGroup g
    x).nextSlice = s.nextSlice ∧ (s.setGroup g x).clusters = s.clusters ∧ (s.setGroup g x).cores = s.cores ∧ (s.setGroup g x).home =
    s.home ∧ (s.setGroup g x).dram = s.dram ∧ (s.setGroup g x).hostMem = s.hostMem ∧ (s.setGroup g x).dramStacks = s.dramStacks ∧
    (s.setGroup g x).fabric = s.fabric ∧ (s.setGroup g x).ports = s.ports ∧ (s.setGroup g x).plats = s.plats ∧ (s.setGroup g x).colls
    = s.colls ∧ (s.setGroup g x).nextColl = s.nextColl ∧ (s.setGroup g x).inboxes = s.inboxes ∧ (s.setGroup g x).jtag = s.jtag ∧
    (s.setGroup g x).out = s.out ∧ (s.setGroup g x).pending = s.pending :=
  ⟨rfl, rfl, rfl, rfl, rfl, rfl, rfl, rfl, rfl, rfl, rfl, rfl, rfl, rfl, rfl, rfl, rfl, rfl, rfl, rfl, rfl, rfl, rfl, rfl, rfl, rfl, rfl, rfl, rfl, rfl, rfl, rfl, rfl, rfl, rfl, rfl⟩

/-- `modGroup` writes `groups` alone. -/
@[simp] theorem State.modGroup_frame (s : State) (g : Nat) (f : Group → Group) :
    (s.modGroup g f).time = s.time ∧ (s.modGroup g f).free = s.free ∧ (s.modGroup g f).fuses = s.fuses ∧ (s.modGroup g f).boot =
    s.boot ∧ (s.modGroup g f).power = s.power ∧ (s.modGroup g f).side = s.side ∧ (s.modGroup g f).regs = s.regs ∧ (s.modGroup g
    f).datum = s.datum ∧ (s.modGroup g f).errs = s.errs ∧ (s.modGroup g f).recov = s.recov ∧ (s.modGroup g f).contexts = s.contexts ∧
    (s.modGroup g f).queues = s.queues ∧ (s.modGroup g f).lastQueue = s.lastQueue ∧ (s.modGroup g f).decoded = s.decoded ∧ (s.modGroup
    g f).lastCycleCheck = s.lastCycleCheck ∧ (s.modGroup g f).mboxCmd = s.mboxCmd ∧ (s.modGroup g f).nextHandle = s.nextHandle ∧
    (s.modGroup g f).grids = s.grids ∧ (s.modGroup g f).slices = s.slices ∧ (s.modGroup g f).nextGrid = s.nextGrid ∧ (s.modGroup g
    f).nextSlice = s.nextSlice ∧ (s.modGroup g f).clusters = s.clusters ∧ (s.modGroup g f).cores = s.cores ∧ (s.modGroup g f).home =
    s.home ∧ (s.modGroup g f).dram = s.dram ∧ (s.modGroup g f).hostMem = s.hostMem ∧ (s.modGroup g f).dramStacks = s.dramStacks ∧
    (s.modGroup g f).fabric = s.fabric ∧ (s.modGroup g f).ports = s.ports ∧ (s.modGroup g f).plats = s.plats ∧ (s.modGroup g f).colls
    = s.colls ∧ (s.modGroup g f).nextColl = s.nextColl ∧ (s.modGroup g f).inboxes = s.inboxes ∧ (s.modGroup g f).jtag = s.jtag ∧
    (s.modGroup g f).out = s.out ∧ (s.modGroup g f).pending = s.pending :=
  ⟨rfl, rfl, rfl, rfl, rfl, rfl, rfl, rfl, rfl, rfl, rfl, rfl, rfl, rfl, rfl, rfl, rfl, rfl, rfl, rfl, rfl, rfl, rfl, rfl, rfl, rfl, rfl, rfl, rfl, rfl, rfl, rfl, rfl, rfl, rfl, rfl⟩

/-- `modStack` writes `dramStacks` alone. -/
@[simp] theorem State.modStack_frame (s : State) (k : Nat) (f : Stack → Stack) :
    (s.modStack k f).time = s.time ∧ (s.modStack k f).free = s.free ∧ (s.modStack k f).fuses = s.fuses ∧ (s.modStack k f).boot =
    s.boot ∧ (s.modStack k f).power = s.power ∧ (s.modStack k f).side = s.side ∧ (s.modStack k f).regs = s.regs ∧ (s.modStack k
    f).datum = s.datum ∧ (s.modStack k f).errs = s.errs ∧ (s.modStack k f).recov = s.recov ∧ (s.modStack k f).contexts = s.contexts ∧
    (s.modStack k f).queues = s.queues ∧ (s.modStack k f).lastQueue = s.lastQueue ∧ (s.modStack k f).decoded = s.decoded ∧ (s.modStack
    k f).lastCycleCheck = s.lastCycleCheck ∧ (s.modStack k f).mboxCmd = s.mboxCmd ∧ (s.modStack k f).nextHandle = s.nextHandle ∧
    (s.modStack k f).grids = s.grids ∧ (s.modStack k f).slices = s.slices ∧ (s.modStack k f).nextGrid = s.nextGrid ∧ (s.modStack k
    f).nextSlice = s.nextSlice ∧ (s.modStack k f).clusters = s.clusters ∧ (s.modStack k f).cores = s.cores ∧ (s.modStack k f).home =
    s.home ∧ (s.modStack k f).dram = s.dram ∧ (s.modStack k f).hostMem = s.hostMem ∧ (s.modStack k f).fabric = s.fabric ∧ (s.modStack
    k f).ports = s.ports ∧ (s.modStack k f).groups = s.groups ∧ (s.modStack k f).plats = s.plats ∧ (s.modStack k f).colls = s.colls ∧
    (s.modStack k f).nextColl = s.nextColl ∧ (s.modStack k f).inboxes = s.inboxes ∧ (s.modStack k f).jtag = s.jtag ∧ (s.modStack k
    f).out = s.out ∧ (s.modStack k f).pending = s.pending :=
  ⟨rfl, rfl, rfl, rfl, rfl, rfl, rfl, rfl, rfl, rfl, rfl, rfl, rfl, rfl, rfl, rfl, rfl, rfl, rfl, rfl, rfl, rfl, rfl, rfl, rfl, rfl, rfl, rfl, rfl, rfl, rfl, rfl, rfl, rfl, rfl, rfl⟩

/-- `modInbox` writes `inboxes` alone. -/
@[simp] theorem State.modInbox_frame (s : State) (i : Nat) (f : Inbox → Inbox) :
    (s.modInbox i f).time = s.time ∧ (s.modInbox i f).free = s.free ∧ (s.modInbox i f).fuses = s.fuses ∧ (s.modInbox i f).boot =
    s.boot ∧ (s.modInbox i f).power = s.power ∧ (s.modInbox i f).side = s.side ∧ (s.modInbox i f).regs = s.regs ∧ (s.modInbox i
    f).datum = s.datum ∧ (s.modInbox i f).errs = s.errs ∧ (s.modInbox i f).recov = s.recov ∧ (s.modInbox i f).contexts = s.contexts ∧
    (s.modInbox i f).queues = s.queues ∧ (s.modInbox i f).lastQueue = s.lastQueue ∧ (s.modInbox i f).decoded = s.decoded ∧ (s.modInbox
    i f).lastCycleCheck = s.lastCycleCheck ∧ (s.modInbox i f).mboxCmd = s.mboxCmd ∧ (s.modInbox i f).nextHandle = s.nextHandle ∧
    (s.modInbox i f).grids = s.grids ∧ (s.modInbox i f).slices = s.slices ∧ (s.modInbox i f).nextGrid = s.nextGrid ∧ (s.modInbox i
    f).nextSlice = s.nextSlice ∧ (s.modInbox i f).clusters = s.clusters ∧ (s.modInbox i f).cores = s.cores ∧ (s.modInbox i f).home =
    s.home ∧ (s.modInbox i f).dram = s.dram ∧ (s.modInbox i f).hostMem = s.hostMem ∧ (s.modInbox i f).dramStacks = s.dramStacks ∧
    (s.modInbox i f).fabric = s.fabric ∧ (s.modInbox i f).ports = s.ports ∧ (s.modInbox i f).groups = s.groups ∧ (s.modInbox i
    f).plats = s.plats ∧ (s.modInbox i f).colls = s.colls ∧ (s.modInbox i f).nextColl = s.nextColl ∧ (s.modInbox i f).jtag = s.jtag ∧
    (s.modInbox i f).out = s.out ∧ (s.modInbox i f).pending = s.pending :=
  ⟨rfl, rfl, rfl, rfl, rfl, rfl, rfl, rfl, rfl, rfl, rfl, rfl, rfl, rfl, rfl, rfl, rfl, rfl, rfl, rfl, rfl, rfl, rfl, rfl, rfl, rfl, rfl, rfl, rfl, rfl, rfl, rfl, rfl, rfl, rfl, rfl⟩

/-- `modGrid` writes `grids` alone. -/
@[simp] theorem State.modGrid_frame (s : State) (g : Nat) (f : Grid → Grid) :
    (s.modGrid g f).time = s.time ∧ (s.modGrid g f).free = s.free ∧ (s.modGrid g f).fuses = s.fuses ∧ (s.modGrid g f).boot = s.boot ∧
    (s.modGrid g f).power = s.power ∧ (s.modGrid g f).side = s.side ∧ (s.modGrid g f).regs = s.regs ∧ (s.modGrid g f).datum = s.datum
    ∧ (s.modGrid g f).errs = s.errs ∧ (s.modGrid g f).recov = s.recov ∧ (s.modGrid g f).contexts = s.contexts ∧ (s.modGrid g f).queues
    = s.queues ∧ (s.modGrid g f).lastQueue = s.lastQueue ∧ (s.modGrid g f).decoded = s.decoded ∧ (s.modGrid g f).lastCycleCheck =
    s.lastCycleCheck ∧ (s.modGrid g f).mboxCmd = s.mboxCmd ∧ (s.modGrid g f).nextHandle = s.nextHandle ∧ (s.modGrid g f).slices =
    s.slices ∧ (s.modGrid g f).nextGrid = s.nextGrid ∧ (s.modGrid g f).nextSlice = s.nextSlice ∧ (s.modGrid g f).clusters = s.clusters
    ∧ (s.modGrid g f).cores = s.cores ∧ (s.modGrid g f).home = s.home ∧ (s.modGrid g f).dram = s.dram ∧ (s.modGrid g f).hostMem =
    s.hostMem ∧ (s.modGrid g f).dramStacks = s.dramStacks ∧ (s.modGrid g f).fabric = s.fabric ∧ (s.modGrid g f).ports = s.ports ∧
    (s.modGrid g f).groups = s.groups ∧ (s.modGrid g f).plats = s.plats ∧ (s.modGrid g f).colls = s.colls ∧ (s.modGrid g f).nextColl =
    s.nextColl ∧ (s.modGrid g f).inboxes = s.inboxes ∧ (s.modGrid g f).jtag = s.jtag ∧ (s.modGrid g f).out = s.out ∧ (s.modGrid g
    f).pending = s.pending :=
  ⟨rfl, rfl, rfl, rfl, rfl, rfl, rfl, rfl, rfl, rfl, rfl, rfl, rfl, rfl, rfl, rfl, rfl, rfl, rfl, rfl, rfl, rfl, rfl, rfl, rfl, rfl, rfl, rfl, rfl, rfl, rfl, rfl, rfl, rfl, rfl, rfl⟩

/-- `modSlice` writes `slices` alone. -/
@[simp] theorem State.modSlice_frame (s : State) (n : Nat) (f : Slice → Slice) :
    (s.modSlice n f).time = s.time ∧ (s.modSlice n f).free = s.free ∧ (s.modSlice n f).fuses = s.fuses ∧ (s.modSlice n f).boot =
    s.boot ∧ (s.modSlice n f).power = s.power ∧ (s.modSlice n f).side = s.side ∧ (s.modSlice n f).regs = s.regs ∧ (s.modSlice n
    f).datum = s.datum ∧ (s.modSlice n f).errs = s.errs ∧ (s.modSlice n f).recov = s.recov ∧ (s.modSlice n f).contexts = s.contexts ∧
    (s.modSlice n f).queues = s.queues ∧ (s.modSlice n f).lastQueue = s.lastQueue ∧ (s.modSlice n f).decoded = s.decoded ∧ (s.modSlice
    n f).lastCycleCheck = s.lastCycleCheck ∧ (s.modSlice n f).mboxCmd = s.mboxCmd ∧ (s.modSlice n f).nextHandle = s.nextHandle ∧
    (s.modSlice n f).grids = s.grids ∧ (s.modSlice n f).nextGrid = s.nextGrid ∧ (s.modSlice n f).nextSlice = s.nextSlice ∧ (s.modSlice
    n f).clusters = s.clusters ∧ (s.modSlice n f).cores = s.cores ∧ (s.modSlice n f).home = s.home ∧ (s.modSlice n f).dram = s.dram ∧
    (s.modSlice n f).hostMem = s.hostMem ∧ (s.modSlice n f).dramStacks = s.dramStacks ∧ (s.modSlice n f).fabric = s.fabric ∧
    (s.modSlice n f).ports = s.ports ∧ (s.modSlice n f).groups = s.groups ∧ (s.modSlice n f).plats = s.plats ∧ (s.modSlice n f).colls
    = s.colls ∧ (s.modSlice n f).nextColl = s.nextColl ∧ (s.modSlice n f).inboxes = s.inboxes ∧ (s.modSlice n f).jtag = s.jtag ∧
    (s.modSlice n f).out = s.out ∧ (s.modSlice n f).pending = s.pending :=
  ⟨rfl, rfl, rfl, rfl, rfl, rfl, rfl, rfl, rfl, rfl, rfl, rfl, rfl, rfl, rfl, rfl, rfl, rfl, rfl, rfl, rfl, rfl, rfl, rfl, rfl, rfl, rfl, rfl, rfl, rfl, rfl, rfl, rfl, rfl, rfl, rfl⟩

/-- `modHome` writes `home` alone. -/
@[simp] theorem State.modHome_frame (s : State) (f : Home → Home) :
    (s.modHome f).time = s.time ∧ (s.modHome f).free = s.free ∧ (s.modHome f).fuses = s.fuses ∧ (s.modHome f).boot = s.boot ∧
    (s.modHome f).power = s.power ∧ (s.modHome f).side = s.side ∧ (s.modHome f).regs = s.regs ∧ (s.modHome f).datum = s.datum ∧
    (s.modHome f).errs = s.errs ∧ (s.modHome f).recov = s.recov ∧ (s.modHome f).contexts = s.contexts ∧ (s.modHome f).queues =
    s.queues ∧ (s.modHome f).lastQueue = s.lastQueue ∧ (s.modHome f).decoded = s.decoded ∧ (s.modHome f).lastCycleCheck =
    s.lastCycleCheck ∧ (s.modHome f).mboxCmd = s.mboxCmd ∧ (s.modHome f).nextHandle = s.nextHandle ∧ (s.modHome f).grids = s.grids ∧
    (s.modHome f).slices = s.slices ∧ (s.modHome f).nextGrid = s.nextGrid ∧ (s.modHome f).nextSlice = s.nextSlice ∧ (s.modHome
    f).clusters = s.clusters ∧ (s.modHome f).cores = s.cores ∧ (s.modHome f).dram = s.dram ∧ (s.modHome f).hostMem = s.hostMem ∧
    (s.modHome f).dramStacks = s.dramStacks ∧ (s.modHome f).fabric = s.fabric ∧ (s.modHome f).ports = s.ports ∧ (s.modHome f).groups =
    s.groups ∧ (s.modHome f).plats = s.plats ∧ (s.modHome f).colls = s.colls ∧ (s.modHome f).nextColl = s.nextColl ∧ (s.modHome
    f).inboxes = s.inboxes ∧ (s.modHome f).jtag = s.jtag ∧ (s.modHome f).out = s.out ∧ (s.modHome f).pending = s.pending :=
  ⟨rfl, rfl, rfl, rfl, rfl, rfl, rfl, rfl, rfl, rfl, rfl, rfl, rfl, rfl, rfl, rfl, rfl, rfl, rfl, rfl, rfl, rfl, rfl, rfl, rfl, rfl, rfl, rfl, rfl, rfl, rfl, rfl, rfl, rfl, rfl, rfl⟩

/-- `modFabric` writes `fabric` alone. -/
@[simp] theorem State.modFabric_frame (s : State) (f : Fabric → Fabric) :
    (s.modFabric f).time = s.time ∧ (s.modFabric f).free = s.free ∧ (s.modFabric f).fuses = s.fuses ∧ (s.modFabric f).boot = s.boot ∧
    (s.modFabric f).power = s.power ∧ (s.modFabric f).side = s.side ∧ (s.modFabric f).regs = s.regs ∧ (s.modFabric f).datum = s.datum
    ∧ (s.modFabric f).errs = s.errs ∧ (s.modFabric f).recov = s.recov ∧ (s.modFabric f).contexts = s.contexts ∧ (s.modFabric f).queues
    = s.queues ∧ (s.modFabric f).lastQueue = s.lastQueue ∧ (s.modFabric f).decoded = s.decoded ∧ (s.modFabric f).lastCycleCheck =
    s.lastCycleCheck ∧ (s.modFabric f).mboxCmd = s.mboxCmd ∧ (s.modFabric f).nextHandle = s.nextHandle ∧ (s.modFabric f).grids =
    s.grids ∧ (s.modFabric f).slices = s.slices ∧ (s.modFabric f).nextGrid = s.nextGrid ∧ (s.modFabric f).nextSlice = s.nextSlice ∧
    (s.modFabric f).clusters = s.clusters ∧ (s.modFabric f).cores = s.cores ∧ (s.modFabric f).home = s.home ∧ (s.modFabric f).dram =
    s.dram ∧ (s.modFabric f).hostMem = s.hostMem ∧ (s.modFabric f).dramStacks = s.dramStacks ∧ (s.modFabric f).ports = s.ports ∧
    (s.modFabric f).groups = s.groups ∧ (s.modFabric f).plats = s.plats ∧ (s.modFabric f).colls = s.colls ∧ (s.modFabric f).nextColl =
    s.nextColl ∧ (s.modFabric f).inboxes = s.inboxes ∧ (s.modFabric f).jtag = s.jtag ∧ (s.modFabric f).out = s.out ∧ (s.modFabric
    f).pending = s.pending :=
  ⟨rfl, rfl, rfl, rfl, rfl, rfl, rfl, rfl, rfl, rfl, rfl, rfl, rfl, rfl, rfl, rfl, rfl, rfl, rfl, rfl, rfl, rfl, rfl, rfl, rfl, rfl, rfl, rfl, rfl, rfl, rfl, rfl, rfl, rfl, rfl, rfl⟩

/-- `modRecov` writes `recov` alone. -/
@[simp] theorem State.modRecov_frame (s : State) (f : Recov → Recov) :
    (s.modRecov f).time = s.time ∧ (s.modRecov f).free = s.free ∧ (s.modRecov f).fuses = s.fuses ∧ (s.modRecov f).boot = s.boot ∧
    (s.modRecov f).power = s.power ∧ (s.modRecov f).side = s.side ∧ (s.modRecov f).regs = s.regs ∧ (s.modRecov f).datum = s.datum ∧
    (s.modRecov f).errs = s.errs ∧ (s.modRecov f).contexts = s.contexts ∧ (s.modRecov f).queues = s.queues ∧ (s.modRecov f).lastQueue
    = s.lastQueue ∧ (s.modRecov f).decoded = s.decoded ∧ (s.modRecov f).lastCycleCheck = s.lastCycleCheck ∧ (s.modRecov f).mboxCmd =
    s.mboxCmd ∧ (s.modRecov f).nextHandle = s.nextHandle ∧ (s.modRecov f).grids = s.grids ∧ (s.modRecov f).slices = s.slices ∧
    (s.modRecov f).nextGrid = s.nextGrid ∧ (s.modRecov f).nextSlice = s.nextSlice ∧ (s.modRecov f).clusters = s.clusters ∧ (s.modRecov
    f).cores = s.cores ∧ (s.modRecov f).home = s.home ∧ (s.modRecov f).dram = s.dram ∧ (s.modRecov f).hostMem = s.hostMem ∧
    (s.modRecov f).dramStacks = s.dramStacks ∧ (s.modRecov f).fabric = s.fabric ∧ (s.modRecov f).ports = s.ports ∧ (s.modRecov
    f).groups = s.groups ∧ (s.modRecov f).plats = s.plats ∧ (s.modRecov f).colls = s.colls ∧ (s.modRecov f).nextColl = s.nextColl ∧
    (s.modRecov f).inboxes = s.inboxes ∧ (s.modRecov f).jtag = s.jtag ∧ (s.modRecov f).out = s.out ∧ (s.modRecov f).pending =
    s.pending :=
  ⟨rfl, rfl, rfl, rfl, rfl, rfl, rfl, rfl, rfl, rfl, rfl, rfl, rfl, rfl, rfl, rfl, rfl, rfl, rfl, rfl, rfl, rfl, rfl, rfl, rfl, rfl, rfl, rfl, rfl, rfl, rfl, rfl, rfl, rfl, rfl, rfl⟩

/-- `modErrs` writes `errs` alone. -/
@[simp] theorem State.modErrs_frame (s : State) (f : Errors → Errors) :
    (s.modErrs f).time = s.time ∧ (s.modErrs f).free = s.free ∧ (s.modErrs f).fuses = s.fuses ∧ (s.modErrs f).boot = s.boot ∧
    (s.modErrs f).power = s.power ∧ (s.modErrs f).side = s.side ∧ (s.modErrs f).regs = s.regs ∧ (s.modErrs f).datum = s.datum ∧
    (s.modErrs f).recov = s.recov ∧ (s.modErrs f).contexts = s.contexts ∧ (s.modErrs f).queues = s.queues ∧ (s.modErrs f).lastQueue =
    s.lastQueue ∧ (s.modErrs f).decoded = s.decoded ∧ (s.modErrs f).lastCycleCheck = s.lastCycleCheck ∧ (s.modErrs f).mboxCmd =
    s.mboxCmd ∧ (s.modErrs f).nextHandle = s.nextHandle ∧ (s.modErrs f).grids = s.grids ∧ (s.modErrs f).slices = s.slices ∧ (s.modErrs
    f).nextGrid = s.nextGrid ∧ (s.modErrs f).nextSlice = s.nextSlice ∧ (s.modErrs f).clusters = s.clusters ∧ (s.modErrs f).cores =
    s.cores ∧ (s.modErrs f).home = s.home ∧ (s.modErrs f).dram = s.dram ∧ (s.modErrs f).hostMem = s.hostMem ∧ (s.modErrs f).dramStacks
    = s.dramStacks ∧ (s.modErrs f).fabric = s.fabric ∧ (s.modErrs f).ports = s.ports ∧ (s.modErrs f).groups = s.groups ∧ (s.modErrs
    f).plats = s.plats ∧ (s.modErrs f).colls = s.colls ∧ (s.modErrs f).nextColl = s.nextColl ∧ (s.modErrs f).inboxes = s.inboxes ∧
    (s.modErrs f).jtag = s.jtag ∧ (s.modErrs f).out = s.out ∧ (s.modErrs f).pending = s.pending :=
  ⟨rfl, rfl, rfl, rfl, rfl, rfl, rfl, rfl, rfl, rfl, rfl, rfl, rfl, rfl, rfl, rfl, rfl, rfl, rfl, rfl, rfl, rfl, rfl, rfl, rfl, rfl, rfl, rfl, rfl, rfl, rfl, rfl, rfl, rfl, rfl, rfl⟩

/-- `modBoot` writes `boot` alone. -/
@[simp] theorem State.modBoot_frame (s : State) (f : Boot → Boot) :
    (s.modBoot f).time = s.time ∧ (s.modBoot f).free = s.free ∧ (s.modBoot f).fuses = s.fuses ∧ (s.modBoot f).power = s.power ∧
    (s.modBoot f).side = s.side ∧ (s.modBoot f).regs = s.regs ∧ (s.modBoot f).datum = s.datum ∧ (s.modBoot f).errs = s.errs ∧
    (s.modBoot f).recov = s.recov ∧ (s.modBoot f).contexts = s.contexts ∧ (s.modBoot f).queues = s.queues ∧ (s.modBoot f).lastQueue =
    s.lastQueue ∧ (s.modBoot f).decoded = s.decoded ∧ (s.modBoot f).lastCycleCheck = s.lastCycleCheck ∧ (s.modBoot f).mboxCmd =
    s.mboxCmd ∧ (s.modBoot f).nextHandle = s.nextHandle ∧ (s.modBoot f).grids = s.grids ∧ (s.modBoot f).slices = s.slices ∧ (s.modBoot
    f).nextGrid = s.nextGrid ∧ (s.modBoot f).nextSlice = s.nextSlice ∧ (s.modBoot f).clusters = s.clusters ∧ (s.modBoot f).cores =
    s.cores ∧ (s.modBoot f).home = s.home ∧ (s.modBoot f).dram = s.dram ∧ (s.modBoot f).hostMem = s.hostMem ∧ (s.modBoot f).dramStacks
    = s.dramStacks ∧ (s.modBoot f).fabric = s.fabric ∧ (s.modBoot f).ports = s.ports ∧ (s.modBoot f).groups = s.groups ∧ (s.modBoot
    f).plats = s.plats ∧ (s.modBoot f).colls = s.colls ∧ (s.modBoot f).nextColl = s.nextColl ∧ (s.modBoot f).inboxes = s.inboxes ∧
    (s.modBoot f).jtag = s.jtag ∧ (s.modBoot f).out = s.out ∧ (s.modBoot f).pending = s.pending :=
  ⟨rfl, rfl, rfl, rfl, rfl, rfl, rfl, rfl, rfl, rfl, rfl, rfl, rfl, rfl, rfl, rfl, rfl, rfl, rfl, rfl, rfl, rfl, rfl, rfl, rfl, rfl, rfl, rfl, rfl, rfl, rfl, rfl, rfl, rfl, rfl, rfl⟩

/-- `modPower` writes `power` alone. -/
@[simp] theorem State.modPower_frame (s : State) (f : Power → Power) :
    (s.modPower f).time = s.time ∧ (s.modPower f).free = s.free ∧ (s.modPower f).fuses = s.fuses ∧ (s.modPower f).boot = s.boot ∧
    (s.modPower f).side = s.side ∧ (s.modPower f).regs = s.regs ∧ (s.modPower f).datum = s.datum ∧ (s.modPower f).errs = s.errs ∧
    (s.modPower f).recov = s.recov ∧ (s.modPower f).contexts = s.contexts ∧ (s.modPower f).queues = s.queues ∧ (s.modPower
    f).lastQueue = s.lastQueue ∧ (s.modPower f).decoded = s.decoded ∧ (s.modPower f).lastCycleCheck = s.lastCycleCheck ∧ (s.modPower
    f).mboxCmd = s.mboxCmd ∧ (s.modPower f).nextHandle = s.nextHandle ∧ (s.modPower f).grids = s.grids ∧ (s.modPower f).slices =
    s.slices ∧ (s.modPower f).nextGrid = s.nextGrid ∧ (s.modPower f).nextSlice = s.nextSlice ∧ (s.modPower f).clusters = s.clusters ∧
    (s.modPower f).cores = s.cores ∧ (s.modPower f).home = s.home ∧ (s.modPower f).dram = s.dram ∧ (s.modPower f).hostMem = s.hostMem
    ∧ (s.modPower f).dramStacks = s.dramStacks ∧ (s.modPower f).fabric = s.fabric ∧ (s.modPower f).ports = s.ports ∧ (s.modPower
    f).groups = s.groups ∧ (s.modPower f).plats = s.plats ∧ (s.modPower f).colls = s.colls ∧ (s.modPower f).nextColl = s.nextColl ∧
    (s.modPower f).inboxes = s.inboxes ∧ (s.modPower f).jtag = s.jtag ∧ (s.modPower f).out = s.out ∧ (s.modPower f).pending =
    s.pending :=
  ⟨rfl, rfl, rfl, rfl, rfl, rfl, rfl, rfl, rfl, rfl, rfl, rfl, rfl, rfl, rfl, rfl, rfl, rfl, rfl, rfl, rfl, rfl, rfl, rfl, rfl, rfl, rfl, rfl, rfl, rfl, rfl, rfl, rfl, rfl, rfl, rfl⟩

/-- `modDatum` writes `datum` alone. -/
@[simp] theorem State.modDatum_frame (s : State) (f : Datum → Datum) :
    (s.modDatum f).time = s.time ∧ (s.modDatum f).free = s.free ∧ (s.modDatum f).fuses = s.fuses ∧ (s.modDatum f).boot = s.boot ∧
    (s.modDatum f).power = s.power ∧ (s.modDatum f).side = s.side ∧ (s.modDatum f).regs = s.regs ∧ (s.modDatum f).errs = s.errs ∧
    (s.modDatum f).recov = s.recov ∧ (s.modDatum f).contexts = s.contexts ∧ (s.modDatum f).queues = s.queues ∧ (s.modDatum
    f).lastQueue = s.lastQueue ∧ (s.modDatum f).decoded = s.decoded ∧ (s.modDatum f).lastCycleCheck = s.lastCycleCheck ∧ (s.modDatum
    f).mboxCmd = s.mboxCmd ∧ (s.modDatum f).nextHandle = s.nextHandle ∧ (s.modDatum f).grids = s.grids ∧ (s.modDatum f).slices =
    s.slices ∧ (s.modDatum f).nextGrid = s.nextGrid ∧ (s.modDatum f).nextSlice = s.nextSlice ∧ (s.modDatum f).clusters = s.clusters ∧
    (s.modDatum f).cores = s.cores ∧ (s.modDatum f).home = s.home ∧ (s.modDatum f).dram = s.dram ∧ (s.modDatum f).hostMem = s.hostMem
    ∧ (s.modDatum f).dramStacks = s.dramStacks ∧ (s.modDatum f).fabric = s.fabric ∧ (s.modDatum f).ports = s.ports ∧ (s.modDatum
    f).groups = s.groups ∧ (s.modDatum f).plats = s.plats ∧ (s.modDatum f).colls = s.colls ∧ (s.modDatum f).nextColl = s.nextColl ∧
    (s.modDatum f).inboxes = s.inboxes ∧ (s.modDatum f).jtag = s.jtag ∧ (s.modDatum f).out = s.out ∧ (s.modDatum f).pending =
    s.pending :=
  ⟨rfl, rfl, rfl, rfl, rfl, rfl, rfl, rfl, rfl, rfl, rfl, rfl, rfl, rfl, rfl, rfl, rfl, rfl, rfl, rfl, rfl, rfl, rfl, rfl, rfl, rfl, rfl, rfl, rfl, rfl, rfl, rfl, rfl, rfl, rfl, rfl⟩

/-- `modSide` writes `side` alone. -/
@[simp] theorem State.modSide_frame (s : State) (f : Sideband → Sideband) :
    (s.modSide f).time = s.time ∧ (s.modSide f).free = s.free ∧ (s.modSide f).fuses = s.fuses ∧ (s.modSide f).boot = s.boot ∧
    (s.modSide f).power = s.power ∧ (s.modSide f).regs = s.regs ∧ (s.modSide f).datum = s.datum ∧ (s.modSide f).errs = s.errs ∧
    (s.modSide f).recov = s.recov ∧ (s.modSide f).contexts = s.contexts ∧ (s.modSide f).queues = s.queues ∧ (s.modSide f).lastQueue =
    s.lastQueue ∧ (s.modSide f).decoded = s.decoded ∧ (s.modSide f).lastCycleCheck = s.lastCycleCheck ∧ (s.modSide f).mboxCmd =
    s.mboxCmd ∧ (s.modSide f).nextHandle = s.nextHandle ∧ (s.modSide f).grids = s.grids ∧ (s.modSide f).slices = s.slices ∧ (s.modSide
    f).nextGrid = s.nextGrid ∧ (s.modSide f).nextSlice = s.nextSlice ∧ (s.modSide f).clusters = s.clusters ∧ (s.modSide f).cores =
    s.cores ∧ (s.modSide f).home = s.home ∧ (s.modSide f).dram = s.dram ∧ (s.modSide f).hostMem = s.hostMem ∧ (s.modSide f).dramStacks
    = s.dramStacks ∧ (s.modSide f).fabric = s.fabric ∧ (s.modSide f).ports = s.ports ∧ (s.modSide f).groups = s.groups ∧ (s.modSide
    f).plats = s.plats ∧ (s.modSide f).colls = s.colls ∧ (s.modSide f).nextColl = s.nextColl ∧ (s.modSide f).inboxes = s.inboxes ∧
    (s.modSide f).jtag = s.jtag ∧ (s.modSide f).out = s.out ∧ (s.modSide f).pending = s.pending :=
  ⟨rfl, rfl, rfl, rfl, rfl, rfl, rfl, rfl, rfl, rfl, rfl, rfl, rfl, rfl, rfl, rfl, rfl, rfl, rfl, rfl, rfl, rfl, rfl, rfl, rfl, rfl, rfl, rfl, rfl, rfl, rfl, rfl, rfl, rfl, rfl, rfl⟩

/-- `emit` writes `out` alone. -/
@[simp] theorem State.emit_frame (s : State) (o : Out) :
    (s.emit o).time = s.time ∧ (s.emit o).free = s.free ∧ (s.emit o).fuses = s.fuses ∧ (s.emit o).boot = s.boot ∧ (s.emit o).power =
    s.power ∧ (s.emit o).side = s.side ∧ (s.emit o).regs = s.regs ∧ (s.emit o).datum = s.datum ∧ (s.emit o).errs = s.errs ∧ (s.emit
    o).recov = s.recov ∧ (s.emit o).contexts = s.contexts ∧ (s.emit o).queues = s.queues ∧ (s.emit o).lastQueue = s.lastQueue ∧
    (s.emit o).decoded = s.decoded ∧ (s.emit o).lastCycleCheck = s.lastCycleCheck ∧ (s.emit o).mboxCmd = s.mboxCmd ∧ (s.emit
    o).nextHandle = s.nextHandle ∧ (s.emit o).grids = s.grids ∧ (s.emit o).slices = s.slices ∧ (s.emit o).nextGrid = s.nextGrid ∧
    (s.emit o).nextSlice = s.nextSlice ∧ (s.emit o).clusters = s.clusters ∧ (s.emit o).cores = s.cores ∧ (s.emit o).home = s.home ∧
    (s.emit o).dram = s.dram ∧ (s.emit o).hostMem = s.hostMem ∧ (s.emit o).dramStacks = s.dramStacks ∧ (s.emit o).fabric = s.fabric ∧
    (s.emit o).ports = s.ports ∧ (s.emit o).groups = s.groups ∧ (s.emit o).plats = s.plats ∧ (s.emit o).colls = s.colls ∧ (s.emit
    o).nextColl = s.nextColl ∧ (s.emit o).inboxes = s.inboxes ∧ (s.emit o).jtag = s.jtag ∧ (s.emit o).pending = s.pending :=
  ⟨rfl, rfl, rfl, rfl, rfl, rfl, rfl, rfl, rfl, rfl, rfl, rfl, rfl, rfl, rfl, rfl, rfl, rfl, rfl, rfl, rfl, rfl, rfl, rfl, rfl, rfl, rfl, rfl, rfl, rfl, rfl, rfl, rfl, rfl, rfl, rfl⟩

@[simp] theorem State.modHome_home (s : State) (f : Home → Home) : (s.modHome f).home = f s.home := rfl
@[simp] theorem State.modFabric_fabric (s : State) (f : Fabric → Fabric) : (s.modFabric f).fabric = f s.fabric := rfl
@[simp] theorem State.modRecov_recov (s : State) (f : Recov → Recov) : (s.modRecov f).recov = f s.recov := rfl
@[simp] theorem State.modErrs_errs (s : State) (f : Errors → Errors) : (s.modErrs f).errs = f s.errs := rfl
@[simp] theorem State.modBoot_boot (s : State) (f : Boot → Boot) : (s.modBoot f).boot = f s.boot := rfl
@[simp] theorem State.modPower_power (s : State) (f : Power → Power) : (s.modPower f).power = f s.power := rfl
@[simp] theorem State.modDatum_datum (s : State) (f : Datum → Datum) : (s.modDatum f).datum = f s.datum := rfl
@[simp] theorem State.modSide_side (s : State) (f : Sideband → Sideband) : (s.modSide f).side = f s.side := rfl
@[simp] theorem State.emit_out (s : State) (o : Out) : (s.emit o).out = s.out ++ [o] := rfl

/-- The ctx read after one is set, and after one is changed. -/
theorem State.ctx_setCtx (s : State) (c c' : Nat) (x : Context) : (s.setCtx c x).ctx c' = if c' = c then x else s.ctx c' :=
  tget_tset _ _ _ _ _
theorem State.ctx_modCtx (s : State) (c c' : Nat) (f : Context → Context) :
    (s.modCtx c f).ctx c' = if c' = c then f (s.ctx c) else s.ctx c' := tget_tset _ _ _ _ _
@[simp] theorem State.ctx_modCtx_same (s : State) (c : Nat) (f : Context → Context) : (s.modCtx c f).ctx c = f (s.ctx c) :=
  tget_tset_same _ _ _ _

/-- The queue read after one is set, and after one is changed. -/
theorem State.queue_setQueue (s : State) (q q' : Nat) (x : Queue) : (s.setQueue q x).queue q' = if q' = q then x else s.queue q' :=
  tget_tset _ _ _ _ _
theorem State.queue_modQueue (s : State) (q q' : Nat) (f : Queue → Queue) :
    (s.modQueue q f).queue q' = if q' = q then f (s.queue q) else s.queue q' := tget_tset _ _ _ _ _
@[simp] theorem State.queue_modQueue_same (s : State) (q : Nat) (f : Queue → Queue) : (s.modQueue q f).queue q = f (s.queue q) :=
  tget_tset_same _ _ _ _

/-- The core read after one is set, and after one is changed. -/
theorem State.core_setCore (s : State) (k k' : Nat) (x : Core) : (s.setCore k x).core k' = if k' = k then x else s.core k' :=
  tget_tset _ _ _ _ _
theorem State.core_modCore (s : State) (k k' : Nat) (f : Core → Core) :
    (s.modCore k f).core k' = if k' = k then f (s.core k) else s.core k' := tget_tset _ _ _ _ _
@[simp] theorem State.core_modCore_same (s : State) (k : Nat) (f : Core → Core) : (s.modCore k f).core k = f (s.core k) :=
  tget_tset_same _ _ _ _

/-- The cluster read after one is set, and after one is changed. -/
theorem State.cluster_setCluster (s : State) (r r' : Nat) (x : Cluster) : (s.setCluster r x).cluster r' = if r' = r then x else s.cluster r' :=
  tget_tset _ _ _ _ _
theorem State.cluster_modCluster (s : State) (r r' : Nat) (f : Cluster → Cluster) :
    (s.modCluster r f).cluster r' = if r' = r then f (s.cluster r) else s.cluster r' := tget_tset _ _ _ _ _
@[simp] theorem State.cluster_modCluster_same (s : State) (r : Nat) (f : Cluster → Cluster) : (s.modCluster r f).cluster r = f (s.cluster r) :=
  tget_tset_same _ _ _ _

/-- The port read after one is set, and after one is changed. -/
theorem State.port_setPort (s : State) (p p' : Nat) (x : Port) : (s.setPort p x).port p' = if p' = p then x else s.port p' :=
  tget_tset _ _ _ _ _
theorem State.port_modPort (s : State) (p p' : Nat) (f : Port → Port) :
    (s.modPort p f).port p' = if p' = p then f (s.port p) else s.port p' := tget_tset _ _ _ _ _
@[simp] theorem State.port_modPort_same (s : State) (p : Nat) (f : Port → Port) : (s.modPort p f).port p = f (s.port p) :=
  tget_tset_same _ _ _ _

/-- The group read after one is set, and after one is changed. -/
theorem State.group_setGroup (s : State) (g g' : Nat) (x : Group) : (s.setGroup g x).group g' = if g' = g then x else s.group g' :=
  tget_tset _ _ _ _ _
theorem State.group_modGroup (s : State) (g g' : Nat) (f : Group → Group) :
    (s.modGroup g f).group g' = if g' = g then f (s.group g) else s.group g' := tget_tset _ _ _ _ _
@[simp] theorem State.group_modGroup_same (s : State) (g : Nat) (f : Group → Group) : (s.modGroup g f).group g = f (s.group g) :=
  tget_tset_same _ _ _ _

theorem State.stack_modStack (s : State) (k k' : Nat) (f : Stack → Stack) :
    (s.modStack k f).stack k' = if k' = k then f (s.stack k) else s.stack k' := tget_tset _ _ _ _ _
theorem State.inbox_modInbox (s : State) (i i' : Nat) (f : Inbox → Inbox) :
    (s.modInbox i f).inbox i' = if i' = i then f (s.inbox i) else s.inbox i' := tget_tset _ _ _ _ _

end Sys2Proof.Machine
end

