-- ==== Sys2Proof/Laws/Errors.lean ====
section
/-!
SUPPORT. What raising an error can do: the records queued, the counts of a command or a launch, and the resets asked for; nothing else.
-/
namespace Sys2Proof.Machine

/-- A record queued changes the error queue and what the module puts out (R372). -/
theorem State.queueRec_frame (s : State) (r : ErrRec) : s.queueRec r = { s with errs := (s.queueRec r).errs, out := (s.queueRec r).out } := by
  simp only [State.queueRec, State.alarm]
  split
  · split <;> rfl
  · rfl

/-- An alarm queued is counted (R350). -/
theorem State.queueRec_alarms (s : State) (r : ErrRec) (h : r.alarm = true) :
    (s.queueRec r).errs.alarms = min 65535 (s.errs.alarms + 1) := by
  simp only [State.queueRec, State.alarm, h, if_true]
  split
  · simp only [Errors.holdAlarm]
    repeat' split
    all_goals rfl
  · simp only [State.emit, Errors.alert, Errors.pushAlarm, Errors.lost]
    repeat' split
    all_goals rfl

/-- An error counted for its command or launch (R370). -/
theorem State.attribute_frame (s : State) (e : ErrSpec) :
    s.attribute e = { s with grids := (s.attribute e).grids, queues := (s.attribute e).queues, mboxCmd := (s.attribute e).mboxCmd } := by
  unfold State.attribute
  split <;> rfl

/-- A context reset asked for changes its context and the recoveries (R379). -/
theorem State.askCtxReset_frame (s : State) (c code : Nat) :
    s.askCtxReset c code = { s with contexts := (s.askCtxReset c code).contexts, recov := (s.askCtxReset c code).recov } := by
  unfold State.askCtxReset
  split
  · rfl
  · split <;> rfl

/-- A context reset asked for of a context that is not FREE is among the recoveries (R373). -/
theorem State.askCtxReset_asked (s : State) (c code : Nat) (h : (s.ctx c).state ≠ 0) :
    ∃ r ∈ (s.askCtxReset c code).recov.ctxs, r.ctx = c := by
  unfold State.askCtxReset
  rw [if_neg h]
  split
  · next h2 => obtain ⟨r, hr, hc⟩ := List.any_eq_true.mp h2; exact ⟨r, hr, by simpa using hc⟩
  · exact ⟨{ ctx := c, code := BitVec.ofNat 16 code }, by simp, rfl⟩

/-- The action of an error: contexts, cores and recoveries (R369). -/
theorem State.act_frame (s : State) (e : ErrSpec) :
    s.act e = { s with contexts := (s.act e).contexts, cores := (s.act e).cores, recov := (s.act e).recov } := by
  unfold State.act
  split
  · split
    · unfold State.askCtxReset
      repeat' split
      all_goals rfl
    · rfl
  · rfl
  · simp only [State.askRestart]
    split
    · split <;> rfl
    · rfl
  · rfl
  · rfl

/-- What raising an error can change (R368 to R373). -/
theorem State.raise_frame (s : State) (e : ErrSpec) :
    s.raise e = { s with
      errs := (s.raise e).errs, out := (s.raise e).out, grids := (s.raise e).grids, queues := (s.raise e).queues
      mboxCmd := (s.raise e).mboxCmd, contexts := (s.raise e).contexts, cores := (s.raise e).cores, recov := (s.raise e).recov } := by
  have main : ∀ u : State, u = ((s.queueRec (s.record e)).attribute e).act e → u = { s with
      errs := u.errs, out := u.out, grids := u.grids, queues := u.queues, mboxCmd := u.mboxCmd, contexts := u.contexts, cores := u.cores
      recov := u.recov } := by
    intro u hu
    rw [State.act_frame, State.attribute_frame, State.queueRec_frame] at hu
    rw [hu]
  unfold State.raise
  dsimp only
  split
  · split
    · rfl
    · split
      · rfl
      · exact main _ rfl
  · split
    · rfl
    · exact main _ rfl

end Sys2Proof.Machine
end

