-- ==== Sys2Proof/Laws/Fits.lean ====
section
/-!
SUPPORT. What every operation of the machine keeps: the command queue, the permanent fuses, and the canonical form of the memories.
One lemma per operation follows, in the files Laws/Fits*.lean.
-/
namespace Sys2Proof.Machine

/-- The queue and the fuses that a state is measured against. -/
structure Stem where
  pending : List Instr
  fuses : Fuses

/-- The parts that the operations keep, against a stem. -/
def fits (z : Stem) (p : List Instr) (f : Fuses) (d h : Mem) (cs : Table Core) : Prop :=
  p = z.pending ∧ z.fuses.SameModule f ∧ Memory.wf d = true ∧ Memory.wf h = true ∧ ∀ e ∈ cs, Memory.wf e.2.spad = true

/-- A state has its queue and its permanent fuses as the stem says, and memories in canonical form. -/
def State.Fits (s : State) (z : Stem) : Prop := fits z s.pending s.fuses s.dram s.hostMem s.cores

/-- Only the parts named matter. -/
@[simp] theorem State.mk_fits {z : Stem} {x0 x1 x2 x3 x4 x5 x6 x7 x8 x9 x10 x11 x12 x13 x14 x15 x16 x17 x18 x19 x20 x21 x22 x23 x24 x25 x26 x27 x28 x29 x30 x31 x32 x33 x34 x35 x36} :
    (State.mk x0 x1 x2 x3 x4 x5 x6 x7 x8 x9 x10 x11 x12 x13 x14 x15 x16 x17 x18 x19 x20 x21 x22 x23 x24 x25 x26 x27 x28 x29 x30 x31 x32 x33 x34 x35 x36).Fits z ↔
      fits z x36 x2 x24 x25 x22 := Iff.rfl

/-- The parts of a state that fits. -/
@[simp] theorem State.Fits.parts {z : Stem} {s : State} (h : s.Fits z) : fits z s.pending s.fuses s.dram s.hostMem s.cores := h

/-- A state whose memories are in canonical form fits itself. -/
theorem State.fits_self {s : State} (h : s.MemoriesOk) : s.Fits ⟨s.pending, s.fuses⟩ :=
  ⟨rfl, ⟨rfl, rfl, rfl, rfl, rfl, rfl, le_refl _⟩, h⟩

variable {z : Stem}

/-- Writing DRAM. -/
@[simp] theorem fits_dram_write {p f d h cs} (a : Nat) (bs : List Byte) (hs : fits z p f d h cs) : fits z p f (memWriteN d a bs) h cs :=
  ⟨hs.1, hs.2.1, memWriteN_wf a bs hs.2.2.1, hs.2.2.2⟩

/-- Clearing DRAM. -/
@[simp] theorem fits_dram_clear {p f d h cs} (a n : Nat) (hs : fits z p f d h cs) : fits z p f (memClear d a n) h cs :=
  ⟨hs.1, hs.2.1, memClear_wf a n hs.2.2.1, hs.2.2.2⟩

/-- Copying into DRAM. -/
@[simp] theorem fits_dram_copy {p f d h cs} (src : Mem) (a b n : Nat) (hs : fits z p f d h cs) : fits z p f (memCopy src a d b n) h cs :=
  ⟨hs.1, hs.2.1, memCopy_wf src a b n hs.2.2.1, hs.2.2.2⟩

/-- Writing host memory. -/
@[simp] theorem fits_host_write {p f d h cs} (a : Nat) (bs : List Byte) (hs : fits z p f d h cs) : fits z p f d (memWriteN h a bs) cs :=
  ⟨hs.1, hs.2.1, hs.2.2.1, memWriteN_wf a bs hs.2.2.2.1, hs.2.2.2.2⟩

/-- Copying into host memory. -/
@[simp] theorem fits_host_copy {p f d h cs} (src : Mem) (a b n : Nat) (hs : fits z p f d h cs) : fits z p f d (memCopy src a h b n) cs :=
  ⟨hs.1, hs.2.1, hs.2.2.1, memCopy_wf src a b n hs.2.2.2.1, hs.2.2.2.2⟩

/-- A core's scratchpad is in canonical form. -/
@[simp] theorem fits_spad {p f d h cs} (k : Nat) (hs : fits z p f d h cs) : Memory.wf (tget cs k ({} : Core)).spad = true := by
  rcases tget_mem cs k ({} : Core) with e | e
  · rw [e]; rfl
  · exact hs.2.2.2.2 _ e

/-- Setting a core whose scratchpad is in canonical form. -/
@[simp] theorem fits_cores {p f d h cs} (k : Nat) (x : Core) (hx : Memory.wf x.spad = true) (hs : fits z p f d h cs) :
    fits z p f d h (tset cs k x) := by
  refine ⟨hs.1, hs.2.1, hs.2.2.1, hs.2.2.2.1, fun e he => ?_⟩
  rcases mem_tset he with h | h
  · rw [h]; exact hx
  · exact hs.2.2.2.2 e h

/-- Changing every core without touching its scratchpad's canonical form. -/
@[simp] theorem fits_cores_map {p f d h} {cs : Table Core} (g : Nat × Core → Nat × Core) (hg : ∀ e, Memory.wf e.2.spad = true → Memory.wf (g e).2.spad = true)
    (hs : fits z p f d h cs) : fits z p f d h (cs.map g) := by
  refine ⟨hs.1, hs.2.1, hs.2.2.1, hs.2.2.2.1, fun e he => ?_⟩
  obtain ⟨x, hx, rfl⟩ := List.mem_map.mp he
  exact hg x (hs.2.2.2.2 x hx)

/-- A choice of two states. -/
@[simp] theorem ite_fits (c : Prop) [Decidable c] {s t : State} (hs : s.Fits z) (ht : t.Fits z) : (if c then s else t).Fits z := by
  split <;> assumption

/-- A fold whose step keeps the form. -/
@[simp] theorem foldl_fits {α : Type} (l : List α) (f : State → α → State) (s : State) (hf : ∀ s x, s.Fits z → (f s x).Fits z) (hs : s.Fits z) :
    (l.foldl f s).Fits z := by
  induction l generalizing s with
  | nil => exact hs
  | cons x l ih => exact ih (f s x) (hf s x hs)

/-- The same of a fold from the right. -/
@[simp] theorem foldr_fits {α : Type} (l : List α) (f : α → State → State) (s : State) (hf : ∀ x s, s.Fits z → (f x s).Fits z)
    (hs : s.Fits z) : (l.foldr f s).Fits z := by
  induction l with
  | nil => exact hs
  | cons x l ih => exact hf x _ ih

/-- A fold over a pair whose state part keeps the form. -/
@[simp] theorem foldl_fits_snd {α β : Type} (l : List α) (f : β × State → α → β × State) (s : β × State)
    (hf : ∀ s x, s.2.Fits z → (f s x).2.Fits z) (hs : s.2.Fits z) : (l.foldl f s).2.Fits z := by
  induction l generalizing s with
  | nil => exact hs
  | cons x l ih => exact ih (f s x) (hf s x hs)

end Sys2Proof.Machine
end

