-- ==== Sys2Proof/Laws/FitsOps.lean ====
section
/-!
SUPPORT. The operations of Ops.lean keep the queue, the permanent fuses and the form of the memories.
-/
namespace Sys2Proof.Machine

variable {z : Stem}

@[simp] theorem State.setCtx_fits (s : State) (c : Nat) (x3 : Context) (hs : s.Fits z) :
    (State.setCtx s c x3).Fits z := by
  simp +contextual (maxDischargeDepth := 50) [State.setCtx, *]

@[simp] theorem State.modCtx_fits (s : State) (c : Nat) (f : Context → Context) (hs : s.Fits z) :
    (State.modCtx s c f).Fits z := by
  simp +contextual (maxDischargeDepth := 50) [State.modCtx, *]

@[simp] theorem State.setQueue_fits (s : State) (q : Nat) (x3 : Queue) (hs : s.Fits z) :
    (State.setQueue s q x3).Fits z := by
  simp +contextual (maxDischargeDepth := 50) [State.setQueue, *]

@[simp] theorem State.modQueue_fits (s : State) (q : Nat) (f : Queue → Queue) (hs : s.Fits z) :
    (State.modQueue s q f).Fits z := by
  simp +contextual (maxDischargeDepth := 50) [State.modQueue, *]

@[simp] theorem State.setCore_fits (s : State) (k : Nat) (x : Core) (hx : Memory.wf x.spad = true) (hs : s.Fits z) :
    (s.setCore k x).Fits z := fits_cores k x hx hs


@[simp] theorem State.modCore_fits (s : State) (k : Nat) (f : Core → Core)
    (hf : ∀ c, Memory.wf c.spad = true → Memory.wf (f c).spad = true) (hs : s.Fits z) : (s.modCore k f).Fits z :=
  State.setCore_fits s k _ (hf _ (fits_spad k hs)) hs


@[simp] theorem State.setCluster_fits (s : State) (r : Nat) (x3 : Cluster) (hs : s.Fits z) :
    (State.setCluster s r x3).Fits z := by
  simp +contextual (maxDischargeDepth := 50) [State.setCluster, *]

@[simp] theorem State.modCluster_fits (s : State) (r : Nat) (f : Cluster → Cluster) (hs : s.Fits z) :
    (State.modCluster s r f).Fits z := by
  simp +contextual (maxDischargeDepth := 50) [State.modCluster, *]

@[simp] theorem State.setPort_fits (s : State) (p : Nat) (x3 : Port) (hs : s.Fits z) :
    (State.setPort s p x3).Fits z := by
  simp +contextual (maxDischargeDepth := 50) [State.setPort, *]

@[simp] theorem State.modPort_fits (s : State) (p : Nat) (f : Port → Port) (hs : s.Fits z) :
    (State.modPort s p f).Fits z := by
  simp +contextual (maxDischargeDepth := 50) [State.modPort, *]

@[simp] theorem State.setGroup_fits (s : State) (g : Nat) (x3 : Group) (hs : s.Fits z) :
    (State.setGroup s g x3).Fits z := by
  simp +contextual (maxDischargeDepth := 50) [State.setGroup, *]

@[simp] theorem State.modGroup_fits (s : State) (g : Nat) (f : Group → Group) (hs : s.Fits z) :
    (State.modGroup s g f).Fits z := by
  simp +contextual (maxDischargeDepth := 50) [State.modGroup, *]

@[simp] theorem State.modStack_fits (s : State) (k : Nat) (f : Stack → Stack) (hs : s.Fits z) :
    (State.modStack s k f).Fits z := by
  simp +contextual (maxDischargeDepth := 50) [State.modStack, *]

@[simp] theorem State.modInbox_fits (s : State) (i : Nat) (f : Inbox → Inbox) (hs : s.Fits z) :
    (State.modInbox s i f).Fits z := by
  simp +contextual (maxDischargeDepth := 50) [State.modInbox, *]

@[simp] theorem State.modGrid_fits (s : State) (g : Nat) (f : Grid → Grid) (hs : s.Fits z) :
    (State.modGrid s g f).Fits z := by
  simp +contextual (maxDischargeDepth := 50) [State.modGrid, *]

@[simp] theorem State.modSlice_fits (s : State) (n : Nat) (f : Slice → Slice) (hs : s.Fits z) :
    (State.modSlice s n f).Fits z := by
  simp +contextual (maxDischargeDepth := 50) [State.modSlice, *]

@[simp] theorem State.modHome_fits (s : State) (f : Home → Home) (hs : s.Fits z) :
    (State.modHome s f).Fits z := by
  simp +contextual (maxDischargeDepth := 50) [State.modHome, *]

@[simp] theorem State.modFabric_fits (s : State) (f : Fabric → Fabric) (hs : s.Fits z) :
    (State.modFabric s f).Fits z := by
  simp +contextual (maxDischargeDepth := 50) [State.modFabric, *]

@[simp] theorem State.modRecov_fits (s : State) (f : Recov → Recov) (hs : s.Fits z) :
    (State.modRecov s f).Fits z := by
  simp +contextual (maxDischargeDepth := 50) [State.modRecov, *]

@[simp] theorem State.modErrs_fits (s : State) (f : Errors → Errors) (hs : s.Fits z) :
    (State.modErrs s f).Fits z := by
  simp +contextual (maxDischargeDepth := 50) [State.modErrs, *]

@[simp] theorem State.modBoot_fits (s : State) (f : Boot → Boot) (hs : s.Fits z) :
    (State.modBoot s f).Fits z := by
  simp +contextual (maxDischargeDepth := 50) [State.modBoot, *]

@[simp] theorem State.modPower_fits (s : State) (f : Power → Power) (hs : s.Fits z) :
    (State.modPower s f).Fits z := by
  simp +contextual (maxDischargeDepth := 50) [State.modPower, *]

@[simp] theorem State.modDatum_fits (s : State) (f : Datum → Datum) (hs : s.Fits z) :
    (State.modDatum s f).Fits z := by
  simp +contextual (maxDischargeDepth := 50) [State.modDatum, *]

@[simp] theorem State.emit_fits (s : State) (o : Out) (hs : s.Fits z) :
    (State.emit s o).Fits z := by
  simp +contextual (maxDischargeDepth := 50) [State.emit, *]

@[simp] theorem State.draw_fits (s : State) (hs : s.Fits z) :
    (State.draw s).2.Fits z := by
  simp +contextual (maxDischargeDepth := 50) [State.draw, *]

@[simp] theorem State.drawBytes_fits (s : State) (n : Nat) (hs : s.Fits z) :
    (State.drawBytes s n).2.Fits z := by
  simp +contextual (maxDischargeDepth := 50) [State.drawBytes, *]

@[simp] theorem State.trace_fits (s : State) (hs : s.Fits z) :
    (State.trace s).Fits z := by
  simp +contextual (maxDischargeDepth := 50) [State.trace, *]

@[simp] theorem State.alarm_fits (s : State) (r : ErrRec) (hs : s.Fits z) :
    (State.alarm s r).Fits z := by
  simp +contextual (maxDischargeDepth := 50) [State.alarm, *]

@[simp] theorem State.queueRec_fits (s : State) (r : ErrRec) (hs : s.Fits z) :
    (State.queueRec s r).Fits z := by
  simp +contextual (maxDischargeDepth := 50) [State.queueRec, *]

@[simp] theorem drainAlarms_fits (n : Nat) (s : State) (hs : s.Fits z) : (drainAlarms n s).Fits z := by
  induction n generalizing s with
  | zero => exact hs
  | succ n ih =>
    unfold drainAlarms
    repeat' split
    all_goals first | assumption | (apply ih; simp +contextual (maxDischargeDepth := 50) [*])


@[simp] theorem State.freezeCtx_fits (s : State) (c : Nat) (hs : s.Fits z) :
    (State.freezeCtx s c).Fits z := by
  simp +contextual (maxDischargeDepth := 50) [State.freezeCtx, *]

@[simp] theorem State.askCtxReset_fits (s : State) (c : Nat) (code : Nat) (hs : s.Fits z) :
    (State.askCtxReset s c code).Fits z := by
  simp +contextual (maxDischargeDepth := 50) [State.askCtxReset, *]

@[simp] theorem State.askCoreReset_fits (s : State) (k : Nat) (code : Nat) (hs : s.Fits z) :
    (State.askCoreReset s k code).Fits z := by
  simp +contextual (maxDischargeDepth := 50) [State.askCoreReset, *]

@[simp] theorem State.askStop_fits (s : State) (code : Nat) (hs : s.Fits z) :
    (State.askStop s code).Fits z := by
  simp +contextual (maxDischargeDepth := 50) [State.askStop, *]

@[simp] theorem State.askRestart_fits (s : State) (p : Proc) (hs : s.Fits z) :
    (State.askRestart s p).Fits z := by
  unfold State.askRestart
  try dsimp only
  repeat' first | (simp +contextual (maxDischargeDepth := 50) [*]; done) | split

@[simp] theorem State.act_fits (s : State) (e : ErrSpec) (hs : s.Fits z) :
    (State.act s e).Fits z := by
  simp only [State.act]
  repeat' split
  all_goals first | assumption | simp +contextual (maxDischargeDepth := 50) [*]

@[simp] theorem State.attribute_fits (s : State) (e : ErrSpec) (hs : s.Fits z) :
    (State.attribute s e).Fits z := by
  unfold State.attribute
  try dsimp only
  repeat' first | (simp +contextual (maxDischargeDepth := 50) [*]; done) | split

@[simp] theorem State.mergeCtx_fits (s : State) (c : Nat) (code : Nat) (retire : Option Nat) (hs : s.Fits z) :
    (State.mergeCtx s c code retire).Fits z := by
  simp +contextual (maxDischargeDepth := 50) [State.mergeCtx, *]

@[simp] theorem State.mergeCore_fits (s : State) (k : Nat) (code : Nat) (hs : s.Fits z) :
    (State.mergeCore s k code).Fits z := by
  simp +contextual (maxDischargeDepth := 50) [State.mergeCore, *]

@[simp] theorem State.raise_fits (s : State) (e : ErrSpec) (hs : s.Fits z) :
    (State.raise s e).Fits z := by
  unfold State.raise
  try dsimp only
  repeat' first | (simp +contextual (maxDischargeDepth := 50) [*]; done) | split

@[simp] theorem State.watchStack_fits (s : State) (k : Nat) (hs : s.Fits z) :
    (State.watchStack s k).Fits z := by
  unfold State.watchStack
  try dsimp only
  repeat' first | (simp +contextual (maxDischargeDepth := 50) [*]; done) | split

@[simp] theorem State.raiseAll_fits (s : State) (es : List ErrSpec) (hs : s.Fits z) :
    (State.raiseAll s es).Fits z := by
  simp +contextual (maxDischargeDepth := 50) [State.raiseAll, *]

@[simp] theorem State.moved_fits (s : State) (a : Nat) (n : Nat) (hs : s.Fits z) :
    (State.moved s a n).Fits z := by
  simp +contextual (maxDischargeDepth := 50) [State.moved, *]

@[simp] theorem State.putDram_fits (s : State) (a : Nat) (bs : List Byte) (hs : s.Fits z) :
    (State.putDram s a bs).Fits z := by
  simp +contextual (maxDischargeDepth := 50) [State.putDram, *]

@[simp] theorem State.putHost_fits (s : State) (a : Nat) (bs : List Byte) (hs : s.Fits z) :
    (State.putHost s a bs).Fits z := by
  simp +contextual (maxDischargeDepth := 50) [State.putHost, *]

@[simp] theorem State.modParcel_fits (s : State) (job : BitVec 16) (pn : Nat) (f : HomeParcel → HomeParcel) (hs : s.Fits z) :
    (State.modParcel s job pn f).Fits z := by
  simp +contextual (maxDischargeDepth := 50) [State.modParcel, *]

@[simp] theorem State.replyHere_fits (s : State) (c : Nat) (a : Nat) (bs : List Byte) (att : Attrib) (hs : s.Fits z) :
    (State.replyHere s c a bs att).Fits z := by
  unfold State.replyHere
  try dsimp only
  repeat' first | (simp +contextual (maxDischargeDepth := 50) [*]; done) | split

@[simp] theorem State.writeReply_fits (s : State) (c : Cmd) (status : Nat) (detail : Nat) (result : List Byte) (hs : s.Fits z) :
    (State.writeReply s c status detail result).Fits z := by
  unfold State.writeReply
  try dsimp only
  repeat' split
  all_goals simp +contextual (maxDischargeDepth := 50) [*]

@[simp] theorem State.finish_fits (s : State) (c : Cmd) (status : Nat) (detail : Nat) (result : List Byte) (hs : s.Fits z) :
    (State.finish s c status detail result).Fits z := by
  unfold State.finish
  try dsimp only
  repeat' first | (simp +contextual (maxDischargeDepth := 50) [*]; done) | split

@[simp] theorem State.ok_fits (s : State) (c : Cmd) (result : optParam (List Byte) []) (hs : s.Fits z) :
    (State.ok s c result).Fits z := by
  simp +contextual (maxDischargeDepth := 50) [State.ok, *]

@[simp] theorem State.badParam_fits (s : State) (c : Cmd) (hs : s.Fits z) :
    (State.badParam s c).Fits z := by
  simp +contextual (maxDischargeDepth := 50) [State.badParam, *]

@[simp] theorem State.status_fits (s : State) (c : Cmd) (st : Nat) (hs : s.Fits z) :
    (State.status s c st).Fits z := by
  simp +contextual (maxDischargeDepth := 50) [State.status, *]

@[simp] theorem State.modCmd_fits (s : State) (src : CmdSource) (f : Cmd → Cmd) (hs : s.Fits z) :
    (State.modCmd s src f).Fits z := by
  simp only [State.modCmd]
  repeat' split
  all_goals first | assumption | simp +contextual (maxDischargeDepth := 50) [*]

@[simp] theorem State.smbus_fits (s : State) (answers : Bool) (eff : State → State) (hs : s.Fits z) (heff : ∀ y1, y1.Fits z → (eff y1).Fits z) :
    (State.smbus s answers eff).Fits z := by
  unfold State.smbus
  try dsimp only
  repeat' split
  all_goals first | assumption | simp +contextual (maxDischargeDepth := 50) [*]

end Sys2Proof.Machine
end

