-- ==== Sys2Proof/Laws/FitsHomeOps.lean ====
section
/-!
SUPPORT. The operations of HomeOps.lean keep the queue, the permanent fuses and the form of the memories.
-/
namespace Sys2Proof.Machine

variable {z : Stem}

@[simp] theorem State.modEntry_fits (s : State) (job : BitVec 16) (pn : Nat) (f : CadEntry → CadEntry) (hs : s.Fits z) :
    (State.modEntry s job pn f).Fits z := by
  simp +contextual (maxDischargeDepth := 50) [State.modEntry, *]

@[simp] theorem State.touchBearing_fits (s : State) (b : Bearing) (hs : s.Fits z) :
    (State.touchBearing s b).Fits z := by
  simp +contextual (maxDischargeDepth := 50) [State.touchBearing, *]

@[simp] theorem State.putBearing_fits (s : State) (job : BitVec 16) (pn : Nat) (home : BitVec 15) (frame : BitVec 18) (gen : BitVec 16) (attr : Byte) (hs : s.Fits z) :
    (State.putBearing s job pn home frame gen attr).Fits z := by
  unfold State.putBearing
  try dsimp only
  repeat' first | (simp +contextual (maxDischargeDepth := 50) [*]; done) | split

@[simp] theorem State.dropBearing_fits (s : State) (job : BitVec 16) (pn : Nat) (hs : s.Fits z) :
    (State.dropBearing s job pn).Fits z := by
  simp +contextual (maxDischargeDepth := 50) [State.dropBearing, *]

@[simp] theorem State.tally_fits (s : State) (c : Nat) (m : Made) (hs : s.Fits z) :
    (State.tally s c m).Fits z := by
  simp +contextual (maxDischargeDepth := 50) [State.tally, *]

@[simp] theorem State.countReq_fits (s : State) (job : BitVec 16) (pn : Nat) (module : Nat) (hs : s.Fits z) :
    (State.countReq s job pn module).Fits z := by
  simp +contextual (maxDischargeDepth := 50) [State.countReq, *]

@[simp] theorem State.pageOutOf_fits (s : State) (may : HomeParcel → Bool) (hs : s.Fits z) :
    (State.pageOutOf s may).Fits z := by
  unfold State.pageOutOf
  try dsimp only
  repeat' first | (simp +contextual (maxDischargeDepth := 50) [*]; done) | split

@[simp] theorem State.startPageOut_fits (s : State) (hs : s.Fits z) :
    (State.startPageOut s).Fits z := by
  simp only [State.startPageOut]
  repeat' split
  all_goals first | assumption | simp +contextual (maxDischargeDepth := 50) [*]

@[simp] theorem pageOuts_fits (n : Nat) (s : State) (hs : s.Fits z) : (pageOuts n s).Fits z := by
  induction n generalizing s with
  | zero => exact hs
  | succ n ih =>
    unfold pageOuts
    repeat' split
    all_goals first | exact hs | (apply ih; simp +contextual (maxDischargeDepth := 50) [*])

@[simp] theorem State.beginPageIn_fits (s : State) (job : BitVec 16) (pn : Nat) (hs : s.Fits z) :
    (State.beginPageIn s job pn).Fits z := by
  unfold State.beginPageIn
  try dsimp only
  repeat' first | (simp +contextual (maxDischargeDepth := 50) [*]; done) | split

@[simp] theorem State.framesFreed_fits (s : State) (hs : s.Fits z) :
    (State.framesFreed s).Fits z := by
  unfold State.framesFreed
  try dsimp only
  repeat' first | (simp +contextual (maxDischargeDepth := 50) [*]; done) | split

@[simp] theorem State.cancelPageOut_fits (s : State) (job : BitVec 16) (pn : Nat) (hs : s.Fits z) :
    (State.cancelPageOut s job pn).Fits z := by
  simp only [State.cancelPageOut]
  repeat' split
  all_goals first | assumption | simp +contextual (maxDischargeDepth := 50) [*]

@[simp] theorem State.poke_fits (s : State) (job : BitVec 16) (va : Nat) (hs : s.Fits z) :
    (State.poke s job va).Fits z := by
  simp only [State.poke]
  repeat' split
  all_goals first | assumption | simp +contextual (maxDischargeDepth := 50) [*]

@[simp] theorem State.performAt_fits (s : State) (r : Request) (hs : s.Fits z) :
    (State.performAt s r).2.Fits z := by
  unfold State.performAt
  try dsimp only
  repeat' first | (simp +contextual (maxDischargeDepth := 50) [*]; done) | split

@[simp] theorem State.slackOn_fits (s : State) (r : Request) (hs : s.Fits z) :
    (State.slackOn s r).Fits z := by
  simp only [State.slackOn]
  repeat' split
  all_goals first | assumption | simp +contextual (maxDischargeDepth := 50) [*]

@[simp] theorem State.owe_fits (s : State) (port : Nat) (pool : Nat) (n : Nat) (hs : s.Fits z) :
    (State.owe s port pool n).Fits z := by
  simp +contextual (maxDischargeDepth := 50) [State.owe, *]

@[simp] theorem State.inject_fits (s : State) (p : Packet) (hs : s.Fits z) :
    (State.inject s p).Fits z := by
  simp +contextual (maxDischargeDepth := 50) [State.inject, *]

@[simp] theorem State.forwardReq_fits (s : State) (r : Request) (home : BitVec 15) (hs : s.Fits z) :
    (State.forwardReq s r home).Fits z := by
  unfold State.forwardReq
  try dsimp only
  repeat' first | (simp +contextual (maxDischargeDepth := 50) [*]; done) | split

@[simp] theorem State.holdReq_fits (s : State) (r : Request) (hs : s.Fits z) :
    (State.holdReq s r).Fits z := by
  unfold State.holdReq
  try dsimp only
  repeat' first | (simp +contextual (maxDischargeDepth := 50) [*]; done) | split

@[simp] theorem State.holdOrRetry_fits (s : State) (r : Request) (hs : s.Fits z) :
    (State.holdOrRetry s r).2.Fits z := by
  unfold State.holdOrRetry
  try dsimp only
  repeat' first | (simp +contextual (maxDischargeDepth := 50) [*]; done) | split

@[simp] theorem State.serve_fits (s : State) (r : Request) (hs : s.Fits z) :
    (State.serve s r).2.Fits z := by
  unfold State.serve
  try dsimp only
  repeat' first | (simp +contextual (maxDischargeDepth := 50) [*]; done) | split


@[simp] theorem State.performHeld_fits (s : State) (r : Request) (hs : s.Fits z) :
    (State.performHeld s r).2.Fits z := by
  unfold State.performHeld
  try dsimp only
  repeat' first | (simp +contextual (maxDischargeDepth := 50) [*]; done) | split

@[simp] theorem State.freeFrame_fits (s : State) (frame : Nat) (hs : s.Fits z) :
    (State.freeFrame s frame).Fits z := by
  simp +contextual (maxDischargeDepth := 50) [State.freeFrame, *]

@[simp] theorem State.placeHere_fits (s : State) (job : BitVec 16) (pn : Nat) (attr : Byte) (gen : BitVec 16) (pinned : Bool) (hs : s.Fits z) :
    (State.placeHere s job pn attr gen pinned).Fits z := by
  simp +contextual (maxDischargeDepth := 50) [State.placeHere, *]

@[simp] theorem State.grantFrame_fits (s : State) (job : BitVec 16) (pn : Nat) (frame : BitVec 18) (gen : BitVec 16) (attr : Byte) (hs : s.Fits z) :
    (State.grantFrame s job pn frame gen attr).Fits z := by
  simp +contextual (maxDischargeDepth := 50) [State.grantFrame, *]

@[simp] theorem State.materialise_fits (s : State) (job : BitVec 16) (pn : Nat) (toucher : Nat) (fab : Fab) (hs : s.Fits z) :
    (State.materialise s job pn toucher fab).2.Fits z := by
  unfold State.materialise
  try dsimp only
  repeat' first | (simp +contextual (maxDischargeDepth := 50) [*]; done) | split

@[simp] theorem State.pageIn_fits (s : State) (job : BitVec 16) (pn : Nat) (hs : s.Fits z) :
    (State.pageIn s job pn).Fits z := by
  unfold State.pageIn
  try dsimp only
  repeat' first | (simp +contextual (maxDischargeDepth := 50) [*]; done) | split


@[simp] theorem State.storeFailed_fits (s : State) (c : Nat) (hs : s.Fits z) :
    (State.storeFailed s c).Fits z := by
  simp +contextual (maxDischargeDepth := 50) [State.storeFailed, *]


end Sys2Proof.Machine
end

