-- ==== Sys2Proof/Laws/FitsMemPath.lean ====
section
/-!
SUPPORT. The operations of MemPath.lean keep the queue, the permanent fuses and the form of the memories.
-/
namespace Sys2Proof.Machine

variable {z : Stem}

@[simp] theorem State.advanceGen_fits (s : State) (rank : Nat) (hs : s.Fits z) :
    (State.advanceGen s rank).Fits z := by
  simp +contextual (maxDischargeDepth := 50) [State.advanceGen, *]

@[simp] theorem State.moveMark_fits (s : State) (k : Nat) (hs : s.Fits z) :
    (State.moveMark s k).Fits z := by
  simp +contextual (maxDischargeDepth := 50) [State.moveMark, *]

@[simp] theorem State.count_fits (s : State) (k : Nat) (i : Nat) (n : Nat) (hs : s.Fits z) :
    (State.count s k i n).Fits z := by
  simp +contextual (maxDischargeDepth := 50) [State.count, *]

@[simp] theorem State.modAccesses_fits (s : State) (p : Access → Bool) (g : Access → Access) (hs : s.Fits z) :
    (State.modAccesses s p g).Fits z := by
  unfold State.modAccesses
  try dsimp only
  repeat' first | (simp +contextual (maxDischargeDepth := 50) [*]; done) | split

@[simp] theorem State.hoardStore_fits (s : State) (rank : Nat) (c : Nat) (va : Nat) (bs : List Byte) (hs : s.Fits z) :
    (State.hoardStore s rank c va bs).Fits z := by
  simp +contextual (maxDischargeDepth := 50) [State.hoardStore, *]

@[simp] theorem State.hoardDrop_fits (s : State) (rank : Nat) (c : Nat) (va : Nat) (hs : s.Fits z) :
    (State.hoardDrop s rank c va).Fits z := by
  simp +contextual (maxDischargeDepth := 50) [State.hoardDrop, *]

@[simp] theorem State.modAccess_fits (s : State) (id : Nat) (f : Access → Access) (hs : s.Fits z) :
    (State.modAccess s id f).Fits z := by
  simp +contextual (maxDischargeDepth := 50) [State.modAccess, *]

@[simp] theorem State.dropAccess_fits (s : State) (id : Nat) (hs : s.Fits z) :
    (State.dropAccess s id).Fits z := by
  simp +contextual (maxDischargeDepth := 50) [State.dropAccess, *]

@[simp] theorem State.sendTo_fits (s : State) (a : Access) (home : BitVec 15) (frame : BitVec 18) (gen : BitVec 16) (hs : s.Fits z) :
    (State.sendTo s a home frame gen).Fits z := by
  unfold State.sendTo
  try dsimp only
  repeat' first | (simp +contextual (maxDischargeDepth := 50) [*]; done) | split

@[simp] theorem State.lookup_fits (s : State) (a : Access) (hs : s.Fits z) :
    (State.lookup s a).Fits z := by
  unfold State.lookup
  try dsimp only
  repeat' split
  all_goals first | assumption | simp +contextual (maxDischargeDepth := 50) [*]

@[simp] theorem State.route_fits (s : State) (a : Access) (hs : s.Fits z) :
    (State.route s a).Fits z := by
  unfold State.route
  try dsimp only
  repeat' first | (simp +contextual (maxDischargeDepth := 50) [*]; done) | split

@[simp] theorem State.addAccess_fits (s : State) (ctx : Nat) (rank : Nat) (req : Request) (p : Purpose) (bypass : Bool) (hs : s.Fits z) :
    (State.addAccess s ctx rank req p bypass).2.Fits z := by
  simp +contextual (maxDischargeDepth := 50) [State.addAccess, *]

@[simp] theorem State.missed_fits (s : State) (a : Access) (own : List (Nat × List Byte)) (hs : s.Fits z) :
    (State.missed s a own).Fits z := by
  unfold State.missed
  try dsimp only
  repeat' first | (simp +contextual (maxDischargeDepth := 50) [*]; done) | split

@[simp] theorem State.putSpad_fits (s : State) (k : Nat) (a : Nat) (bs : List Byte) (hs : s.Fits z) :
    (State.putSpad s k a bs).Fits z := by
  simp +contextual (maxDischargeDepth := 50) [State.putSpad, *]

@[simp] theorem State.modLoad_fits (s : State) (k : Nat) (id : Nat) (f : Load → Load) (hs : s.Fits z) :
    (State.modLoad s k id f).Fits z := by
  simp +contextual (maxDischargeDepth := 50) [State.modLoad, *]

@[simp] theorem State.landPiece_fits (s : State) (k : Nat) (id : Nat) (spad : Nat) (bs : List Byte) (hs : s.Fits z) :
    (State.landPiece s k id spad bs).Fits z := by
  unfold State.landPiece
  try dsimp only
  repeat' first | (simp +contextual (maxDischargeDepth := 50) [*]; done) | split

@[simp] theorem State.coreFault_fits (s : State) (k : Nat) (epoch : Nat) (e : ErrSpec) (hs : s.Fits z) :
    (State.coreFault s k epoch e).Fits z := by
  simp +contextual (maxDischargeDepth := 50) [State.coreFault, *]


@[simp] theorem State.fillLine_fits (s : State) (a : Access) (data : List Byte) (prefetch : Bool) (hs : s.Fits z) :
    (State.fillLine s a data prefetch).Fits z := by
  unfold State.fillLine
  try dsimp only
  repeat' first | (simp +contextual (maxDischargeDepth := 50) [*]; done) | split

@[simp] theorem State.loadFixed_fits (s : State) (k : Nat) (id : Nat) (hs : s.Fits z) :
    (State.loadFixed s k id).Fits z := by
  unfold State.loadFixed
  try dsimp only
  repeat' first | (simp +contextual (maxDischargeDepth := 50) [*]; done) | split

@[simp] theorem State.loadData_fits (s : State) (a : Access) (k : Nat) (id : Nat) (pieces : List Piece) (data : List Byte) (hs : s.Fits z) :
    (State.loadData s a k id pieces data).Fits z := by
  unfold State.loadData
  have h : ∀ b, (State.fillLine s a data b).Fits z := fun b => by simp [hs]
  try dsimp only
  split
  · exact h _
  · exact foldl_fits _ _ _ (fun s p hs => State.landPiece_fits _ _ _ _ _ hs) (State.loadFixed_fits _ _ _ (h _))

@[simp] theorem State.loadFailed_fits (s : State) (a : Access) (k : Nat) (id : Nat) (pieces : List Piece) (e : ErrSpec) (hs : s.Fits z) :
    (State.loadFailed s a k id pieces e).Fits z := by
  unfold State.loadFailed
  try dsimp only
  repeat' first | (simp +contextual (maxDischargeDepth := 50) [*]; done) | split

@[simp] theorem State.drainOne_fits (s : State) (dead : Bool) (hs : s.Fits z) :
    (State.drainOne s dead).Fits z := by
  unfold State.drainOne
  try dsimp only
  repeat' first | (simp +contextual (maxDischargeDepth := 50) [*]; done) | split

@[simp] theorem State.drainPiece_fits (s : State) (k : Nat) (seq : Nat) (dead : Bool) (hs : s.Fits z) :
    (State.drainPiece s k seq dead).Fits z := by
  unfold State.drainPiece
  try dsimp only
  repeat' first | (simp +contextual (maxDischargeDepth := 50) [*]; done) | split

@[simp] theorem State.joinedAway_fits (s : State) (a : Access) (hs : s.Fits z) :
    (State.joinedAway s a).Fits z := by
  have h := State.draw_fits s hs
  unfold State.joinedAway
  split
  · exact ite_fits _ (State.modCtx_fits _ _ _ h) h
  · exact hs

@[simp] theorem State.settle_fits (s : State) (a : Access) (data : Option (List Byte)) (e : ErrSpec) (hs : s.Fits z) :
    (State.settle s a data e).Fits z := by
  unfold State.settle
  try dsimp only
  repeat' first | (simp +contextual (maxDischargeDepth := 50) [*]; done) | split

@[simp] theorem State.startLoad_fits (s : State) (a : Access) (hs : s.Fits z) :
    (State.startLoad s a).Fits z := by
  unfold State.startLoad
  try dsimp only
  repeat' first | (simp +contextual (maxDischargeDepth := 50) [*]; done) | split

@[simp] theorem State.invalidateHere_fits (s : State) (job : BitVec 16) (a : Nat) (n : Nat) (hs : s.Fits z) :
    (State.invalidateHere s job a n).Fits z := by
  unfold State.invalidateHere
  try dsimp only
  repeat' first | (simp +contextual (maxDischargeDepth := 50) [*]; done) | split

@[simp] theorem State.issueInval_fits (s : State) (c : Nat) (a : Nat) (n : Nat) (cls : TClass) (issuer : Option (Nat × Nat)) (cmd : Option Nat) (hs : s.Fits z) :
    (State.issueInval s c a n cls issuer cmd).Fits z := by
  simp +contextual (maxDischargeDepth := 50) [State.issueInval, *]

@[simp] theorem State.sendStore_fits (s : State) (k : Nat) (h : HeldStore) (hs : s.Fits z) :
    (State.sendStore s k h).Fits z := by
  unfold State.sendStore
  try dsimp only
  repeat' first | (simp +contextual (maxDischargeDepth := 50) [*]; done) | split

/-- One thing that goes on keeps the form. -/
theorem State.pumpOne_fits (s : State) (k : Nat) (hs : s.Fits z) : ∀ t, s.pumpOne k = some t → t.Fits z := by
  intro t h
  unfold State.pumpOne at h
  dsimp only at h
  repeat' split at h
  all_goals first | contradiction | (cases h; simp +contextual (maxDischargeDepth := 50) [*])

@[simp] theorem pumpN_fits (k n : Nat) (s : State) (hs : s.Fits z) : (pumpN k n s).Fits z := by
  induction n generalizing s with
  | zero => exact hs
  | succ n ih =>
    unfold pumpN
    split
    · next t h => exact ih t (s.pumpOne_fits k hs t h)
    · exact hs


@[simp] theorem State.pump_fits (s : State) (k : Nat) (hs : s.Fits z) :
    (State.pump s k).Fits z := by
  simp +contextual (maxDischargeDepth := 50) [State.pump, *]

@[simp] theorem State.settleAndPump_fits (s : State) (a : Access) (data : Option (List Byte)) (e : ErrSpec) (hs : s.Fits z) :
    (State.settleAndPump s a data e).Fits z := by
  unfold State.settleAndPump
  try dsimp only
  repeat' first | (simp +contextual (maxDischargeDepth := 50) [*]; done) | split

@[simp] theorem State.resumeParcel_fits (s : State) (job : BitVec 16) (pn : Nat) (hs : s.Fits z) :
    (State.resumeParcel s job pn).Fits z := by
  simp +contextual (maxDischargeDepth := 50) [State.resumeParcel, *]

@[simp] theorem State.moreLookups_fits (s : State) (hs : s.Fits z) :
    (State.moreLookups s).Fits z := by
  simp +contextual (maxDischargeDepth := 50) [State.moreLookups, *]

end Sys2Proof.Machine
end

