-- ==== Sys2Proof/Laws/FitsStreams.lean ====
section
/-!
SUPPORT. The operations of Streams.lean keep the queue, the permanent fuses and the form of the memories.
-/
namespace Sys2Proof.Machine

variable {z : Stem}

@[simp] theorem State.issueAcc_fits (s : State) (k : Nat) (item : Option Nat) (hs : s.Fits z) :
    (State.issueAcc s k item).Fits z := by
  simp +contextual (maxDischargeDepth := 50) [State.issueAcc, *]

@[simp] theorem State.issueExe_fits (s : State) (k : Nat) (hs : s.Fits z) :
    (State.issueExe s k).Fits z := by
  simp +contextual (maxDischargeDepth := 50) [State.issueExe, *]

@[simp] theorem State.stallAcc_fits (s : State) (k : Nat) (x3 : StallKind) (hs : s.Fits z) :
    (State.stallAcc s k x3).Fits z := by
  simp +contextual (maxDischargeDepth := 50) [State.stallAcc, *]

@[simp] theorem State.stallExe_fits (s : State) (k : Nat) (x3 : StallKind) (hs : s.Fits z) :
    (State.stallExe s k x3).Fits z := by
  simp +contextual (maxDischargeDepth := 50) [State.stallExe, *]

@[simp] theorem State.accOr_fits (s : State) (k : Nat) (l : List (Bool × StallKind)) (eff : State) (hs : s.Fits z) (heff : eff.Fits z) :
    (State.accOr s k l eff).Fits z := by
  simp only [State.accOr]
  repeat' split
  all_goals first | assumption | simp +contextual (maxDischargeDepth := 50) [*]

@[simp] theorem State.exeOr_fits (s : State) (k : Nat) (l : List (Bool × StallKind)) (eff : State) (hs : s.Fits z) (heff : eff.Fits z) :
    (State.exeOr s k l eff).Fits z := by
  simp only [State.exeOr]
  repeat' split
  all_goals first | assumption | simp +contextual (maxDischargeDepth := 50) [*]

@[simp] theorem State.raiseRec_fits (s : State) (r : ErrRec) (att : Attrib) (hs : s.Fits z) :
    (State.raiseRec s r att).Fits z := by
  simp +contextual (maxDischargeDepth := 50) [State.raiseRec, *]

end Sys2Proof.Machine
end

