-- ==== Sys2Proof/Laws/FitsAccessStream.lean ====
section
/-!
SUPPORT. The operations of AccessStream.lean keep the queue, the permanent fuses and the form of the memories.
-/
namespace Sys2Proof.Machine

variable {z : Stem}

@[simp] theorem State.accGoto_fits (s : State) (k : Nat) (pc : Nat) (hs : s.Fits z) :
    (State.accGoto s k pc).Fits z := by
  simp +contextual (maxDischargeDepth := 50) [State.accGoto, *]

@[simp] theorem State.landPoison_fits (s : State) (k : Nat) (epoch : Nat) (hs : s.Fits z) :
    (State.landPoison s k epoch).Fits z := by
  unfold State.landPoison
  try dsimp only
  repeat' first | (simp +contextual (maxDischargeDepth := 50) [*]; done) | split

@[simp] theorem State.confirm_fits (s : State) (k : Nat) (e : Epoch) (hs : s.Fits z) :
    (State.confirm s k e).Fits z := by
  simp +contextual (maxDischargeDepth := 50) [State.confirm, *]

@[simp] theorem State.refute_fits (s : State) (k : Nat) (e : Epoch) (hs : s.Fits z) :
    (State.refute s k e).Fits z := by
  have hk : Memory.wf (s.core k).spad = true := fits_spad k hs
  unfold State.refute
  try dsimp only
  simp +contextual (maxDischargeDepth := 50) [*]

@[simp] theorem State.prefetchLine_fits (s : State) (k : Nat) (unit : Option Nat) (t : TileRun) (va : Nat) (hs : s.Fits z) :
    (State.prefetchLine s k unit t va).Fits z := by
  unfold State.prefetchLine
  try dsimp only
  repeat' first | (simp +contextual (maxDischargeDepth := 50) [*]; done) | split

@[simp] theorem State.prefetchLines_fits (s : State) (k : Nat) (unit : Option Nat) (t : TileRun) (vas : List Nat) (hs : s.Fits z) :
    (State.prefetchLines s k unit t vas).Fits z := by
  unfold State.prefetchLines
  try dsimp only
  repeat' first | (simp +contextual (maxDischargeDepth := 50) [*]; done) | split

@[simp] theorem State.train_fits (s : State) (k : Nat) (t : TileRun) (x4 : Site) (hs : s.Fits z) :
    (State.train s k t x4).Fits z := by
  simp +contextual (maxDischargeDepth := 50) [State.train, *]

@[simp] theorem addLoads_fits (k seq ctx rank : Nat) (bypass refresh : Bool) (t : TileRun) (l : List (Nat × List Piece)) (s : State)
    (hs : s.Fits z) : (addLoads k seq ctx rank bypass refresh t l s).Fits z := by
  induction l generalizing s with
  | nil => exact hs
  | cons g l ih => exact ih _ (by simp [*])


@[simp] theorem State.startLoads_fits (s : State) (k : Nat) (w : InstrWord) (x4 : LoadSpec) (groups : List (Nat × List Piece)) (hs : s.Fits z) :
    (State.startLoads s k w x4 groups).Fits z := by
  simp +contextual (maxDischargeDepth := 50) [State.startLoads, *]

@[simp] theorem State.loadStep_fits (s : State) (k : Nat) (w : InstrWord) (x4 : LoadSpec) (spad : Bool) (hs : s.Fits z) :
    (State.loadStep s k w x4 spad).Fits z := by
  unfold State.loadStep
  try dsimp only
  repeat' first | (simp +contextual (maxDischargeDepth := 50) [*]; done) | split

@[simp] theorem State.tallyOn_fits (s : State) (k : Nat) (epoch : Nat) (ctx : Nat) (m : Made) (hs : s.Fits z) :
    (State.tallyOn s k epoch ctx m).Fits z := by
  simp +contextual (maxDischargeDepth := 50) [State.tallyOn, *]

@[simp] theorem State.putHeld_fits (s : State) (k : Nat) (w : InstrWord) (reqs : List Request) (isInv : Bool) (isAtomic : Bool) (dest : Nat) (hs : s.Fits z) :
    (State.putHeld s k w reqs isInv isAtomic dest).Fits z := by
  simp +contextual (maxDischargeDepth := 50) [State.putHeld, *]

@[simp] theorem State.storeStep_fits (s : State) (k : Nat) (w : InstrWord) (rows : List (Nat × Nat × Nat)) (base : Nat) (len : Nat) (addr : Nat) (hs : s.Fits z) :
    (State.storeStep s k w rows base len addr).Fits z := by
  unfold State.storeStep
  try dsimp only
  repeat' first | (simp +contextual (maxDischargeDepth := 50) [*]; done) | split

@[simp] theorem State.fenceStep_fits (s : State) (k : Nat) (w : InstrWord) (kind : BarrierKind) (hs : s.Fits z) :
    (State.fenceStep s k w kind).Fits z := by
  simp +contextual (maxDischargeDepth := 50) [State.fenceStep, *]

@[simp] theorem State.countGangWait_fits (s : State) (k : Nat) (hs : s.Fits z) :
    (State.countGangWait s k).Fits z := by
  unfold State.countGangWait
  try dsimp only
  repeat' first | (simp +contextual (maxDischargeDepth := 50) [*]; done) | split

end Sys2Proof.Machine
end

