-- ==== Sys2Proof/Laws/FitsSender.lean ====
section
/-!
SUPPORT. The operations of Sender.lean keep the queue, the permanent fuses and the form of the memories.
-/
namespace Sys2Proof.Machine

variable {z : Stem}

@[simp] theorem State.sendOwn_fits (s : State) (c : Nat) (dest : BitVec 15) (r : Request) (p : Purpose) (hs : s.Fits z) :
    (State.sendOwn s c dest r p).Fits z := by
  simp +contextual (maxDischargeDepth := 50) [State.sendOwn, *]

@[simp] theorem State.slotNext_fits (s : State) (hs : s.Fits z) :
    (State.slotNext s).Fits z := by
  unfold State.slotNext
  try dsimp only
  repeat' first | (simp +contextual (maxDischargeDepth := 50) [*]; done) | split

@[simp] theorem State.ownFirst_fits (s : State) (hs : s.Fits z) :
    (State.ownFirst s).Fits z := by
  unfold State.ownFirst
  try dsimp only
  repeat' first | (simp +contextual (maxDischargeDepth := 50) [*]; done) | split

@[simp] theorem State.ownNext_fits (s : State) (hs : s.Fits z) :
    (State.ownNext s).Fits z := by
  simp only [State.ownNext]
  repeat' split
  all_goals first | assumption | simp +contextual (maxDischargeDepth := 50) [*]

@[simp] theorem State.copyLine_fits (s : State) (job : BitVec 16) (pn : Nat) (hs : s.Fits z) :
    (State.copyLine s job pn).Fits z := by
  unfold State.copyLine
  try dsimp only
  repeat' first | (simp +contextual (maxDischargeDepth := 50) [*]; done) | split

@[simp] theorem State.copyOn_fits (s : State) (job : BitVec 16) (pn : Nat) (hs : s.Fits z) :
    (State.copyOn s job pn).Fits z := by
  simp +contextual (maxDischargeDepth := 50) [State.copyOn, *]

@[simp] theorem State.startCopy_fits (s : State) (job : BitVec 16) (pn : Nat) (to_ : BitVec 15) (frame : BitVec 18) (hs : s.Fits z) :
    (State.startCopy s job pn to_ frame).Fits z := by
  unfold State.startCopy
  try dsimp only
  repeat' first | (simp +contextual (maxDischargeDepth := 50) [*]; done) | split

@[simp] theorem State.wakeParcel_fits (s : State) (job : BitVec 16) (pn : Nat) (home : BitVec 15) (gen : BitVec 16) (hs : s.Fits z) :
    (State.wakeParcel s job pn home gen).Fits z := by
  unfold State.wakeParcel
  try dsimp only
  repeat' first | (simp +contextual (maxDischargeDepth := 50) [*]; done) | split

@[simp] theorem State.pumpFor_fits (s : State) (p : Purpose) (hs : s.Fits z) :
    (State.pumpFor s p).Fits z := by
  simp only [State.pumpFor]
  repeat' split
  all_goals first | assumption | simp +contextual (maxDischargeDepth := 50) [*]

@[simp] theorem State.failParcel_fits (s : State) (job : BitVec 16) (pn : Nat) (code : Nat) (target : Nat) (reason : Nat) (hs : s.Fits z) :
    (State.failParcel s job pn code target reason).Fits z := by
  simp +contextual (maxDischargeDepth := 50) [State.failParcel, *]

@[simp] theorem State.learn_fits (s : State) (job : BitVec 16) (pn : Nat) (home : BitVec 15) (frame : BitVec 18) (gen : BitVec 16) (attr : Byte) (hs : s.Fits z) :
    (State.learn s job pn home frame gen attr).Fits z := by
  unfold State.learn
  try dsimp only
  repeat' first | (simp +contextual (maxDischargeDepth := 50) [*]; done) | split

@[simp] theorem State.lookupDone_fits (s : State) (a : Access) (r : Reply) (hs : s.Fits z) :
    (State.lookupDone s a r).Fits z := by
  unfold State.lookupDone
  try dsimp only
  repeat' first | (simp +contextual (maxDischargeDepth := 50) [*]; done) | split

@[simp] theorem State.correct_fits (s : State) (job : BitVec 16) (pn : Nat) (r : Reply) (hs : s.Fits z) :
    (State.correct s job pn r).Fits z := by
  simp only [State.correct]
  repeat' split
  all_goals first | assumption | simp +contextual (maxDischargeDepth := 50) [*]

@[simp] theorem State.accessDone_fits (s : State) (a : Access) (r : Reply) (hs : s.Fits z) :
    (State.accessDone s a r).Fits z := by
  unfold State.accessDone
  try dsimp only
  repeat' first | (simp +contextual (maxDischargeDepth := 50) [*]; done) | split

@[simp] theorem State.releaseOld_fits (s : State) (frame : Nat) (hs : s.Fits z) :
    (State.releaseOld s frame).Fits z := by
  simp +contextual (maxDischargeDepth := 50) [State.releaseOld, *]

@[simp] theorem State.answered_fits (s : State) (a : Access) (r : Reply) (hs : s.Fits z) :
    (State.answered s a r).Fits z := by
  unfold State.answered
  try dsimp only
  repeat' first | (simp +contextual (maxDischargeDepth := 50) [*]; done) | split

@[simp] theorem State.sendReply_fits (s : State) (r : Request) (rep : Reply) (hs : s.Fits z) :
    (State.sendReply s r rep).Fits z := by
  unfold State.sendReply
  try dsimp only
  repeat' first | (simp +contextual (maxDischargeDepth := 50) [*]; done) | split

@[simp] theorem State.sendReplies_fits (s : State) (rs : List Request) (reps : List Reply) (hs : s.Fits z) :
    (State.sendReplies s rs reps).Fits z := by
  simp +contextual (maxDischargeDepth := 50) [State.sendReplies, *]

@[simp] theorem State.releaseHeld_fits (s : State) (job : BitVec 16) (pn : Nat) (hs : s.Fits z) :
    (State.releaseHeld s job pn).Fits z := by
  unfold State.releaseHeld
  try dsimp only
  repeat' first | (simp +contextual (maxDischargeDepth := 50) [*]; done) | split

@[simp] theorem State.discharge_fits (s : State) (q : Packet) (hs : s.Fits z) :
    (State.discharge s q).Fits z := by
  unfold State.discharge
  try dsimp only
  repeat' first | (simp +contextual (maxDischargeDepth := 50) [*]; done) | split

@[simp] theorem State.takeArrived_fits (s : State) (p : Packet → Bool) (hs : s.Fits z) :
    (State.takeArrived s p).Fits z := by
  unfold State.takeArrived
  try dsimp only
  repeat' first | (simp +contextual (maxDischargeDepth := 50) [*]; done) | split

@[simp] theorem State.keepOld_fits (s : State) (r : Request) (hs : s.Fits z) :
    (State.keepOld s r).Fits z := by
  simp only [State.keepOld]
  repeat' split
  all_goals first | assumption | simp +contextual (maxDischargeDepth := 50) [*]

@[simp] theorem State.takeIn_fits (s : State) (r : Request) (hs : s.Fits z) :
    (State.takeIn s r).Fits z := by
  simp +contextual (maxDischargeDepth := 50) [State.takeIn, *]

@[simp] theorem State.sendAck_fits (s : State) (dst : BitVec 15) (cls : TClass) (va : Nat) (tag : BitVec 16) (issuer : BitVec 15) (hs : s.Fits z) :
    (State.sendAck s dst cls va tag issuer).Fits z := by
  unfold State.sendAck
  try dsimp only
  repeat' first | (simp +contextual (maxDischargeDepth := 50) [*]; done) | split

@[simp] theorem State.pumpCore_fits (s : State) (x2 : Option (Nat × Nat)) (hs : s.Fits z) :
    (State.pumpCore s x2).Fits z := by
  simp only [State.pumpCore]
  repeat' split
  all_goals first | assumption | simp +contextual (maxDischargeDepth := 50) [*]

@[simp] theorem State.endInval_fits (s : State) (x2 : Inval) (st : Nat) (hs : s.Fits z) :
    (State.endInval s x2 st).Fits z := by
  simp only [State.endInval]
  repeat' split
  all_goals first | assumption | simp +contextual (maxDischargeDepth := 50) [*]

end Sys2Proof.Machine
end

