-- ==== Sys2Proof/Laws/FitsEngines.lean ====
section
/-!
SUPPORT. The operations of Engines.lean keep the queue, the permanent fuses and the form of the memories.
-/
namespace Sys2Proof.Machine

variable {z : Stem}

@[simp] theorem State.touch_fits (s : State) (c : Nat) (pn : Nat) (fab : Fab) (hs : s.Fits z) :
    (State.touch s c pn fab).Fits z := by
  unfold State.touch
  try dsimp only
  repeat' first | (simp +contextual (maxDischargeDepth := 50) [*]; done) | split

@[simp] theorem State.engineBearing_fits (s : State) (c : Nat) (pn : Nat) (fab : Fab) (hs : s.Fits z) :
    (State.engineBearing s c pn fab).Fits z := by
  unfold State.engineBearing
  try dsimp only
  repeat' first | (simp +contextual (maxDischargeDepth := 50) [*]; done) | split

@[simp] theorem State.ignoreDoorbell_fits (s : State) (hs : s.Fits z) :
    (State.ignoreDoorbell s).Fits z := by
  simp +contextual (maxDischargeDepth := 50) [State.ignoreDoorbell, *]

@[simp] theorem State.mirrorDiscard_fits (s : State) (a : Nat) (bs : List Byte) (hs : s.Fits z) :
    (State.mirrorDiscard s a bs).Fits z := by
  simp +contextual (maxDischargeDepth := 50) [State.mirrorDiscard, *]

@[simp] theorem State.reach_fits (s : State) (c : Nat) (fab : Fab) (r : Request) (hs : s.Fits z) :
    (State.reach s c fab r).2.Fits z := by
  unfold State.reach
  try dsimp only
  repeat' first | (simp +contextual (maxDischargeDepth := 50) [*]; done) | split

@[simp] theorem State.performOwn_fits (s : State) (r : Request) (hs : s.Fits z) :
    (State.performOwn s r).2.Fits z := by
  unfold State.performOwn
  try dsimp only
  repeat' first | (simp +contextual (maxDischargeDepth := 50) [*]; done) | split

@[simp] theorem State.readPart_fits (s : State) (c : Nat) (att : Attrib) (fab : Fab) (part : Nat × Nat) (hs : s.Fits z) :
    (State.readPart s c att fab part).2.Fits z := by
  unfold State.readPart
  try dsimp only
  repeat' first | (simp +contextual (maxDischargeDepth := 50) [*]; done) | split

@[simp] theorem readParts_fits (c : Nat) (att : Attrib) (fab : Fab) (ps : List (Nat × Nat)) (s : State) (hs : s.Fits z) :
    (readParts c att fab ps s).2.2.Fits z := by
  induction ps generalizing s with
  | nil => exact hs
  | cons p ps ih => exact ih _ (State.readPart_fits _ _ _ _ _ hs)

@[simp] theorem State.engineRead_fits (s : State) (c : Nat) (att : Attrib) (fab : Fab) (a : Nat) (n : Nat) (hs : s.Fits z) :
    (State.engineRead s c att fab a n).2.2.Fits z := by
  simp +contextual (maxDischargeDepth := 50) [State.engineRead, *]

@[simp] theorem State.engineFailed_fits (s : State) (c : Nat) (a : Nat) (n : Nat) (code : Nat) (target : Nat) (reason : Nat) (att : Attrib) (hs : s.Fits z) :
    (State.engineFailed s c a n code target reason att).Fits z := by
  unfold State.engineFailed
  try dsimp only
  repeat' first | (simp +contextual (maxDischargeDepth := 50) [*]; done) | split

@[simp] theorem State.writePart_fits (s : State) (c : Nat) (att : Attrib) (fab : Fab) (a : Nat) (bs : List Byte) (hs : s.Fits z) :
    (State.writePart s c att fab a bs).2.Fits z := by
  unfold State.writePart
  try dsimp only
  repeat' first | (simp +contextual (maxDischargeDepth := 50) [*]; done) | split

@[simp] theorem writeParts_fits (c : Nat) (att : Attrib) (fab : Fab) (ps : List (Nat × Nat)) (bs : List Byte) (s : State) (hs : s.Fits z) :
    (writeParts c att fab ps bs s).2.Fits z := by
  induction ps generalizing bs s with
  | nil => exact hs
  | cons p ps ih => exact ih _ _ (State.writePart_fits _ _ _ _ _ _ hs)

@[simp] theorem State.engineWrite_fits (s : State) (c : Nat) (att : Attrib) (fab : Fab) (a : Nat) (bs : List Byte) (hs : s.Fits z) :
    (State.engineWrite s c att fab a bs).2.Fits z := by
  simp +contextual (maxDischargeDepth := 50) [State.engineWrite, *]

@[simp] theorem State.engineAdd_fits (s : State) (c : Nat) (att : Attrib) (fab : Fab) (a : Nat) (v : Nat) (hs : s.Fits z) :
    (State.engineAdd s c att fab a v).2.Fits z := by
  unfold State.engineAdd
  try dsimp only
  repeat' first | (simp +contextual (maxDischargeDepth := 50) [*]; done) | split

end Sys2Proof.Machine
end

