-- ==== Sys2Proof/Laws/FitsHomeRows.lean ====
section
/-!
SUPPORT. The operations of HomeRows.lean keep the queue, the permanent fuses and the form of the memories.
-/
namespace Sys2Proof.Machine

variable {z : Stem}

@[simp] theorem State.ownAway_fits (s : State) (r : Request) (hs : s.Fits z) :
    (State.ownAway s r).Fits z := by
  simp only [State.ownAway]
  repeat' split
  all_goals first | assumption | simp +contextual (maxDischargeDepth := 50) [*]

@[simp] theorem State.homeRequest_fits (s : State) (r : Request) (hs : s.Fits z) :
    (State.homeRequest s r).Fits z := by
  have h : ((s.takeIn r).serve r).2.Fits z := by simp [*]
  unfold State.homeRequest
  try dsimp only
  split
  · simp [*]
  · split
    · simp [*]
    · split <;> simp_all

@[simp] theorem State.invalidated_fits (s : State) (p : Packet) (r : Request) (hs : s.Fits z) :
    (State.invalidated s p r).Fits z := by
  simp +contextual (maxDischargeDepth := 50) [State.invalidated, *]

@[simp] theorem State.invalDone_fits (s : State) (x : Inval) (hs : s.Fits z) :
    (State.invalDone s x).Fits z := by
  unfold State.invalDone
  try dsimp only
  repeat' first | (simp +contextual (maxDischargeDepth := 50) [*]; done) | split

@[simp] theorem State.acked_fits (s : State) (p : Packet) (tag : BitVec 16) (issuer : BitVec 15) (hs : s.Fits z) :
    (State.acked s p tag issuer).Fits z := by
  unfold State.acked
  try dsimp only
  repeat' first | (simp +contextual (maxDischargeDepth := 50) [*]; done) | split

@[simp] theorem State.replied_fits (s : State) (r : Reply) (hs : s.Fits z) :
    (State.replied s r).Fits z := by
  simp only [State.replied]
  repeat' split
  all_goals first | assumption | simp +contextual (maxDischargeDepth := 50) [*]

@[simp] theorem State.lookupAgain_fits (s : State) (a : Access) (hs : s.Fits z) :
    (State.lookupAgain s a).Fits z := by
  simp +contextual (maxDischargeDepth := 50) [State.lookupAgain, *]

@[simp] theorem State.repeatNow_fits (s : State) (a : Access) (hs : s.Fits z) :
    (State.repeatNow s a).Fits z := by
  simp only [State.repeatNow]
  repeat' split
  all_goals first | assumption | simp +contextual (maxDischargeDepth := 50) [*]

@[simp] theorem State.keepSlot_fits (s : State) (a : Access) (hs : s.Fits z) :
    (State.keepSlot s a).Fits z := by
  simp +contextual (maxDischargeDepth := 50) [State.keepSlot, *]

@[simp] theorem State.timeOut_fits (s : State) (a : Access) (hs : s.Fits z) :
    (State.timeOut s a).Fits z := by
  unfold State.timeOut
  try dsimp only
  repeat' first | (simp +contextual (maxDischargeDepth := 50) [*]; done) | split

@[simp] theorem State.timeOutInval_fits (s : State) (x2 : Inval) (hs : s.Fits z) :
    (State.timeOutInval s x2).Fits z := by
  simp +contextual (maxDischargeDepth := 50) [State.timeOutInval, *]

end Sys2Proof.Machine
end

