-- ==== Sys2Proof/Laws/FitsRegistrar.lean ====
section
/-!
SUPPORT. The operations of Registrar.lean keep the queue, the permanent fuses and the form of the memories.
-/
namespace Sys2Proof.Machine

variable {z : Stem}

@[simp] theorem State.refuse_fits (s : State) (r : Request) (st : RStatus) (reason : Nat) (hs : s.Fits z) :
    (State.refuse s r st reason).Fits z := by
  simp +contextual (maxDischargeDepth := 50) [State.refuse, *]

@[simp] theorem State.holdLookup_fits (s : State) (r : Request) (hs : s.Fits z) :
    (State.holdLookup s r).Fits z := by
  unfold State.holdLookup
  have h := State.holdOrRetry_fits s r hs
  generalize s.holdOrRetry r = x at h ⊢
  obtain ⟨a, t⟩ := x
  cases a <;> simp_all

@[simp] theorem State.lookedUp_fits (s : State) (c : Nat) (r : Request) (e : CadEntry) (fab : Fab) (hs : s.Fits z) :
    (State.lookedUp s c r e fab).Fits z := by
  unfold State.lookedUp
  try dsimp only
  repeat' first | (simp +contextual (maxDischargeDepth := 50) [*]; done) | split

@[simp] theorem State.regLookup_fits (s : State) (r : Request) (fab : Fab) (hs : s.Fits z) :
    (State.regLookup s r fab).Fits z := by
  unfold State.regLookup
  try dsimp only
  repeat' first | (simp +contextual (maxDischargeDepth := 50) [*]; done) | split

@[simp] theorem State.endEpoch_fits (s : State) (p : HomeParcel) (hs : s.Fits z) :
    (State.endEpoch s p).Fits z := by
  unfold State.endEpoch
  try dsimp only
  repeat' first | (simp +contextual (maxDischargeDepth := 50) [*]; done) | split

@[simp] theorem State.beginMove_fits (s : State) (e : CadEntry) (m : Nat) (frame : Nat) (hs : s.Fits z) :
    (State.beginMove s e m frame).Fits z := by
  unfold State.beginMove
  try dsimp only
  repeat' split
  all_goals first | assumption | simp +contextual (maxDischargeDepth := 50) [*]

@[simp] theorem State.decideMove_fits (s : State) (e : CadEntry) (fab : Fab) (hs : s.Fits z) :
    (State.decideMove s e fab).1.Fits z := by
  unfold State.decideMove
  try dsimp only
  repeat' first | (simp +contextual (maxDischargeDepth := 50) [*]; done) | split

@[simp] theorem State.tallied_fits (s : State) (r : Request) (fab : Fab) (hs : s.Fits z) :
    (State.tallied s r fab).Fits z := by
  unfold State.tallied
  try dsimp only
  repeat' first | (simp +contextual (maxDischargeDepth := 50) [*]; done) | split

@[simp] theorem State.openIncoming_fits (s : State) (r : Request) (hs : s.Fits z) :
    (State.openIncoming s r).Fits z := by
  unfold State.openIncoming
  try dsimp only
  repeat' first | (simp +contextual (maxDischargeDepth := 50) [*]; done) | split

@[simp] theorem State.closeIncoming_fits (s : State) (x2 : Incoming) (hs : s.Fits z) :
    (State.closeIncoming s x2).Fits z := by
  unfold State.closeIncoming
  try dsimp only
  repeat' first | (simp +contextual (maxDischargeDepth := 50) [*]; done) | split

@[simp] theorem State.moveLine_fits (s : State) (r : Request) (hs : s.Fits z) :
    (State.moveLine s r).Fits z := by
  unfold State.moveLine
  try dsimp only
  repeat' first | (simp +contextual (maxDischargeDepth := 50) [*]; done) | split

@[simp] theorem State.forwardHeld_fits (s : State) (to_ : BitVec 15) (frame : BitVec 18) (gen : BitVec 16) (r : Request) (hs : s.Fits z) :
    (State.forwardHeld s to_ frame gen r).Fits z := by
  unfold State.forwardHeld
  try dsimp only
  repeat' first | (simp +contextual (maxDischargeDepth := 50) [*]; done) | split

@[simp] theorem State.addForward_fits (s : State) (f : FwdRec) (hs : s.Fits z) :
    (State.addForward s f).Fits z := by
  simp +contextual (maxDischargeDepth := 50) [State.addForward, *]

@[simp] theorem State.giveUp_fits (s : State) (job : BitVec 16) (pn : Nat) (to_ : BitVec 15) (frame : BitVec 18) (gen : BitVec 16) (hs : s.Fits z) :
    (State.giveUp s job pn to_ frame gen).Fits z := by
  unfold State.giveUp
  try dsimp only
  repeat' first | (simp +contextual (maxDischargeDepth := 50) [*]; done) | split

@[simp] theorem State.switchEntry_fits (s : State) (e : CadEntry) (m : BitVec 15) (f : BitVec 18) (hs : s.Fits z) :
    (State.switchEntry s e m f).Fits z := by
  simp +contextual (maxDischargeDepth := 50) [State.switchEntry, *]

@[simp] theorem State.drained_fits (s : State) (r : Request) (hs : s.Fits z) :
    (State.drained s r).Fits z := by
  simp +contextual (maxDischargeDepth := 50) [State.drained, *]

@[simp] theorem State.abandonEntry_fits (s : State) (job : BitVec 16) (pn : Nat) (hs : s.Fits z) :
    (State.abandonEntry s job pn).Fits z := by
  unfold State.abandonEntry
  try dsimp only
  repeat' first | (simp +contextual (maxDischargeDepth := 50) [*]; done) | split

@[simp] theorem State.abandonIncoming_fits (s : State) (job : BitVec 16) (pn : Nat) (hs : s.Fits z) :
    (State.abandonIncoming s job pn).Fits z := by
  unfold State.abandonIncoming
  try dsimp only
  repeat' first | (simp +contextual (maxDischargeDepth := 50) [*]; done) | split

@[simp] theorem State.abandonCopy_fits (s : State) (job : BitVec 16) (pn : Nat) (hs : s.Fits z) :
    (State.abandonCopy s job pn).Fits z := by
  simp +contextual (maxDischargeDepth := 50) [State.abandonCopy, *]


@[simp] theorem State.pagedOut_fits (s : State) (p : HomeParcel) (hs : s.Fits z) :
    (State.pagedOut s p).Fits z := by
  simp +contextual (maxDischargeDepth := 50) [State.pagedOut, *]

end Sys2Proof.Machine
end

