-- ==== Sys2Proof/Laws/FitsExecuteStream.lean ====
section
/-!
SUPPORT. The operations of ExecuteStream.lean keep the queue, the permanent fuses and the form of the memories.
-/
namespace Sys2Proof.Machine

variable {z : Stem}

@[simp] theorem State.tallyTile_fits (s : State) (t : TileRun) (m : Made) (hs : s.Fits z) :
    (State.tallyTile s t m).Fits z := by
  simp +contextual (maxDischargeDepth := 50) [State.tallyTile, *]

@[simp] theorem State.popSource_fits (s : State) (k : Nat) (sel : Nat) (pop : Bool) (hs : s.Fits z) :
    (State.popSource s k sel pop).Fits z := by
  simp +contextual (maxDischargeDepth := 50) [State.popSource, *]

@[simp] theorem State.exeGoto_fits (s : State) (k : Nat) (pc : Nat) (hs : s.Fits z) :
    (State.exeGoto s k pc).Fits z := by
  simp +contextual (maxDischargeDepth := 50) [State.exeGoto, *]

end Sys2Proof.Machine
end

