-- ==== Sys2Proof/Laws/FitsCube.lean ====
section
/-!
SUPPORT. The operations of Cube.lean keep the queue, the permanent fuses and the form of the memories.
-/
namespace Sys2Proof.Machine

variable {z : Stem}

@[simp] theorem State.runBatch_fits (s : State) (k : Nat) (b : MvBatch) (hs : s.Fits z) :
    (State.runBatch s k b).Fits z := by
  simp +contextual (maxDischargeDepth := 50) [State.runBatch, *]

@[simp] theorem State.closeBatches_fits (s : State) (k : Nat) (p : MvBatch → Bool) (hs : s.Fits z) :
    (State.closeBatches s k p).Fits z := by
  simp +contextual (maxDischargeDepth := 50) [State.closeBatches, *]

end Sys2Proof.Machine
end

