-- ==== Sys2Proof/Laws/FitsGangUnit.lean ====
section
/-!
SUPPORT. The operations of GangUnit.lean keep the queue, the permanent fuses and the form of the memories.
-/
namespace Sys2Proof.Machine

variable {z : Stem}

@[simp] theorem State.modGang_fits (s : State) (rank : Nat) (f : Gang → Gang) (hs : s.Fits z) :
    (State.modGang s rank f).Fits z := by
  simp +contextual (maxDischargeDepth := 50) [State.modGang, *]

@[simp] theorem State.takeGang_fits (s : State) (rank : Nat) (grid : Nat) (hs : s.Fits z) :
    (State.takeGang s rank grid).Fits z := by
  simp +contextual (maxDischargeDepth := 50) [State.takeGang, *]

@[simp] theorem State.handGang_fits (s : State) (rank : Nat) (hs : s.Fits z) :
    (State.handGang s rank).Fits z := by
  unfold State.handGang
  try dsimp only
  repeat' first | (simp +contextual (maxDischargeDepth := 50) [*]; done) | split

@[simp] theorem State.drainItem_fits (s : State) (x : GangItem) (t : Table Word32) (hs : s.Fits z) :
    (State.drainItem s x t).Fits z := by
  unfold State.drainItem
  try dsimp only
  repeat' first | (simp +contextual (maxDischargeDepth := 50) [*]; done) | split

@[simp] theorem State.dropGang_fits (s : State) (rank : Nat) (p : Nat → Bool) (hs : s.Fits z) :
    (State.dropGang s rank p).Fits z := by
  simp +contextual (maxDischargeDepth := 50) [State.dropGang, *]

end Sys2Proof.Machine
end

