-- ==== Sys2Proof/Laws/FitsCmdOps.lean ====
section
/-!
SUPPORT. The operations of CmdOps.lean keep the queue, the permanent fuses and the form of the memories.
-/
namespace Sys2Proof.Machine

variable {z : Stem}

@[simp] theorem State.finishCounted_fits (s : State) (src : CmdSource) (st : Nat) (result : List Byte) (hs : s.Fits z) :
    (State.finishCounted s src st result).Fits z := by
  simp +contextual (maxDischargeDepth := 50) [State.finishCounted, *]

@[simp] theorem State.promote_fits (s : State) (c : Nat) (mask : Nat) (before : Nat) (hs : s.Fits z) :
    (State.promote s c mask before).Fits z := by
  simp +contextual (maxDischargeDepth := 50) [State.promote, *]

@[simp] theorem State.afterDeferred_fits (s : State) (src : CmdSource) (mask : Nat) (go : State) (hs : s.Fits z) (hgo : go.Fits z) :
    (State.afterDeferred s src mask go).Fits z := by
  simp +contextual (maxDischargeDepth := 50) [State.afterDeferred, *]

@[simp] theorem State.deleteEntry_fits (s : State) (job : BitVec 16) (pn : Nat) (hs : s.Fits z) :
    (State.deleteEntry s job pn).Fits z := by
  simp only [State.deleteEntry]
  repeat' split
  all_goals first | assumption | simp +contextual (maxDischargeDepth := 50) [*]

@[simp] theorem State.releaseHome_fits (s : State) (job : BitVec 16) (pn : Nat) (hs : s.Fits z) :
    (State.releaseHome s job pn).Fits z := by
  unfold State.releaseHome
  try dsimp only
  repeat' first | (simp +contextual (maxDischargeDepth := 50) [*]; done) | split

@[simp] theorem State.freeParcel_fits (s : State) (c : Nat) (pn : Nat) (hs : s.Fits z) :
    (State.freeParcel s c pn).Fits z := by
  unfold State.freeParcel
  try dsimp only
  repeat' first | (simp +contextual (maxDischargeDepth := 50) [*]; done) | split

@[simp] theorem State.freeRange_fits (s : State) (c : Nat) (att : Attrib) (fab : Fab) (base : Nat) (size : Nat) (hs : s.Fits z) :
    (State.freeRange s c att fab base size).2.Fits z := by
  unfold State.freeRange
  try dsimp only
  repeat' first | (simp +contextual (maxDischargeDepth := 50) [*]; done) | split

@[simp] theorem State.holdLines_fits (s : State) (c : Nat) (h : Nat) (uses : Nat) (hs : s.Fits z) :
    (State.holdLines s c h uses).Fits z := by
  simp +contextual (maxDischargeDepth := 50) [State.holdLines, *]

@[simp] theorem State.holdFrames_fits (s : State) (c : Nat) (x3 : Hold) (ro : Bool) (hs : s.Fits z) :
    (State.holdFrames s c x3 ro).Fits z := by
  simp +contextual (maxDischargeDepth := 50) [State.holdFrames, *]

@[simp] theorem State.releaseHold_fits (s : State) (c : Nat) (att : Attrib) (fab : Fab) (h : Nat) (hs : s.Fits z) :
    (State.releaseHold s c att fab h).Fits z := by
  unfold State.releaseHold
  try dsimp only
  repeat' first | (simp +contextual (maxDischargeDepth := 50) [*]; done) | split

@[simp] theorem State.releaseMask_fits (s : State) (c : Nat) (att : Attrib) (fab : Fab) (mask : Word64) (hs : s.Fits z) :
    (State.releaseMask s c att fab mask).Fits z := by
  simp +contextual (maxDischargeDepth := 50) [State.releaseMask, *]

@[simp] theorem State.releaseLaunch_fits (s : State) (c : Cmd) (fab : Fab) (hs : s.Fits z) :
    (State.releaseLaunch s c fab).Fits z := by
  unfold State.releaseLaunch
  split
  · exact State.releaseMask_fits s _ _ fab _ hs
  · exact hs

end Sys2Proof.Machine
end

