-- ==== Sys2Proof/Laws/FitsLaunch.lean ====
section
/-!
SUPPORT. The operations of Launch.lean keep the queue, the permanent fuses and the form of the memories.
-/
namespace Sys2Proof.Machine

variable {z : Stem}

@[simp] theorem State.launchBad_fits (s : State) (src : CmdSource) (fab : Fab) (hs : s.Fits z) :
    (State.launchBad s src fab).Fits z := by
  unfold State.launchBad
  try dsimp only
  repeat' first | (simp +contextual (maxDischargeDepth := 50) [*]; done) | split

@[simp] theorem State.handLaunch_fits (s : State) (src : CmdSource) (k : LaunchKind) (pk : Program × Kernel) (fab : Fab) (hs : s.Fits z) :
    (State.handLaunch s src k pk fab).Fits z := by
  unfold State.handLaunch
  try dsimp only
  repeat' first | (simp +contextual (maxDischargeDepth := 50) [*]; done) | split

@[simp] theorem State.launchCmd_fits (s : State) (src : CmdSource) (k : LaunchKind) (fab : Fab) (hs : s.Fits z) :
    (State.launchCmd s src k fab).Fits z := by
  unfold State.launchCmd
  try dsimp only
  repeat' first | (simp +contextual (maxDischargeDepth := 50) [*]; done) | split

@[simp] theorem State.followWork_fits (s : State) (g : Grid) (k : Kernel) (m : Nat) (tiles : List (Nat × Nat × Nat)) (fab : Fab) (hs : s.Fits z) :
    (State.followWork s g k m tiles fab).Fits z := by
  unfold State.followWork
  try dsimp only
  refine foldl_fits _ _ _ (fun s pn hs => ?_) hs
  repeat' first | (simp +contextual (maxDischargeDepth := 50) [*]; done) | split

@[simp] theorem State.assignHere_fits (s : State) (g : Grid) (k : Kernel) (n : Nat) (tiles : List (Nat × Nat × Nat)) (fab : Fab) (hs : s.Fits z) :
    (State.assignHere s g k n tiles fab).Fits z := by
  simp +contextual (maxDischargeDepth := 50) [State.assignHere, *]

@[simp] theorem State.assignThere_fits (s : State) (g : Grid) (p : Program) (k : Kernel) (m : Nat) (n : Nat) (tiles : List (Nat × Nat × Nat)) (fab : Fab) (hs : s.Fits z) :
    (State.assignThere s g p k m n tiles fab).Fits z := by
  simp +contextual (maxDischargeDepth := 50) [State.assignThere, *]

@[simp] theorem State.assignModule_fits (s : State) (g : Grid) (p : Program) (k : Kernel) (fab : Fab) (e : Nat × List (Nat × Nat × Nat)) (hs : s.Fits z) :
    (State.assignModule s g p k fab e).Fits z := by
  simp +contextual (maxDischargeDepth := 50) [State.assignModule, *]

@[simp] theorem State.assign_fits (s : State) (g : Grid) (fab : Fab) (hs : s.Fits z) :
    (State.assign s g fab).Fits z := by
  unfold State.assign
  try dsimp only
  repeat' first | (simp +contextual (maxDischargeDepth := 50) [*]; done) | split

@[simp] theorem State.takeSlice_fits (s : State) (c : Nat) (p : Program) (r : SliceRequest) (hs : s.Fits z) :
    (State.takeSlice s c p r).Fits z := by
  unfold State.takeSlice
  try dsimp only
  repeat' first | (simp +contextual (maxDischargeDepth := 50) [*]; done) | split

@[simp] theorem State.foldGns_fits (s : State) (c : Nat) (k : Nat) (hs : s.Fits z) :
    (State.foldGns s c k).Fits z := by
  simp +contextual (maxDischargeDepth := 50) [State.foldGns, *]

@[simp] theorem State.switchCore_fits (s : State) (k : Nat) (c : Nat) (hs : s.Fits z) :
    (State.switchCore s k c).Fits z := by
  unfold State.switchCore
  try dsimp only
  split
  · exact hs
  · refine State.modCore_fits _ _ _ (fun _ _ => rfl) ?_
    split <;> simp [*]

@[simp] theorem State.setMarks_fits (s : State) (rank : Nat) (hs : s.Fits z) :
    (State.setMarks s rank).Fits z := by
  simp +contextual (maxDischargeDepth := 50) [State.setMarks, *]

@[simp] theorem State.startTile_fits (s : State) (k : Nat) (g : Grid) (x4 : Slice) (t : Nat × Nat × Nat) (hs : s.Fits z) :
    (State.startTile s k g x4 t).Fits z := by
  simp +contextual (maxDischargeDepth := 50) [State.startTile, *]

@[simp] theorem State.fillDeferred_fits (s : State) (rank : Nat) (hs : s.Fits z) :
    (State.fillDeferred s rank).Fits z := by
  simp only [State.fillDeferred]
  repeat' split
  all_goals first | assumption | simp +contextual (maxDischargeDepth := 50) [*]

@[simp] theorem State.tileStart_fits (s : State) (rank : Nat) (x3 : Slice) (g : Grid) (t : Nat × Nat × Nat) (k : Nat) (hs : s.Fits z) :
    (State.tileStart s rank x3 g t k).Fits z := by
  simp +contextual (maxDischargeDepth := 50) [State.tileStart, *]

@[simp] theorem State.endTile_fits (s : State) (k : Nat) (t : TileRun) (hs : s.Fits z) :
    (State.endTile s k t).Fits z := by
  simp +contextual (maxDischargeDepth := 50) [State.endTile, *]

@[simp] theorem State.reportSlice_fits (s : State) (x2 : Slice) (g : Grid) (hs : s.Fits z) :
    (State.reportSlice s x2 g).Fits z := by
  unfold State.reportSlice
  try dsimp only
  repeat' first | (simp +contextual (maxDischargeDepth := 50) [*]; done) | split

@[simp] theorem State.dropSlices_fits (s : State) (grid : Nat) (hs : s.Fits z) :
    (State.dropSlices s grid).Fits z := by
  simp +contextual (maxDischargeDepth := 50) [State.dropSlices, *]

@[simp] theorem State.endSegment_fits (s : State) (g : Grid) (fab : Fab) (hs : s.Fits z) :
    (State.endSegment s g fab).Fits z := by
  simp +contextual (maxDischargeDepth := 50) [State.endSegment, *]

@[simp] theorem State.completeGrid_fits (s : State) (g : Grid) (fab : Fab) (hs : s.Fits z) :
    (State.completeGrid s g fab).Fits z := by
  unfold State.completeGrid
  try dsimp only
  repeat' first | (simp +contextual (maxDischargeDepth := 50) [*]; done) | split

end Sys2Proof.Machine
end

