-- ==== Sys2Proof/Laws/FitsQueues.lean ====
section
/-!
SUPPORT. The operations of Queues.lean keep the queue, the permanent fuses and the form of the memories.
-/
namespace Sys2Proof.Machine

variable {z : Stem}

@[simp] theorem State.halt_fits (s : State) (q : Nat) (reason : Nat) (att : Attrib) (hs : s.Fits z) :
    (State.halt s q reason att).Fits z := by
  simp +contextual (maxDischargeDepth := 50) [State.halt, *]

@[simp] theorem State.doorbell_fits (s : State) (q : Nat) (v : Word32) (hs : s.Fits z) :
    (State.doorbell s q v).Fits z := by
  simp +contextual (maxDischargeDepth := 50) [State.doorbell, *]

@[simp] theorem State.mirrorDone_fits (s : State) (r : Option Request) (st : RStatus) (reason : Nat) (hs : s.Fits z) :
    (State.mirrorDone s r st reason).Fits z := by
  simp only [State.mirrorDone]
  repeat' split
  all_goals first | assumption | simp +contextual (maxDischargeDepth := 50) [*]

@[simp] theorem State.fetchSlot_fits (s : State) (q : Nat) (hs : s.Fits z) :
    (State.fetchSlot s q).2.Fits z := by
  unfold State.fetchSlot
  try dsimp only
  repeat' first | (simp +contextual (maxDischargeDepth := 50) [*]; done) | split

@[simp] theorem State.advanceHead_fits (s : State) (q : Nat) (hs : s.Fits z) :
    (State.advanceHead s q).Fits z := by
  simp +contextual (maxDischargeDepth := 50) [State.advanceHead, *]

@[simp] theorem State.blockOf_fits (s : State) (x2 : Nat) (c : Cmd) (fab : Fab) (hs : s.Fits z) :
    (State.blockOf s x2 c fab).2.Fits z := by
  unfold State.blockOf
  try dsimp only
  repeat' first | (simp +contextual (maxDischargeDepth := 50) [*]; done) | split

@[simp] theorem State.recordEntry_fits (s : State) (q : Nat) (c : Cmd) (fab : Fab) (hs : s.Fits z) :
    (State.recordEntry s q c fab).Fits z := by
  unfold State.recordEntry
  try dsimp only
  repeat' first | (simp +contextual (maxDischargeDepth := 50) [*]; done) | split

@[simp] theorem State.startCmd_fits (s : State) (q : Nat) (c : Cmd) (fab : Fab) (hs : s.Fits z) :
    (State.startCmd s q c fab).Fits z := by
  unfold State.startCmd
  try dsimp only
  repeat' first | (simp +contextual (maxDischargeDepth := 50) [*]; done) | split

@[simp] theorem State.decodeSlot_fits (s : State) (q : Nat) (slot : List Byte) (fab : Fab) (hs : s.Fits z) :
    (State.decodeSlot s q slot fab).Fits z := by
  simp +contextual (maxDischargeDepth := 50) [State.decodeSlot, *]

@[simp] theorem State.fetch_fits (s : State) (q : Nat) (fab : Fab) (hs : s.Fits z) :
    (State.fetch s q fab).Fits z := by
  simp +contextual (maxDischargeDepth := 50) [State.fetch, *]

@[simp] theorem State.readFlag_fits (s : State) (src : CmdSource) (fab : Fab) (hs : s.Fits z) :
    (State.readFlag s src fab).Fits z := by
  unfold State.readFlag
  try dsimp only
  repeat' first | (simp +contextual (maxDischargeDepth := 50) [*]; done) | split

@[simp] theorem State.setFlag_fits (s : State) (src : CmdSource) (c : Cmd) (fab : Fab) (hs : s.Fits z) :
    (State.setFlag s src c fab).2.Fits z := by
  unfold State.setFlag
  try dsimp only
  repeat' first | (simp +contextual (maxDischargeDepth := 50) [*]; done) | split

@[simp] theorem State.declareCycle_fits (s : State) (c : Nat) (hs : s.Fits z) :
    (State.declareCycle s c).Fits z := by
  simp +contextual (maxDischargeDepth := 50) [State.declareCycle, *]

@[simp] theorem State.checkCycle_fits (s : State) (c : Nat) (hs : s.Fits z) :
    (State.checkCycle s c).Fits z := by
  simp +contextual (maxDischargeDepth := 50) [State.checkCycle, *]

end Sys2Proof.Machine
end

