-- ==== Sys2Proof/Laws/FitsRelease.lean ====
section
/-!
SUPPORT. The operations of Release.lean keep the queue, the permanent fuses and the form of the memories.
-/
namespace Sys2Proof.Machine

variable {z : Stem}

@[simp] theorem State.writeHusk_fits (s : State) (code : Nat) (ctx : Nat) (isCore : Bool) (cores : List Nat) (hs : s.Fits z) :
    (State.writeHusk s code ctx isCore cores).2.2.Fits z := by
  simp +contextual (maxDischargeDepth := 50) [State.writeHusk, *]

@[simp] theorem State.dropAccesses_fits (s : State) (sel : Access → Bool) (hs : s.Fits z) :
    (State.dropAccesses s sel).Fits z := by
  simp +contextual (maxDischargeDepth := 50) [State.dropAccesses, *]

@[simp] theorem State.orphanInvals_fits (s : State) (p : Inval → Bool) (hs : s.Fits z) :
    (State.orphanInvals s p).Fits z := by
  unfold State.orphanInvals
  try dsimp only
  repeat' first | (simp +contextual (maxDischargeDepth := 50) [*]; done) | split

@[simp] theorem State.dropCore_fits (s : State) (k : Nat) (hs : s.Fits z) :
    (State.dropCore s k).Fits z := by
  have h : ((s.dropAccesses (fun a => purposeCore a.purpose == some k)).modCore k
      (fun c => c.cleared (s.dropAccesses (fun a => purposeCore a.purpose == some k)).time)).Fits z :=
    State.modCore_fits _ _ _ (fun _ _ => rfl) (by simp [*])
  unfold State.dropCore
  try dsimp only
  simp [h]

@[simp] theorem State.retireCore_fits (s : State) (k : Nat) (hs : s.Fits z) :
    (State.retireCore s k).Fits z := by
  simp +contextual (maxDischargeDepth := 50) [State.retireCore, *]

@[simp] theorem State.dropInboxes_fits (s : State) (c : Nat) (hs : s.Fits z) :
    (State.dropInboxes s c).Fits z := by
  simp +contextual (maxDischargeDepth := 50) [State.dropInboxes, *]

@[simp] theorem State.dropPlats_fits (s : State) (c : Nat) (hs : s.Fits z) :
    (State.dropPlats s c).Fits z := by
  simp +contextual (maxDischargeDepth := 50) [State.dropPlats, *]

@[simp] theorem State.dropMoves_fits (s : State) (job : BitVec 16) (hs : s.Fits z) :
    (State.dropMoves s job).Fits z := by
  simp +contextual (maxDischargeDepth := 50) [State.dropMoves, *]

@[simp] theorem State.refuseHeld_fits (s : State) (p : HomeParcel) (hs : s.Fits z) :
    (State.refuseHeld s p).Fits z := by
  simp +contextual (maxDischargeDepth := 50) [State.refuseHeld, *]

@[simp] theorem State.dropJob_fits (s : State) (job : BitVec 16) (hs : s.Fits z) :
    (State.dropJob s job).Fits z := by
  simp +contextual (maxDischargeDepth := 50) [State.dropJob, *]

@[simp] theorem State.dropEngines_fits (s : State) (c : Nat) (hs : s.Fits z) :
    (State.dropEngines s c).Fits z := by
  have h : ((s.ctxCores c).foldl (fun s k => s.dropCore k) s).Fits z :=
    foldl_fits _ _ _ (fun s k hs => s.dropCore_fits k hs) hs
  unfold State.dropEngines
  try dsimp only
  refine fits_cores_map _ (fun e he => ?_) h
  try dsimp only
  split
  · rfl
  · exact he

@[simp] theorem State.releaseCtx_fits (s : State) (c : Nat) (hs : s.Fits z) :
    (State.releaseCtx s c).Fits z := by
  simp +contextual (maxDischargeDepth := 50) [State.releaseCtx, *]

@[simp] theorem State.freeCtx_fits (s : State) (c : Nat) (hs : s.Fits z) :
    (State.freeCtx s c).Fits z := by
  simp +contextual (maxDischargeDepth := 50) [State.freeCtx, *]

@[simp] theorem State.endCmd_fits (s : State) (q : Nat) (x3 : CtxReset) (cmd : Cmd) (hs : s.Fits z) :
    (State.endCmd s q x3 cmd).Fits z := by
  simp +contextual (maxDischargeDepth := 50) [State.endCmd, *]

@[simp] theorem State.endQueues_fits (s : State) (c : Nat) (x3 : CtxReset) (hs : s.Fits z) :
    (State.endQueues s c x3).Fits z := by
  unfold State.endQueues
  try dsimp only
  refine foldl_fits _ _ _ (fun s n hs => by simp [*]) ?_
  refine foldl_fits _ _ _ (fun s n hs => by simp [*]) ?_
  exact foldl_fits _ _ _ (fun s n hs => by simp [*]) hs

end Sys2Proof.Machine
end

