-- ==== Sys2Proof/Laws/FitsContexts.lean ====
section
/-!
SUPPORT. The operations of Contexts.lean keep the queue, the permanent fuses and the form of the memories.
-/
namespace Sys2Proof.Machine

variable {z : Stem}

@[simp] theorem State.enableStandby_fits (s : State) (hs : s.Fits z) :
    (State.enableStandby s).Fits z := by
  simp +contextual (maxDischargeDepth := 50) [State.enableStandby, *]

@[simp] theorem State.ctxCreate_fits (s : State) (src : CmdSource) (hs : s.Fits z) :
    (State.ctxCreate s src).Fits z := by
  simp +contextual (maxDischargeDepth := 50) [State.ctxCreate, *]

@[simp] theorem State.askReset_fits (s : State) (src : CmdSource) (t : Nat) (hs : s.Fits z) :
    (State.askReset s src t).Fits z := by
  simp +contextual (maxDischargeDepth := 50) [State.askReset, *]

@[simp] theorem State.ctxDestroy_fits (s : State) (src : CmdSource) (hs : s.Fits z) :
    (State.ctxDestroy s src).Fits z := by
  simp +contextual (maxDischargeDepth := 50) [State.ctxDestroy, *]

@[simp] theorem State.ctxResetCmd_fits (s : State) (src : CmdSource) (hs : s.Fits z) :
    (State.ctxResetCmd s src).Fits z := by
  simp +contextual (maxDischargeDepth := 50) [State.ctxResetCmd, *]

@[simp] theorem State.ctxQuery_fits (s : State) (src : CmdSource) (hs : s.Fits z) :
    (State.ctxQuery s src).Fits z := by
  simp +contextual (maxDischargeDepth := 50) [State.ctxQuery, *]

end Sys2Proof.Machine
end

