-- ==== Sys2Proof/Laws/FitsPlats.lean ====
section
/-!
SUPPORT. The operations of Plats.lean keep the queue, the permanent fuses and the form of the memories.
-/
namespace Sys2Proof.Machine

variable {z : Stem}

@[simp] theorem State.setPlat_fits (s : State) (p : Nat) (x3 : Plat) (hs : s.Fits z) :
    (State.setPlat s p x3).Fits z := by
  simp +contextual (maxDischargeDepth := 50) [State.setPlat, *]

@[simp] theorem State.readPlat_fits (s : State) (src : CmdSource) (fab : Fab) (a : Nat) (hs : s.Fits z) :
    (State.readPlat s src fab a).2.Fits z := by
  unfold State.readPlat
  try dsimp only
  repeat' first | (simp +contextual (maxDischargeDepth := 50) [*]; done) | split

@[simp] theorem State.loadPlat_fits (s : State) (src : CmdSource) (b : List Byte) (hs : s.Fits z) :
    (State.loadPlat s src b).Fits z := by
  simp +contextual (maxDischargeDepth := 50) [State.loadPlat, *]

@[simp] theorem State.bindHeld_fits (s : State) (c : Nat) (hs : s.Fits z) :
    (State.bindHeld s c).Fits z := by
  simp +contextual (maxDischargeDepth := 50) [State.bindHeld, *]

@[simp] theorem State.switchSet_fits (s : State) (cmd : Cmd) (set : Nat) (late : Bool) (hs : s.Fits z) :
    (State.switchSet s cmd set late).Fits z := by
  simp +contextual (maxDischargeDepth := 50) [State.switchSet, *]

@[simp] theorem State.reformPlat_fits (s : State) (src : CmdSource) (p : Nat) (b : List Byte) (hs : s.Fits z) :
    (State.reformPlat s src p b).Fits z := by
  unfold State.reformPlat
  try dsimp only
  repeat' first | (simp +contextual (maxDischargeDepth := 50) [*]; done) | split

end Sys2Proof.Machine
end

