-- ==== Sys2Proof/Laws/FitsCollective.lean ====
section
/-!
SUPPORT. The operations of Collective.lean keep the queue, the permanent fuses and the form of the memories.
-/
namespace Sys2Proof.Machine

variable {z : Stem}

@[simp] theorem State.putColl_fits (s : State) (x2 : Coll) (hs : s.Fits z) :
    (State.putColl s x2).Fits z := by
  simp +contextual (maxDischargeDepth := 50) [State.putColl, *]

@[simp] theorem State.modColl_fits (s : State) (id : Nat) (f : Coll → Coll) (hs : s.Fits z) :
    (State.modColl s id f).Fits z := by
  simp +contextual (maxDischargeDepth := 50) [State.modColl, *]

@[simp] theorem State.grantSegs_fits (s : State) (x2 : Coll) (m : Nat) (n : Nat) (first : Bool) (hs : s.Fits z) :
    (State.grantSegs s x2 m n first).Fits z := by
  simp +contextual (maxDischargeDepth := 50) [State.grantSegs, *]

@[simp] theorem State.sendSegs_fits (n : Nat) (s : State) (id : Nat) (hs : s.Fits z) : (State.sendSegs n s id).Fits z := by
  induction n generalizing s with
  | zero => exact hs
  | succ n ih =>
    unfold State.sendSegs
    dsimp only
    repeat' split
    all_goals first | exact hs | (apply ih; simp +contextual (maxDischargeDepth := 50) [*])


@[simp] theorem State.dropColl_fits (s : State) (id : Nat) (hs : s.Fits z) :
    (State.dropColl s id).Fits z := by
  simp +contextual (maxDischargeDepth := 50) [State.dropColl, *]

@[simp] theorem State.replyColl_fits (s : State) (x2 : Coll) (st : Nat) (result : List Byte) (hs : s.Fits z) :
    (State.replyColl s x2 st result).Fits z := by
  simp only [State.replyColl]
  repeat' split
  all_goals first | assumption | simp +contextual (maxDischargeDepth := 50) [*]

@[simp] theorem State.spoil_fits (s : State) (c a n : Nat) (hs : s.Fits z) : (State.spoil s c a n).Fits z := by
  unfold State.spoil
  refine foldl_fits _ _ _ (fun t p ht => ?_) (State.drawBytes_fits s n hs)
  try dsimp only
  split
  · simp [*]
  · exact ht

@[simp] theorem State.abortColl_fits (s : State) (x2 : Coll) (hs : s.Fits z) :
    (State.abortColl s x2).Fits z := by
  simp +contextual (maxDischargeDepth := 50) [State.abortColl, *]

@[simp] theorem State.holdLine_fits (s : State) (c : Nat) (h : Hold) (quad : Nat) (va : Nat) (hs : s.Fits z) :
    (State.holdLine s c h quad va).Fits z := by
  unfold State.holdLine
  try dsimp only
  repeat' first | (simp +contextual (maxDischargeDepth := 50) [*]; done) | split

@[simp] theorem State.takeHold_fits (s : State) (c : Nat) (h : Hold) (hs : s.Fits z) :
    (State.takeHold s c h).Fits z := by
  unfold State.takeHold
  try dsimp only
  repeat' first | (simp +contextual (maxDischargeDepth := 50) [*]; done) | split

@[simp] theorem State.completeColl_fits (s : State) (fab : Fab) (x3 : Coll) (hs : s.Fits z) :
    (State.completeColl s fab x3).Fits z := by
  unfold State.completeColl
  try dsimp only
  repeat' first | (simp +contextual (maxDischargeDepth := 50) [*]; done) | split

@[simp] theorem State.yieldSlot_fits (s : State) (x : Coll) (hs : s.Fits z) :
    (State.yieldSlot s x).Fits z := by
  unfold State.yieldSlot
  try dsimp only
  repeat' first | (simp +contextual (maxDischargeDepth := 50) [*]; done) | split

@[simp] theorem State.runColl_fits (s : State) (fab : Fab) (id : Nat) (hs : s.Fits z) :
    (State.runColl s fab id).Fits z := by
  unfold State.runColl
  try dsimp only
  repeat' first | (simp +contextual (maxDischargeDepth := 50) [*]; done) | split

@[simp] theorem State.enterColl_fits (s : State) (fab : Fab) (x3 : Coll) (hs : s.Fits z) :
    (State.enterColl s fab x3).Fits z := by
  simp +contextual (maxDischargeDepth := 50) [State.enterColl, *]

@[simp] theorem State.takeReform_fits (s : State) (fab : Fab) (p : Nat) (y : Plat) (ms : List (BitVec 15)) (epoch : BitVec 16) (crc : Word32) (hs : s.Fits z) :
    (State.takeReform s fab p y ms epoch crc).Fits z := by
  simp +contextual (maxDischargeDepth := 50) [State.takeReform, *]

@[simp] theorem State.tell_fits (s : State) (to_ : BitVec 15) (cls : TClass) (b : Body) (hs : s.Fits z) :
    (State.tell s to_ cls b).Fits z := by
  simp +contextual (maxDischargeDepth := 50) [State.tell, *]

@[simp] theorem State.refuseReform_fits (s : State) (p : Nat) (y : Plat) (hs : s.Fits z) :
    (State.refuseReform s p y).Fits z := by
  unfold State.refuseReform
  try dsimp only
  repeat' first | (simp +contextual (maxDischargeDepth := 50) [*]; done) | split

@[simp] theorem State.reformColl_fits (s : State) (fab : Fab) (x3 : Coll) (gone : List Nat) (hs : s.Fits z) :
    (State.reformColl s fab x3 gone).Fits z := by
  unfold State.reformColl
  try dsimp only
  repeat' first | (simp +contextual (maxDischargeDepth := 50) [*]; done) | split

@[simp] theorem State.abortAll_fits (s : State) (x2 : Coll) (hs : s.Fits z) :
    (State.abortAll s x2).Fits z := by
  simp +contextual (maxDischargeDepth := 50) [State.abortAll, *]

end Sys2Proof.Machine
end

