-- ==== Sys2Proof/Laws/FitsCollRows.lean ====
section
/-!
SUPPORT. The operations of CollRows.lean keep the queue, the permanent fuses and the form of the memories.
-/
namespace Sys2Proof.Machine

variable {z : Stem}

@[simp] theorem State.beginColl_fits (s : State) (src : CmdSource) (x3 : Coll) (hs : s.Fits z) :
    (State.beginColl s src x3).Fits z := by
  simp +contextual (maxDischargeDepth := 50) [State.beginColl, *]

@[simp] theorem State.collGo_fits (s : State) (src : CmdSource) (fab : Fab) (x4 : Coll) (hs : s.Fits z) :
    (State.collGo s src fab x4).Fits z := by
  simp +contextual (maxDischargeDepth := 50) [State.collGo, *]

@[simp] theorem State.collective_fits (s : State) (src : CmdSource) (fab : Fab) (hs : s.Fits z) :
    (State.collective s src fab).Fits z := by
  unfold State.collective
  try dsimp only
  repeat' first | (simp +contextual (maxDischargeDepth := 50) [*]; done) | split

@[simp] theorem State.staleSeg_fits (s : State) (job : BitVec 16) (hs : s.Fits z) :
    (State.staleSeg s job).Fits z := by
  simp only [State.staleSeg]
  repeat' split
  all_goals first | assumption | simp +contextual (maxDischargeDepth := 50) [*]

@[simp] theorem State.tellRemoved_fits (s : State) (g : Segment) (from_ : BitVec 15) (hs : s.Fits z) :
    (State.tellRemoved s g from_).Fits z := by
  unfold State.tellRemoved
  try dsimp only
  repeat' first | (simp +contextual (maxDischargeDepth := 50) [*]; done) | split

@[simp] theorem State.takeGrant_fits (s : State) (fab : Fab) (x3 : Coll) (g : Grant) (from_ : Nat) (hs : s.Fits z) :
    (State.takeGrant s fab x3 g from_).Fits z := by
  simp +contextual (maxDischargeDepth := 50) [State.takeGrant, *]

end Sys2Proof.Machine
end

