-- ==== Sys2Proof/Laws/FitsDatum.lean ====
section
/-!
SUPPORT. The operations of Datum.lean keep the queue, the permanent fuses and the form of the memories.
-/
namespace Sys2Proof.Machine

variable {z : Stem}

@[simp] theorem State.calibrate_fits (s : State) (hs : s.Fits z) :
    (State.calibrate s).Fits z := by
  simp +contextual (maxDischargeDepth := 50) [State.calibrate, *]

@[simp] theorem State.barrierColl_fits (s : State) (src : CmdSource) (p : Nat) (y : Plat) (hs : s.Fits z) :
    (State.barrierColl s src p y).Fits z := by
  simp +contextual (maxDischargeDepth := 50) [State.barrierColl, *]

@[simp] theorem State.liftGates_fits (s : State) (q : Nat) (fab : Fab) (hs : s.Fits z) :
    (State.liftGates s q fab).Fits z := by
  simp +contextual (maxDischargeDepth := 50) [State.liftGates, *]

@[simp] theorem State.releaseBarrier_fits (s : State) (q : Nat) (fab : Fab) (r : Word64) (late : Bool) (hs : s.Fits z) :
    (State.releaseBarrier s q fab r late).Fits z := by
  unfold State.releaseBarrier
  try dsimp only
  repeat' first | (simp +contextual (maxDischargeDepth := 50) [*]; done) | split

end Sys2Proof.Machine
end

