-- ==== Sys2Proof/Laws/FitsFieldBook.lean ====
section
/-!
SUPPORT. The operations of FieldBook.lean keep the queue, the permanent fuses and the form of the memories.
-/
namespace Sys2Proof.Machine

variable {z : Stem}

@[simp] theorem State.bookCheck_fits (s : State) (code : Nat) (inst : Nat) (hs : s.Fits z) :
    (State.bookCheck s code inst).Fits z := by
  unfold State.bookCheck
  try dsimp only
  repeat' first | (simp +contextual (maxDischargeDepth := 50) [*]; done) | split

end Sys2Proof.Machine
end

