-- ==== Sys2Proof/Laws/FitsLink.lean ====
section
/-!
SUPPORT. The operations of Link.lean keep the queue, the permanent fuses and the form of the memories.
-/
namespace Sys2Proof.Machine

variable {z : Stem}


@[simp] theorem State.leaveInput_fits (s : State) (port : Nat) (p : Packet) (hs : s.Fits z) :
    (State.leaveInput s port p).Fits z := by
  simp +contextual (maxDischargeDepth := 50) [State.leaveInput, *]

@[simp] theorem State.askReplay_fits (s : State) (port : Nat) (hs : s.Fits z) :
    (State.askReplay s port).Fits z := by
  simp +contextual (maxDischargeDepth := 50) [State.askReplay, *]

@[simp] theorem State.flitIn_fits (s : State) (port : Nat) (f : Flit) (put : State → State) (hs : s.Fits z) (hput : ∀ y1, y1.Fits z → (put y1).Fits z) :
    (State.flitIn s port f put).Fits z := by
  simp +contextual (maxDischargeDepth := 50) [State.flitIn, *]

@[simp] theorem State.putInput_fits (s : State) (port : Nat) (p : Packet) (hs : s.Fits z) :
    (State.putInput s port p).Fits z := by
  simp +contextual (maxDischargeDepth := 50) [State.putInput, *]

@[simp] theorem State.countReplay_fits (s : State) (e : SentFlit) (hs : s.Fits z) :
    (State.countReplay s e).Fits z := by
  simp +contextual (maxDischargeDepth := 50) [State.countReplay, *]

@[simp] theorem State.closeEntry_fits (s : State) (r : Request) (hs : s.Fits z) :
    (State.closeEntry s r).2.Fits z := by
  unfold State.closeEntry
  try dsimp only
  repeat' first | (simp +contextual (maxDischargeDepth := 50) [*]; done) | split

@[simp] theorem State.markLeft_fits (s : State) (r : Request) (hs : s.Fits z) :
    (State.markLeft s r).Fits z := by
  simp +contextual (maxDischargeDepth := 50) [State.markLeft, *]

@[simp] theorem State.begin_fits (s : State) (port : Nat) (o : OutPkt) (hs : s.Fits z) :
    (State.begin s port o).2.Fits z := by
  unfold State.begin
  try dsimp only
  repeat' first | (simp +contextual (maxDischargeDepth := 50) [*]; done) | split

@[simp] theorem State.fillOne_fits (s : State) (port : Nat) (b : Body16) (o : OutPkt) (hs : s.Fits z) :
    (State.fillOne s port b o).2.Fits z := by
  unfold State.fillOne
  try dsimp only
  repeat' first | (simp +contextual (maxDischargeDepth := 50) [*]; done) | split

@[simp] theorem fillFlit_fits (port : Nat) (first : OutPkt) (n : Nat) (b : Body16) (s : State) (hs : s.Fits z) :
    (fillFlit port first n b s).2.Fits z := by
  induction n generalizing b s with
  | zero => exact hs
  | succ n ih =>
    unfold fillFlit
    repeat' split
    all_goals first | exact hs | (apply ih; simp +contextual (maxDischargeDepth := 50) [*])


@[simp] theorem State.sendFlit_fits (s : State) (port : Nat) (type : Nat) (bytes : List Byte) (packets : List Packet) (drawn : Nat) (hs : s.Fits z) :
    (State.sendFlit s port type bytes packets drawn).Fits z := by
  unfold State.sendFlit
  try dsimp only
  repeat' first | (simp +contextual (maxDischargeDepth := 50) [*]; done) | split

@[simp] theorem State.sendData_fits (s : State) (port : Nat) (o : OutPkt) (x4 : Port) (hs : s.Fits z) :
    (State.sendData s port o x4).Fits z := by
  simp +contextual (maxDischargeDepth := 50) [State.sendData, *]

@[simp] theorem State.sendAgain_fits (s : State) (port : Nat) (e : SentFlit) (hs : s.Fits z) :
    (State.sendAgain s port e).Fits z := by
  simp +contextual (maxDischargeDepth := 50) [State.sendAgain, *]

@[simp] theorem State.sendManagement_fits (s : State) (port : Nat) (o : OutPkt) (hs : s.Fits z) :
    (State.sendManagement s port o).Fits z := by
  unfold State.sendManagement
  try dsimp only
  repeat' first | (simp +contextual (maxDischargeDepth := 50) [*]; done) | split

@[simp] theorem State.nextFlit_fits (s : State) (port : Nat) (hs : s.Fits z) :
    (State.nextFlit s port).Fits z := by
  unfold State.nextFlit
  try dsimp only
  repeat' first | (simp +contextual (maxDischargeDepth := 50) [*]; done) | split

end Sys2Proof.Machine
end

