-- ==== Sys2Proof/Laws/FitsRouter.lean ====
section
/-!
SUPPORT. The operations of Router.lean keep the queue, the permanent fuses and the form of the memories.
-/
namespace Sys2Proof.Machine

variable {z : Stem}

@[simp] theorem State.tallyDiscard_fits (s : State) (port : Nat) (p : Packet) (hs : s.Fits z) :
    (State.tallyDiscard s port p).Fits z := by
  simp +contextual (maxDischargeDepth := 50) [State.tallyDiscard, *]

@[simp] theorem State.discard_fits (s : State) (port : Nat) (p : Packet) (hs : s.Fits z) :
    (State.discard s port p).Fits z := by
  unfold State.discard
  try dsimp only
  repeat' first | (simp +contextual (maxDischargeDepth := 50) [*]; done) | split

@[simp] theorem State.markJoined_fits (s : State) (r : Request) (hs : s.Fits z) :
    (State.markJoined s r).Fits z := by
  unfold State.markJoined
  try dsimp only
  repeat' first | (simp +contextual (maxDischargeDepth := 50) [*]; done) | split

@[simp] theorem State.countJoin_fits (s : State) (south : Bool) (r : Request) (hs : s.Fits z) :
    (State.countJoin s south r).Fits z := by
  unfold State.countJoin
  try dsimp only
  repeat' first | (simp +contextual (maxDischargeDepth := 50) [*]; done) | split

@[simp] theorem State.queueAt_fits (s : State) (port : Nat) (p : Packet) (hs : s.Fits z) :
    (State.queueAt s port p).Fits z := by
  simp +contextual (maxDischargeDepth := 50) [State.queueAt, *]

@[simp] theorem State.toPort_fits (s : State) (port : Nat) (p : Packet) (hs : s.Fits z) :
    (State.toPort s port p).Fits z := by
  unfold State.toPort
  try dsimp only
  repeat' first | (simp +contextual (maxDischargeDepth := 50) [*]; done) | split

@[simp] theorem State.takeInput_fits (s : State) (port : Nat) (p : Packet) (here : Bool) (hs : s.Fits z) :
    (State.takeInput s port p here).Fits z := by
  unfold State.takeInput
  try dsimp only
  repeat' first | (simp +contextual (maxDischargeDepth := 50) [*]; done) | split

@[simp] theorem State.deliver_fits (s : State) (p : Packet) (hs : s.Fits z) :
    (State.deliver s p).Fits z := by
  unfold State.deliver
  try dsimp only
  repeat' first | (simp +contextual (maxDischargeDepth := 50) [*]; done) | split

@[simp] theorem State.forward_fits (s : State) (from_ : Option Nat) (p : Packet) (hs : s.Fits z) :
    (State.forward s from_ p).Fits z := by
  unfold State.forward
  try dsimp only
  repeat' first | (simp +contextual (maxDischargeDepth := 50) [*]; done) | split

@[simp] theorem State.sendCopy_fits (s : State) (from_ : Option Nat) (p : Packet) (plus : Bool) (count : Nat) (hs : s.Fits z) :
    (State.sendCopy s from_ p plus count).Fits z := by
  simp +contextual (maxDischargeDepth := 50) [State.sendCopy, *]

@[simp] theorem State.copies_fits (s : State) (from_ : Option Nat) (p : Packet) (off : Nat) (hs : s.Fits z) :
    (State.copies s from_ p off).Fits z := by
  simp +contextual (maxDischargeDepth := 50) [State.copies, *]

@[simp] theorem State.fanOut_fits (s : State) (from_ : Option Nat) (e : Combine) (r : Reply) (env : Envelope) (hs : s.Fits z) :
    (State.fanOut s from_ e r env).Fits z := by
  unfold State.fanOut
  try dsimp only
  refine foldl_fits _ _ _ (fun s m hs => ?_) hs
  split <;> simp [*]

end Sys2Proof.Machine
end

