-- ==== Sys2Proof/Laws/FitsTraining.lean ====
section
/-!
SUPPORT. The operations of Training.lean keep the queue, the permanent fuses and the form of the memories.
-/
namespace Sys2Proof.Machine

variable {z : Stem}

@[simp] theorem State.declare_fits (s : State) (d : DownNote) (hs : s.Fits z) :
    (State.declare s d).Fits z := by
  simp +contextual (maxDischargeDepth := 50) [State.declare, *]

@[simp] theorem State.sendNotice_fits (s : State) (d : DownNote) (axes : List Nat) (hs : s.Fits z) :
    (State.sendNotice s d axes).Fits z := by
  simp +contextual (maxDischargeDepth := 50) [State.sendNotice, *]

@[simp] theorem State.emptyPort_fits (s : State) (p : Nat) (state : Nat) (hs : s.Fits z) :
    (State.emptyPort s p state).Fits z := by
  unfold State.emptyPort
  try dsimp only
  repeat' first | (simp +contextual (maxDischargeDepth := 50) [*]; done) | split

@[simp] theorem State.portDown_fits (s : State) (p : Nat) (hs : s.Fits z) :
    (State.portDown s p).Fits z := by
  simp +contextual (maxDischargeDepth := 50) [State.portDown, *]

@[simp] theorem State.settlePort_fits (s : State) (p : Nat) (hs : s.Fits z) :
    (State.settlePort s p).Fits z := by
  simp +contextual (maxDischargeDepth := 50) [State.settlePort, *]

@[simp] theorem State.endProfile_fits (s : State) (hs : s.Fits z) :
    (State.endProfile s).Fits z := by
  unfold State.endProfile
  try dsimp only
  repeat' first | (simp +contextual (maxDischargeDepth := 50) [*]; done) | split

@[simp] theorem State.settle__fits (s : State) (g : Nat) (hs : s.Fits z) :
    (State.settle_ s g).Fits z := by
  simp +contextual (maxDischargeDepth := 50) [State.settle_, *]

@[simp] theorem State.sendIdentity_fits (s : State) (g : Nat) (n : Nat) (hs : s.Fits z) :
    (State.sendIdentity s g n).Fits z := by
  unfold State.sendIdentity
  try dsimp only
  repeat' first | (simp +contextual (maxDischargeDepth := 50) [*]; done) | split

@[simp] theorem State.quarantine_fits (s : State) (g : Nat) (reason : Nat) (hs : s.Fits z) :
    (State.quarantine s g reason).Fits z := by
  simp +contextual (maxDischargeDepth := 50) [State.quarantine, *]

@[simp] theorem State.identified_fits (s : State) (g : Nat) (bs : List Byte) (hs : s.Fits z) :
    (State.identified s g bs).Fits z := by
  simp +contextual (maxDischargeDepth := 50) [State.identified, *]

@[simp] theorem State.leave_fits (s : State) (g : Nat) (hs : s.Fits z) :
    (State.leave s g).Fits z := by
  simp +contextual (maxDischargeDepth := 50) [State.leave, *]

@[simp] theorem State.groupFailed_fits (s : State) (g : Nat) (credits : Nat) (hs : s.Fits z) :
    (State.groupFailed s g credits).Fits z := by
  simp +contextual (maxDischargeDepth := 50) [State.groupFailed, *]

@[simp] theorem State.callSpare_fits (s : State) (p : Nat) (hs : s.Fits z) :
    (State.callSpare s p).Fits z := by
  unfold State.callSpare
  try dsimp only
  repeat' first | (simp +contextual (maxDischargeDepth := 50) [*]; done) | split

@[simp] theorem State.failGroup_fits (s : State) (g : Nat) (hs : s.Fits z) :
    (State.failGroup s g).Fits z := by
  simp +contextual (maxDischargeDepth := 50) [State.failGroup, *]

@[simp] theorem State.retrainPort_fits (s : State) (roles : List Byte) (p : Nat) (hs : s.Fits z) :
    (State.retrainPort s roles p).Fits z := by
  simp +contextual (maxDischargeDepth := 50) [State.retrainPort, *]

@[simp] theorem State.retrainGroups_fits (s : State) (gs : List Nat) (hs : s.Fits z) :
    (State.retrainGroups s gs).Fits z := by
  simp +contextual (maxDischargeDepth := 50) [State.retrainGroups, *]

@[simp] theorem State.applyProfile_fits (s : State) (src : CmdSource) (roles : List Byte) (retrain : Bool) (hs : s.Fits z) :
    (State.applyProfile s src roles retrain).Fits z := by
  simp +contextual (maxDischargeDepth := 50) [State.applyProfile, *]

end Sys2Proof.Machine
end

