-- ==== Sys2Proof/Laws/FitsBringUp.lean ====
section
/-!
SUPPORT. The operations of BringUp.lean keep the queue, the permanent fuses and the form of the memories.
-/
namespace Sys2Proof.Machine

variable {z : Stem}

@[simp] theorem State.railsDown_fits (s : State) (hs : s.Fits z) :
    (State.railsDown s).Fits z := by
  exact ⟨hs.1, hs.2.1, rfl, hs.2.2.2.1, fun e he => absurd he List.not_mem_nil⟩

@[simp] theorem State.cleared_fits (s : State) (hs : s.Fits z) :
    (State.cleared s).Fits z := by
  exact ⟨hs.1, hs.2.1, rfl, hs.2.2.2.1, fun e he => absurd he List.not_mem_nil⟩

@[simp] theorem State.enter_fits (s : State) (x2 : ModState) (hs : s.Fits z) :
    (State.enter s x2).Fits z := by
  simp +contextual (maxDischargeDepth := 50) [State.enter, *]

@[simp] theorem State.booted_fits (s : State) (bankB : Bool) (version : Word32) (security : Nat) (status : Nat) (failed : List Nat) (hs : s.Fits z) :
    (State.booted s bankB version security status failed).Fits z := by
  simp +contextual (maxDischargeDepth := 50) [State.booted, *]

@[simp] theorem State.reportTrip_fits (s : State) (hs : s.Fits z) :
    (State.reportTrip s).Fits z := by
  simp +contextual (maxDischargeDepth := 50) [State.reportTrip, *]

@[simp] theorem State.tryRamp_fits (s : State) (hs : s.Fits z) :
    (State.tryRamp s).Fits z := by
  simp +contextual (maxDischargeDepth := 50) [State.tryRamp, *]

@[simp] theorem State.alignDie_fits (s : State) (die : Nat) (hs : s.Fits z) :
    (State.alignDie s die).Fits z := by
  unfold State.alignDie
  try dsimp only
  repeat' first | (simp +contextual (maxDischargeDepth := 50) [*]; done) | split

@[simp] theorem State.measureCrossing_fits (s : State) (hs : s.Fits z) :
    (State.measureCrossing s).Fits z := by
  unfold State.measureCrossing
  try dsimp only
  repeat' first | (simp +contextual (maxDischargeDepth := 50) [*]; done) | split

@[simp] theorem State.startPorts_fits (s : State) (hs : s.Fits z) :
    (State.startPorts s).Fits z := by
  simp +contextual (maxDischargeDepth := 50) [State.startPorts, *]

end Sys2Proof.Machine
end

