-- ==== Sys2Proof/Laws/FitsRecovery.lean ====
section
/-!
SUPPORT. The operations of Recovery.lean keep the queue, the permanent fuses and the form of the memories.
-/
namespace Sys2Proof.Machine

variable {z : Stem}

@[simp] theorem State.errorSite_fits (s : State) (e : ErrEvent) (hs : s.Fits z) :
    (State.errorSite s e).Fits z := by
  simp +contextual (maxDischargeDepth := 50) [State.errorSite, *]

@[simp] theorem State.resetContext_fits (s : State) (x2 : CtxReset) (hs : s.Fits z) :
    (State.resetContext s x2).Fits z := by
  simp +contextual (maxDischargeDepth := 50) [State.resetContext, *]

@[simp] theorem State.answerAskers_fits (s : State) (x2 : CtxReset) (hs : s.Fits z) :
    (State.answerAskers s x2).Fits z := by
  unfold State.answerAskers
  refine foldl_fits _ _ _ (fun s q hs => ?_) hs
  repeat' split
  all_goals simp [*]

@[simp] theorem State.contextDone_fits (s : State) (x2 : CtxReset) (hs : s.Fits z) :
    (State.contextDone s x2).Fits z := by
  simp +contextual (maxDischargeDepth := 50) [State.contextDone, *]

@[simp] theorem State.handBack_fits (s : State) (rank : Nat) (t : TileRun) (hs : s.Fits z) :
    (State.handBack s rank t).Fits z := by
  simp +contextual (maxDischargeDepth := 50) [State.handBack, *]

@[simp] theorem State.resetCore_fits (s : State) (x2 : CoreReset) (hs : s.Fits z) :
    (State.resetCore s x2).Fits z := by
  unfold State.resetCore
  try dsimp only
  refine State.modRecov_fits _ _ ?_
  repeat' first | (simp +contextual (maxDischargeDepth := 50) [*]; done) | split
  all_goals
    refine foldr_fits _ _ _ (fun r s hs => by simp [*]) ?_
    repeat' first | (simp +contextual (maxDischargeDepth := 50) [*]; done) | split

@[simp] theorem State.coreDone_fits (s : State) (x2 : CoreReset) (hs : s.Fits z) :
    (State.coreDone s x2).Fits z := by
  simp +contextual (maxDischargeDepth := 50) [State.coreDone, *]

@[simp] theorem State.timeoutCmd_fits (s : State) (p : Cmd → Bool) (q : Nat) (hs : s.Fits z) :
    (State.timeoutCmd s p q).Fits z := by
  simp only [State.timeoutCmd]
  repeat' split
  all_goals first | assumption | simp +contextual (maxDischargeDepth := 50) [*]

@[simp] theorem State.endHanded_fits (s : State) (p : Proc) (hs : s.Fits z) :
    (State.endHanded s p).Fits z := by
  unfold State.endHanded
  try dsimp only
  split
  · exact hs
  · refine foldl_fits _ _ _ (fun s q hs => by simp [*]) ?_
    refine foldl_fits _ _ _ (fun s q hs => ?_) hs
    repeat' first | (simp +contextual (maxDischargeDepth := 50) [*]; done) | split
  · refine foldl_fits _ _ _ (fun s q hs => by simp [*]) ?_
    simp only [State.mk_fits]
    refine State.Fits.parts ?_
    refine foldl_fits _ _ _ (fun s q hs => ?_) hs
    repeat' first | (simp +contextual (maxDischargeDepth := 50) [*]; done) | split

@[simp] theorem State.restart_fits (s : State) (x2 : ProcRestart) (hs : s.Fits z) :
    (State.restart s x2).Fits z := by
  simp +contextual (maxDischargeDepth := 50) [State.restart, *]

@[simp] theorem State.restarted_fits (s : State) (x2 : ProcRestart) (hs : s.Fits z) :
    (State.restarted s x2).Fits z := by
  simp +contextual (maxDischargeDepth := 50) [State.restarted, *]

@[simp] theorem State.stopModule_fits (s : State) (code : Nat) (hs : s.Fits z) :
    (State.stopModule s code).Fits z := by
  simp +contextual (maxDischargeDepth := 50) [State.stopModule, *]

@[simp] theorem popErrors_fits (n : Nat) (s : State) (hs : s.Fits z) : (popErrors n s).2.Fits z := by
  induction n generalizing s with
  | zero => exact hs
  | succ n ih =>
    unfold popErrors
    split
    · exact hs
    · exact ih _ (drainAlarms_fits _ _ (by simp +contextual (maxDischargeDepth := 50) [*]))


@[simp] theorem State.errRead_fits (s : State) (src : CmdSource) (hs : s.Fits z) :
    (State.errRead s src).Fits z := by
  simp +contextual (maxDischargeDepth := 50) [State.errRead, *]

@[simp] theorem State.huskRead_fits (s : State) (src : CmdSource) (hs : s.Fits z) :
    (State.huskRead s src).Fits z := by
  unfold State.huskRead
  try dsimp only
  repeat' first | (simp +contextual (maxDischargeDepth := 50) [*]; done) | split

@[simp] theorem State.tallyRead_fits (s : State) (src : CmdSource) (hs : s.Fits z) :
    (State.tallyRead s src).Fits z := by
  unfold State.tallyRead
  try dsimp only
  repeat' first | (simp +contextual (maxDischargeDepth := 50) [*]; done) | split

end Sys2Proof.Machine
end

