-- ==== Sys2Proof/Laws/FitsControl.lean ====
section
/-!
SUPPORT. The operations of Control.lean keep the queue, the permanent fuses and the form of the memories.
-/
namespace Sys2Proof.Machine

variable {z : Stem}

@[simp] theorem State.modMst_fits (s : State) (m : Master) (f : MasterRegs → MasterRegs) (hs : s.Fits z) :
    (State.modMst s m f).Fits z := by
  unfold State.modMst
  try dsimp only
  repeat' first | (simp +contextual (maxDischargeDepth := 50) [*]; done) | split

@[simp] theorem State.modGlobal_fits (s : State) (f : GlobalRegs → GlobalRegs) (hs : s.Fits z) :
    (State.modGlobal s f).Fits z := by
  simp +contextual (maxDischargeDepth := 50) [State.modGlobal, *]

@[simp] theorem State.modPlan_fits (s : State) (f : Plan → Plan) (hs : s.Fits z) :
    (State.modPlan s f).Fits z := by
  simp +contextual (maxDischargeDepth := 50) [State.modPlan, *]

@[simp] theorem State.touchWindow_fits (s : State) (m : Master) (off : Nat) (hs : s.Fits z) :
    (State.touchWindow s m off).Fits z := by
  simp only [State.touchWindow]
  repeat' split
  all_goals first | assumption | simp +contextual (maxDischargeDepth := 50) [*]

@[simp] theorem State.clearRc_fits (s : State) (m : Master) (off : Nat) (low : Bool) (high : Bool) (hs : s.Fits z) :
    (State.clearRc s m off low high).Fits z := by
  simp +contextual (maxDischargeDepth := 50) [State.clearRc, *]

@[simp] theorem State.readReg_fits (s : State) (m : Master) (off : Nat) (hs : s.Fits z) :
    (State.readReg s m off).2.Fits z := by
  simp +contextual (maxDischargeDepth := 50) [State.readReg, *]

@[simp] theorem State.readHalf_fits (s : State) (m : Master) (off : Nat) (hs : s.Fits z) :
    (State.readHalf s m off).2.Fits z := by
  unfold State.readHalf
  try dsimp only
  repeat' first | (simp +contextual (maxDischargeDepth := 50) [*]; done) | split

@[simp] theorem State.refuseWrite_fits (s : State) (m : Master) (base : Nat) (hs : s.Fits z) :
    (State.refuseWrite s m base).Fits z := by
  simp +contextual (maxDischargeDepth := 50) [State.refuseWrite, *]

@[simp] theorem State.refuseIf_fits (s : State) (m : Master) (base : Nat) (bad : Bool) (hs : s.Fits z) :
    (State.refuseIf s m base bad).Fits z := by
  simp +contextual (maxDischargeDepth := 50) [State.refuseIf, *]

@[simp] theorem State.writeGlobal_fits (s : State) (m : Master) (o : Nat) (v : Nat) (hs : s.Fits z) :
    (State.writeGlobal s m o v).Fits z := by
  unfold State.writeGlobal
  try dsimp only
  repeat' first | (simp +contextual (maxDischargeDepth := 50) [*]; done) | split

@[simp] theorem State.follow_fits (s : State) (m : Master) (base : Nat) (o : Nat) (hs : s.Fits z) :
    (State.follow s m base o).Fits z := by
  simp +contextual (maxDischargeDepth := 50) [State.follow, *]

@[simp] theorem State.writeSelect_fits (s : State) (m : Master) (o : Nat) (v : Nat) (hs : s.Fits z) :
    (State.writeSelect s m o v).Fits z := by
  simp only [State.writeSelect]
  repeat' split
  all_goals first | assumption | simp +contextual (maxDischargeDepth := 50) [*]

@[simp] theorem State.quarantinePort_fits (s : State) (p : Nat) (hs : s.Fits z) :
    (State.quarantinePort s p).Fits z := by
  simp +contextual (maxDischargeDepth := 50) [State.quarantinePort, *]

@[simp] theorem State.noPlan_fits (s : State) (hs : s.Fits z) :
    (State.noPlan s).Fits z := by
  simp +contextual (maxDischargeDepth := 50) [State.noPlan, *]

@[simp] theorem State.install_fits (s : State) (p : Plan) (hs : s.Fits z) :
    (State.install s p).Fits z := by
  simp +contextual (maxDischargeDepth := 50) [State.install, *]

@[simp] theorem State.commitPlan_fits (s : State) (hs : s.Fits z) :
    (State.commitPlan s).Fits z := by
  simp +contextual (maxDischargeDepth := 50) [State.commitPlan, *]

@[simp] theorem State.writePlan_fits (s : State) (m : Master) (o : Nat) (v : Nat) (commit : Bool) (hs : s.Fits z) :
    (State.writePlan s m o v commit).Fits z := by
  unfold State.writePlan
  try dsimp only
  repeat' first | (simp +contextual (maxDischargeDepth := 50) [*]; done) | split

@[simp] theorem State.writeQctrl_fits (s : State) (m : Master) (q : Nat) (v : Nat) (hs : s.Fits z) :
    (State.writeQctrl s m q v).Fits z := by
  simp +contextual (maxDischargeDepth := 50) [State.writeQctrl, *]

@[simp] theorem State.writeQueue_fits (s : State) (m : Master) (q : Nat) (o : Nat) (v : Nat) (hs : s.Fits z) :
    (State.writeQueue s m q o v).Fits z := by
  unfold State.writeQueue
  try dsimp only
  repeat' first | (simp +contextual (maxDischargeDepth := 50) [*]; done) | split

@[simp] theorem State.writeCtx_fits (s : State) (m : Master) (c : Nat) (o : Nat) (v : Nat) (hs : s.Fits z) :
    (State.writeCtx s m c o v).Fits z := by
  unfold State.writeCtx
  try dsimp only
  repeat' first | (simp +contextual (maxDischargeDepth := 50) [*]; done) | split

@[simp] theorem State.writePort_fits (s : State) (m : Master) (p : Nat) (o : Nat) (v : Nat) (hs : s.Fits z) :
    (State.writePort s m p o v).Fits z := by
  simp +contextual (maxDischargeDepth := 50) [State.writePort, *]

@[simp] theorem State.popHead_fits (s : State) (hs : s.Fits z) :
    (State.popHead s).Fits z := by
  simp +contextual (maxDischargeDepth := 50) [State.popHead, *]

@[simp] theorem State.writeDatum_fits (s : State) (m : Master) (o : Nat) (v : Nat) (hs : s.Fits z) :
    (State.writeDatum s m o v).Fits z := by
  simp +contextual (maxDischargeDepth := 50) [State.writeDatum, *]

@[simp] theorem State.writeStatus_fits (s : State) (m : Master) (base : Nat) (one : Bool) (hs : s.Fits z) :
    (State.writeStatus s m base one).Fits z := by
  simp +contextual (maxDischargeDepth := 50) [State.writeStatus, *]

@[simp] theorem State.writeReg_fits (s : State) (m : Master) (off : Nat) (mask : Word64) (v : Word64) (hs : s.Fits z) :
    (State.writeReg s m off mask v).Fits z := by
  unfold State.writeReg
  split
  · exact hs
  · refine ite_fits _ (by simp [*]) (ite_fits _ (by simp [*]) ?_)
    split <;> simp [*]

@[simp] theorem apWrite_fits (c : Nat) (fab : Fab) (l : List (Nat × Nat)) (bs : List Byte) (s : State) (hs : s.Fits z) :
    (apWrite c fab l bs s).Fits z := by
  induction l generalizing s bs with
  | nil => exact hs
  | cons p l ih => exact ih _ _ (by simp [*])


end Sys2Proof.Machine
end

