-- ==== Sys2Proof/Laws/FitsExpert.lean ====
section
/-!
SUPPORT. The operations of Expert.lean keep the queue, the permanent fuses and the form of the memories.
-/
namespace Sys2Proof.Machine

variable {z : Stem}

@[simp] theorem State.configInbox_fits (s : State) (src : CmdSource) (b : List Byte) (fab : Fab) (hs : s.Fits z) :
    (State.configInbox s src b fab).Fits z := by
  unfold State.configInbox
  try dsimp only
  repeat' first | (simp +contextual (maxDischargeDepth := 50) [*]; done) | split

@[simp] theorem State.modWaves_fits (s : State) (c : Nat) (w : Word32) (m : Nat) (i : Nat) (f : WaveCount → WaveCount) (hs : s.Fits z) :
    (State.modWaves s c w m i f).Fits z := by
  simp +contextual (maxDischargeDepth := 50) [State.modWaves, *]

@[simp] theorem State.markWave_fits (s : State) (c : Nat) (w : Word32) (hs : s.Fits z) :
    (State.markWave s c w).Fits z := by
  unfold State.markWave
  try dsimp only
  repeat' first | (simp +contextual (maxDischargeDepth := 50) [*]; done) | split

@[simp] theorem State.mismatch_fits (s : State) (c : Nat) (w : Word32) (m : Nat) (i : Nat) (hs : s.Fits z) :
    (State.mismatch s c w m i).Fits z := by
  simp +contextual (maxDischargeDepth := 50) [State.mismatch, *]

@[simp] theorem State.sendRow_fits (s : State) (dst : BitVec 15) (isReply : Bool) (cls : TClass) (h : RowSeg) (bs : List Byte) (hs : s.Fits z) :
    (State.sendRow s dst isReply cls h bs).Fits z := by
  unfold State.sendRow
  try dsimp only
  repeat' first | (simp +contextual (maxDischargeDepth := 50) [*]; done) | split

@[simp] theorem State.endOfWave_fits (s : State) (c : Nat) (w : Word32) (hs : s.Fits z) :
    (State.endOfWave s c w).Fits z := by
  simp +contextual (maxDischargeDepth := 50) [State.endOfWave, *]

@[simp] theorem State.sendRecord_fits (s : State) (c : Nat) (o : Origin) (b : List Byte) (fab : Fab) (hs : s.Fits z) :
    (State.sendRecord s c o b fab).Fits z := by
  unfold State.sendRecord
  try dsimp only
  repeat' first | (simp +contextual (maxDischargeDepth := 50) [*]; done) | split

@[simp] theorem State.dispatch_fits (s : State) (c : Nat) (o : Origin) (fab : Fab) (hs : s.Fits z) :
    (State.dispatch s c o fab).Fits z := by
  unfold State.dispatch
  try dsimp only
  repeat' first | (simp +contextual (maxDischargeDepth := 50) [*]; done) | split

@[simp] theorem State.closeBatch_fits (s : State) (fab : Fab) (i : Nat) (v : Wave) (k : CloseCause) (hs : s.Fits z) :
    (State.closeBatch s fab i v k).Fits z := by
  simp +contextual (maxDischargeDepth := 50) [State.closeBatch, *]

@[simp] theorem State.closeInbox_fits (n : Nat) (s : State) (fab : Fab) (i : Nat) (hs : s.Fits z) :
    (State.closeInbox n s fab i).Fits z := by
  induction n generalizing s with
  | zero => exact hs
  | succ n ih =>
    unfold State.closeInbox
    dsimp only
    repeat' split
    all_goals first | exact hs | exact ih _ (by simp [*])


@[simp] theorem State.sendReturn_fits (s : State) (i : Nat) (x3 : Inbox) (r : Row) (st : RetStatus) (bs : List Byte) (hs : s.Fits z) :
    (State.sendReturn s i x3 r st bs).Fits z := by
  simp +contextual (maxDischargeDepth := 50) [State.sendReturn, *]

@[simp] theorem State.sendReceipts_fits (s : State) (i : Nat) (x3 : Inbox) (v : Wave) (hs : s.Fits z) :
    (State.sendReceipts s i x3 v).Fits z := by
  simp +contextual (maxDischargeDepth := 50) [State.sendReceipts, *]

@[simp] theorem State.endWaves_fits (s : State) (i : Nat) (hs : s.Fits z) :
    (State.endWaves s i).Fits z := by
  simp +contextual (maxDischargeDepth := 50) [State.endWaves, *]

@[simp] theorem State.inboxOn_fits (s : State) (fab : Fab) (i : Nat) (hs : s.Fits z) :
    (State.inboxOn s fab i).Fits z := by
  simp +contextual (maxDischargeDepth := 50) [State.inboxOn, *]

@[simp] theorem State.dropExpertRow_fits (s : State) (i : Nat) (r : Row) (hs : s.Fits z) :
    (State.dropExpertRow s i r).Fits z := by
  simp +contextual (maxDischargeDepth := 50) [State.dropExpertRow, *]

@[simp] theorem State.takeRelaxed_fits (s : State) (i : Nat) (r : Row) (hs : s.Fits z) :
    (State.takeRelaxed s i r).Fits z := by
  simp +contextual (maxDischargeDepth := 50) [State.takeRelaxed, *]

@[simp] theorem State.cutWave_fits (s : State) (i : Nat) (w : Word32) (hs : s.Fits z) :
    (State.cutWave s i w).Fits z := by
  simp +contextual (maxDischargeDepth := 50) [State.cutWave, *]

@[simp] theorem State.refuseRow_fits (s : State) (p : Packet) (g : RowSeg) (x4 : Option Inbox) (hs : s.Fits z) :
    (State.refuseRow s p g x4).Fits z := by
  unfold State.refuseRow
  try dsimp only
  repeat' first | (simp +contextual (maxDischargeDepth := 50) [*]; done) | split

@[simp] theorem State.newRow_fits (s : State) (i : Nat) (x3 : Inbox) (g : RowSeg) (src : BitVec 15) (land : Nat) (hs : s.Fits z) :
    (State.newRow s i x3 g src land).Fits z := by
  simp +contextual (maxDischargeDepth := 50) [State.newRow, *]

@[simp] theorem State.landRow_fits (s : State) (fab : Fab) (i : Nat) (g : RowSeg) (src : BitVec 15) (hs : s.Fits z) :
    (State.landRow s fab i g src).Fits z := by
  unfold State.landRow
  try dsimp only
  repeat' first | (simp +contextual (maxDischargeDepth := 50) [*]; done) | split

@[simp] theorem State.rowSegment_fits (s : State) (fab : Fab) (p : Packet) (g : RowSeg) (hs : s.Fits z) :
    (State.rowSegment s fab p g).Fits z := by
  unfold State.rowSegment
  try dsimp only
  repeat' first | (simp +contextual (maxDischargeDepth := 50) [*]; done) | split

@[simp] theorem State.marker_fits (s : State) (fab : Fab) (g : RowSeg) (src : BitVec 15) (hs : s.Fits z) :
    (State.marker s fab g src).Fits z := by
  unfold State.marker
  try dsimp only
  repeat' first | (simp +contextual (maxDischargeDepth := 50) [*]; done) | split

@[simp] theorem State.returnRow_fits (s : State) (fab : Fab) (i : Nat) (land : Nat) (hs : s.Fits z) :
    (State.returnRow s fab i land).Fits z := by
  unfold State.returnRow
  try dsimp only
  repeat' first | (simp +contextual (maxDischargeDepth := 50) [*]; done) | split

@[simp] theorem State.endBatch_fits (s : State) (fab : Fab) (i : Nat) (b : Batch) (hs : s.Fits z) :
    (State.endBatch s fab i b).Fits z := by
  unfold State.endBatch
  try dsimp only
  repeat' first | (simp +contextual (maxDischargeDepth := 50) [*]; done) | split

@[simp] theorem State.combineOne_fits (s : State) (c : Nat) (o : Origin) (fab : Fab) (ps : List Place) (token : Nat) (hs : s.Fits z) :
    (State.combineOne s c o fab ps token).Fits z := by
  simp +contextual (maxDischargeDepth := 50) [State.combineOne, *]

@[simp] theorem State.endOriginWave_fits (s : State) (c : Nat) (fab : Fab) (w : Word32) (hs : s.Fits z) :
    (State.endOriginWave s c fab w).Fits z := by
  unfold State.endOriginWave
  try dsimp only
  repeat' first | (simp +contextual (maxDischargeDepth := 50) [*]; done) | split

@[simp] theorem State.orphanReturn_fits (s : State) (c : Nat) (g : RowSeg) (src : Nat) (hs : s.Fits z) :
    (State.orphanReturn s c g src).Fits z := by
  simp +contextual (maxDischargeDepth := 50) [State.orphanReturn, *]

@[simp] theorem State.modPlace_fits (s : State) (c : Nat) (p : Place) (f : Place → Place) (hs : s.Fits z) :
    (State.modPlace s c p f).Fits z := by
  simp +contextual (maxDischargeDepth := 50) [State.modPlace, *]

@[simp] theorem State.takeReturn_fits (s : State) (fab : Fab) (c : Nat) (g : RowSeg) (p : Place) (hs : s.Fits z) :
    (State.takeReturn s fab c g p).Fits z := by
  unfold State.takeReturn
  try dsimp only
  repeat' first | (simp +contextual (maxDischargeDepth := 50) [*]; done) | split

@[simp] theorem State.formerOrphan_fits (s : State) (g : RowSeg) (hs : s.Fits z) :
    (State.formerOrphan s g).Fits z := by
  unfold State.formerOrphan
  try dsimp only
  repeat' first | (simp +contextual (maxDischargeDepth := 50) [*]; done) | split

@[simp] theorem State.takeReceipt_fits (s : State) (c : Nat) (r : Receipt) (m : Nat) (hs : s.Fits z) :
    (State.takeReceipt s c r m).Fits z := by
  unfold State.takeReceipt
  try dsimp only
  repeat' first | (simp +contextual (maxDischargeDepth := 50) [*]; done) | split

@[simp] theorem State.homeReset_fits (s : State) (c : Nat) (g : RowSeg) (m : Nat) (hs : s.Fits z) :
    (State.homeReset s c g m).Fits z := by
  simp +contextual (maxDischargeDepth := 50) [State.homeReset, *]

@[simp] theorem State.inboxQuery_fits (s : State) (src : CmdSource) (fab : Fab) (hs : s.Fits z) :
    (State.inboxQuery s src fab).Fits z := by
  simp +contextual (maxDischargeDepth := 50) [State.inboxQuery, *]

end Sys2Proof.Machine
end

