-- ==== Sys2Proof/Laws/FitsLoader.lean ====
section
/-!
SUPPORT. The operations of Loader.lean keep the queue, the permanent fuses and the form of the memories.
-/
namespace Sys2Proof.Machine

variable {z : Stem}

@[simp] theorem State.rejectImage_fits (s : State) (cmd : Cmd) (d : Defect) (hs : s.Fits z) :
    (State.rejectImage s cmd d).Fits z := by
  simp +contextual (maxDischargeDepth := 50) [State.rejectImage, *]

@[simp] theorem State.accept_fits (s : State) (src : CmdSource) (b : List Byte) (hs : s.Fits z) :
    (State.accept s src b).Fits z := by
  simp +contextual (maxDischargeDepth := 50) [State.accept, *]

@[simp] theorem State.load_fits (s : State) (src : CmdSource) (fab : Fab) (hs : s.Fits z) :
    (State.load s src fab).Fits z := by
  unfold State.load
  try dsimp only
  repeat' first | (simp +contextual (maxDischargeDepth := 50) [*]; done) | split

end Sys2Proof.Machine
end

