-- ==== Sys2Proof/Laws/FitsMemCmds.lean ====
section
/-!
SUPPORT. The operations of MemCmds.lean keep the queue, the permanent fuses and the form of the memories.
-/
namespace Sys2Proof.Machine

variable {z : Stem}

@[simp] theorem State.reserve_fits (s : State) (c : Nat) (cmd : Cmd) (list : List (BitVec 15)) (pn : Nat) (hs : s.Fits z) :
    (State.reserve s c cmd list pn).Fits z := by
  simp +contextual (maxDischargeDepth := 50) [State.reserve, *]

@[simp] theorem State.unreserve_fits (s : State) (c : Nat) (p : Nat × RegAnswer) (hs : s.Fits z) :
    (State.unreserve s c p).Fits z := by
  simp +contextual (maxDischargeDepth := 50) [State.unreserve, *]

@[simp] theorem State.allocate_fits (s : State) (src : CmdSource) (list : List Nat) (fab : Fab) (hs : s.Fits z) :
    (State.allocate s src list fab).Fits z := by
  unfold State.allocate
  try dsimp only
  repeat' first | (simp +contextual (maxDischargeDepth := 50) [*]; done) | split

@[simp] theorem State.alloc_fits (s : State) (src : CmdSource) (fab : Fab) (hs : s.Fits z) :
    (State.alloc s src fab).Fits z := by
  simp +contextual (maxDischargeDepth := 50) [State.alloc, *]

@[simp] theorem State.free__fits (s : State) (src : CmdSource) (fab : Fab) (hs : s.Fits z) :
    (State.free_ s src fab).Fits z := by
  simp +contextual (maxDischargeDepth := 50) [State.free_, *]

@[simp] theorem State.copyRead_fits (s : State) (src : CmdSource) (fab : Fab) (hs : s.Fits z) :
    (State.copyRead s src fab).2.Fits z := by
  unfold State.copyRead
  try dsimp only
  repeat' first | (simp +contextual (maxDischargeDepth := 50) [*]; done) | split

@[simp] theorem State.copyWrite_fits (s : State) (src : CmdSource) (fab : Fab) (bs : List Byte) (hs : s.Fits z) :
    (State.copyWrite s src fab bs).Fits z := by
  simp +contextual (maxDischargeDepth := 50) [State.copyWrite, *]

@[simp] theorem State.copyCmd_fits (s : State) (src : CmdSource) (fab : Fab) (hs : s.Fits z) :
    (State.copyCmd s src fab).Fits z := by
  simp +contextual (maxDischargeDepth := 50) [State.copyCmd, *]

@[simp] theorem State.fillCmd_fits (s : State) (src : CmdSource) (fab : Fab) (hs : s.Fits z) :
    (State.fillCmd s src fab).Fits z := by
  simp +contextual (maxDischargeDepth := 50) [State.fillCmd, *]

@[simp] theorem State.invalidateCmd_fits (s : State) (src : CmdSource) (hs : s.Fits z) :
    (State.invalidateCmd s src).Fits z := by
  simp +contextual (maxDischargeDepth := 50) [State.invalidateCmd, *]

@[simp] theorem State.pinHere_fits (s : State) (job : BitVec 16) (pn : Nat) (hs : s.Fits z) :
    (State.pinHere s job pn).Fits z := by
  unfold State.pinHere
  try dsimp only
  repeat' first | (simp +contextual (maxDischargeDepth := 50) [*]; done) | split

@[simp] theorem State.pinEntry_fits (s : State) (job : BitVec 16) (pn : Nat) (m : Nat) (hs : s.Fits z) :
    (State.pinEntry s job pn m).Fits z := by
  unfold State.pinEntry
  try dsimp only
  repeat' split
  all_goals first | assumption | simp +contextual (maxDischargeDepth := 50) [*]

/-- A paged parcel pinned keeps the form. -/
theorem State.pinPaged_fits (s : State) (e : CadEntry) (m f : Nat) (fab : Fab) (hs : s.Fits z) :
    ∀ t, s.pinPaged e m f fab = some t → t.Fits z := by
  intro t h
  unfold State.pinPaged at h
  dsimp only at h
  split at h
  · split at h <;> (cases h; simp +contextual (maxDischargeDepth := 50) [*])
  · split at h
    · obtain ⟨bs, _, h⟩ := Option.map_eq_some_iff.mp h
      subst h
      simp +contextual (maxDischargeDepth := 50) [*]
    · cases h
      simp +contextual (maxDischargeDepth := 50) [*]


@[simp] theorem PinRun.move_st (x : PinRun) (s : State) (pn : Nat) : (x.move s pn).st = s := rfl

@[simp] theorem PinRun.failed_fits (x : PinRun) (c : Nat) (att : Attrib) (pn target st : Nat) (hx : x.st.Fits z) :
    (x.failed c att pn target st).st.Fits z := by
  simp [PinRun.failed, hx]

@[simp] theorem PinRun.parcel_fits (x : PinRun) (c : Nat) (att : Attrib) (m : Nat) (fab : Fab) (pn : Nat) (hx : x.st.Fits z) :
    (x.parcel c att m fab pn).st.Fits z := by
  unfold PinRun.parcel
  dsimp only
  repeat' split
  all_goals first
    | exact hx
    | exact PinRun.failed_fits _ _ _ _ _ _ hx
    | exact State.pinPaged_fits _ _ _ _ _ hx _ ‹_›
    | simp (maxDischargeDepth := 50) [hx]

@[simp] theorem PinRun.remote_fits (x : PinRun) (c : Nat) (att : Attrib) (m : Nat) (fab : Fab) (pn : Nat) (hx : x.st.Fits z) :
    (x.remote c att m fab pn).st.Fits z := by
  unfold PinRun.remote
  dsimp only
  repeat' split
  all_goals first | exact hx | simp [hx]

/-- A run over parcels keeps the form when each of them does. -/
theorem pinFold_fits (l : List Nat) (f : PinRun → Nat → PinRun) (x : PinRun) (hf : ∀ x pn, x.st.Fits z → (f x pn).st.Fits z)
    (hx : x.st.Fits z) : (l.foldl f x).st.Fits z := by
  induction l generalizing x with
  | nil => exact hx
  | cons pn l ih => exact ih _ (hf _ _ hx)

@[simp] theorem State.pinMine_fits (s : State) (src : CmdSource) (fab : Fab) (hs : s.Fits z) : (s.pinMine src fab).st.Fits z :=
  State.modCmd_fits _ _ _ (pinFold_fits _ _ _ (fun _ _ hx => PinRun.parcel_fits _ _ _ _ _ _ hx) hs)

@[simp] theorem PinRun.others_fits (x : PinRun) (src : CmdSource) (m : Nat) (fab : Fab) (pns : List Nat) (hx : x.st.Fits z) :
    (x.others src m fab pns).st.Fits z :=
  pinFold_fits _ _ _ (fun _ _ hx => PinRun.remote_fits _ _ _ _ _ _ hx) hx

@[simp] theorem PinRun.reply_fits (x : PinRun) (src : CmdSource) (hx : x.st.Fits z) : (x.reply src).Fits z := by
  unfold PinRun.reply
  split <;> exact State.finishCounted_fits _ _ _ _ hx

@[simp] theorem State.pinCmd_fits (s : State) (src : CmdSource) (fab : Fab) (hs : s.Fits z) : (s.pinCmd src fab).Fits z := by
  unfold State.pinCmd
  dsimp only
  repeat' first | (simp (maxDischargeDepth := 50) [hs]; done) | split

@[simp] theorem State.hintAnchor_fits (s : State) (src : CmdSource) (hs : s.Fits z) :
    (State.hintAnchor s src).Fits z := by
  simp +contextual (maxDischargeDepth := 50) [State.hintAnchor, *]

@[simp] theorem State.hintPrefer_fits (s : State) (src : CmdSource) (hs : s.Fits z) :
    (State.hintPrefer s src).Fits z := by
  simp +contextual (maxDischargeDepth := 50) [State.hintPrefer, *]

@[simp] theorem State.hintCold_fits (s : State) (src : CmdSource) (hs : s.Fits z) :
    (State.hintCold s src).Fits z := by
  simp +contextual (maxDischargeDepth := 50) [State.hintCold, *]

@[simp] theorem State.hintWillUse_fits (s : State) (src : CmdSource) (hs : s.Fits z) :
    (State.hintWillUse s src).Fits z := by
  simp +contextual (maxDischargeDepth := 50) [State.hintWillUse, *]

@[simp] theorem State.withdraw_fits (s : State) (hs : s.Fits z) :
    (State.withdraw s).Fits z := by
  simp +contextual (maxDischargeDepth := 50) [State.withdraw, *]

@[simp] theorem State.lend_fits (s : State) (src : CmdSource) (hs : s.Fits z) :
    (State.lend s src).Fits z := by
  simp +contextual (maxDischargeDepth := 50) [State.lend, *]

end Sys2Proof.Machine
end

