-- ==== Sys2Proof/Laws/FitsReduction.lean ====
section
/-!
SUPPORT. The operations of Reduction.lean keep the queue, the permanent fuses and the form of the memories.
-/
namespace Sys2Proof.Machine

variable {z : Stem}

@[simp] theorem State.reduceStep_fits (s : State) (k : Nat) (nn : Nat) (w : InstrWord) (hs : s.Fits z) :
    (State.reduceStep s k nn w).Fits z := by
  have hk : Memory.wf (s.core k).spad = true := fits_spad k hs
  unfold State.reduceStep
  try dsimp only
  simp +contextual (maxDischargeDepth := 50) [*]

end Sys2Proof.Machine
end

