-- ==== Sys2Proof/Laws/FitsVector.lean ====
section
/-!
SUPPORT. The operations of Vector.lean keep the queue, the permanent fuses and the form of the memories.
-/
namespace Sys2Proof.Machine

variable {z : Stem}

@[simp] theorem State.laneStep_fits (s : State) (k : Nat) (nn : Nat) (w : InstrWord) (hs : s.Fits z) :
    (State.laneStep s k nn w).Fits z := by
  have hk : Memory.wf (s.core k).spad = true := fits_spad k hs
  unfold State.laneStep
  try dsimp only
  split <;> simp +contextual (maxDischargeDepth := 50) [*]

end Sys2Proof.Machine
end

