-- ==== Sys2Proof/Laws/FitsOptimiser.lean ====
section
/-!
SUPPORT. The operations of Optimiser.lean keep the queue, the permanent fuses and the form of the memories.
-/
namespace Sys2Proof.Machine

variable {z : Stem}

/-- One element of a fused instruction keeps the scratchpad's form. -/
theorem optElem_wf (adam : Bool) (kc : OptConst) (job : BitVec 16) (c : Core) (w : InstrWord) (l : List Nat) (acc : OptAcc)
    (h : Memory.wf acc.spad = true) : Memory.wf (l.foldl (optElem adam kc job c w) acc).spad = true := by
  induction l generalizing acc with
  | nil => exact h
  | cons n l ih =>
    refine ih _ ?_
    unfold optElem
    dsimp only
    repeat' first | exact h | (simp (maxDischargeDepth := 9) [h]; done) | split

@[simp] theorem State.optStepExe_fits (s : State) (k : Nat) (adam : Bool) (w : InstrWord) (hs : s.Fits z) :
    (s.optStepExe k adam w).Fits z := by
  have hk : Memory.wf (s.core k).spad = true := fits_spad k hs
  unfold State.optStepExe
  try dsimp only
  split
  · simp +contextual (maxDischargeDepth := 50) [*]
  · have := optElem_wf adam (by assumption) (s.drawJob (s.core k).exeTile.ctx) (s.core k) w (laneCells w) ⟨(s.core k).spad, {}, 0⟩ hk
    simp +contextual (maxDischargeDepth := 50) [*]


end Sys2Proof.Machine
end

