-- ==== Sys2Proof/Laws/FitsPower.lean ====
section
/-!
SUPPORT. The operations of Power.lean keep the queue, the permanent fuses and the form of the memories.
-/
namespace Sys2Proof.Machine

variable {z : Stem}

@[simp] theorem State.setClock_fits (s : State) (n : Nat) (hs : s.Fits z) :
    (State.setClock s n).Fits z := by
  simp +contextual (maxDischargeDepth := 50) [State.setClock, *]

@[simp] theorem State.strictLost_fits (s : State) (hs : s.Fits z) :
    (State.strictLost s).Fits z := by
  simp +contextual (maxDischargeDepth := 50) [State.strictLost, *]

@[simp] theorem State.safetyClock_fits (s : State) (n : Nat) (hs : s.Fits z) :
    (State.safetyClock s n).Fits z := by
  simp +contextual (maxDischargeDepth := 50) [State.safetyClock, *]

@[simp] theorem State.powerStepDown_fits (s : State) (hs : s.Fits z) :
    (State.powerStepDown s).Fits z := by
  simp +contextual (maxDischargeDepth := 50) [State.powerStepDown, *]

@[simp] theorem State.powerStepUp_fits (s : State) (hs : s.Fits z) :
    (State.powerStepUp s).Fits z := by
  simp +contextual (maxDischargeDepth := 50) [State.powerStepUp, *]

@[simp] theorem State.manage_fits (s : State) (avg : Nat) (hs : s.Fits z) :
    (State.manage s avg).Fits z := by
  simp +contextual (maxDischargeDepth := 50) [State.manage, *]

@[simp] theorem State.powerSampled_fits (s : State) (watts : Nat) (over95A : Bool) (hs : s.Fits z) :
    (State.powerSampled s watts over95A).Fits z := by
  simp +contextual (maxDischargeDepth := 50) [State.powerSampled, *]

@[simp] theorem State.thermalLimit_fits (s : State) (began : Bool) (stack : Option Nat) (limit : Nat) (hs : s.Fits z) :
    (State.thermalLimit s began stack limit).Fits z := by
  simp +contextual (maxDischargeDepth := 50) [State.thermalLimit, *]

@[simp] theorem State.thermalSampled_fits (s : State) (dies : List Nat) (dramStacks : List Nat) (hs : s.Fits z) :
    (State.thermalSampled s dies dramStacks).Fits z := by
  simp +contextual (maxDischargeDepth := 50) [State.thermalSampled, *]

@[simp] theorem State.controlled_fits (s : State) (src : CmdSource) (hold : Bool) (held : Bool) (changes : Bool) (raises : Bool) (perform : State → State) (hs : s.Fits z) (hperform : ∀ y1, y1.Fits z → (perform y1).Fits z) :
    (State.controlled s src hold held changes raises perform).Fits z := by
  simp +contextual (maxDischargeDepth := 50) [State.controlled, *]

end Sys2Proof.Machine
end

