-- ==== Sys2Proof/Laws/FitsSideband.lean ====
section
/-!
SUPPORT. The operations of Sideband.lean keep the queue, the permanent fuses and the form of the memories.
-/
namespace Sys2Proof.Machine

variable {z : Stem}

@[simp] theorem State.modSide_fits (s : State) (f : Sideband → Sideband) (hs : s.Fits z) :
    (State.modSide s f).Fits z := by
  simp +contextual (maxDischargeDepth := 50) [State.modSide, *]

@[simp] theorem State.blockWrite_fits (s : State) (pecOk : Bool) (eff : State → State) (hs : s.Fits z) (heff : ∀ y1, y1.Fits z → (eff y1).Fits z) :
    (State.blockWrite s pecOk eff).Fits z := by
  simp +contextual (maxDischargeDepth := 50) [State.blockWrite, *]

@[simp] theorem State.advanceReg_fits (s : State) (hs : s.Fits z) :
    (State.advanceReg s).Fits z := by
  simp +contextual (maxDischargeDepth := 50) [State.advanceReg, *]

@[simp] theorem State.regData_fits (s : State) (hs : s.Fits z) :
    (State.regData s).Fits z := by
  unfold State.regData
  try dsimp only
  repeat' first | (simp +contextual (maxDischargeDepth := 50) [*]; done) | split

@[simp] theorem State.putRegData_fits (s : State) (v : Word64) (hostMeets : Bool) (hs : s.Fits z) :
    (State.putRegData s v hostMeets).Fits z := by
  simp +contextual (maxDischargeDepth := 50) [State.putRegData, *]

@[simp] theorem State.takeMail_fits (s : State) (slot : List Byte) (hs : s.Fits z) :
    (State.takeMail s slot).Fits z := by
  simp +contextual (maxDischargeDepth := 50) [State.takeMail, *]

@[simp] theorem State.readAlert_fits (s : State) (hs : s.Fits z) :
    (State.readAlert s).Fits z := by
  simp only [State.readAlert]
  repeat' split
  all_goals first | assumption | simp +contextual (maxDischargeDepth := 50) [*]

@[simp] theorem State.loadIr_fits (s : State) (ir : JtagIr) (hs : s.Fits z) :
    (State.loadIr s ir).Fits z := by
  simp +contextual (maxDischargeDepth := 50) [State.loadIr, *]

@[simp] theorem State.unlock_fits (s : State) (hs : s.Fits z) :
    (State.unlock s).Fits z := by
  simp +contextual (maxDischargeDepth := 50) [State.unlock, *]

end Sys2Proof.Machine
end

