-- ==== Sys2Proof/Laws/FitsTrainSteps.lean ====
section
/-!
SUPPORT. The operations of TrainSteps.lean keep the queue, the permanent fuses and the form of the memories.
-/
namespace Sys2Proof.Machine

variable {z : Stem}

@[simp] theorem State.gnsClear_fits (s : State) (c : Nat) (hs : s.Fits z) :
    (State.gnsClear s c).Fits z := by
  simp +contextual (maxDischargeDepth := 50) [State.gnsClear, *]

@[simp] theorem State.gnsColl_fits (s : State) (src : CmdSource) (p : Nat) (y : Plat) (hs : s.Fits z) :
    (State.gnsColl s src p y).Fits z := by
  simp +contextual (maxDischargeDepth := 50) [State.gnsColl, *]

@[simp] theorem State.takeSnap_fits (s : State) (c : Nat) (att : Attrib) (fab : Fab) (at_ : Nat) (r : Nat × Nat) (hs : s.Fits z) :
    (State.takeSnap s c att fab at_ r).Fits z := by
  simp +contextual (maxDischargeDepth := 50) [State.takeSnap, *]

@[simp] theorem State.takeSnaps_fits (s : State) (c : Nat) (att : Attrib) (fab : Fab) (at_ : Nat) (rs : List (Nat × Nat)) (hs : s.Fits z) :
    (s.takeSnaps c att fab at_ rs).2.Fits z := by
  induction rs generalizing s at_ with
  | nil => exact hs
  | cons r rs ih => exact ih _ _ (State.takeSnap_fits _ _ _ _ _ _ hs)


@[simp] theorem State.snapsOf_fits (s : State) (src : CmdSource) (fab : Fab) (hs : s.Fits z) :
    (State.snapsOf s src fab).2.Fits z := by
  simp +contextual (maxDischargeDepth := 50) [State.snapsOf, *]

@[simp] theorem State.recordStart_fits (s : State) (src : CmdSource) (fab : Fab) (hs : s.Fits z) :
    (State.recordStart s src fab).Fits z := by
  simp +contextual (maxDischargeDepth := 50) [State.recordStart, *]

@[simp] theorem State.putSnaps_fits (s : State) (c : Nat) (att : Attrib) (fab : Fab) (n at_ : Nat) (hs : s.Fits z) :
    (s.putSnaps c att fab n at_).2.Fits z := by
  induction n generalizing s at_ with
  | zero => exact hs
  | succ n ih =>
    unfold State.putSnaps
    apply ih
    simp +contextual (maxDischargeDepth := 50) [*]


@[simp] theorem State.replayStart_fits (s : State) (src : CmdSource) (fab : Fab) (hs : s.Fits z) :
    (State.replayStart s src fab).Fits z := by
  unfold State.replayStart
  try dsimp only
  repeat' first | (simp +contextual (maxDischargeDepth := 50) [*]; done) | split

@[simp] theorem State.replayEntry_fits (s : State) (c : Nat) (r : Replay) (fab : Fab) (hs : s.Fits z) :
    (State.replayEntry s c r fab).Fits z := by
  unfold State.replayEntry
  try dsimp only
  repeat' first | (simp +contextual (maxDischargeDepth := 50) [*]; done) | split

@[simp] theorem State.replayOn_fits (s : State) (c : Nat) (r : Replay) (fab : Fab) (hs : s.Fits z) :
    (State.replayOn s c r fab).Fits z := by
  simp +contextual (maxDischargeDepth := 50) [State.replayOn, *]

end Sys2Proof.Machine
end

