-- ==== Sys2Proof/Laws/FitsTick.lean ====
section
/-!
SUPPORT. The operations of Tick.lean keep the queue, the permanent fuses and the form of the memories.
-/
namespace Sys2Proof.Machine

variable {z : Stem}

@[simp] theorem State.tick_fits (s : State) (hs : s.Fits z) :
    (State.tick s).Fits z := by
  simp +contextual (maxDischargeDepth := 50) [State.tick, *]

end Sys2Proof.Machine
end

