-- ==== Sys2Proof/Laws/Guard.lean ====
section
/-!
SUPPORT. What a guarded meaning answers: its effect when its guard holds, a refusal by name otherwise.
-/
namespace Sys2Proof.Machine

/-- A guard that holds. -/
theorem when_true {n : String} {g : Bool} {s : State} (h : g = true) : when n g s = .next s := by simp [when, h]

/-- A next state is the effect, and the guard held. -/
theorem when_next {n : String} {g : Bool} {s t : State} (h : when n g s = .next t) : g = true ∧ t = s := by
  unfold when at h
  split at h
  · cases h; exact ⟨by assumption, rfl⟩
  · cases h

/-- A core takes an instruction that the translator passes and the stream is ready for. -/
theorem onCore_true {row : String} {op : Nat} {w : InstrWord} {ready : Bool} {s : State} (hw : wordOk op w = true) (h : ready = true) :
    onCore row op w ready s = .next s := by simp [onCore, hw, when_true h]

/-- A next state of a core instruction is its effect. -/
theorem onCore_next {row : String} {op : Nat} {w : InstrWord} {ready : Bool} {s t : State} (h : onCore row op w ready s = .next t) :
    wordOk op w = true ∧ ready = true ∧ t = s := by
  unfold onCore at h
  split at h
  · exact ⟨by assumption, (when_next h).1, (when_next h).2⟩
  · cases h

end Sys2Proof.Machine
end

