-- ==== Sys2Proof/Laws/Lists.lean ====
section
/-!
SUPPORT. The small list functions of the model: the last item updated, the items that match updated.
-/
namespace Sys2Proof.Machine

/-- Updating the last item of a list keeps its length. -/
@[simp] theorem updateLast_length {α : Type} (f : α → α) (l : List α) : (updateLast f l).length = l.length := by
  induction l with
  | nil => rfl
  | cons a l ih =>
    cases l with
    | nil => rfl
    | cons b l => simp [updateLast, ih]

/-- The last item of a list whose last item is updated. -/
@[simp] theorem updateLast_getLast? {α : Type} (f : α → α) (l : List α) : (updateLast f l).getLast? = l.getLast?.map f := by
  induction l with
  | nil => rfl
  | cons a l ih =>
    cases l with
    | nil => rfl
    | cons b l =>
      rw [updateLast]
      have h : updateLast f (b :: l) ≠ [] := by
        intro h; have := congrArg List.length h; simp at this
      rw [List.getLast?_cons, List.getLast?_cons_cons, ← ih]
      cases hu : (updateLast f (b :: l)).getLast? with
      | none => exact absurd (List.getLast?_eq_none_iff.mp hu) h
      | some x => rfl

end Sys2Proof.Machine
end

