-- ==== Sys2Proof/Laws/Streams.lean ====
section
/-!
SUPPORT. The streams of a core: when an instruction has its effect rather than a stall, and what one core's change leaves alone.
-/
namespace Sys2Proof.Machine

/-- No stall: the first condition of a list that holds is none when none holds. -/
theorem firstStall_none {l : List (Bool × StallKind)} (h : ∀ e ∈ l, e.1 = false) : firstStall l = none := by
  unfold firstStall
  rw [List.find?_eq_none.mpr (fun e he => by simp [h e he])]
  rfl

/-- An access instruction without a stall has its effect. -/
theorem State.accOr_go {s : State} {k : Nat} {l : List (Bool × StallKind)} {eff : State} (ho : (s.core k).ops.length < 512)
    (h : ∀ e ∈ l, e.1 = false) : s.accOr k l eff = eff := by
  unfold State.accOr
  rw [firstStall_none]
  intro e he
  rcases List.mem_cons.mp he with rfl | he
  · simp [ho]
  · exact h e he

/-- An execute instruction without a stall has its effect. -/
theorem State.exeOr_go {s : State} {k : Nat} {l : List (Bool × StallKind)} {eff : State} (h : ∀ e ∈ l, e.1 = false) :
    s.exeOr k l eff = eff := by
  unfold State.exeOr
  rw [firstStall_none h]

/-- A core written leaves every other core. -/
theorem State.core_modCore_other (s : State) {k j : Nat} (f : Core → Core) (h : j ≠ k) : (s.modCore k f).core j = s.core j := by
  rw [State.core_modCore]; simp [h]

/-! ### Changes of one core -/

theorem State.OnlyCore.refl (s : State) (c : CoreId) : s.OnlyCore s c := ⟨rfl, fun _ _ => rfl⟩

theorem State.OnlyCore.trans {s t u : State} {c : CoreId} (h : s.OnlyCore t c) (h' : t.OnlyCore u c) : s.OnlyCore u c := by
  refine ⟨?_, fun j hj => (h'.2 j hj).trans (h.2 j hj)⟩
  rw [h'.1, h.1]

theorem State.OnlyCore.modCore {s t : State} {c : CoreId} (h : s.OnlyCore t c) (f : Core → Core) :
    s.OnlyCore (t.modCore (coreKey c) f) c :=
  h.trans ⟨rfl, fun _ hj => State.core_modCore_other _ _ hj⟩

theorem State.OnlyCore.issueAcc {s t : State} {c : CoreId} (h : s.OnlyCore t c) (i : Option Nat) :
    s.OnlyCore (t.issueAcc (coreKey c) i) c := h.modCore _

theorem State.OnlyCore.issueExe {s t : State} {c : CoreId} (h : s.OnlyCore t c) : s.OnlyCore (t.issueExe (coreKey c)) c := h.modCore _

/-- What an issue of the access stream writes on its core. -/
theorem State.core_issueAcc (s : State) (k : Nat) (i : Option Nat) : (s.issueAcc k i).core k = (s.core k).issueAcc i s.time := by
  unfold State.issueAcc; simp

@[simp] theorem Core.issueAcc_accPc (c : Core) (i : Option Nat) (n : Nat) : (c.issueAcc i n).accPc = c.accPc + 1 := rfl
@[simp] theorem Core.issueAcc_x (c : Core) (i : Option Nat) (n : Nat) : (c.issueAcc i n).x = c.x := rfl

/-- An X register after one is written: X0 reads as zero and discards writes (R123). -/
theorem Core.xreg_setX (c : Core) (d i : Nat) (v : Word64) : (c.setX d v).xreg i = if i ≠ 0 ∧ i = d then v else c.xreg i := by
  unfold Core.setX Core.xreg
  by_cases hi : i = 0
  · simp [hi]
  · by_cases hd : d = 0
    · subst hd; simp [hi]
    · simp [hi, hd, tget_tset]

end Sys2Proof.Machine
end

