-- ==== Sys2Proof/WellFormed.lean ====
section
/-!
DEFINITION. Well-formed commands: the words that the translator lets a core hold (R123 to R133, R137), and the lengths, alignments and
numbers that the spec fixes for the operands of the other rows.
-/
namespace Sys2Proof

/-- A command whose operands the spec allows. -/
def Instr.wellFormed (i : Instr) : Bool :=
  match i with
  | .doorbellWrite _ _ => true
  | .doorbellMirrorStore _ _ _ => true
  | .doorbellDiscardedAccess _ => true
  | .commandFetch _ => true
  | .nop _ => true
  | .fenceCommand _ => true
  | .waitFlag _ _ => true
  | .waitFlagReread _ _ => true
  | .waitFlagTimeout _ => true
  | .setFlag _ _ => true
  | .signalHost _ => true
  | .ctxCreate _ => true
  | .ctxDestroy _ => true
  | .ctxReset _ => true
  | .ctxQuery _ => true
  | .loadProgram _ _ => true
  | .translationTimeout _ => true
  | .launch _ _ => true
  | .launchDeferred _ _ => true
  | .sliceAssignment _ _ => true
  | .remoteSliceRequest _ => true
  | .tileStart _ => true
  | .tileEnd _ => true
  | .sliceComplete _ => true
  | .gridComplete _ _ => true
  | .segmentComplete _ _ => true
  | .alloc _ _ => true
  | .allocTimeout _ => true
  | .free _ _ => true
  | .copy _ _ => true
  | .fill _ _ => true
  | .invalidate _ => true
  | .pin _ _ => true
  | .hintAnchor _ => true
  | .hintPrefer _ => true
  | .hintCold _ => true
  | .hintWillUse _ => true
  | .lendBackstore _ => true
  | .platLoad _ _ => true
  | .platsetActivate _ => true
  | .platsetSwitch _ => true
  | .barrier _ => true
  | .broadcast _ _ => true
  | .reduceScatter _ _ => true
  | .allGather _ _ => true
  | .allReduce _ _ => true
  | .allToAll _ _ => true
  | .collectiveSlotStart _ => true
  | .preemption => true
  | .collectiveSegment _ _ => true
  | .segmentGrant _ _ => true
  | .waitReportInterval _ => true
  | .waitReport _ => true
  | .stragglerTimeout _ _ => true
  | .deputyTakeover _ => true
  | .reformRecord _ _ => true
  | .collectiveAbort _ => true
  | .collectiveOwnAbort _ => true
  | .platReform _ _ => true
  | .inboxConfigInbox _ _ => true
  | .inboxConfigMap _ _ => true
  | .inboxConfigOrigin _ => true
  | .inboxQuery _ _ => true
  | .scatterDispatch _ _ => true
  | .expertRowSegment _ _ => true
  | .expertMarker _ _ => true
  | .batchDeadline _ _ => true
  | .batchLatencyFloor _ _ => true
  | .expertBatchComplete _ _ => true
  | .expertReturn _ _ => true
  | .expertReceipt _ _ => true
  | .expertResetNotice _ _ => true
  | .waveTimeout _ _ => true
  | .optStep _ _ => true
  | .gnsRead _ => true
  | .gnsReadPlat _ => true
  | .replayRecordStart _ _ => true
  | .replayRecordStop _ => true
  | .replayStopDatum _ => true
  | .replayRun _ _ => true
  | .datumBarrier _ => true
  | .barrierStage _ _ => true
  | .barrierRelease _ _ => true
  | .datumRead _ => true
  | .powerQuery _ => true
  | .powerCap _ => true
  | .clockCeiling _ => true
  | .powerDown _ => true
  | .portProfile _ => true
  | .portQuery _ => true
  | .errRead _ => true
  | .huskRead _ => true
  | .tallyRead _ => true
  | .fwQuery _ => true
  | .fwStage _ _ => true
  | .fwActivate _ => true
  | .waitCycleCheck => true
  | .accessNop _ w => Sys2Proof.Machine.wordOk 0x0100 w
  | .xalu _ w => Sys2Proof.Machine.wordOk 0x0101 w
  | .xmovi _ w => Sys2Proof.Machine.wordOk 0x0102 w
  | .brx _ w => Sys2Proof.Machine.wordOk 0x0103 w
  | .brt _ w => Sys2Proof.Machine.wordOk 0x0104 w
  | .branchOutcome _ => true
  | .jmp _ w => Sys2Proof.Machine.wordOk 0x0105 w
  | .aend _ w => Sys2Proof.Machine.wordOk 0x0106 w
  | .ld _ w => Sys2Proof.Machine.wordOk 0x0200 w
  | .ld2d _ w => Sys2Proof.Machine.wordOk 0x0201 w
  | .gather _ w => Sys2Proof.Machine.wordOk 0x0202 w
  | .tld _ w => Sys2Proof.Machine.wordOk 0x0203 w
  | .loadDataWritten _ _ => true
  | .pf _ w => Sys2Proof.Machine.wordOk 0x0204 w
  | .st _ w => Sys2Proof.Machine.wordOk 0x0205 w
  | .st2d _ w => Sys2Proof.Machine.wordOk 0x0206 w
  | .atom _ w => Sys2Proof.Machine.wordOk 0x0300 w
  | .inv _ w => Sys2Proof.Machine.wordOk 0x0301 w
  | .fence _ w => Sys2Proof.Machine.wordOk 0x0400 w
  | .fenceSc _ w => Sys2Proof.Machine.wordOk 0x0401 w
  | .tpush _ w => Sys2Proof.Machine.wordOk 0x0500 w
  | .tpop _ w => Sys2Proof.Machine.wordOk 0x0501 w
  | .stallCleared _ _ => true
  | .executeNop _ w => Sys2Proof.Machine.wordOk 0x1000 w
  | .loopi _ w => Sys2Proof.Machine.wordOk 0x1001 w
  | .bnzd _ w => Sys2Proof.Machine.wordOk 0x1002 w
  | .brtx _ w => Sys2Proof.Machine.wordOk 0x1003 w
  | .xend _ w => Sys2Proof.Machine.wordOk 0x1004 w
  | .latch _ w => Sys2Proof.Machine.wordOk 0x1100 w
  | .latchLoadDone _ _ => true
  | .pass _ w => Sys2Proof.Machine.wordOk 0x1101 w
  | .swap _ w => Sys2Proof.Machine.wordOk 0x1102 w
  | .accld _ w => Sys2Proof.Machine.wordOk 0x1103 w
  | .mv _ w => Sys2Proof.Machine.wordOk 0x1104 w
  | .eow _ w => Sys2Proof.Machine.wordOk 0x1105 w
  | .gang _ w => Sys2Proof.Machine.wordOk 0x1200 w
  | .gangItemStart _ _ => true
  | .gangItemEnd _ _ => true
  | .gangDrainDone _ _ => true
  | .vAdd _ w => Sys2Proof.Machine.wordOk 0x1300 w
  | .vSub _ w => Sys2Proof.Machine.wordOk 0x1301 w
  | .vMul _ w => Sys2Proof.Machine.wordOk 0x1302 w
  | .vFma _ w => Sys2Proof.Machine.wordOk 0x1303 w
  | .vFms _ w => Sys2Proof.Machine.wordOk 0x1304 w
  | .vNeg _ w => Sys2Proof.Machine.wordOk 0x1305 w
  | .vAbs _ w => Sys2Proof.Machine.wordOk 0x1306 w
  | .vMax _ w => Sys2Proof.Machine.wordOk 0x1308 w
  | .vMin _ w => Sys2Proof.Machine.wordOk 0x1309 w
  | .cmpEq _ w => Sys2Proof.Machine.wordOk 0x130A w
  | .cmpLt _ w => Sys2Proof.Machine.wordOk 0x130B w
  | .cmpLe _ w => Sys2Proof.Machine.wordOk 0x130C w
  | .cmpUnord _ w => Sys2Proof.Machine.wordOk 0x130D w
  | .vSel _ w => Sys2Proof.Machine.wordOk 0x130E w
  | .iAdd _ w => Sys2Proof.Machine.wordOk 0x1310 w
  | .iSub _ w => Sys2Proof.Machine.wordOk 0x1311 w
  | .iMin _ w => Sys2Proof.Machine.wordOk 0x1312 w
  | .iMax _ w => Sys2Proof.Machine.wordOk 0x1313 w
  | .vAnd _ w => Sys2Proof.Machine.wordOk 0x1314 w
  | .vOr _ w => Sys2Proof.Machine.wordOk 0x1315 w
  | .vXor _ w => Sys2Proof.Machine.wordOk 0x1316 w
  | .vShl _ w => Sys2Proof.Machine.wordOk 0x1317 w
  | .vShr _ w => Sys2Proof.Machine.wordOk 0x1318 w
  | .vSra _ w => Sys2Proof.Machine.wordOk 0x1319 w
  | .vMov _ w => Sys2Proof.Machine.wordOk 0x131C w
  | .cvtF2i _ w => Sys2Proof.Machine.wordOk 0x131D w
  | .cvtI2f _ w => Sys2Proof.Machine.wordOk 0x131E w
  | .vDiv _ w => Sys2Proof.Machine.wordOk 0x1320 w
  | .vRcp _ w => Sys2Proof.Machine.wordOk 0x1321 w
  | .vSqrt _ w => Sys2Proof.Machine.wordOk 0x1322 w
  | .vRsqrt _ w => Sys2Proof.Machine.wordOk 0x1323 w
  | .vExp2 _ w => Sys2Proof.Machine.wordOk 0x1324 w
  | .vLog2 _ w => Sys2Proof.Machine.wordOk 0x1325 w
  | .vExp2s _ w => Sys2Proof.Machine.wordOk 0x1326 w
  | .vload _ w => Sys2Proof.Machine.wordOk 0x1330 w
  | .vstore _ w => Sys2Proof.Machine.wordOk 0x1331 w
  | .rsum _ w => Sys2Proof.Machine.wordOk 0x1400 w
  | .rsumsq _ w => Sys2Proof.Machine.wordOk 0x1401 w
  | .csum _ w => Sys2Proof.Machine.wordOk 0x1402 w
  | .rmax _ w => Sys2Proof.Machine.wordOk 0x1403 w
  | .cmax _ w => Sys2Proof.Machine.wordOk 0x1404 w
  | .rargmax _ w => Sys2Proof.Machine.wordOk 0x1405 w
  | .tsumsq _ w => Sys2Proof.Machine.wordOk 0x1406 w
  | .rmaxupd _ w => Sys2Proof.Machine.wordOk 0x1407 w
  | .rsumacc _ w => Sys2Proof.Machine.wordOk 0x1408 w
  | .gnsMark _ w => Sys2Proof.Machine.wordOk 0x1410 w
  | .adamw _ w => Sys2Proof.Machine.wordOk 0x1500 w
  | .momentum _ w => Sys2Proof.Machine.wordOk 0x1501 w
  | .tpushx _ w => Sys2Proof.Machine.wordOk 0x1600 w
  | .tpushe _ w => Sys2Proof.Machine.wordOk 0x1601 w
  | .tpopx _ w => Sys2Proof.Machine.wordOk 0x1602 w
  | .read _ => true
  | .write _ => true
  | .atomic _ => true
  | .invalidateRequest _ => true
  | .invalidateAck _ => true
  | .regLookup _ _ => true
  | .pageInDone _ _ => true
  | .pageOutStart => true
  | .pageOutDone _ _ => true
  | .tallyEpochEnd => true
  | .tallyReport _ _ => true
  | .moveData _ => true
  | .moveCopyComplete _ => true
  | .drainDone _ => true
  | .moveAbandon _ _ => true
  | .reply _ => true
  | .retryResend _ => true
  | .bearingMissRepeat _ => true
  | .fabricTimeout _ => true
  | .replySlotReclaim _ => true
  | .packetForward _ => true
  | .combinedReply _ => true
  | .multicastCopy _ _ => true
  | .flitTransmit _ => true
  | .dataFlit _ _ => true
  | .idleFlit _ _ => true
  | .creditFlit _ _ => true
  | .replayReq _ _ => true
  | .managementFlit _ _ => true
  | .groupTrainingMilestone group _ => decide (group.toNat < 36)
  | .identityBlock group bytes => decide (group.toNat < 36) && bytes.length == 64
  | .groupJoined group => decide (group.toNat < 36)
  | .trainingBoundMissed group => decide (group.toNat < 36)
  | .laneSignalLoss group => decide (group.toNat < 36)
  | .groupErrorThreshold group _ => decide (group.toNat < 36)
  | .downNotice _ _ => true
  | .datumExchangeTimer => true
  | .datumTimestampExchange group _ _ _ _ => decide (group.toNat < 36)
  | .creditViewExchange _ _ _ => true
  | .datumSlewTick => true
  | .holdoverReparent => true
  | .datumPpsEdge => true
  | .ppsEdgeMissing => true
  | .errorRaised _ => true
  | .logWindowClose _ _ => true
  | .contextReset => true
  | .contextResetDone => true
  | .coreReset => true
  | .coreResetDone => true
  | .processorRestart => true
  | .procRestarted => true
  | .processorHeartbeat _ => true
  | .coreStall _ _ => true
  | .coreHang _ => true
  | .engineHang _ => true
  | .procTimeout _ => true
  | .hrpTimerExpiry => true
  | .resetOverrun _ => true
  | .moduleStop => true
  | .modResetAssert => true
  | .perstAssert => true
  | .moduleReset => true
  | .standbyApplied => true
  | .addrStrapSample _ => true
  | .bootVerificationDone _ _ _ => true
  | .standbyLost => true
  | .inputInRange => true
  | .inputPowerLoss => true
  | .railPowerGood => true
  | .railFault rail => rail != 0
  | .processorImagesVerified _ => true
  | .stackTrainingDone _ _ => true
  | .pcieLinkUp => true
  | .cpReady => true
  | .powerSample _ _ => true
  | .thermalSample dies dramStacks => dies.length == 6 && dramStacks.length == 8
  | .thermalTrip => true
  | .pmbusRecovery _ => true
  | .presence => true
  | .sbStatus => true
  | .mainGoWrite _ => true
  | .alertEnWrite _ => true
  | .resetModuleWrite => true
  | .regAddr _ _ => true
  | .regDataRead => true
  | .regDataWrite _ _ _ => true
  | .mboxCmd slot _ => slot.length == 64
  | .mboxReply => true
  | .alertRead => true
  | .alertResponse => true
  | .smbusLineTimeout => true
  | .registerWrite _ offset size8 _ => offset.toNat % (if size8 then 8 else 4) == 0
  | .qenableWrite _ _ _ => true
  | .planCommit _ => true
  | .errPop _ => true
  | .apCtrlWrite _ _ => true
  | .rcRegisterRead _ offset => offset.toNat % 8 == 0
  | .lowHalfRead _ offset => offset.toNat % 4 == 0
  | .memberDataRead _ _ _ => true
  | .bar0BadAccess _ _ => true
  | .bar4Read _ _ _ => true
  | .bar4Write _ _ _ => true
  | .jtagBypass => true
  | .jtagIdcode => true
  | .jtagSamplePreload _ => true
  | .jtagExtest _ => true
  | .debugUnlock _ => true
  | .modResetRelease => true
  | .perstDeassert => true
  | .forwardingRecordAged _ _ => true

end Sys2Proof
end

