-- ==== Sys2Proof/Tests/Slice0.lean ====
section
/-!
SUPPORT. Tests: ill-formed commands that the check refuses, states that meet the hypotheses of each statement, and small results worked out from
the spec.
-/
namespace Sys2Proof.Tests
open Sys2Proof.Machine

/-! ### States -/

/-- A ring of three modules along X, this one at position 0. -/
def plan0 : Plan := { physId := 0, logicalId := 0, xPos := 0, nxp := 3, ny := 1, nz := 1, xLive := 7, peers := [] }

/-- A running module, with a context 1 that carries job 7. -/
def live : State :=
  { time := 3000000000
    boot := { state := .running, standby := true, modResetLow := false, perstLow := false, mainGo := true, input48 := true, rails := 7
              imagesOk := true, linkUp := true, hostIfUp := true, addr := some 3 }
    regs := { plan := plan0, installed := some plan0, planValid := true }
    datum := { counter := 3000000000, calibrated := true }
    contexts := [(1, { state := 1, job := 7, moduleSet := [0, 1] })] }

/-- A tile of context 1 on core 0. -/
def run1 : TileRun :=
  { seq := 1, grid := 1, slice := 1, ctx := 1, td0 := 0, td1 := 0, td2 := 0, td3 := 0, td4 := 0, td5 := 0, td6 := 0, td7 := 0 }
def core1 : Core := { tiles := [run1], prevCtx := some 1, nextId := 2 }
def grid1 : Grid := { id := 1, ctx := 1, assigned := true, slices := 1 }
def busy (x : Core) : State := { live with cores := [(0, x)], grids := [grid1] }
def c0 : CoreId := ⟨0, 0⟩

/-- A word of the instruction set: MOD, the selectors D, A, B and C, the immediate and the extension words. -/
def wd (m d a b c imm : Nat) (exts : List (BitVec 128) := []) : InstrWord :=
  { mod := BitVec.ofNat 14 m, opd := BitVec.ofNat 8 d, opa := BitVec.ofNat 8 a, opb := BitVec.ofNat 8 b, opc := BitVec.ofNat 8 c
    imm := BitVec.ofNat 64 imm, exts := exts }

/-- A command of context 1 on its first queue, with the fields of its parameters as (offset, bytes, value). -/
def params (l : List (Nat × Nat × Nat)) : List Byte :=
  (List.range 48).map (fun i => match l.find? (fun f => decide (f.1 ≤ i) && decide (i < f.1 + f.2.1)) with
    | some f => BitVec.ofNat 8 (f.2.2 / 256 ^ (i - f.1))
    | none => 0)
def cmd1 (op : Nat) (l : List (Nat × Nat × Nat)) : Cmd :=
  { src := .queue 4, slot := natLE op 2 ++ [0, 6] ++ natLE 9 4 ++ [1, 4] ++ natLE 0 2 ++ zeros 4 ++ params l }
def q4 : CmdSource := .queue 4
def giving (s : State) (op : Nat) (l : List (Nat × Nat × Nat)) : State :=
  { s with queues := [(4, { enable := true, cur := some (cmd1 op l) })] }
def fab0 : Fab := ⟨[], []⟩


/-- A core takes a word of its access stream, or of its execute stream. -/
theorem takesAcc {s : State} {op : Nat} {w : InstrWord}
    (h : (wordOk op w && s.accReady c0 && decide ((s.core 0).ops.length < 512)) = true) : s.AccTakes c0 op w := by
  simp only [Bool.and_eq_true, decide_eq_true_eq] at h
  exact ⟨h.1.1, h.1.2, h.2⟩
theorem takesExe {s : State} {op : Nat} {w : InstrWord} (h : (wordOk op w && s.exeReady c0) = true) : s.ExeTakes c0 op w := by
  simp only [Bool.and_eq_true] at h
  exact ⟨h.1, h.2⟩

/-! ### The access stream -/

/-- A register of the access stream, and a token at the head of a queue. -/
def withX (l : Table Word64) : State := busy { core1 with x := l }
def tok1 : Token := { id := 1, val := 1, epoch := 0, tile := 1 }
def withTok (q : Nat) : State := busy { core1 with tqs := [(q, [tok1])] }
theorem wit_AccessArithmetic :
    (busy core1).AccTakes c0 0x0100 (wd 0 0 0 0 0 0) ∧ (withX [(2, 5), (3, 63)]).AccTakes c0 0x0101 (wd 12 1 2 3 0 0) ∧
    ((withX [(2, 5), (3, 63)]).accX 0 3).toNat < 64 ∧ (busy core1).AccTakes c0 0x0101 (wd 6 31 2 0 0 63) ∧
    (busy core1).AccTakes c0 0x0102 (wd 0 31 0 0 0 5) :=
  ⟨takesAcc (by decide), takesAcc (by decide), by decide, takesAcc (by decide), takesAcc (by decide)⟩
theorem wit_AccessBranches :
    (busy core1).AccTakes c0 0x0103 (wd 5 0 1 2 0 1) ∧ (busy core1).AccTakes c0 0x0105 (wd 0 0 0 0 0 3) ∧
    (busy core1).AccTakes c0 0x0106 (wd 0 0 0 0 0 0) := ⟨takesAcc (by decide), takesAcc (by decide), takesAcc (by decide)⟩
def epoch1 : Epoch := { id := 1, queue := 4, predicted := true, altPc := 5, savedX := [], popped := [], faults := [], commands := 0 }
theorem wit_BranchPrediction :
    ((busy core1).AccTakes c0 0x0104 (wd 0 0 0x34 0 0 0xFFFFFFFFFFFFFFFF) ∧ ((busy core1).core 0).epochs.length < 16) ∧
    let s := busy { core1 with epochs := [epoch1], tqs := [(4, [tok1])] }
    (s.works = true ∧ (s.core 0).frozen = false ∧ (s.core 0).epochs.head? = some epoch1 ∧
      ((s.core 0).tokens epoch1.queue).head? = some tok1 ∧ tok1.tile = (s.core 0).accTile.seq ∧ (tok1.val != 0) = epoch1.predicted) :=
  ⟨⟨takesAcc (by decide), by decide⟩, by decide⟩
theorem wit_AccessTokens :
    ((busy core1).AccTakes c0 0x0500 (wd 0 0x33 0 0 0 7) ∧ (((busy core1).core 0).tokens 3).length < 32) ∧
    (let s := busy { core1 with tqs := [(4, [tok1])], epochs := [{ epoch1 with queue := 5 }] }
     s.AccTakes c0 0x0501 (wd 0 1 0x34 0 0 0) ∧ (∀ e ∈ (s.core 0).epochs, e.queue ≠ selA (wd 0 1 0x34 0 0 0) - 0x30) ∧
      ((s.core 0).tokens 4).head? = some tok1 ∧ tok1.tile = (s.core 0).accTile.seq) :=
  ⟨⟨takesAcc (by decide), by decide⟩, takesAcc (by decide), by decide⟩

/-- The last line of the job address space in X1, and a length in X2. -/
def atTop : State := withX [(1, 0xFFFFFFFFFFFFC0), (2, 64)]
theorem wit_LoadsIssue_LD :
    let s := atTop
    let w := wd 0 0 1 0 0x20 0
    s.AccTakes c0 0x0200 w ∧ (s.core 0).epochs = [] ∧ ((s.core 0).entries 0).length < 64 ∧ 0 + 64 ≤ spadReserved ∧
    rangeLen (slot0 w) = 64 ∧ rangeBase (slot0 w) + (s.accX 0 0).toNat % 2 ^ 20 = 0 ∧
    (s.accX 0 1 + BitVec.ofInt 64 (dispOf w)).toNat = 2 ^ 56 - 64 ∧ s.substitute 0 w 0 64 = none ∧
    s.slotsShort 0 (s.core 0).accTile.ctx ((byLine (cutPieces [(2 ^ 56 - 64, 64, 0)])).map (·.1))
      (decide (wm w 20 1 = 1) || (decide (wm w 17 1 = 1) && decide (wm w 18 2 ≥ 2))) = false := ⟨takesAcc (by decide), by decide⟩
theorem wit_LoadsIssue_LD2D :
    let s := atTop
    let w := wd 0 0 1 2 0 0
    s.AccTakes c0 0x0201 w ∧ (s.core 0).epochs = [] ∧
    (∀ e ∈ rows2d (s.accX 0 1).toNat (s.accX 0 2).toNat (rowLen w) 0 64, e.1 + e.2.1 ≤ 2 ^ 56) ∧ s.substitute 0 w 0 64 = none ∧
    s.slotsShort 0 1 ((byLine (cutPieces (rows2d (s.accX 0 1).toNat 64 (rowLen w) 0 64))).map (·.1)) false = false :=
  ⟨takesAcc (by decide), by decide⟩
theorem wit_LoadsIssue_GATHER :
    let s := withX [(1, 256), (2, 1)]
    let w := wd 0 0 1 2 0 (2 ^ 32 * 64)
    let rows := ((List.range 1).map (fun i => leNat (s.getSpad 0 (rangeBase (slot1 w) + 4 * i) 4))).zipIdx.map
      (fun o => ((256 + o.1) % 2 ^ 64, gatherSize w, rangeBase (slot0 w) + o.2 * gatherSize w))
    s.AccTakes c0 0x0202 w ∧ (s.core 0).epochs = [] ∧ (s.accX 0 2).toNat = 1 ∧ 1 ≤ rangeLen (slot1 w) / 4 ∧
    1 ≤ rangeLen (slot0 w) / gatherSize w ∧ (∀ e ∈ rows, e.1 + e.2.1 ≤ 2 ^ 56) ∧
    (s.core 0).loadPending (rangeBase (slot1 w)) (rangeLen (slot1 w)) = false ∧
    s.slotsShort 0 1 ((byLine (cutPieces rows)).map (·.1)) false = false := ⟨takesAcc (by decide), by decide⟩
theorem wit_LoadsIssue_TLD :
    let s := withX [(1, 4096), (2, 64)]
    let w := wd (2 ^ 8 * 3) 0 1 2 0 (2 ^ 20 * 63 + 2 ^ 32 * 0)
    let rows := (List.range 64).map (fun i => ((4096 + i * 64) % 2 ^ 64, rowLen w, i * rowLen w))
    s.AccTakes c0 0x0203 w ∧ (s.core 0).epochs = [] ∧ (∀ e ∈ rows, e.1 + e.2.1 ≤ 2 ^ 56) ∧
    s.slotsShort 0 1 ((byLine (cutPieces rows)).map (·.1)) false = false := ⟨takesAcc (by decide), by decide⟩
/-- A tile of a kernel whose tensor 0, which data queue 0 carries, the translator turns over. -/
def turned : State :=
  { busy { core1 with x := [(1, 4096), (2, 64)] } with
    grids := [{ grid1 with program := 5, kernel := 1 }]
    contexts := [(1, { state := 1, job := 7, moduleSet := [0, 1]
                       programs := [{ handle := 5, crc := 0, buildId := zeros 16, nativeFrames := 0
                                      kernels := [{ id := 1, engine := 0, shape := 0, extM := 64, extN := 64, extK := 64, spadBytes := 64
                                                    tensors := [⟨1, 0, 0, 0, [64, 64]⟩], fallback := 1, queues := [(0, 0)] }] }] })] }
theorem wit_LoadsIssue_turned :
    let w := wd 0 0 1 2 0x20 0
    let rows := rows2d (turned.accX 0 1).toNat 64 (rowLen w) 0 64
    turned.AccTakes c0 0x0201 w ∧ (turned.core 0).epochs = [] ∧ ((turned.core 0).entries 0).length < 64 ∧ turned.substitute 0 w 0 64 ≠ none ∧
    (∀ e ∈ rows, e.1 + e.2.1 ≤ 2 ^ 56) ∧
    turned.slotsShort 0 1 ((byLine (cutPieces (rows.map (fun r => (r.1, r.2.1, r.2.2 - 0))))).map (·.1)) false = false :=
  ⟨takesAcc (by decide), by decide⟩
theorem wit_LoadsIssue_PF : atTop.AccTakes c0 0x0204 (wd 0 0 1 2 0 0) := takesAcc (by decide)
theorem wit_StoresIssue_ST :
    let s := { atTop with cores := [(0, { atTop.core 0 with tqs := [(4, [tok1])] })] }
    let w := wd 0 0 1 0 0x34 0
    s.AccTakes c0 0x0205 w ∧ (s.core 0).epochs = [] ∧ (s.core 0).accToken (selC w - 0x30) ≠ none ∧ rangeLen (slot0 w) = 64 ∧ 0 + 64 ≤ spadReserved ∧
    (s.accX 0 1 + BitVec.ofInt 64 (dispOf w)).toNat + 64 ≤ 2 ^ 56 ∧ (s.core 0).loadPending 0 64 = false ∧
    s.slotsShort 0 1 ((cutPieces [(2 ^ 56 - 64, 64, 0)]).map (·.va)) true = false := ⟨takesAcc (by decide), by decide⟩
theorem wit_StoresIssue_ST2D :
    let s := atTop
    let w := wd 0 0 1 2 0 0
    let rows := rows2d (s.accX 0 1).toNat (s.accX 0 2).toNat (rowLen w) 0 64
    s.AccTakes c0 0x0206 w ∧ (s.core 0).epochs = [] ∧ selC w = 0 ∧ (∀ e ∈ rows, e.1 + e.2.1 ≤ 2 ^ 56) ∧
    (s.core 0).loadPending (rangeBase (slot0 w)) (rangeLen (slot0 w)) = false ∧
    s.slotsShort 0 1 ((cutPieces rows).map (·.va)) true = false := ⟨takesAcc (by decide), by decide⟩
theorem wit_StoresIssue_ATOM :
    let s := withX [(1, 0xFFFFFFFFFFFFF8), (2, 64)]
    let w := wd (2 ^ 10) 0 1 2 0 0
    s.AccTakes c0 0x0300 w ∧ (s.core 0).epochs = [] ∧ selD w = 0 ∧ (wm w 26 1 == 1) = true ∧ (s.accX 0 1).toNat < 2 ^ 56 ∧
    (s.accX 0 1).toNat % 8 = 0 ∧ ((s.ctx (s.core 0).accTile.ctx).strict = true → wm w 22 4 ≠ 9) ∧
    s.slotsShort 0 1 [(s.accX 0 1).toNat] true = false := ⟨takesAcc (by decide), by decide⟩
theorem wit_StoresIssue_INV :
    let s := atTop
    s.AccTakes c0 0x0301 (wd 0 0 1 2 0 0) ∧ (s.core 0).epochs = [] ∧ (s.accX 0 1).toNat + (s.accX 0 2).toNat ≤ 2 ^ 56 ∧
    (s.accX 0 1).toNat < 2 ^ 56 := ⟨takesAcc (by decide), by decide⟩
def load1 : Load := { id := 1, epoch := 0, entry := none, missing := 0, ranges := [], pattern := [], tld := none, tile := 1 }
def tld1 (f : Byte) (scales : Bool) : TldPlan :=
  { format := f, requantise := false, sr := false, step := 0, base := 0, pitch := 64, rowLen := 64, rows := 64, cols := 64, contract := 0
    scalesIn := scales, dest := 0, staging := [] }
def loading (t : Option TldPlan) : State := busy { core1 with loads := [{ load1 with tld := t }] }
theorem wit_FencesAndLoadEnds :
    ((busy core1).AccTakes c0 0x0400 (wd (4 * 3) 0 0 0 0 0) ∧ (busy core1).AccTakes c0 0x0401 (wd 0 0 0 0 0 0) ∧
      ((busy core1).core 0).epochs = []) ∧
    (let s := busy { core1 with accStall := some (.runAhead, 0), exeStall := some (.gangQueue, 0) }
     s.works = true ∧ (s.core 0).frozen = false ∧ s.accFree 0 .runAhead = true ∧ s.exeFree 0 .gangQueue = true ∧
      (s.core 0).accStall = some (.runAhead, 0) ∧ (s.core 0).exeStall = some (.gangQueue, 0)) ∧
    (∀ t ∈ [none, some (tld1 3 false), some (tld1 8 true), some (tld1 8 false)],
      (loading t).works = true ∧ ((loading t).core 0).load? 1 = some { load1 with tld := t }) ∧
    isMx 3 = false ∧ isMx 8 = true := ⟨⟨takesAcc (by decide), takesAcc (by decide), by decide⟩, by decide⟩

/-! ### The execute stream -/

def tok0 (v : Word32) : Token := { id := 1, val := v, epoch := 0, tile := 1 }
def withTokX (q : Nat) (v : Word32) : State := busy { core1 with tqs := [(q, [tok0 v])] }
theorem wit_ExecuteLoops :
    (busy core1).ExeTakes c0 0x1000 (wd 0 0 0 0 0 0) ∧ (busy core1).ExeTakes c0 0x1001 (wd 0 0x38 0 0 0 1) ∧
    ((busy { core1 with loops := [(0, 1)] }).ExeTakes c0 0x1002 (wd 0 0x38 0 0 0 0xFFFFFFFFFFFFFFFF) ∧
      ((busy { core1 with loops := [(0, 1)] }).core 0).loop (selD (wd 0 0x38 0 0 0 0) - 0x38) = 1) ∧
    ((busy { core1 with loops := [(7, 0)] }).ExeTakes c0 0x1002 (wd 0 0x3F 0 0 0 2) ∧
      ((busy { core1 with loops := [(7, 0)] }).core 0).loop (selD (wd 0 0x3F 0 0 0 0) - 0x38) ≠ 1) ∧
    (((withTokX 3 0).core 0).tokens (selA (wd 0 0 0x33 0 0 4) - 0x30)).head? = some (tok0 0) ∧
    (((withTokX 3 1).core 0).tokens (selA (wd 0 0 0x33 0 0 4) - 0x30)).head? = some (tok0 1) ∧
    (tok0 0).tile = ((withTokX 3 0).core 0).exeTile.seq ∧ (tok0 1).tile = ((withTokX 3 1).core 0).exeTile.seq ∧
    (withTokX 3 0).ExeTakes c0 0x1003 (wd 0 0 0x33 0 0 4) ∧ (withTokX 3 1).ExeTakes c0 0x1003 (wd 0 0 0x33 0 0 4) :=
  ⟨takesExe (by decide), takesExe (by decide), ⟨takesExe (by decide), by decide⟩, ⟨takesExe (by decide), by decide⟩, by decide, by decide,
    by decide, by decide, takesExe (by decide), takesExe (by decide)⟩
theorem wit_ExecuteTokens :
    ((busy core1).ExeTakes c0 0x1600 (wd 0 0x37 0 0 0 9) ∧ (((busy core1).core 0).tokens 7).length < 32) ∧
    ((busy core1).ExeTakes c0 0x1601 (wd 6 0x34 0x43 0 0 (2 ^ 32 * 63 + 2 ^ 40 * 63)) ∧ (((busy core1).core 0).tokens 4).length < 32) ∧
    ((withTokX 0 5).ExeTakes c0 0x1602 (wd 0 0x3F 0x30 0 0 0) ∧ (withTokX 0 5).ExeTakes c0 0x1602 (wd 0 0 0x30 0 0 0) ∧
      (((withTokX 0 5).core 0).tokens 0).head? = some (tok0 5) ∧ (tok0 5).tile = ((withTokX 0 5).core 0).exeTile.seq) :=
  ⟨⟨takesExe (by decide), by decide⟩, ⟨takesExe (by decide), by decide⟩, takesExe (by decide), takesExe (by decide), by decide⟩

/-- The ready head of data queue 0: the last 64 bytes below the reserved part. -/
def entry1 : DqEntry := { id := 1, base := 0xEFFC0, len := 64, epoch := 0, ready := true, tile := 1 }
def withDq : State := busy { core1 with dqs := [(0, [entry1])] }
theorem atEntry (range : Nat) : (withDq.core 0).OperandAt 0x20 range 0xEFFC0 64 := ⟨entry1, rfl, rfl, rfl, rfl, rfl, rfl⟩
theorem wit_PlanesAndTiles :
    (withDq.ExeTakes c0 0x1100 (wd (2 ^ 8 * 12 + 2) 0x4B 0x20 0 0 0) ∧
      (withDq.core 0).OperandAt (selA (wd (2 ^ 8 * 12 + 2) 0x4B 0x20 0 0 0)) 0 0xEFFC0 64 ∧ ((withDq.core 0).cube 3).loading = false) ∧
    ((busy core1).ExeTakes c0 0x1100 (wd (2 ^ 8) 0x48 0x60 0 0 0) ∧ ((busy core1).core 0).OperandAt 0x60 0 0 64) ∧
    (let s := busy { core1 with cubes := [(2, { loading := true })] }
     s.works = true ∧ ((s.core 0).cube (2 : BitVec 2).toNat).loading = true) ∧
    (busy core1).ExeTakes c0 0x1102 (wd 0 0x4A 0 0 0 0) ∧ (busy core1).ExeTakes c0 0x1103 (wd 0 0x48 0x60 0 0 (2 ^ 20 * 255)) :=
  ⟨⟨takesExe (by decide), atEntry 0, by decide⟩, ⟨takesExe (by decide), by unfold Core.OperandAt; decide⟩, by decide, takesExe (by decide),
    takesExe (by decide)⟩
/-- A PASS of 8 rows and of 64 columns, in BF16 against a plane of BF16 and in an MX format against one. -/
theorem wit_PassAccumulates :
    let w := wd (1 + 2 ^ 5 * 7 + 2 ^ 8) 0x48 0x20 0 0 0
    let v := wd (2 ^ 8 * 8) 0x4B 0x60 0 0 (2 ^ 20 * 3)
    withDq.ExeTakes c0 0x1101 w ∧ (withDq.core 0).OperandAt (selA w) (slot0 w) 0xEFFC0 64 ∧ ((withDq.core 0).cube 0).loading = false ∧
    wm w 16 1 = 1 ∧ 8 * (wm w 18 3 + 1) = 8 ∧ 8 * (wm w 21 3 + 1) = 64 ∧ 
    mixable (wm w 24 4) (((withDq.closeBatches 0 (fun b => b.cube == 0)).core 0).cube 0).takePlane.planeActive.format.toNat = true ∧
    (busy core1).ExeTakes c0 0x1101 v ∧ ((busy core1).core 0).OperandAt (selA v) (slot0 v) 0 256 ∧ isMx (wm v 24 4) = true ∧
    ((busy core1).core 0 |>.cube 3).loading = false :=
  ⟨takesExe (by decide), atEntry _, by decide, by decide, by decide, by decide, by decide, takesExe (by decide),
    by unfold Core.OperandAt; decide, by decide, by decide⟩

def batch (cube bBase n : Nat) : MvBatch :=
  { cube := cube, bBase := bBase, bLen := 64, format := 1, rows := (List.range n).map (fun i => ⟨[], [], {}, i⟩) }
/-- MV into row 63 of cube 0, of the B operand of 64 bytes at 64. -/
def mvWord : InstrWord := wd (2 ^ 8 + 63) 0x48 0x60 0x61 0 (64 * 2 ^ 32)
/-- The batches that it leaves open before its row joins one. -/
def openBatches (l : List MvBatch) : List MvBatch := l.filter (fun b => !b.writes 0 63)
theorem wit_FillBuffer :
    let mine := fun (b : MvBatch) => b.sharesB 0 64 64 1
    let joined := fun (l : List MvBatch) => updateFirst mine (fun b => { b with rows := b.rows ++ [mvRow core1 mvWord] }) l
    (∀ l ∈ [[batch 0 64 6], [batch 0 64 7]], (busy { core1 with fill := l }).ExeTakes c0 0x1104 mvWord ∧
      (openBatches l).any mine = true) ∧
    (∀ b ∈ joined (openBatches [batch 0 64 6]), mine b = true → b.rows.length < 8) ∧
    (∃ b ∈ joined (openBatches [batch 0 64 7]), mine b = true ∧ 8 ≤ b.rows.length) ∧
    (∀ l ∈ [[batch 0 64 64], [batch 0 128 1, batch 1 64 1, batch 2 64 1, batch 3 64 1]],
      (busy { core1 with fill := l }).ExeTakes c0 0x1104 mvWord ∧ (openBatches l).any mine = false) ∧
    (busy { core1 with fill := [batch 0 64 2] }).ExeTakes c0 0x1105 (wd 0 0 0 0 0 0) ∧
    (busy { core1 with fill := [batch 0 64 2] }).ExeTakes c0 0x1004 (wd 0 0 0 0 0 0) := by
  refine ⟨?_, by decide, by decide, ?_, takesExe (by decide), takesExe (by decide)⟩
  · intro l h; refine ⟨takesExe ?_, ?_⟩ <;> revert l <;> decide
  · intro l h; refine ⟨takesExe ?_, ?_⟩ <;> revert l <;> decide

/-! ### The vector engine -/

/-- One word that is a word of every binary, ternary and unary operation: one row, the whole mask, and the last row and a tap. -/
def lanes (m d a b c : Nat) : InstrWord := wd m d a b c 0xFFFFFFFFFFFFFFFF
theorem wit_LaneResults :
    (∀ op ∈ [0x1300, 0x1301, 0x1302, 0x1308, 0x1309, 0x130A, 0x130B, 0x130C, 0x130D, 0x1310, 0x1311, 0x1312, 0x1313, 0x1314, 0x1315,
        0x1316, 0x1317, 0x1318, 0x1319, 0x1320, 0x1326],
      (busy core1).ExeTakes c0 op (lanes 0 0x40 0x41 0x47 0) ∧ (busy core1).ExeTakes c0 op (lanes 63 0x47 0x40 0x40 0)) ∧
    (∀ op ∈ [0x1303, 0x1304, 0x130E], (busy core1).ExeTakes c0 op (lanes 63 0x40 0x41 0x42 0x43)) ∧
    (∀ op ∈ [0x1305, 0x1306, 0x131C, 0x131D, 0x131E, 0x1321, 0x1322, 0x1323, 0x1324, 0x1325],
      (busy core1).ExeTakes c0 op (lanes 0 0x40 0x41 0 0)) ∧
    (∀ m ∈ [0, 2], (busy core1).ExeTakes c0 0x131D (lanes (2 ^ 12 * m) 0x40 0x41 0 0) ∧ wm (lanes (2 ^ 12 * m) 0x40 0x41 0 0) 28 2 = m) ∧
    isLane 0x40 = true ∧ isLane 0x47 = true ∧
    ((busy core1).ExeTakes c0 0x1300 (wd (2 ^ 8 + 63) 0x40 0x41 0x42 0 1 [0x43 * 2 ^ 48])) := by
  refine ⟨?_, ?_, ?_, ?_, by decide, by decide, takesExe (by decide)⟩
  · intro op h; constructor <;> apply takesExe <;> revert op <;> decide
  · intro op h; apply takesExe; revert op; decide
  · intro op h; apply takesExe; revert op; decide
  · intro m h; refine ⟨takesExe ?_, ?_⟩ <;> revert m <;> decide

/-- 0xFFC00001 is a NaN other than the canonical one and the poison one. -/
theorem wit_NanPrecedence :
    val32 poison32 = .poison ∧ isNan (val32 0xFFC00001) = true ∧ val32 0xFFC00001 ≠ .poison ∧ val32 0x7F800000 = .inf false ∧
    val32 0xFF800000 = .inf true ∧ isZero (val32 0x80000000) = true := by decide
theorem wit_SpecialValues :
    val32 0xFF800000 = .inf true ∧ val32 0x7F800000 = .inf false ∧ isZero (val32 0) = true ∧ isZero (val32 0x80000000) = true ∧
    val32 0xBF800000 = .fin true (8388607 + 1) (-23) ∧ val32 0x3F800000 = .fin false (8388607 + 1) (-23) ∧
    isNan (val32 0x3F800000) = false := by decide
theorem wit_TileTransfers :
    (withDq.ExeTakes c0 0x1330 (wd (2 ^ 8) 0x47 0x20 0 0 0xFFFFFFFFFFFFFFFF [0]) ∧ (withDq.core 0).OperandAt 0x20 0 0xEFFC0 64 ∧
      isLane 0x47 = true) ∧
    (let w := wd (2 ^ 8 * 0) 0x40 0x60 0 0 0xFFFFFFFFFFFFFFFF [2 ^ 20 * 3]
     (busy core1).ExeTakes c0 0x1330 w ∧ ((busy core1).core 0).OperandAt (selA w) (wx w 0 0 32) 0 256 ∧
      rowFits (wm w 24 4) (wm w 16 6 + 1) 256 0 = true) ∧
    (let w := wd (2 ^ 8 * 0) 0x60 0x43 0 0 0xFFFFFFFFFFFFFFFF [2 ^ 20 * 3]
     (busy core1).ExeTakes c0 0x1331 w ∧ ((busy core1).core 0).OperandAt (selD w) (wx w 0 0 32) 0 256 ∧
      Memory.wf ((busy core1).core 0).spad = true ∧ isMx (wm w 24 4) = false ∧ rowFits (wm w 24 4) (wm w 16 6 + 1) 256 0 = true) :=
  ⟨⟨takesExe (by decide), atEntry 0, by decide⟩, ⟨takesExe (by decide), by unfold Core.OperandAt; decide, by decide⟩,
    takesExe (by decide), by unfold Core.OperandAt; decide, by decide⟩

/-- Reductions of the last row into the last column; the columns of alpha and of the index; the last row of a column reduction. -/
theorem wit_ReductionResults :
    (∀ op ∈ [0x1400, 0x1401, 0x1402, 0x1403, 0x1404, 0x1405, 0x1406, 0x1407, 0x1408],
      (busy core1).ExeTakes c0 op (wd (2 ^ 6 * 0 + 63) 0x43 0x47 0 0 0xFFFFFFFFFFFFFFFF [0x3F]) ∧
      (busy core1).ExeTakes c0 op (wd 0 0x40 0x40 0 0 1)) ∧ isBuf 0x43 = true ∧ isBuf 0x40 = true := by
  refine ⟨?_, by decide⟩
  intro op h; constructor <;> apply takesExe <;> revert op <;> decide
theorem wit_GradientNoise :
    (busy core1).ExeTakes c0 0x1406 (wd 63 0x58 0x40 0 0 1) ∧ (busy core1).ExeTakes c0 0x1406 (wd 0 0x59 0x47 0 0 1) ∧
    (busy { core1 with gns := { count := 0xFFFFFFFF } }).ExeTakes c0 0x1410 (wd 0 0 0 0 0 0 [1]) :=
  ⟨takesExe (by decide), takesExe (by decide), takesExe (by decide)⟩
def opt1 : OptConst :=
  { s := 0x3F800000, lr := 0x3F800000, wd := 0, gscale := 0x3F800000, b1 := 0, omb1 := 0x3F800000, b2 := 0, omb2 := 0x3F800000
    bc1 := 0x3F800000, bc2 := 0x3F800000, eps := 0, mu := 0 }
def optWord : InstrWord := wd 0 0 0 0 0 0 [2 ^ 32 * 0x40 + 2 ^ 64 * 0x80 + 2 ^ 96 * 0xC0, 0, 0]
theorem wit_OptimiserSteps :
    let s := { busy core1 with grids := [{ grid1 with opt := some opt1 }] }
    (busy core1).ExeTakes c0 0x1500 optWord ∧ (busy core1).ExeTakes c0 0x1501 optWord ∧
    ((busy core1).grid? ((busy core1).core 0).exeTile.grid).bind (·.opt) = none ∧
    s.ExeTakes c0 0x1500 optWord ∧ s.ExeTakes c0 0x1501 optWord ∧ (s.grid? (s.core 0).exeTile.grid).bind (·.opt) = some opt1 :=
  ⟨takesExe (by decide), takesExe (by decide), by decide, takesExe (by decide), takesExe (by decide), by decide⟩

/-! ### The gang unit -/

def item (id : Nat) (chain : Bool) : GangItem :=
  { id := id, core := 0, ctx := 1, grid := 1, tile := 1, group := 0, dBase := 0, k := 1, rows := 16, cols := 32, width := 32
    outFormat := 0, opFormat := 1, chain := chain }
def withGang (g : Gang) (x : Core) : State := { busy x with clusters := [(0, { gang := g })] }
/-- 16 rows and 32 columns, one item of a group of 16 × 32. -/
def gangWord : InstrWord := wd (2 ^ 5) 0x50 0x62 0x63 0 (2 ^ 16 * 16 + 2 ^ 23 * 32) [2 ^ 32 * 0x40 + 2 ^ 64 * 0x80]
theorem wit_GangIssue :
    (∀ g ∈ ([{}, { holder := some 1, queue := (List.range 31).map (fun i => item i false) }] : List Gang),
      (withGang g core1).ExeTakes c0 0x1200 gangWord ∧ (g.holder = some 1 ∨ g.holder = none) ∧ g.queue.length < 32) ∧
    ((withGang { holder := some 2 } core1).ExeTakes c0 0x1200 gangWord ∧ ¬ (some 2 = some 1 ∨ some 2 = (none : Option Nat))) ∧
    ((withGang { holder := some 1, queue := (List.range 32).map (fun i => item i false) } core1).ExeTakes c0 0x1200 gangWord ∧
      ((List.range 32).map (fun i => item i false)).length = 32) ∧
    (gangItems core1 0 0 live.time run1 gangWord 0x40 0x80).length = 1 ∧
    ((busy core1).core 0).OperandAt (selA gangWord) (wx gangWord 0 32 32) 0x40 64 ∧
    ((busy core1).core 0).OperandAt (selB gangWord) (wx gangWord 0 64 32) 0x80 64 := by
  refine ⟨?_, ⟨takesExe (by decide), by decide⟩, ⟨takesExe (by decide), by decide⟩, by decide, by unfold Core.OperandAt; decide,
    by unfold Core.OperandAt; decide⟩
  intro g h; refine ⟨takesExe ?_, ?_, ?_⟩ <;> revert g <;> decide
theorem wit_GangGroups :
    (let s := withGang { holder := some 1, queue := [item 1 false] } core1
     s.works = true ∧ 0 < gangGroups (s.cluster 0).gang.shape ∧ ((s.cluster 0).gang.group 0).running = none ∧
      (s.cluster 0).gang.nextItem 0 = some (item 1 false)) ∧
    (let s := withGang { holder := some 1, groups := [(0, { running := some (item 1 true) })] } core1
     s.works = true ∧ ((s.cluster 0).gang.group 0).running = some (item 1 true) ∧ (item 1 true).chain = true) ∧
    (let s := withGang { holder := some 1, groups := [(0, { running := some (item 1 false) })] } core1
     s.works = true ∧ ((s.cluster 0).gang.group 0).running = some (item 1 false) ∧ (item 1 false).chain = false ∧
      ((s.cluster 0).gang.group 0).draining = none) ∧
    (let s := withGang { holder := some 1, groups := [(0, { draining := some (item 1 false) })] } core1
     s.works = true ∧ ((s.cluster 0).gang.group 0).draining = some (item 1 false) ∧ Memory.wf (s.core 0).spad = true ∧
      (item 1 false).outFormat.toNat ≤ 2 ∧ (item 1 false).bCol + (item 1 false).cols ≤ (item 1 false).width) := by decide

/-! ### The memory side -/

def req (op : ReqOp) (size : Byte) (va arg : Nat) : Request :=
  { dest := 0, fwd := false, src := 1, job := 7, op := op, cls := .memory, refresh := false, prefetch := false, noCombine := false, tag := 3
    gen := 1, frame := 0, va := BitVec.ofNat 56 va, size := size, arg := BitVec.ofNat 64 arg, payload := [] }
def parcel (st : PState) : HomeParcel := { job := 7, parcel := 0, frame := 1024, gen := 1, attr := 7, state := st }
def homing (h : Home) : State := { live with home := h }
def fwd1 : FwdRec := { job := 7, parcel := 0, home := 2, frame := 9, gen := 2, made := 0 }
/-- The requests of the three operations, each at the last bytes of the parcel's first line. -/
def reqs : List Request := [req .read 0 0 0, req .write 127 0 0, req .write 0 127 0, req .atomic 9 124 1, req .atomic 16 120 1]
def reaches (h : Home) (r : Request) : Bool :=
  let s := homing h
  s.homeReady r && !s.ownSent r && s.boot.state != .stopped
/-- A request that the home takes, with what the checks decide. -/
def acts (h : Home) (r : Request) (a : HomeAct) : Bool := reaches h r && ((homing h).takeIn r).homeAct r == a
set_option maxRecDepth 4000 in
theorem wit_HomeRequests :
    (∀ r ∈ reqs, acts { parcels := [parcel .resident] } r .perform = true ∧
      (homing { parcels := [parcel .resident] }).localAddr r.job r.va.toNat = some (1024 * frameBytes + r.va.toNat)) ∧
    (∀ r ∈ reqs, acts { parcels := [{ parcel .resident with attr := 0 }] } r (.denied 2) = true) ∧
    acts {} { req .read 0 0 0 with job := 8 } (.denied 1) = true ∧
    acts { parcels := [parcel .resident] } (req .atomic 0 2 1) (.denied 4) = true ∧
    acts { parcels := [parcel .unmaterialised] } (req .read 0 0 0) .hold = true ∧
    acts { parcels := [{ parcel .pagingIn with held := List.replicate 256 (req .read 0 128 0) }] } (req .write 0 0 0) .hold = true ∧
    acts { parcels := [parcel .paged] } { req .read 0 0 0 with prefetch := true } .drop = true ∧
    acts { parcels := [parcel .resident], ueLines := [1024 * frameBytes] } (req .write 126 0 0) .poison = true ∧
    acts { parcels := [parcel .resident], ueLines := [1024 * frameBytes] } (req .write 127 0 0) .perform = true ∧
    (∀ r ∈ reqs, acts { forwards := [fwd1] } r .away = true ∧
      (homing { forwards := [fwd1] }).home.forwards.find? (fun f => f.job == r.job && f.parcel == parcelOf r.va.toNat) = some fwd1 ∧
      acts {} r .away = true) ∧
    acts { forwards := [fwd1] } { req .read 0 0 0 with fwd := true } .away = true := by decide

set_option maxRecDepth 4000 in
theorem wit_HomeRequests_held :
    ∀ n ∈ [255, 256], ((homing { parcels := [{ parcel .pagingIn with held := List.replicate n (req .read 0 128 0) }] }).parcel? 7 0).map
      (fun p => p.held.length) = some n := by decide

def env (dest : BitVec 15) (axis : BitVec 2) : Envelope :=
  { dest := dest, mcast := false, src := 1, isReply := false, vc := false, cls := .memory, len := 3, hopsPos := 0, hopsNeg := 0, axis := axis }
def pkt (b : Body) : Packet := { env := env 0 0, body := b }
def relay1 (left : Nat) : Relay := { issuer := 1, tag := 3, dst := 1, left := left, va := 0, len := 128, job := 7 }
def inval1 (left : Nat) : Inval :=
  { id := 4, ctx := 1, va := 0, len := 128, left := left, issuer := none, cmd := some 4, sentAt := 0, tag := 3 }
def acc1 (stage : Stage) (p : Purpose) : Access :=
  { id := 5, ctx := 1, req := { req .read 0 0 0 with dest := 1, src := 0 }, purpose := p, stage := stage, slot := true, sentAt := 0, rank := 0
    left := true }
def rep1 : Reply :=
  { dest := 0, src := 1, tag := 3, status := .ok, correction := false, gen := 0, home := 0, frame := 0, reason := 0, data := [] }
def withFab (f : Fabric) : State := { live with fabric := f }
theorem wit_HomeMessages :
    live.mainUp = true ∧ live.boot.state ≠ .stopped ∧ invalidateOf (pkt (.req (req .invalidate 0 0 128))) = some (req .invalidate 0 0 128) ∧
    (let s := { live with boot := { live.boot with state := .stopped } }; s.mainUp = true ∧ s.boot.state = .stopped) ∧
    (∀ m ∈ [0, 1], ackOf (pkt (.invAck 0 3 m)) = some (3, m) ∧ (pkt (.invAck 0 3 m)).env.dest.toNat = live.self) ∧
    (∀ n ∈ [1, 2], (withFab { relays := [relay1 n] }).fabric.relays.find? (fun x => x.tag == 3 && x.issuer == 1 && x.left != 0) =
      some (relay1 n)) ∧ live.fabric.relays = [] ∧ live.fabric.invals = [] ∧ (1 : BitVec 15).toNat ≠ live.self ∧ (0 : BitVec 15).toNat = live.self ∧
    (∀ n ∈ [1, 2], (withFab { invals := [inval1 n] }).fabric.invals.find? (fun y => y.tag == 3) = some (inval1 n)) ∧
    rep1.dest.toNat = live.self ∧ live.fabric.accesses.find? (fun a => a.slot && a.req.tag == rep1.tag) = none ∧
    (withFab { accesses := [acc1 .sent (.store 0 1)] }).fabric.accesses.find? (fun a => a.slot && a.req.tag == rep1.tag) =
      some (acc1 .sent (.store 0 1)) := by
  refine ⟨by decide, by decide, rfl, by decide, ?_, ?_, rfl, rfl, by decide, rfl, ?_, rfl, rfl, rfl⟩ <;>
    (intro n h; simp only [List.mem_cons, List.not_mem_nil, or_false] at h; obtain rfl | rfl := h <;> first | rfl | exact ⟨rfl, rfl⟩)

def bearing1 : Bearing := { job := 7, parcel := 0, home := 1, frame := 9, gen := 2, attr := 7, way := 0 }
theorem wit_SenderTimers :
    (∀ p ∈ [.load 0 1 [], .lookup], let s := withFab { accesses := [acc1 (.retry 3000000000) p] }
      s.mainUp = true ∧ s.access? 5 = some (acc1 (.retry 3000000000) p) ∧ 3000000000 ≤ s.time ∧ s.slotsHeld < replySlots) ∧
    (let a := { acc1 (.repeatAt 3000000000) (.load 0 1 []) with missed := some (1, 2) }
     let s := { withFab { accesses := [a] } with home := { bearings := [bearing1] } }
     s.access? 5 = some a ∧ s.slotsHeld < replySlots ∧ s.bearing? a.req.job a.parcel = some bearing1 ∧
      a.missed = some (bearing1.home, bearing1.gen)) ∧
    (let a := acc1 (.repeatAt 3000000000) (.load 0 1 [])
     let s := withFab { accesses := [a] }
     s.access? 5 = some a ∧ s.slotsHeld < replySlots ∧ ∀ b, s.bearing? a.req.job a.parcel = some b → a.missed ≠ some (b.home, b.gen)) ∧
    (let a := { acc1 .sent (.load 0 1 []) with sentAt := 2999000000 }
     let s := withFab { accesses := [a] }
     s.access? 5 = some a ∧ a.waits = true ∧ a.sentAt + s.fabricTimeout a.ctx = s.time) ∧
    (let a := acc1 (.timedOut 0) (.load 0 1 [])
     let s := withFab { accesses := [a], unreachable := [(1, 2999900000)] }
     s.access? 5 = some a ∧ (1, 2999900000) ∈ s.fabric.unreachable ∧ 1 = a.req.dest.toNat ∧ max 0 (2999900000 + 100000) ≤ s.time) ∧
    (let x := { inval1 1 with sentAt := 2999000000 }
     let s := withFab { invals := [x] }
     s.mainUp = true ∧ s.access? 4 = none ∧ s.fabric.invals.find? (fun x => x.id == 4) = some x ∧ x.orphan = none ∧
      x.sentAt + s.fabricTimeout x.ctx = s.time) ∧
    (let x := { inval1 1 with orphan := some 0, mods := [1, 2] }
     let s := withFab { invals := [x], unreachable := [(2, 2999900000)] }
     s.access? 4 = none ∧ s.fabric.invals.find? (fun x => x.id == 4) = some x ∧ (2, 2999900000) ∈ s.fabric.unreachable ∧
      (2 : BitVec 15) ∈ x.mods ∧ max 0 (2999900000 + 100000) ≤ s.time) := by
  refine ⟨by decide, by decide, ⟨by decide, by decide, ?_⟩, by decide, by decide, by decide, by decide⟩
  intro b h
  simp [withFab, live, State.bearing?] at h

def cad (st : PState) : CadEntry := { job := 7, parcel := 0, state := st, policy := 0, attr := 7, home := 0, gen := 1 }
def ask : Request := { req .regLookup 0 0 0 with arg := 0 }
set_option maxRecDepth 4000 in
theorem wit_RegistrarAnswers :
    ask.op = .regLookup ∧ (∀ st ∈ [PState.resident, .moving, .pagingOut, .paged, .pagingIn, .unmaterialised],
      let s := homing { cadastre := [cad st] }
      s.registrarReach ask = true ∧ s.boot.state ≠ .stopped ∧ (s.takeIn ask).ctxOf ask.job = some 1 ∧
      ask.arg.toNat % 2 ^ 32 = ((s.takeIn ask).ctx 1).setCrc.toNat ∧ (s.takeIn ask).entry? ask.job (parcelOf ask.va.toNat) = some (cad st) ∧
      (cad st).home.toNat = (s.takeIn ask).self ∧ (cad st).parcel = parcelOf ask.va.toNat) ∧
    (∀ st ∈ [PState.paged, .pagingIn], ∀ n ∈ [255, 256],
      let p := { parcel st with held := List.replicate n (req .read 0 128 0) }
      (((homing { cadastre := [cad st], parcels := [p] }).takeIn ask).parcel? 7 0).map (fun p => p.held.length) = some n) ∧
    (live.takeIn ask).entry? ask.job (parcelOf ask.va.toNat) = none ∧
    ({ ask with arg := 1 } : Request).arg.toNat % 2 ^ 32 ≠ (live.ctx 1).setCrc.toNat ∧
    (live.takeIn { ask with job := 8 }).ctxOf ({ ask with job := 8 } : Request).job = none ∧
    ({ live with boot := { live.boot with state := .stopped } }).registrarReach ask = true := by decide

def moveReq (op : ReqOp) : Request := { req op 127 (frameBytes - 128) 0 with frame := 2000 }
def incoming1 : Incoming := { job := 7, parcel := 0, frame := 2000, gen := 1, attr := 7, got := 16382 }
def moving (home : BitVec 16) (m : BitVec 15) : CadEntry := { cad .moving with home := home, moveTo := some (m, 9), moveStart := 2999950000 }
theorem wit_Moves :
    (live.surveys = true ∧ ({ live with home := { lastEpochEnd := 2999000000 } } : State).home.lastEpochEnd + 1000000 = live.time) ∧
    (∀ op ∈ [ReqOp.tallyReport, .moveData, .drainDone], live.registrarReach (moveReq op) = true ∧ (moveReq op).op = op) ∧
    (let s := homing { incoming := [incoming1] }
     s.registrarReach (moveReq .moveData) = true ∧ (s.takeIn (moveReq .moveData)).ctxOf 7 = some 1 ∧ Memory.wf s.dram = true ∧
      ((s.takeIn (moveReq .moveData)).openIncoming (moveReq .moveData)).home.incoming.find? (fun x => x.job == 7 && x.parcel == 0) =
        some incoming1 ∧ incoming1.got + 1 ≠ frameLines) ∧
    (let s := homing { cadastre := [{ moving 1 2 with moveStart := 2999960000 }] }
     s.moveInTime 7 0 2999960000 1000 = true) ∧
    (let s := homing { cadastre := [moving 1 2] }
     s.surveys = true ∧ s.entry? 7 0 = some (moving 1 2) ∧ (moving 1 2).moveTo = some (2, 9) ∧ ((2 : BitVec 15).toNat ≠ s.self) ∧
      (moving 1 2).home.toNat ≠ s.self) ∧
    (let s := homing { cadastre := [moving 1 0], parcels := [{ parcel .resident with awaitDrain := true }] }
     s.entry? 7 0 = some (moving 1 0) ∧ s.arrivedHere 7 0 = true) ∧
    (let s := homing { cadastre := [moving 0 2], parcels := [parcel .moving] }
     s.entry? 7 0 = some (moving 0 2) ∧ (moving 0 2).home.toNat = s.self ∧ s.canGive 7 0 = true ∧ s.moveInTime 7 0 s.time 2000 = true) ∧
    (let s := homing { cadastre := [moving 1 2] }; s.surveys = true ∧ s.moveOverdue 7 0 = true) ∧
    (let s := homing { forwards := [{ fwd1 with made := 2990000000 }] }
     s.surveys = true ∧ { fwd1 with made := 2990000000 } ∈ s.home.forwards ∧ 2990000000 + 10000000 = s.time) := by decide
theorem wit_Paging :
    (let s := { homing { parcels := [parcel .resident], lentSlots := 1 } with
                regs := { live.regs with global := { pageHigh := 0, pageLow := 0 } } }
     s.surveys = true ∧ s.aboveHigh = true ∧ s.atLow = false ∧ s.coldest ≠ none ∧ s.freeSlot ≠ none) ∧
    (let s := { homing { parcels := [parcel .resident], lentSlots := 1, paging := true } with
                regs := { live.regs with global := { pageHigh := 2 ^ 20, pageLow := 0 } } }
     s.surveys = true ∧ s.home.paging = true ∧ s.atLow = false ∧ s.coldest ≠ none ∧ s.freeSlot ≠ none) ∧
    (let s := homing { parcels := [{ parcel .pagingOut with slot := some 0 }], lentSlots := 1 }
     s.surveys = true ∧ s.parcel? 7 0 = some { parcel .pagingOut with slot := some 0 } ∧ Memory.wf s.hostMem = true ∧ Memory.wf s.dram = true) ∧
    (let s := homing { parcels := [{ parcel .pagingIn with slot := some 0 }], lentSlots := 1 }
     s.parcel? 7 0 = some { parcel .pagingIn with slot := some 0 } ∧ s.aboveHigh = false) ∧
    (let s := { homing { parcels := [{ parcel .pagingIn with slot := some 0 }], lentSlots := 1 } with
                regs := { live.regs with global := { pageHigh := 0, pageLow := 0 } } }
     s.aboveHigh = true ∧ ∀ q ∈ s.home.parcels, q.state ≠ .pagingOut) := by decide

/-! ### Launches -/

def kernel1 : Kernel := { id := 1, engine := 0, shape := 0, extM := 64, extN := 64, extK := 64, spadBytes := 64, tensors := [], fallback := 0 }
def program1 : Program := { handle := 5, crc := 0, buildId := zeros 16, kernels := [kernel1], nativeFrames := 0 }
def ctx1 : Context := { state := 1, job := 7, moduleSet := [0, 1], programs := [program1] }
def launching : State := { live with contexts := [(1, ctx1)] }
/-- A launch of kernel 1 of program 5 over a grid of 1 by 1 by n. -/
def launchFields (n : Nat) : List (Nat × Nat × Nat) := [(0, 4, 5), (4, 4, 1), (8, 2, 1), (10, 2, 1), (12, 2, n), (14, 1, 24), (16, 8, 4096)]
theorem wit_Launches :
    (∀ o ∈ [(0x0201, LaunchKind.launch), (0x0202, .deferred), (0x0600, .opt)],
      (let s := giving launching o.1 (launchFields 0)
       s.runs q4 o.1 = true ∧ s.launchReady q4 o.2 = true ∧ s.launchOk 1 o.2 (s.cmd! q4) = none) ∧
      (let s := giving launching o.1 (launchFields 65535)
       s.runs q4 o.1 = true ∧ s.launchReady q4 o.2 = true ∧ s.launchOk 1 o.2 (s.cmd! q4) = some (program1, kernel1))) ∧
    (let s := giving live 0x0200 [(0, 8, 4096), (8, 8, 67108864)]
     s.runs q4 0x0200 = true ∧ loadOk (s.cmd! q4) = true ∧ imageSizeOk ((s.cmd! q4).param 8 8) = true ∧
      (s.cmd! q4).time + 200000000 ≤ s.time ∧ loadOk (cmd1 0x0200 [(0, 8, 4)]) = false ∧ imageSizeOk 120 = false) := by decide
theorem wit_Launches_read :
    (let s := giving live 0x0200 [(0, 8, 4096), (8, 8, 128)]
     s.runs q4 0x0200 = true ∧ s.readable 1 ((s.cmd! q4).param 0 8) ((s.cmd! q4).param 8 8) = true) := by decide

def slice1 : Slice := { id := 0, grid := 1, rank := some 0, tiles := [(0, 0, 0)] }
def idle1 (prev : Option Nat) : State := { live with cores := [(0, { prevCtx := prev })], grids := [grid1], slices := [slice1] }
set_option maxRecDepth 10000 in
theorem wit_TileBegins :
    live.works = true ∧ (idle1 none).errs.stopped 2 0 = false ∧ 0 < (idle1 none).enabledClusters ∧ (idle1 none).tileChoice 0 = some (slice1, grid1, (0, 0, 0), 0) ∧
    (idle1 (some 1)).tileChoice 0 = some (slice1, grid1, (0, 0, 0), 0) ∧
    (idle1 (some 2)).tileChoice 0 = some (slice1, grid1, (0, 0, 0), 0) ∧ ((idle1 none).core 0).prevCtx = none ∧
    ((idle1 (some 1)).core 0).prevCtx = some grid1.ctx ∧ ((idle1 (some 2)).core 0).prevCtx = some 2 ∧ grid1.tokens = 0 :=
  ⟨by decide, by decide, by decide, rfl, rfl, rfl, by decide, by decide, by decide, by decide⟩

def ended : TileRun := { run1 with accEnd := true, exeEnd := true }
def done1 : Slice := { slice1 with tiles := [] }
def sliceReq : SliceRequest :=
  { job := 7, issuer := 1, grid := 4, slice := 0, imageCrc := 0, buildId := zeros 16, clusters := live.enabledClusters, kernelId := 1
    cls := .memory, replayable := false, shape := 3, tokens := 0, segIndex := 0, segCount := 1, anchor := none, argBlock := 0, args := []
    tiles := [(0, 0, 0)] }
theorem wit_SlicesAndGrids_peer :
    launching.surveys = true ∧ launching.peerGrid sliceReq = none ∧ launching.ctxOf sliceReq.job = some 1 ∧ launching.ctxLive 1 = true ∧
    launching.peerProgram 1 sliceReq = some program1 ∧ sliceReq.clusters = launching.enabledClusters :=
  ⟨by decide, by decide, by decide, by decide, by decide, rfl⟩
def finishing (g : Grid) (l : List Slice) : State := { launching with grids := [g], slices := l }
def remote1 : Slice := { done1 with rank := none, module := some 2 }
def segGrid (i : Nat) (f : Va) : Grid := { grid1 with tokens := 65, segIndex := i, segCount := 2, segFlag := f }
theorem wit_SlicesAndGrids :
    (let g := { grid1 with assigned := false }
     (finishing g []).surveys = true ∧ (finishing g []).grid? 1 = some g ∧ (finishing g []).ctxLive g.ctx = true ∧ g.peer = none) ∧
    (let s := busy { core1 with tiles := [ended, { run1 with seq := 2 }], epochs := [{ epoch1 with tile := 2 }] }
     s.works = true ∧ (s.core 0).tiles ≠ [] ∧ (s.core 0).frozen = false ∧ (s.core 0).exeTile = ended ∧
      (∀ p ∈ (s.core 0).epochs, p.tile ≠ ended.seq) ∧
      s.ctxLive 1 = true ∧ s.tileOpen 0 1 = false) ∧
    (let s := finishing grid1 [done1]
     s.slice? 0 = some done1 ∧ s.grid? done1.grid = some grid1 ∧ sliceDone done1 = true ∧ grid1.peer = none ∧ s.gridStoresOpen grid1 = false) ∧
    (let g := { grid1 with peer := some (1, 4) }
     let s := finishing g [done1]
     s.slice? 0 = some done1 ∧ s.grid? done1.grid = some g ∧ s.gridStoresOpen g = false) ∧
    ((finishing grid1 [remote1]).slices.find? (fun y => y.grid == 1 && y.module.isSome && y.id == 0 / 256 && !y.reported) = some remote1 ∧
      (finishing grid1 [remote1]).grid? 1 = some grid1) ∧
    (let s := finishing (segGrid 1 4096) []
     s.grid? 1 = some (segGrid 1 4096) ∧ s.gridDone (segGrid 1 4096) = true ∧ (segGrid 1 4096).tokens ≠ 0 ∧
      (segGrid 1 4096).segIndex < (segGrid 1 4096).segCount ∧ s.rangeReady 7 4096 8 true = true ∧ (segGrid 1 0).segFlag = 0) ∧
    ((finishing grid1 []).grid? 1 = some grid1 ∧ (finishing grid1 []).gridDone grid1 = true ∧ grid1.tokens = 0) ∧
    ((finishing (segGrid 2 0) []).grid? 1 = some (segGrid 2 0) ∧ (finishing (segGrid 2 0) []).gridDone (segGrid 2 0) = true ∧
      (segGrid 2 0).segIndex = (segGrid 2 0).segCount) :=
  ⟨⟨rfl, rfl, rfl, rfl⟩, by decide, ⟨rfl, rfl, rfl, rfl, rfl⟩, ⟨rfl, rfl, rfl⟩, ⟨rfl, rfl⟩,
    ⟨rfl, rfl, by decide, by decide, rfl, rfl⟩, ⟨rfl, rfl, rfl⟩, rfl, rfl, rfl⟩

/-! ### Queues and commands -/

def ringing (head tail : Word32) (halt : Byte) : State :=
  { live with queues := [(4, { enable := true, head := head, tail := tail, haltReason := halt })] }
/-- The doorbell of queue 3 and the word after it, in the mirror of this module; and one of module 1. -/
def bell : Va := 0xFFFFF000003000
theorem wit_Doorbells :
    live.hostUp = true ∧ live.mainUp = true ∧ live.cpUp = true ∧
    (((15 : Word32) - ((ringing 0xFFFFFFFF 0 0).queue 4).head).toNat = ((ringing 0xFFFFFFFF 0 0).queue 4).size) ∧
    ((16 : Word32) - ((ringing 0xFFFFFFFF 0 0).queue 4).head).toNat = ((ringing 0xFFFFFFFF 0 0).queue 4).size + 1 ∧
    ((ringing 0xFFFFFFFF 0 0).queue 4).haltReason = 0 ∧ ((ringing 0 0 1).queue 4).haltReason ≠ 0 ∧
    isDoorbell bell.toNat 4 = true ∧ mirrorModule bell.toNat = live.self ∧ live.ctxOf 7 = some 1 ∧ live.ctxOf 8 = none ∧
    isMirror (bell.toNat + 4) = true ∧ mirrorModule (bell.toNat + 4) = live.self ∧ isDoorbell (bell.toNat + 4) 4 = false ∧
    isDoorbell bell.toNat 8 = false ∧ live.canReach { req .atomic 0 0 1 with va := bell } = true ∧ (ringing 0 1 0).nextQueue = some 4 := by
  decide
theorem wit_ReplyWritten :
    let c := { cmd1 0 [] with slot := (cmd1 0 []).slot.set 2 1 }
    let s := { live with queues := [(4, { enable := true, replyBase := 0xFFFFFFFFFFFFFFE0, cur := some c })] }
    c.src = .queue 4 ∧ (s.queue 4).replyDev = false ∧ Memory.wf s.hostMem = true ∧ bitOf (field c.slot 2 1) 0 = true ∧
    (s.queue 4).cur.map (·.order) = some c.order := by decide

/-- A WAIT_FLAG on the host flag at 64 for the value 5, read already when `last` is given. -/
def waiting (last : Option (Word64 × Nat)) (us : Nat) (rel : Nat) : State :=
  { live with queues := [(4, { enable := true
                               cur := some { cmd1 2 [(0, 8, 64), (8, 8, 5), (24, 1, rel), (25, 1, 1), (28, 4, us)] with lastRead := last } })] }
theorem wit_QueueCommands :
    ((giving live 0 []).runs q4 0 = true ∧ (giving live 1 [(0, 1, 1), (2, 2, 65535)]).runs q4 1 = true ∧
      ((giving live 1 [(0, 1, 1), (2, 2, 65535)]).cmd! q4).restZero [(0, 1), (2, 2)] = true ∧
      ((giving live 1 [(0, 1, 1), (2, 2, 65535)]).cmd! q4).param 0 1 ≤ 1 ∧ 1 < ((giving live 1 [(0, 1, 2)]).cmd! q4).param 0 1 ∧
      (giving live 1 [(0, 1, 2)]).runs q4 1 = true) ∧
    ((waiting none 0 3).runs q4 2 = true ∧ ((waiting none 0 3).cmd! q4).lastRead = none ∧ (waiting none 0 3).flagReady q4 = true ∧
      waitFlagOk ((waiting none 0 3).cmd! q4) = true ∧ waitFlagOk ((waiting none 0 4).cmd! q4) = false ∧
      (waiting none 0 4).runs q4 2 = true ∧ (waiting none 0 4).flagReady q4 = true ∧ ((waiting none 0 4).cmd! q4).lastRead = none) ∧
    (let s := waiting (some (0, 3000000000)) 3000000 0
     s.runs q4 2 = true ∧ (s.cmd! q4).lastRead = some (0, 3000000000) ∧ 3000000000 ≤ s.time ∧ s.flagReady q4 = true ∧
      bitOf ((s.cmd! q4).param 25 1) 0 = true ∧ (s.cmd! q4).dead = false ∧ (s.cmd! q4).param 28 4 ≠ 0 ∧
      (s.cmd! q4).time + (s.cmd! q4).param 28 4 * 1000 = s.time) ∧
    (live.cpUp = true ∧ live.lastCycleCheck + cyclePeriod ≤ live.time) := by decide
theorem wit_QueueCommands_flags :
    (∀ m ∈ [(0, 0), (0, 1), (1, 0), (1, 1)], let s := giving live 3 [(0, 8, 64), (8, 8, 5), (16, 1, m.1), (17, 1, m.2)]
      s.runs q4 3 = true ∧ (s.cmd! q4).restZero [(0, 18)] = true ∧ (s.cmd! q4).param 16 1 = m.1 ∧ (s.cmd! q4).param 17 1 = m.2 ∧
        vaRange ((s.cmd! q4).param 0 8) 8 = true ∧ s.writable 1 ((s.cmd! q4).param 0 8) 8 = true) ∧
    (let s := giving live 3 [(16, 1, 2)]; s.runs q4 3 = true ∧ 2 ≤ (s.cmd! q4).param 16 1 ∧ s.writable 1 ((s.cmd! q4).param 0 8) 8 = true) ∧
    (let s := giving live 4 [(0, 8, 64), (8, 8, 1)]; s.runs q4 4 = true ∧ (s.cmd! q4).restZero [(0, 16)] = true) ∧
    (let s := giving live 4 [(16, 1, 1)]; s.runs q4 4 = true ∧ (s.cmd! q4).restZero [(0, 16)] = false) := by decide

/-- The last parcel below the mirrors. -/
def lastParcel : Nat := mirrorBase - frameBytes
theorem wit_MemoryCommands_ranges :
    (∀ p ∈ [0, 1, 2, 3], let s := giving live 0x0300 [(0, 8, lastParcel), (8, 8, frameBytes), (16, 1, p), (20, 4, b2n (p == 1))]
      let f : Fab := ⟨[], [(parcelOf lastParcel, .done)]⟩
      s.runs q4 0x0300 = true ∧ s.allocParams 1 (s.cmd! q4) = true ∧ s.allocAnswered 1 (s.cmd! q4) f = true ∧
        (s.cmd! q4).param 16 1 = p ∧ s.readable 1 ((s.cmd! q4).param 24 8) (2 * (s.cmd! q4).param 20 4) = true ∧
        (s.cmd! q4).time + 20000000 ≤ s.time) ∧
    (let s := giving live 0x0300 [(0, 8, mirrorBase), (8, 8, frameBytes)]
     s.runs q4 0x0300 = true ∧ s.allocParams 1 (s.cmd! q4) = false) ∧
    (let s := giving live 0x0301 [(0, 8, 0), (8, 8, frameBytes)]
     s.runs q4 0x0301 = true ∧ freeOk (s.cmd! q4) = true ∧
      ∀ pn ∈ parcelsIn ((s.cmd! q4).param 0 8) ((s.cmd! q4).param 8 8), s.parcelBusy (s.ctx 1).job pn = false) ∧
    (let s := giving live 0x0301 [(0, 8, 128), (8, 8, frameBytes)]; s.runs q4 0x0301 = true ∧ freeOk (s.cmd! q4) = false) := by decide
theorem wit_MemoryCommands_bytes :
    (∀ f ∈ [0, 1, 2, 3], let s := giving live 0x0302 [(0, 8, 2 ^ 56 - 8), (8, 8, 64), (16, 8, 8), (24, 1, f)]
      s.runs q4 0x0302 = true ∧ copyOk (s.cmd! q4) = true ∧ s.readable 1 ((s.cmd! q4).param 0 8) 8 = true ∧
        s.writable 1 ((s.cmd! q4).param 8 8) 8 = true) ∧
    (copyHostSrc (cmd1 0x0302 [(24, 1, 3)]) = true ∧ copyHostDst (cmd1 0x0302 [(24, 1, 3)]) = true) ∧
    (let s := giving live 0x0302 [(24, 1, 4)]; s.runs q4 0x0302 = true ∧ copyOk (s.cmd! q4) = false) ∧
    (let s := giving live 0x0303 [(0, 8, 64), (8, 8, 8), (16, 8, 1)]
     s.runs q4 0x0303 = true ∧ fillOk (s.cmd! q4) = true ∧ s.writable 1 ((s.cmd! q4).param 0 8) ((s.cmd! q4).param 8 8) = true) ∧
    (let s := giving live 0x0303 [(8, 8, 4)]; s.runs q4 0x0303 = true ∧ fillOk (s.cmd! q4) = false) ∧
    (let s := giving live 0x0304 [(0, 8, 0), (8, 8, 2 ^ 32)]; s.runs q4 0x0304 = true ∧ invalidateOk (s.cmd! q4) = true) ∧
    (let s := giving live 0x0304 [(0, 8, 0), (8, 8, 2 ^ 32 + 1)]; s.runs q4 0x0304 = true ∧ invalidateOk (s.cmd! q4) = false) ∧
    (let s := giving live 0x0305 [(0, 8, 0), (8, 8, frameBytes), (16, 2, 2)]
     s.runs q4 0x0305 = true ∧ s.inSet 1 ((s.cmd! q4).param 16 2) = false) ∧
    (∀ k ∈ [0, 1, 2, 3, 4], let s := giving live 0x0306 [(0, 1, k)]; s.runs q4 0x0306 = true ∧ (s.cmd! q4).param 0 1 = k) ∧
    (let s := giving live 0x0307 [(8, 4, 524288)]; s.runs q4 0x0307 = true ∧ (s.cmd! q4).param 8 4 ≠ 0) ∧
    (let s := giving live 0x0307 []; s.runs q4 0x0307 = true ∧ ∀ p ∈ s.home.parcels, p.state ≠ .pagingOut) := by decide

/-- CTX_CREATE of context t with job j and the one module whose ID stands at 64 of host memory. -/
def creating (t j m n : Nat) : State :=
  { giving live 0x0100 [(0, 1, t), (2, 2, j), (8, 4, n), (16, 8, 64)] with hostMem := [⟨65, BitVec.ofNat 8 m⟩] }
theorem wit_ContextCommands :
    (∀ x ∈ [(63, 65535, 0, 1), (1, 9, 0, 1), (2, 7, 0, 1), (2, 9, 128, 1), (64, 9, 0, 1), (2, 9, 0, 0)],
      (creating x.1 x.2.1 x.2.2.1 x.2.2.2).runs q4 0x0100 = true) ∧
    createOk (cmd1 0x0100 [(0, 1, 63), (2, 2, 65535), (8, 4, 32768)]) = true ∧ createOk (cmd1 0x0100 [(0, 1, 64), (2, 2, 9), (8, 4, 1)]) = false ∧
    (let s := creating 63 65535 0 1
     createOk (s.cmd! q4) = true ∧ (s.ctx 63).state = 0 ∧ s.ctxOf 65535 = none ∧
      ∀ m ∈ (chunks 2 (s.getHost ((s.cmd! q4).param 16 8) 2)).map leNat, m < 32768) ∧
    (∃ m ∈ (chunks 2 ((creating 2 9 128 1).getHost (((creating 2 9 128 1).cmd! q4).param 16 8) 2)).map leNat, 32768 ≤ m) ∧
    ((creating 1 9 0 1).ctx 1).state ≠ 0 ∧ ((creating 2 7 0 1).ctx 2).state = 0 ∧ (creating 2 7 0 1).ctxOf 7 ≠ none := by decide
/-- A command of the mailbox while the CP restarts. -/
def restarting (op : Nat) : State :=
  { live with recov := { procs := [{ proc := .cp, started := none }] }, mboxCmd := some { cmd1 op [(0, 1, 1)] with src := .mailbox } }
theorem wit_ContextCommands_targets :
    (∀ op ∈ [0x0101, 0x0102, 0x0103],
      (let s := giving live op [(0, 1, 1)]; s.runs q4 op = true ∧ targetOk (s.cmd! q4) = true ∧ (s.ctx 1).state = 1 ∧ s.cpUp = true) ∧
      (let s := giving live op [(0, 1, 63)]; s.runs q4 op = true ∧ targetOk (s.cmd! q4) = true ∧ (s.ctx 63).state = 0) ∧
      (let s := giving live op [(0, 1, 64)]; s.runs q4 op = true ∧ targetOk (s.cmd! q4) = false)) ∧
    (giving live 0x0101 [(0, 1, 1)]).holdsWork 1 0 = false ∧
    (let s := giving { live with grids := [grid1] } 0x0101 [(0, 1, 1)]
     s.runs q4 0x0101 = true ∧ (s.ctx 1).state ≠ 0 ∧ s.holdsWork 1 (s.cmd! q4).order = true) ∧
    (let s := giving { live with contexts := [(1, { state := 1, job := 7 }), (2, { state := 2, job := 9 })] } 0x0101 [(0, 1, 2)]
     s.runs q4 0x0101 = true ∧ targetOk (s.cmd! q4) = true ∧ (s.ctx 2).state = 2) ∧
    (let s := restarting 0x0103
     s.runs .mailbox 0x0103 = true ∧ targetOk (s.cmd! .mailbox) = true ∧ s.cpUp = false ∧ (s.ctx 1).state = 1) := by decide

/-! ### Plats, collectives, training steps, datum -/

/-- A descriptor of plat 4095 of job 7: two members, in the sets of the mask. -/
def desc (mask : Nat) : List Byte :=
  let ms := natLE 0 2 ++ natLE 1 2
  natLE 4095 2 ++ natLE 7 2 ++ natLE 2 4 ++ [1, 1, 0, 0] ++ natLE 2 4 ++ natLE 1 4 ++ natLE 1 4 ++ natLE 0 4 ++
    natLE (crc32 ms).toNat 4 ++ natLE mask 2 ++ [255] ++ zeros 29 ++ ms
def plat1 : Plat :=
  { owner := 1, members := [0, 1], e0 := 2, e1 := 1, e2 := 1, reformable := true, straggler := 50000, listCrc := 0, setMask := 2, slot := 0 }
def activating (set t : Nat) : State := giving live 0x0401 [(0, 1, set), (8, 8, t)]
theorem wit_PlatCommands :
    (∀ b ∈ [0, 1], let s := giving live 0x0400 [(0, 8, 4096), (8, 1, b)]
      s.runs q4 0x0400 = true ∧ s.platReady q4 4096 = true ∧ (s.cmd! q4).param 0 8 = 4096 ∧
        ((s.cmd! q4).restZero [(0, 8)] = true ↔ b = 0) ∧ vaRange 4096 (64 + 65536) = true) ∧
    (∀ b ∈ [0, 1], let s := giving live 0x0403 [(0, 2, 3), (8, 8, 4096), (16, 1, b)]
      s.runs q4 0x0403 = true ∧ s.platReady q4 4096 = true ∧ ((s.cmd! q4).restZero [(0, 2), (8, 8)] = true ↔ b = 0)) ∧
    (∀ a ∈ [(15, 3000000000), (15, 3000000001), (16, 0)], let s := activating a.1 a.2
      s.runs q4 0x0401 = true ∧ (s.ctx 1).activate = none ∧ s.activateWaits 1 (s.cmd! q4).order = false ∧
        ((s.cmd! q4).param 0 1 = a.1 ∧ (s.cmd! q4).param 8 8 = a.2) ∧ (s.cmd! q4).restZero [(0, 1), (8, 8)] = true) ∧
    live.datum.counter.toNat = 3000000000 ∧
    (let k := { cmd1 0x0401 [(0, 1, 15)] with handed := true }
     let s := { live with contexts := [(1, { ctx1 with activate := some (15, 3000000000) })], queues := [(4, { enable := true, cur := some k })] }
     (s.ctx (1 : BitVec 6).toNat).activate = some (15, 3000000000) ∧ s.activator 1 = some k ∧ s.works = true ∧ s.ctxLive 1 = true) := by decide
set_option maxRecDepth 10000 in
theorem wit_PlatCommands_denied :
    let s := { (giving live 0x0400 [(0, 8, 4096)]) with plats := [(4095, { plat1 with owner := 2 })] }
    s.platOk 1 (desc 2) = true ∧ s.plat? (field (desc 2) 0 2) = some { plat1 with owner := 2 } ∧ ({ plat1 with owner := 2 } : Plat).owner ≠ 1 ∧
    (s.cmd! q4).dead = false ∧ s.platOk 1 (zeros 64) = false := by decide
set_option maxRecDepth 10000 in
theorem wit_PlatCommands_load :
    live.platOk 1 (desc 2) = true ∧ (∀ x, live.plat? (field (desc 2) 0 2) = some x → x.owner = 1) ∧
    (live.ctx 1).inActive (field (desc 2) 0 2) = false ∧ (platOf 1 (desc 2)).setMask.getLsbD (live.ctx 1).activeSet = false ∧
    live.membersBut (field (desc 2) 0 2) + (platOf 1 (desc 2)).members.length ≤ platMembers :=
  ⟨by decide, fun x h => by simp [live, State.plat?] at h, by decide, by decide, by decide⟩

def coll1 : Coll :=
  { id := 1, ctx := 1, queue := 4, kind := .barrier, platId := 3, seq := 0, epoch := 0, members := [0, 1], e0 := 2, e1 := 1, e2 := 1, me := 0 }
def colling (l : List Coll) : State := { live with colls := l, plats := [(3, plat1)] }
/-- A COLLECTIVE of an operation whose plat slot is bound. -/
def collCmd (op : Nat) : State :=
  { colling [] with queues := [(4, { enable := true, cur := some { cmd1 0x0402 [(1, 1, op), (24, 8, 4096)] with bound := some (some 3) } })] }
def seg1 : Segment :=
  { platId := 3, job := 7, collSeq := 0, op := 0, dim := 0, gather := false, step := 1, offset := 0, member := 1, epoch := 0, wire := 0
    payload := [] }
def grant1 (seq : Word32) : Grant := { platId := 3, job := 7, collSeq := seq, epoch := 0, member := 1, count := 1, listCrc := none }
theorem wit_Collectives :
    (∀ op ∈ [0, 6, 255], (collCmd op).runs q4 0x0402 = true ∧ ((collCmd op).cmd! q4).bound ≠ none ∧ ((collCmd op).cmd! q4).param 1 1 = op) ∧
    (∀ op ∈ [1, 2, 3, 4, 5], (collCmd op).collRuns q4 op = true) ∧
    (∀ r ∈ [0, 2], let x := { coll1 with run := r }
      (colling [x]).nextColl? = some x ∧ (colling [x]).works = true ∧ (colling [x]).slotsUsed.length < collSlots ∧
        (colling [x]).collReady x = true) ∧
    (let x := { coll1 with run := 1 }
     (colling [x]).segColl seg1 = some x ∧ (colling [x]).forMe (pkt (.seg seg1)) = true ∧ (colling [x]).collReady x = true ∧
      (colling [x]).grantColl (grant1 0) = some x ∧ (colling [x]).forMe (pkt (.grant (grant1 0))) = true) ∧
    (colling []).segColl seg1 = none ∧ (colling []).forMe (pkt (.seg seg1)) = true ∧ (colling []).grantColl (grant1 0xFFFFFFFF) = none ∧
    (colling []).grantEarly (grant1 0xFFFFFFFF) = false ∧ (colling []).forMe (pkt (.grant (grant1 0xFFFFFFFF))) = true := by decide
/-- Sixteen collectives that run, and one of GENERATE class that waits. -/
def full16 : State :=
  colling ((List.range 16).map (fun i => { coll1 with id := i + 1, run := 1, slotNo := some i, started := i }) ++
    [{ coll1 with id := 17, generate := true }])
theorem wit_Collectives_preempt :
    full16.lastStarted = some { coll1 with id := 16, run := 1, slotNo := some 15, started := 15 } ∧ full16.works = true ∧
    full16.slotsUsed.length = collSlots ∧ (∃ y ∈ full16.colls, y.generate = true ∧ (y.run = 0 ∨ y.run = 2) ∧ full16.ctxLive y.ctx = true) ∧
    (∀ y ∈ full16.colls, y.yields = false) ∧ { coll1 with id := 16, run := 1, slotNo := some 15, started := 15 }.atBoundary = false ∧
    { coll1 with kind := .allToAll }.atBoundary = true := by decide

/-- A collective that runs and has heard nothing since the times given. -/
def waits (me heard : Nat) : Coll := { coll1 with me := me, run := 1, lastHeard := heard, coordinatorHeard := heard }
def report1 : WaitReport := { platId := 3, job := 7, collSeq := 0, epoch := 0, member := 1, waitsOn := 0 }
def reform1 : ReformRec := { platId := 3, job := 7, epoch := 1, members := [0], listCrc := 0 }
def abort1 : AbortRec := { platId := 3, job := 7, collSeq := 0 }
theorem wit_Stragglers :
    (let x := waits 0 2987500000
     (colling [x]).coll? 1 = some x ∧ x.unfinished = true ∧ max x.lastHeard (x.lastReport.getD 0) + x.interval = (colling [x]).time) ∧
    (let x := waits 1 2900000000
     (colling [x]).coll? 1 = some x ∧ ((colling [x]).collFor 3 7 0).filter (fun x => x.epoch == 0 && decide (x.me ≤ 1)) = some x ∧
      x.lastHeard + 2 * x.limit = (colling [x]).time ∧ x.unfinished = true) ∧
    ((colling []).collFor 3 7 0).filter (fun x => x.epoch == report1.epoch && decide (x.me ≤ 1)) = none ∧ (colling []).mainUp = true ∧
    (∀ y ∈ [{ waits 0 0 with reports := [(1, 0, 2950000000, 3000000000)], reformable := true },
            { waits 1 0 with reports := [(0, 1, 2950000000, 2975000000)], acting := true }],
      (colling [y]).coll? 1 = some y ∧ (y.run = 1 ∨ y.run = 2) ∧ (y.me = 0 ∨ (y.me = 1 ∧ y.acting = true)) ∧ (colling [y]).collReady y = true ∧
      ∃ e ∈ y.fresh (colling [y]).time, e.2.2.1 + y.limit = (colling [y]).time) ∧
    (let x := { waits 1 0 with lastHeard := 2987500000, coordinatorHeard := 2940000000 }
     (colling [x]).coll? 1 = some x ∧ x.unfinished = true ∧ x.me = 1 ∧ x.acting = false ∧ x.lastHeard + x.interval = (colling [x]).time ∧
      x.coordinatorHeard + x.limit + 10000000 = (colling [x]).time) ∧
    (∀ y ∈ (colling [waits 0 0]).colls, y.platId = reform1.platId.toNat → (colling [waits 0 0]).collReady y = true) ∧
    (colling []).reformPlat? reform1 = some plat1 ∧ (colling []).reformPlat? { reform1 with epoch := 0 } = none ∧
    plat1.reformable = true ∧ ((colling []).ctx plat1.owner).strict = false ∧
    ({ colling [] with plats := [(3, { plat1 with reformable := false })] }.reformPlat? reform1 = some { plat1 with reformable := false }) ∧
    (let s := { colling [] with contexts := [(1, { ctx1 with strict := true })] }
     s.reformPlat? reform1 = some plat1 ∧ (s.ctx plat1.owner).strict = true) ∧
    ((colling []).colls.filter (fun z => z.platId == 3 && z.ctx == plat1.owner && z.run != 3) = [] ∧
      BitVec.ofNat 15 (colling []).self ∈ reform1.members ∧ BitVec.ofNat 15 (colling []).self ∉ ({ reform1 with members := [1] }).members) ∧
    (colling [waits 0 0]).collFor abort1.platId.toNat abort1.job abort1.collSeq = some (waits 0 0) ∧
    (colling []).collFor abort1.platId.toNat abort1.job abort1.collSeq = none := by decide

/-- GNS_READ with flags, its plat slot bound to what is given. -/
def gnsCmd (flags rest : Nat) (p : Option Nat) (y : Plat) : State :=
  { live with plats := [(3, y)]
              queues := [(4, { enable := true, cur := some { cmd1 0x0601 [(0, 1, flags), (2, 1, rest)] with bound := some p } })] }
theorem wit_GradientNoiseReads :
    (∀ f ∈ [(0, 0), (1, 0), (0, 1), (4, 0)], let s := gnsCmd f.1 f.2 (some 3) plat1
      s.runs q4 0x0601 = true ∧ bitOf ((s.cmd! q4).param 0 1) 1 = false ∧ gnsOk (s.cmd! q4) = decide (f.2 = 0 ∧ f.1 < 4)) ∧
    (∀ f ∈ [(2, 0), (3, 0), (2, 1)], let s := gnsCmd f.1 f.2 (some 3) plat1
      s.runs q4 0x0601 = true ∧ bitOf ((s.cmd! q4).param 0 1) 1 = true ∧ (s.cmd! q4).bound ≠ none ∧ gnsOk (s.cmd! q4) = decide (f.2 = 0) ∧
        ((s.cmd! q4).bound.getD none).bind (fun p => ((s.plat? p).filter (fun y => y.owner == 1)).map (fun y => (p, y))) = some (3, plat1)) ∧
    (let s := gnsCmd 2 0 none plat1
     (s.cmd! q4).bound ≠ none ∧ ((s.cmd! q4).bound.getD none).bind (fun p => ((s.plat? p).filter (fun y => y.owner == 1)).map (fun y => (p, y))) = none) ∧
    ((busy core1).gnsCores 1 = [0]) := by decide

def rec1 : Recording := { region := 0, size := replayMin, used := 64, stopDatum := 3000000000, entries := 2, active := true, full := false }
def recording1 (r : Option Recording) (sub rest : Nat) : State :=
  giving { live with contexts := [(1, { ctx1 with recording := r })] } 0x0602 [(0, 1, sub), (8, 8, frameBytes), (16, 8, replayMin), (33, 1, rest)]
def replay1 (left : Nat) : Replay := { cmd := { cmd1 0x0603 [] with handed := true }, next := 4096, left := left }
def replaying (left : Nat) : State := { live with contexts := [(1, { ctx1 with replay := some (replay1 left) })] }
theorem wit_Replays :
    (∀ sub ∈ [0, 2], let s := recording1 none sub 0
      s.runs q4 0x0602 = true ∧ s.readable 1 ((s.cmd! q4).param 24 8) 256 = true ∧ (s.cmd! q4).param 0 1 = sub ∧
        s.writable 1 ((s.cmd! q4).param 8 8) (max 1 (min ((s.cmd! q4).param 16 8) replayMax)) = true ∧
        ∀ e ∈ (s.snapsOf q4 fab0).1, s.readable 1 e.1 (min e.2 replayMax) = true) ∧
    (∀ r ∈ [none, some rec1], let s := giving { live with contexts := [(1, { ctx1 with recording := r })] } 0x0602 [(0, 1, 1)]
      s.runs q4 0x0602 = true ∧ (s.cmd! q4).param 0 1 = 1 ∧ (s.cmd! q4).restZero [(0, 1)] = true ∧ (s.ctx 1).recording = r) ∧
    (((recording1 none 1 1).cmd! q4).restZero [(0, 1)] = false ∧ (recording1 none 1 1).runs q4 0x0602 = true ∧
      ((recording1 none 1 1).cmd! q4).param 0 1 = 1) ∧
    (let s := recording1 (some rec1) 0 0
     (s.ctx (1 : BitVec 6).toNat).recording = some rec1 ∧ rec1.active = true ∧ rec1.stopDatum ≠ 0 ∧ rec1.stopDatum.toNat = s.datum.counter.toNat) ∧
    (let s := giving live 0x0603 [(8, 8, frameBytes)]
     s.replayAt q4 = none ∧ s.runs q4 0x0603 = true ∧ s.readable 1 ((s.cmd! q4).param 8 8) 64 = true) ∧
    (∀ n ∈ [0, 1], (replaying n).replayAt q4 = some (replay1 n) ∧ (replaying n).cpUp = true ∧ (replaying n).ctxLive 1 = true ∧
      (replaying n).readable 1 4096 524288 = true ∧ (replaying n).replayFree 1 (replay1 n) fab0 = true ∧
      (replaying n).replayOpen 1 = false) := by decide

def clocked (d : Datum) : State := { live with datum := d }
/-- Module 1 of the same plan, its port 1 active. -/
def second1 (d : Datum) : State :=
  let p := { plan0 with logicalId := 1 }
  { live with datum := d, regs := { live.regs with plan := p, installed := some p }, ports := [(1, { state := 2 })] }
theorem wit_DatumTiming :
    ((live.lmpUp = true ∧ live.mainUp = true) ∧ ∀ at_, (clocked { lastExchange := some 2999000000 }).datum.lastExchange = some at_ → at_ + exchangePeriod ≤ live.time) ∧
    (∀ st ∈ [1, 2], let s := { live with groups := [(35, { state := st })] }
      s.lmpUp = true ∧ (35 : BitVec 6).toNat < 36 ∧ ((s.group 35).state = 1 ∨ (s.group 35).state = 2)) ∧
    (let s := second1 { calibrated := true, offset := some 501, lastSlew := some 2999996000 }
     s.lmpUp = true ∧ s.datum.calibrated = true ∧ s.datum.holdover = none ∧ 2999996000 + 4000 ≤ s.time ∧ 500 < s.slewDue) ∧
    (let s := second1 { calibrated := true, offset := some (-501) }; s.lmpUp = true ∧ s.datum.lastSlew = none ∧ s.slewDue < -500) ∧
    (let s := second1 { holdover := some 2900000000 }
     s.datum.holdover = some 2900000000 ∧ s.newParent = some 1 ∧ s.lmpUp = true ∧ 2900000000 + 100000000 ≤ s.time ∧ s.datum.parent ≠ some 1) ∧
    (clocked { ppsEnable := false }).ppsActs = false ∧
    (let s := clocked { ppsEnable := true, ppsLocked := true, counter := 3001000001 }
     s.ppsActs = true ∧ s.datum.ppsLocked = true ∧ 1000000 < (secondError s.datum.counter).natAbs) ∧
    (let s := clocked { ppsEnable := true, ppsLocked := true, counter := 3001000000, ppsLast := some 1999000000 }
     s.ppsActs = true ∧ ¬ (s.datum.ppsLocked = true ∧ 1000000 < (secondError s.datum.counter).natAbs) ∧
      s.datum.ppsLast = some 1999000000 ∧ 1999000000 + 1001000000 = s.time) := by
  refine ⟨⟨by decide, ?_⟩, by decide⟩
  intro at_ h
  injection h with h
  subst h
  decide

/-- DATUM_BARRIER with a lead time, bound to the plat given. -/
def barrierCmd (lead : Nat) (p : Option Nat) (cal : Bool) : State :=
  { live with plats := [(3, plat1)], datum := { live.datum with calibrated := cal }
              queues := [(4, { enable := true, cur := some { cmd1 0x0700 [(4, 4, lead)] with bound := some p } })] }
/-- A barrier that has agreed, with a LAUNCH or nothing behind it in its ring. -/
def agreed (tail : Word32) : State :=
  { live with hostMem := [⟨0, 1⟩, ⟨1, 2⟩]
              queues := [(4, { enable := true, tail := tail, cur := some (cmd1 0x0700 []), release := some (3000000000, false) })] }
theorem wit_StartBarriers :
    (∀ l ∈ [29999, 1000000001], let s := barrierCmd l (some 3) true
      s.runs q4 0x0700 = true ∧ (s.cmd! q4).bound ≠ none ∧ (barrierLead (s.cmd! q4) < 30000 ∨ 1000000000 < barrierLead (s.cmd! q4))) ∧
    (∀ l ∈ [0, 30000, 1000000000], let s := barrierCmd l (some 3) true
      s.runs q4 0x0700 = true ∧ s.datum.calibrated = true ∧
        ¬ ((s.cmd! q4).restZero [(0, 1), (4, 4)] = false ∨ barrierLead (s.cmd! q4) < 30000 ∨ 1000000000 < barrierLead (s.cmd! q4)) ∧
        ((s.cmd! q4).bound.getD none).bind (fun p => ((s.plat? p).filter (fun y => y.owner == 1)).map (fun y => (p, y))) = some (3, plat1)) ∧
    ((barrierCmd 0 (some 3) false).datum.calibrated = false ∧ (barrierCmd 0 (some 3) false).runs q4 0x0700 = true) ∧
    (let s := barrierCmd 0 none true
     (s.cmd! q4).bound ≠ none ∧ ((s.cmd! q4).bound.getD none).bind (fun p => ((s.plat? p).filter (fun y => y.owner == 1)).map (fun y => (p, y))) = none) ∧
    ((agreed 1).cpUp = true ∧ (agreed 1).ctxLive 1 = true ∧ (agreed 1).barrierAgreed 4 = true ∧ (agreed 1).stageable 4 = true) ∧
    (((agreed 0).queue 4).release = some (3000000000, false) ∧ (3000000000 : Word64).toNat ≤ (agreed 0).datum.counter.toNat ∧
      (agreed 0).stageable 4 = false ∧ ∀ x ∈ (agreed 0).colls, x.queue = 4 → (agreed 0).collReady x = true) ∧
    (giving live 0x0701 []).runs q4 0x0701 = true := by decide

/-! ### Experts -/

/-- A module with plat 3, a kernel, and parcel 0 pinned, whose attribute is NO_SPECULATE. -/
def expert1 : State :=
  { live with contexts := [(1, { ctx1 with expertMap := [5] })], plats := [(3, plat1)]
              home := { parcels := [{ parcel .resident with attr := 15, pinned := true }] } }
/-- An inbox descriptor of inbox 255: ENABLE and the rest as given. -/
def inboxDesc (i flags : Nat) : List Byte :=
  natLE i 1 ++ [0, 0] ++ natLE flags 1 ++ natLE 1 2 ++ natLE 8 2 ++ natLE 8 4 ++ natLE 4 2 ++ natLE 3125 2 ++ natLE 3 2 ++ natLE 16383 2 ++
    natLE 5 4 ++ natLE 1 4 ++ natLE 1 4 ++ natLE 4096 8 ++ natLE 16 4 ++ natLE 1 2 ++ [0, 0] ++ natLE 65536 8 ++ zeros 8
def inbox1 : Inbox :=
  { owner := 1, enable := true, listCrc := 0, origins := [0, 1], program := 5, kernel := 1, landing := 4096, landingRows := 16, argsAddr := 65536 }
def inboxing (x : Inbox) : State := { expert1 with inboxes := [(255, x)] }
def expertCmd (op : Nat) (l : List (Nat × Nat × Nat)) : State := giving expert1 op l
def originCmd (l : List (Nat × Nat × Nat)) : State :=
  expertCmd 0x0500 ([(0, 1, 2), (1, 1, 6), (2, 1, 1), (4, 2, 1), (8, 4, 1), (16, 8, 0), (24, 8, 8192), (32, 8, 16384)] ++ l)
def origin1 (head : Word64) : Origin :=
  { ringLog2 := 6, topK := 1, outFormat := 0, outUnits := 1, tokensMax := 1, waveTimeout := 10000000, block := 0, combine := 8192, done := 16384
    head := head }
def originating (o : Origin) (l : List Place) (w : List WaveCount) : State :=
  { expert1 with contexts := [(1, { ctx1 with expertMap := [5], origin := some o, places := l, waves := w })] }
def place1 : Place := { token := 0, slot := 0, wave := 2, inbox := 255, home := 1, ret := none, weight := 0x3F800000, landed := 0 }
def wave1 : WaveCount := { wave := 2, home := 1, inbox := 255, sent := 1, marker := some 0 }

theorem wit_ExpertCommands :
    (let s := expertCmd 0x0500 [(0, 1, 0), (8, 8, 4096)]
     s.runs q4 0x0500 = true ∧ (s.cmd! q4).param 0 1 = 0 ∧ s.readable 1 4096 64 = true ∧ (s.cmd! q4).param 8 8 = 4096 ∧
      (s.cmd! q4).restZero [(0, 1), (8, 8)] = true ∧ vaRange 4096 64 = true) ∧
    (∀ l ∈ [[(0, 1, 3), (8, 8, 4096)], [(0, 1, 0), (1, 1, 1), (8, 8, 4096)]], let s := expertCmd 0x0500 l
      s.runs q4 0x0500 = true ∧ (s.cmd! q4).param 0 1 ≠ 1 ∧ (s.cmd! q4).param 0 1 ≠ 2 ∧ s.readable 1 ((s.cmd! q4).param 8 8) 64 = true ∧
        ((s.cmd! q4).param 0 1 ≠ 0 ∨ (s.cmd! q4).restZero [(0, 1), (8, 8)] = false)) ∧
    (expert1.inboxOk 1 (inboxDesc 255 1) fab0 = true ∧ (expert1.inbox 255).enable = false ∧ bitOf (field (inboxDesc 255 1) 3 1) 0 = true) ∧
    expert1.inboxOk 1 (inboxDesc 255 4) fab0 = false ∧
    ((inboxing { inbox1 with owner := 2 }).inboxOk 1 (inboxDesc 255 0) fab0 = true ∧
      ((inboxing { inbox1 with owner := 2 }).inbox (field (inboxDesc 255 0) 0 1)).enable = true ∧
      ((inboxing { inbox1 with owner := 2 }).inbox (field (inboxDesc 255 0) 0 1)).owner = 2) ∧
    ((inboxing inbox1).inbox (field (inboxDesc 255 1) 0 1)).owner = 1 ∧ ((inboxing inbox1).inbox (field (inboxDesc 255 1) 0 1)).waves = [] ∧
    (∀ n ∈ [0, 16385, 1, 16384], let s := expertCmd 0x0500 [(0, 1, 1), (4, 4, n), (8, 8, 4096)]
      s.runs q4 0x0500 = true ∧ (s.cmd! q4).param 0 1 = 1 ∧ s.readable 1 ((s.cmd! q4).param 8 8) 65536 = true ∧
        (s.cmd! q4).restZero [(0, 1), (4, 12)] = true ∧ (s.cmd! q4).param 4 4 = n ∧ vaRange 4096 (4 * n) = true) := by decide
theorem wit_ExpertCommands_origin :
    (∀ u ∈ [99, 0, 100, 10000000], let s := originCmd [(12, 4, u)]
      s.runs q4 0x0500 = true ∧ (s.cmd! q4).param 0 1 = 2 ∧ s.originOk 1 (s.cmd! q4) = decide (u ≠ 99) ∧ (s.ctx 1).places = [] ∧
        (s.ctx 1).waves = []) ∧
    ((originating (origin1 0) [place1] []).ctx 1).places ≠ [] ∧
    (let s := { (originating (origin1 64) [] []) with dram := [⟨1024 * frameBytes, 65⟩] }
     (s.ctx (1 : BitVec 6).toNat).origin = some (origin1 64) ∧ s.works = true ∧ s.ctxLive 1 = true ∧
      s.blockWord 1 (origin1 64) 0 ≠ (origin1 64).head.toNat ∧ s.writable 1 (origin1 64).block.toNat 16 = true ∧
      s.readable 1 (field (s.dispatchRec 1 (origin1 64)) 0 7) 16384 = true) := by decide
theorem wit_ExpertCommands_query :
    (∀ l ∈ [[(0, 1, 2), (8, 8, 4096)], [(0, 1, 1), (8, 8, 4096)], [(0, 1, 0), (8, 8, 4096)]], let s := expertCmd 0x0501 l
      s.runs q4 0x0501 = true ∧ s.writable 1 ((s.cmd! q4).param 8 8) 128 = true ∧ (s.cmd! q4).restZero [(0, 2), (8, 8)] = true ∧
        vaRange ((s.cmd! q4).param 8 8) 128 = true ∧ (s.inbox ((s.cmd! q4).param 1 1)).enable = false) ∧
    (let s := giving (inboxing { inbox1 with owner := 2 }) 0x0501 [(0, 1, 1), (1, 1, 255), (8, 8, 4096)]
     s.runs q4 0x0501 = true ∧ s.writable 1 ((s.cmd! q4).param 8 8) 128 = true ∧ (s.cmd! q4).restZero [(0, 2), (8, 8)] = true ∧
      (s.cmd! q4).param 0 1 = 1 ∧ (s.inbox ((s.cmd! q4).param 1 1)).enable = true ∧ (s.inbox ((s.cmd! q4).param 1 1)).owner ≠ 1) := by decide

def rowSeg (k : RowKind) (offset : Word32) : RowSeg :=
  { job := 7, inbox := 255, kind := k, wave := 2, token := 0, slot := 0, drop := false, status := .ok, weight := 0x3F800000, offset := offset
    listCrc := 0, count := 0, payload := List.replicate 64 1 }
def rowPkt (k : RowKind) (offset : Word32) : Packet := { pkt (.row (rowSeg k offset)) with env := { env 0 0 with src := 1 } }
def row1 (n : Nat) : Row :=
  { wave := 2, origin := 0, originModule := 0, token := 0, slot := 0, drop := false, weight := 0, land := n, got := 64, arrival := n, order := n
    datum := 2999936000 }
/-- An inbox with one whole row of a wave, that closes by its deadline or by its latency floor. -/
def closing (d f : Nat) : State :=
  inboxing { inbox1 with generate := true, deadline := d, floor := f, rows := [row1 0], waves := [{ wave := 2 }] }
def batch1 : Batch := { wave := 2, seq := 0, rows := [0], grid := some 1, descriptor := 0 }
def receipt1 : Receipt := { job := 7, inbox := 255, wave := 2, received := 1, returned := 1, dropped := 0, refused := 0 }

set_option maxRecDepth 4000 in
theorem wit_ExpertTraffic_strays :
    (∀ k ∈ [RowKind.row, .marker, .ret, .resetNotice], expert1.forMe (rowPkt k 0) = true ∧
      expert1.inboxFor (rowSeg k 0) 1 = none) ∧
    expert1.forMe (rowPkt .row 64) = true ∧ ∀ p g, expert1.inRowOrder p g = true := ⟨by decide, by decide, fun _ _ => rfl⟩
set_option maxRecDepth 4000 in
theorem wit_ExpertTraffic :
    ((rowPkt .row 0).body = .row (rowSeg .row 0) ∧ (rowPkt .ret 0).body = .row (rowSeg .ret 0)) ∧
    (∀ k ∈ [RowKind.row, .marker], ∀ o ∈ [0, 64], (inboxing inbox1).inRowOrder (rowPkt k o) (rowSeg k o) = true) ∧
    ((inboxing inbox1).inboxFor (rowSeg .row 0) 1 = some inbox1 ∧ (inboxing inbox1).inboxFor (rowSeg .row 64) 1 = some inbox1) ∧
    (inboxing inbox1).ctxLive 1 = true ∧ (inboxing inbox1).rowRoom inbox1 (rowSeg .row 0) = true ∧
    inbox1.freeLand = some 0 ∧ inbox1.waveRoom 2 = true ∧
    ((inboxing inbox1).takeArrived (· == rowPkt .row 0)).inboxFor (rowSeg .row 0) 1 = some inbox1 :=
  ⟨⟨rfl, rfl⟩, fun _ _ _ _ => rfl, ⟨rfl, rfl⟩, rfl, rfl, rfl, rfl, rfl⟩
theorem wit_ExpertTraffic_batches :
    ((closing 4 1).closingWave 255 .floor = some { wave := 2 } ∧ (closing 4 1).inboxLive 255 = true) ∧
    (let s := inboxing { (closing 4 1).inbox 255 with generate := false }
     s.closingWave (255 : Byte).toNat .deadline = some { wave := 2 } ∧ s.inboxLive 255 = true) ∧
    (let s := { inboxing { inbox1 with batches := [batch1] } with grids := [grid1] }
     (s.inbox (255 : Byte).toNat).batches.find? s.batchDone = some batch1 ∧ s.works = true ∧ (s.inbox 255).enable = true) := by decide
theorem wit_ExpertTraffic_origin :
    (let s := originating (origin1 0) [place1] [wave1]
     s.originCtx 7 = some 1 ∧ s.originReady 1 = true ∧ s.placeOf 1 (rowSeg .ret 0) 1 = some place1 ∧
      (pkt (.receipt receipt1)).body = .receipt receipt1 ∧ s.forMe (pkt (.receipt receipt1)) = true ∧
      s.works = true ∧ s.ctxLive (1 : BitVec 6).toNat = true ∧ s.lateReceipts 1 2 = [wave1]) ∧
    live.originCtx 8 = none := by decide

/-! ### Errors and recovery -/

def event (code : BitVec 16) : ErrEvent :=
  { code := code, context := none, va := 0, len := 0, target := 0, unitKind := 1, unitIndex := 0, detail := 0, outcomeUnknown := false }
def logWin1 : LogWin := { code := 0x0901, ctx := 0xFF, opened := 2999000000, count := 1, suppressed := 0, first := none }
def husk1 : Husk := { index := 1, start := 0, bytes := zeros 64 }
set_option maxRecDepth 10000 in
theorem wit_Errors :
    (live.mainUp = true ∧ (event 0x0101).code.toNat ∈ errCodes ∧ errAction 0x0101 ≠ 2 ∧ (event 0x0401).code.toNat ∈ errCodes ∧
      live.coreThere (unitCore (event 0x0401).unitIndex.toNat) = true) ∧
    (let s := { live with errs := { live.errs with windows := [logWin1] } }
     s.errs.windows.find? (fun w => w.code == 0x0901 && w.ctx == 0xFF) = some logWin1 ∧
      logWin1.opened.toNat + logWindow = s.datum.counter.toNat) ∧
    (∀ l ∈ [[], [(8, 4, 1)], [(12, 1, 1)]], let s := giving live 0x0A00 l
      s.runs q4 0x0A00 = true ∧ (s.cmd! q4).restZero [(0, 12)] = decide (l ≠ [(12, 1, 1)]) ∧ s.errs.backlog = []) ∧
    (∀ l ∈ [[(0, 4, 1), (8, 12, 0), (20, 1, 1)], [(0, 4, 1)], [(0, 4, 2)], [(0, 4, 0xFFFFFFFF)]],
      let s := giving { live with recov := { live.recov with husks := [husk1] } } 0x0A01 l
      s.runs q4 0x0A01 = true ∧ (s.cmd! q4).restZero [(0, 4), (8, 12)] = decide (l.length = 1) ∧ s.boot.state ≠ .powerFault ∧
        ((s.recov.husks.find? (fun h => h.index == (s.cmd! q4).param 0 4)).map (·.bytes)).isSome =
          decide ((s.cmd! q4).param 0 4 = 1)) ∧
    (∀ l ∈ [[(0, 1, 64)], [(0, 1, 0), (1, 1, 5)], [(0, 1, 255), (1, 1, 3)], [(0, 1, 63)], [(0, 1, 0), (1, 1, 4)]],
      let s := giving live 0x0A02 l
      s.runs q4 0x0A02 = true ∧ (s.cmd! q4).restZero [(0, 2), (8, 8)] = true ∧
        (s.tallyGroup ((s.cmd! q4).param 0 1) ((s.cmd! q4).param 1 1)).isSome = decide ((s.cmd! q4).param 1 1 ≤ 4)) := by decide

def ctxReset1 (t : Option Nat) : CtxReset := { ctx := 1, code := 0x0104, started := t }
def coreReset1 (t : Option Nat) : CoreReset := { core := 0, code := 0x0401, started := t }
def procRestart1 (t : Option Nat) : ProcRestart := { proc := .cp, started := t }
def recovering (r : Recov) : State := { live with recov := r }
set_option maxRecDepth 4000 in
theorem wit_Recoveries :
    (∀ t ∈ [none, some 2999000000], (recovering { ctxs := [ctxReset1 t] }).recov.ctxs = [ctxReset1 t] ∧
      (recovering { ctxs := [ctxReset1 t] }).hrpWorks = true ∧ (recovering { ctxs := [ctxReset1 t] }).recov.procs = [] ∧
      (ctxReset1 t).started = t ∧
      (recovering { cores := [coreReset1 t] }).recov.cores = [coreReset1 t] ∧ (recovering { cores := [coreReset1 t] }).hrpWorks = true ∧
      (recovering { procs := [procRestart1 t] }).recov.procs = [procRestart1 t] ∧ (recovering { procs := [procRestart1 t] }).hrpWorks = true ∧
      ∀ r ∈ (recovering { procs := [procRestart1 t] }).recov.ctxs, r.started = none) ∧
    ((recovering { stopDue := some 0x0405 }).recov.stopDue = some 0x0405 ∧ (recovering { stopDue := some 0x0405 }).hrpWorks = true) := by decide

/-- A tile of a core whose streams wait as given; the core last issued at the time given. -/
def stalled (k : Option (StallKind × Nat)) (last : Nat) : State := busy { core1 with accStall := k, exeStall := k, lastIssue := last }
theorem wit_Watchdogs :
    (live.mainUp = true ∧ live.hrpWorks = true ∧ live.boot.imagesOk = true ∧ live.recov.stopDue = none ∧ live.boot.standby = true ∧
      live.recov.hrpStopped = false ∧ (∀ p ∈ [Proc.cp, .surveyor, .lmp], tget live.recov.beats (procIndex p) 0 + 1000000 ≤ live.time)) ∧
    (let s := recovering { beats := [(0, 2999000000)] }
     tget s.recov.beats (procIndex .cp) 0 + 1000000 = s.time ∧ s.hrpWorks = true) ∧
    (let s := stalled (some (.replySlots, 2990000000)) 0
     (s.core (coreKey c0)).accStall = some (.replySlots, 2990000000) ∧ (s.core (coreKey c0)).exeStall = some (.replySlots, 2990000000) ∧ s.hrpWorks = true ∧
      (s.core 0).tiles ≠ [] ∧ (s.core 0).frozen = false ∧ s.ctxLive 1 = true ∧ (s.core 0).accTile = run1 ∧
      (s.core 0).exeTile = run1 ∧ 2990000000 + min 1000000000 (max 10000000 (4 * s.fabricTimeout 1)) = s.time) ∧
    (let s := stalled none 2999900000
     s.hrpWorks = true ∧ (s.core 0).tiles ≠ [] ∧ (s.core 0).frozen = false ∧ (s.core 0).retired = false ∧ (s.core 0).accStall = none ∧
      (s.core 0).exeStall = none ∧ (s.core 0).exeTile.accEnd = false ∧ (s.core 0).lastIssue + 100000 = s.time) ∧
    ((recovering { ctxs := [ctxReset1 (some 2997999999)] }).hrpWorks = true ∧
      ∃ r ∈ (recovering { ctxs := [ctxReset1 (some 2997999999)] }).recov.ctxs, r.started = some 2997999999) ∧
    (2997999999 + 2000000 < live.time ∧ 2999799999 + 200000 < live.time ∧ 2979999999 + 20000000 < live.time) ∧
    ((recovering { cores := [coreReset1 (some 2999799999)] }).hrpWorks = true ∧
      ∃ r ∈ (recovering { cores := [coreReset1 (some 2999799999)] }).recov.cores, r.started = some 2999799999) ∧
    ((recovering { procs := [procRestart1 (some 2979999999)] }).hrpWorks = true ∧
      ∃ r ∈ (recovering { procs := [procRestart1 (some 2979999999)] }).recov.procs, r.started = some 2979999999) := by decide
set_option maxRecDepth 10000 in
theorem wit_Watchdogs_dispatcher :
    (idle1 none).tileChoice 0 = some (slice1, grid1, (0, 0, 0), 0) ∧ (idle1 none).hrpWorks = true ∧ (0 : BitVec 8).toNat < (idle1 none).enabledClusters ∧
    max (max ((idle1 none).core 0).freeSince slice1.since) ((idle1 none).cluster 0).given + 1000000 ≤ (idle1 none).time :=
  ⟨rfl, rfl, by decide, by decide⟩

/-! ### The fabric -/

/-- Port 1 with one joined group. -/
def ported (x : Port) : State := { live with ports := [(1, x)], groups := [(0, { state := 2, role := 1 })] }
/-- A flit without a body under its CRC, and the same with another check. -/
def flit (type : BitVec 4) (seq : BitVec 12) (l : List Packet) : Flit :=
  ({ type := type, pool := 3, count := 2, ack := 4, seq := seq, body := [], check := 0, packets := l } : Flit).seal
def broken (f : Flit) : Flit := { f with check := f.check + 1 }
theorem flit_checkOk (type : BitVec 4) (seq : BitVec 12) (l : List Packet) : (flit type seq l).checkOk = true := by
  simp [flit, Flit.seal, Flit.checkOk, Flit.crc, Flit.header]
theorem broken_checkOk (type : BitVec 4) (seq : BitVec 12) (l : List Packet) : (broken (flit type seq l)).checkOk = false := by
  simp [broken, flit, Flit.seal, Flit.checkOk, Flit.crc, Flit.header]
def port1 : Port := { state := 2, rxSeq := 4095 }
def outPkt : OutPkt := { p := pkt (.invAck 0 3 1) }
def mgmtPkt : Packet := { env := { env 0 0 with cls := .management }, body := .downNote ⟨2, 1⟩ }
/-- Port 1 quarantined: its group has trained and joined to a peer that it may not carry traffic for. -/
def quarantined (l : List OutPkt) : State :=
  { live with ports := [(1, { state := 3, reason := 1, out := l })], groups := [(0, { state := 5, role := 1 })] }
theorem wit_LinkFlits :
    (∀ n ∈ [(0 : BitVec 4), 1, 2], (ported port1).receives 1 (flit n 4095 []) n.toNat = true ∧ (flit n 4095 []).packets = []) ∧
    (ported port1).carries 1 = true ∧ (ported port1).errs.stopped 5 1 = false ∧ ((ported port1).port 1).rxSeq = 4095 ∧
    ((flit 4 4095 [mgmtPkt]).type = 4 ∧ (flit 3 0 []).type = 3 ∧ ∀ q ∈ [mgmtPkt], q.env.cls = .management) ∧
    (flit 0 4095 []).seq = port1.rxSeq ∧
    ((flit 0 2047 []).seq ≠ port1.rxSeq ∧ (port1.rxSeq - (flit 0 2047 []).seq).toNat = 2048) ∧
    ((flit 0 2046 []).seq ≠ port1.rxSeq ∧ 2048 < (port1.rxSeq - (flit 0 2046 []).seq).toNat) ∧
    ((flit 0 0 []).seq ≠ port1.rxSeq ∧ 2048 < (port1.rxSeq - (flit 0 0 []).seq).toNat) ∧
    (let e : SentFlit := { group := 0, flit := flit 0 7 [], drawn := 3 }
     ((ported { port1 with resend := [e] }).port 1).resend = [e] ∧ (ported { port1 with resend := [e] }).carries 1 = true ∧
      (ported { port1 with resend := [e] }).procDown .lmp = false ∧
      ({ port1 with retry := [e], drawn := 3 } : Port).drawnTo 7 = 3 ∧ ({ port1 with retry := [e], drawn := 3 } : Port).drawnTo 6 = 0) ∧
    ((ported port1).port 1).retry.length < retryFlits ∧ (((ported port1).port 1).choose ((ported port1).readyOut 1)) = none :=
  ⟨by intro n h; simp only [List.mem_cons, List.not_mem_nil, or_false] at h; obtain rfl | rfl | rfl := h <;> exact ⟨rfl, rfl⟩,
    by decide, by decide, rfl, ⟨rfl, rfl, by decide⟩, rfl, ⟨by show (2047 : BitVec 12) ≠ 4095; decide, rfl⟩,
    ⟨by show (2046 : BitVec 12) ≠ 4095; decide, by show 2048 < ((4095 : BitVec 12) - 2046).toNat; decide⟩,
    ⟨by show (0 : BitVec 12) ≠ 4095; decide, by show 2048 < ((4095 : BitVec 12) - 0).toNat; decide⟩, ⟨rfl, rfl, rfl, rfl, rfl⟩, by decide, by decide⟩
theorem wit_LinkFlits_data :
    let s := ported { port1 with out := [outPkt], pool := { issued := 1536, free := 1536 } }
    s.readyOut 1 = [outPkt] ∧ (((s.port 1).choose (s.readyOut 1)).map (·.1)) = some outPkt ∧ s.carries 1 = true ∧ (s.port 1).resend = [] := by decide
theorem wit_LinkFlits_quarantined :
    let s := quarantined [{ p := mgmtPkt }]
    s.manages 1 = true ∧ s.errs.stopped 5 1 = false ∧ (s.port 1).resend = [] ∧ (s.port 1).retry.length < retryFlits ∧
    (s.port 1).out = [{ p := mgmtPkt }] := by decide

def multi : Packet := { env := { env 1 0 with mcast := true, hopsPos := 1 }, body := .invAck 0 3 1 }
def toPeer : Packet := { env := env 1 0, body := .invAck 0 3 1 }
def entering (p : Packet) : State := ported { port1 with inputs := [(poolOf p, [p])] }
def entry2 : Combine := { south := false, lead := { req .read 0 0 0 with src := 0, dest := 1 }, members := [], sent := true }
def reply2 : Reply := { rep1 with dest := 0, src := 1, tag := 3 }
def replyPkt : Packet := { env := { env 0 0 with isReply := true, src := 1 }, body := .rep reply2 }
/-- A READ of another module on its way to module 1, with and without an open entry that it matches; no credit has come. -/
def readOn : Request := { req .read 0 0 0 with src := 2, dest := 1 }
def readPkt : Packet := { env := { env 1 0 with src := 2 }, body := .req readOn }
def openEntry : Combine := { south := false, lead := readOn, members := [readPkt], sent := false }
theorem wit_Routing :
    (multi.env.mcast = true ∧ multi.env.isReply = false ∧ multi.env.hopsPos ≠ 0 ∧ (entering multi).halfUp 1 = true) ∧
    (withFab { inject := [multi] }).fabric.inject = [multi] ∧
    ((withFab { inject := [toPeer] }).fabric.inject = [toPeer] ∧ (withFab { inject := [toPeer] }).mainUp = true ∧ toPeer.env.mcast = false ∧
      (withFab { inject := [toPeer] }).exitUp toPeer = true) ∧
    ((tget ((entering toPeer).port 1).inputs 3 []).head? = some toPeer ∧ (entering toPeer).plain toPeer = true ∧
      (entering toPeer).exitUp toPeer = true) ∧
    ((entering toPeer).exitOf toPeer).isSome = true ∧ (entering toPeer).exitOf (pkt (.invAck 0 3 1)) = none ∧ poolOf toPeer = 3 ∧
    combinable readPkt = some readOn ∧ (ported port1).portLost 1 readPkt = false ∧ (ported port1).waitsCredit 1 readPkt = true ∧
    (ported port1).fabric.combines = [] ∧
    (let s := { ported port1 with fabric := { combines := [openEntry] } }
     s.portLost 1 readPkt = false ∧ s.fabric.combines.find? (fun e => !e.sent && combineMatch e.lead readOn) = some openEntry ∧
      openEntry.members.length < 16) ∧
    (let s := { entering replyPkt with fabric := { (entering replyPkt).fabric with combines := [entry2] } }
     s.entryOf reply2 = some entry2 ∧ s.findReply reply2 = some (1, replyPkt) ∧ s.halfUp 1 = true) ∧
    (let s := withFab { combines := [entry2] }
     s.entryOf reply2 = some entry2 ∧ s.findReply reply2 = none ∧ s.mainUp = true) := by decide

/-- Group 35 on port 7, begun at the time given, in a state, at a point, after some attempts. -/
def training (st : Byte) (m started attempts : Nat) : Group := { role := 7, state := st, milestone := m, started := started, attempts := attempts }
def grouped (x : Group) : State := { live with groups := [(35, x)] }
/-- An identity block whose CHECK is right. -/
def idBlock : List Byte := zeros 56 ++ natLE (crc32 (zeros 56)).toNat 4 ++ zeros 4
theorem wit_LinkTraining :
    (∀ e ∈ [(Milestone.signal, 2999900000, 2999000000), (.equalised, 2992000000, 2980000000), (.fecLock, 2980000000, 2974000000)],
      ∀ t ∈ [e.2.1, e.2.2], let s := grouped (training 1 (milestoneIndex e.1) t 0)
        s.canPass (35 : BitVec 6).toNat (milestoneIndex e.1) = true ∧ milestoneIndex e.1 ≠ 5 ∧ (s.group 35).state = 1) ∧
    (∀ t ∈ [2966000000, 2954000000], let s := grouped { training 2 5 t 0 with measured := true }
      s.canPass 35 (milestoneIndex .delayMeasured) = true ∧ (s.group 35).state = 2 ∧ (s.group 35).measured = true) ∧
    (∀ n ∈ [2, 3], let s := grouped { training 1 3 2979000000 0 with identityTries := n }
      s.canPass 35 3 = true ∧ (s.group 35).state = 1 ∧ (s.group 35).role.toNat % 16 < 8 ∧ (s.group 35).identityTries = n) ∧
    (let s := grouped { training 1 4 2978000000 0 with agreed := true }
     s.canPass 35 4 = true ∧ (s.group 35).state = 1 ∧ (s.group 35).agreed = true) ∧
    (∀ st ∈ [(1 : Byte), 2], ∀ a ∈ [1, 2], let s := grouped (training st 0 2998999999 a)
      s.lmpUp = true ∧ s.mainUp = true ∧ (35 : BitVec 6).toNat < 36 ∧ (s.group 35).state = st ∧ (s.group 35).milestone < 6 ∧
        (s.group 35).started + (trainBounds.getD (s.group 35).milestone (0, 0)).2 < s.time ∧ (s.group 35).attempts = a) ∧
    (withFab { downNotes := [⟨2, 1⟩] }).lmpUp = true ∧ live.fabric.downNotes = [] ∧ (⟨2, 1⟩ : DownNote) ∈ (withFab { downNotes := [⟨2, 1⟩] }).fabric.downNotes ∧
    (∀ l ∈ [([(1, 1, 4)], false, false), ([(3, 1, 1)], true, false), ([(1, 1, 0)], false, true), ([(1, 1, 1)], false, true)],
      let s := giving live 0x0900 l.1
      s.runs q4 0x0900 = true ∧ ((s.cmd! q4).restZero [(0, 3), (8, 8)] = false ∨ 4 ≤ (s.cmd! q4).param 1 1) = (l.2.2 = false)) := by
  refine ⟨by decide, by decide, by decide, by decide, by decide, by decide, by decide, by decide, ?_⟩
  intro l h
  simp only [List.mem_cons, List.not_mem_nil, or_false] at h
  obtain rfl | rfl | rfl | rfl := h <;> exact ⟨by decide, by simp; decide⟩
set_option maxRecDepth 20000 in
theorem wit_LinkTraining_identity :
    idBlock.length = 64 ∧ identityCheck idBlock = true ∧ identityCheck (zeros 64) = false := by decide
theorem wit_LinkTraining_profile :
    (let s := giving live 0x0900 [(1, 1, 0)]
     bitOf ((s.cmd! q4).param 1 1) 0 = false ∧ ∃ y ∈ s.contexts, y.2.state ≠ 0) ∧
    (let s := giving live 0x0900 [(1, 1, 1)]
     s.fabric.profile = none ∧ bitOf ((s.cmd! q4).param 1 1) 0 = true ∧ (s.cmd! q4).restZero [(0, 3), (8, 8)] = true) ∧
    (∀ n ∈ [7, 8], let s := giving live 0x0901 [(0, 1, n)]
      s.runs q4 0x0901 = true ∧ (s.cmd! q4).param 0 1 = n ∧ (s.cmd! q4).restZero [(0, 1)] = true) := by decide

/-! ### Control space -/

def freeCtx : State := { live with contexts := [] }
def aperture (c : Context) : State :=
  { live with contexts := [(1, c)], regs := { live.regs with global := { live.regs.global with apEnable := true, apCtx := 1 } } }
theorem wit_ControlRegisters :
    (live.masterUp .host = true ∧ live.masterUp .sideband = true ∧ live.noContexts = false ∧ freeCtx.noContexts = true ∧
      freeCtx.masterUp .sideband = true) ∧
    (∀ r ∈ [(0 : Byte), 1], let s := { live with queues := [(4, { haltReason := r })] }
      (s.queue 4).enable = false ∧ bitOf (1 : Word64).toNat 0 = true) ∧
    (bitsOf (0x0000_0000_0000_0000 : Word64).toNat 0 32 = 0 ∧ live.regs.global.migrateThreshold ≠ 0) ∧
    (latches 0x100010 = true ∧ ({ live with regs := { live.regs with host := { latch := [(0x100010, 5)] } } }.mst .host).latched (0x100014 - 4) =
      some 5) ∧
    (live.apCtx = none ∧ live.inBar4 (BitVec.ofNat 38 (2 ^ 36 - 1)) 1 = true ∧ live.inBar4 (BitVec.ofNat 38 (2 ^ 36 - 1)) 2 = false) ∧
    (let s := aperture ctx1
     s.apCtx = some 1 ∧ s.inBar4 4096 8 = true ∧ s.readable 1 (s.apAddr 4096) 8 = true ∧ s.writable 1 (s.apAddr 4096) 8 = true) := by decide

/-- A host whose select registers name what does not exist. -/
def selecting (rank : Byte) (grp ctx : BitVec 6) : State :=
  { live with regs := { live.regs with host := { cluRank := rank, grpSel := grp, ctxSel := ctx } } }
set_option maxRecDepth 10000 in
theorem wit_AbsentInstances :
    (selecting 255 36 2).masterUp .host = true ∧ (selecting 255 36 2).enabledClusters ≤ 255 ∧ 36 ≤ ((selecting 255 36 2).mst .host).grpSel.toNat ∧
    ((selecting 255 36 2).ctx ((selecting 255 36 2).mst .host).ctxSel.toNat).state = 0 ∧
    (0x300008 : BitVec 24).toNat = 0x300000 + 8 ∧ (0x21FFF8 : BitVec 24).toNat = 0x210000 + 0xFFF8 ∧
    (0x100020 : BitVec 24).toNat = 0x100000 + 0x20 ∧ (0x100200 : BitVec 24).toNat = 0x100000 + 0x200 ∧
    (0x1000F8 : BitVec 24).toNat = 0x100000 + 0xF8 ∧ (0x100010 : BitVec 24).toNat = 0x100010 ∧ (0x120 - 0x100) % 0x40 = 0x20 :=
  ⟨rfl, by decide, by decide, rfl, rfl, rfl, rfl, rfl, rfl, rfl, rfl⟩

/-! ### Bring-up, power and firmware -/

def booting (f : Boot → Boot) : State := { live with boot := f live.boot }
def standing (st : ModState) : State :=
  booting (fun b => { b with state := st, hostIfUp := false, linkUp := false, imagesOk := false, rails := 0, mainGo := false })
def ready8 : Table Stack := (List.range 8).map (fun k => (k, { train := 2 }))
set_option maxRecDepth 4000 in
theorem wit_BringUp :
    (live.boot.standby = true ∧ live.boot.modResetLow = false ∧ live.boot.perstLow = false ∧ live.mainUp = true ∧ live.boot.input48 = true ∧
      live.boot.resetPending = false ∧ live.sideUp = true ∧ live.side.deafUntil = none ∧
      (booting (fun b => { b with resetPending := true })).mainUp = true) ∧
    ((standing .standbyBoot).sideUp = false ∧ (standing .standbyBoot).boot.standby = true ∧ (standing .standbyBoot).mainUp = false) ∧
    (∀ l ∈ [true, false], let s := booting (fun b => { b with modResetLow := l, resetStarted := true, perstLow := true })
      s.boot.standby = true ∧ s.boot.modResetLow = l ∧ s.boot.resetStarted = true ∧ s.boot.perstLow = true) ∧
    (∃ e ∈ live.contexts, (live.ctx e.1).state ≠ 0 ∧ ∀ q ∈ live.recov.ctxs, q.ctx ≠ e.1) ∧
    ((booting (fun b => { b with standby := false })).boot.standby = false ∧ (booting (fun b => { b with addr := none })).boot.addr = none) ∧
    (∀ l ∈ [true, false], (booting (fun b => { b with state := .standbyBoot, tripFlash := l })).boot.state = .standbyBoot ∧
      (booting (fun b => { b with state := .standbyBoot, tripFlash := l })).boot.tripFlash = l) ∧
    (let s := booting (fun b => { b with state := .readyMain, mainGo := true })
     s.boot.state = .readyMain ∧ s.boot.mainGo = true ∧ s.boot.input48 = true ∧ s.sideUp = true) ∧
    ¬ ((standing .readyMain).boot.state = .readyMain ∧ (standing .readyMain).boot.mainGo = true ∧ (standing .readyMain).boot.input48 = true) := by decide
set_option maxRecDepth 4000 in
theorem wit_BringUp_rails :
    ((booting (fun b => { b with input48 := false })).boot.input48 = false ∧ (standing .readyMain).boot.input48 = true ∧
      (standing .readyMain).mainUp = false ∧ (standing .readyMain).boot.state ≠ .ramping) ∧
    (∀ n ∈ [5, 6], let s := booting (fun b => { b with state := .ramping, rails := n })
      s.boot.state = .ramping ∧ s.boot.rails = n ∧ (7 : BitVec 3) ≠ 0 ∧ ((7 : BitVec 3).toNat ≤ n + 1 ↔ n = 6)) ∧
    ((standing .init).boot.state = .init ∧ (standing .init).boot.imagesOk = false ∧ (standing .init).boot.imagesBad = false ∧
      ({ standing .init with dramStacks := [(7, { train := 1 })] }.stack (7 : BitVec 3).toNat).train = 1) ∧
    ((booting (fun b => { b with linkUp := false })).boot.linkUp = false ∧ (booting (fun b => { b with linkUp := false })).boot.hostIfUp = true ∧
      (booting (fun b => { b with linkUp := false })).mainUp = true) ∧
    (let s := { booting (fun b => { b with state := .init }) with dramStacks := ready8 }
     s.boot.state = .init ∧ s.boot.imagesOk = true ∧ s.recov.stopDue = none ∧ ∀ k < 8, (s.stack k).train = 2) := by decide

/-- A mailbox command of the HRP's. -/
def mailing (op : Nat) (l : List (Nat × Nat × Nat)) (p : Power) : State :=
  { live with power := p, mboxCmd := some { cmd1 op l with src := .mailbox } }
def powered (op : Nat) (l : List (Nat × Nat × Nat)) (p : Power) : State := { giving live op l with power := p }
theorem wit_PowerCommands :
    (live.boot.standby = true ∧ live.boot.state ≠ .unpowered ∧ live.boot.state ≠ .inReset ∧ live.boot.state ≠ .tripped) ∧
    (live.mainUp = true ∧ live.recov.hrpStopped = false ∧ live.sideUp = true ∧ live.power.pmbusDead = false ∧ live.power.pmbusFails = 0 ∧
      (powered 0x0800 [] { pmbusFails := 2 }).sideUp = true) ∧
    (∀ l ∈ [[], [(0, 1, 1)]], (giving live 0x0800 l).runs q4 0x0800 = true ∧
      ((giving live 0x0800 l).cmd! q4).restZero [] = decide (l = [])) ∧
    (∀ n ∈ [1199, 1200, 3600, 3601], let s := giving live 0x0801 [(0, 2, n)]
      s.runs q4 0x0801 = true ∧ (s.cmd! q4).restZero [(0, 3)] = true ∧ (s.cmd! q4).param 0 2 = n ∧ (s.cmd! q4).holdOk (q4 == .mailbox) = true) ∧
    (∀ n ∈ [3, 4], let s := giving live 0x0802 [(0, 1, n)]
      s.runs q4 0x0802 = true ∧ (s.cmd! q4).restZero [(0, 1), (2, 1)] = true ∧ (s.cmd! q4).param 0 1 = n ∧ (s.cmd! q4).holdOk false = true) ∧
    (let s := mailing 0x0801 [(0, 2, 1200), (2, 1, 1)] {}
     s.runs .mailbox 0x0801 = true ∧ (s.cmd! .mailbox).holdOk true = true ∧ (s.cmd! .mailbox).param 0 2 = 1200) ∧
    (let s := { busy core1 with contexts := [(1, { ctx1 with strict := true })] }; s.strictRuns = true) ∧ live.strictRuns = false ∧
    ((powered 0x0801 [] { thermal95 := true }).power.safety = true ∧ (powered 0x0801 [] {}).power.safety = false) ∧
    (∀ d ∈ [true, false], let s := powered 0x0803 [] { down := d }
      s.runs q4 0x0803 = true ∧ (s.cmd! q4).restZero [] = true ∧ s.power.down = d ∧ s.storesDrained q4 = true) := by decide
theorem wit_Firmware :
    (∀ l ∈ [[], [(12, 1, 1)]], (giving live 0x0F01 l).runs q4 0x0F01 = true ∧
      ((giving live 0x0F01 l).cmd! q4).restZero [(0, 12)] = decide (l = [])) ∧
    (∀ b ∈ [true, false], let s := { giving live 0x0F02 [] with boot := { live.boot with staged := b } }
      s.runs q4 0x0F02 = true ∧ (s.cmd! q4).restZero [] = true ∧ s.boot.staged = b) ∧
    (giving live 0x0F00 []).runs q4 0x0F00 = true ∧ (standing .standbyBoot).boot.state = .standbyBoot := by decide
theorem wit_banks :
    judgeBank 0 (.verified 5 0) = .ok (5, 0) ∧ judgeBank 0 .noKey = .error 1 ∧ judgeBank 3 (.verified 9 2) = .error 3 ∧
    judgeBank 3 (.verified 9 3) = .ok (9, 3) := ⟨rfl, rfl, rfl, rfl⟩
/-- CP_READY completes; a boot that leads to READY_MAIN, with a fused counter of 1. -/
theorem wit_Firmware_boots :
    (∃ t, exec .cpReady { booting (fun b => { b with state := .init }) with dramStacks := ready8 } = .next t) ∧
    ∃ t, exec (.bootVerificationDone (.verified 5 1) .noKey []) { standing .standbyBoot with fuses := { security := 1 } } = .next t ∧
      t.boot.state = .readyMain ∧ 0 < ({ standing .standbyBoot with fuses := { security := 1 } } : State).fuses.security :=
  ⟨⟨_, rfl⟩, _, rfl, rfl, by decide⟩

/-! ### Sideband, test port and the whole machine -/

theorem wit_SidebandTransfers :
    live.boot.standby = true ∧ live.hostUp = true ∧ live.side.deafUntil = none ∧ live.side.regAddr.toNat % 8 = 0 ∧
    ({ live with side := { live.side with regAddr := 4 } }).side.regAddr.toNat % 8 ≠ 0 ∧ (cmd1 0 []).slot.length = 64 ∧
    (let s := { live with side := { live.side with deafUntil := some 3000000001 } }
     s.side.deafUntil = some 3000000001 ∧ s.time < 3000000001) ∧
    (let s := { live with side := { live.side with deafUntil := some 3000000000 } }
     s.side.deafUntil = some 3000000000 ∧ 3000000000 ≤ s.time) := by decide
theorem wit_TestPort :
    live.boot.standby = true ∧ live.sideUp = true ∧ live.recov.hrpStopped = false ∧ (standing .readyMain).boot.state = .readyMain ∧
    ¬ (live.boot.state = .inReset ∨ live.boot.state = .standbyBoot ∨ live.boot.state = .bootFailed ∨ live.boot.state = .readyMain) ∧
    (∃ e ∈ live.contexts, (live.ctx e.1).state ≠ 0 ∧ ∀ r ∈ live.recov.ctxs, r.ctx ≠ e.1) := by decide
theorem wit_FrontCommandRuns : live.pending = [] := by decide
/-- A step from a state whose memories are canonical and not empty, that goes on. -/
theorem wit_MemoriesStayCanonical :
    let s := { live with hostMem := [⟨0, 1⟩], dram := [⟨5, 1⟩], pending := [.jtagBypass] }
    s.MemoriesOk ∧ ∃ t, step s = .next t := ⟨by simp [State.MemoriesOk, live]; decide, _, rfl⟩

/-! ### Ill-formed commands -/

/-- A well-formed LD of X5 plus 0x2000 into D0, and one of each defect of R137: a modifier bit, a register selector where a queue
belongs, a range not aligned, a range inside the reserved bytes. -/
def ldWord : InstrWord := wd 0 0 5 0 0x20 0x0000200007F04000
theorem test_wellFormed_ld :
    Instr.wellFormed (.ld c0 ldWord) = true ∧ Instr.wellFormed (.ld c0 { ldWord with mod := 0x2000 }) = false ∧
    Instr.wellFormed (.ld c0 { ldWord with opc := 0x48 }) = false ∧ Instr.wellFormed (.ld c0 { ldWord with opa := 0x20 }) = false ∧
    Instr.wellFormed (.ld c0 { ldWord with imm := 0x0000200007F04004 }) = false ∧
    Instr.wellFormed (.ld c0 { ldWord with imm := 0x00002000070F0000 }) = false ∧
    Instr.wellFormed (.ld c0 { ldWord with exts := [0] }) = false := by decide
/-- An operation code that XALU has not, a gang format that the gang unit has not, rows that do not fill their range, and a token queue
of the other direction. -/
theorem test_wellFormed_words :
    Instr.wellFormed (.xalu c0 (wd 12 1 2 3 0 0)) = true ∧ Instr.wellFormed (.xalu c0 (wd 13 1 2 3 0 0)) = false ∧
    wordReason false 1 0x1200 (wd (2 ^ 5) 0x50 0x62 0x63 0 (2 ^ 16 * 16 + 2 ^ 23 * 32) [2 ^ 32 * 0x40 + 2 ^ 64 * 0x80]) = 0 ∧
    wordReason false 1 0x1200 (wd (2 ^ 5 * 5) 0x50 0x62 0x63 0 (2 ^ 16 * 16 + 2 ^ 23 * 32) [2 ^ 32 * 0x40 + 2 ^ 64 * 0x80]) = 0x08 ∧
    wordReason true 1 0x0201 (wd 0 0 5 6 0x20 (2 ^ 32 * 1 + 2 ^ 20 * 3)) = 0 ∧
    wordReason true 1 0x0201 (wd 0 0 5 6 0x20 (2 ^ 32 * 1 + 2 ^ 20 * 2)) = 0x0A ∧
    Instr.wellFormed (.tpush c0 (wd 0 0x30 0 5 0 0)) = true ∧ Instr.wellFormed (.tpush c0 (wd 0 0x34 0 5 0 0)) = false := by decide
theorem test_wellFormed_groups :
    Instr.wellFormed (.groupJoined 35) = true ∧ Instr.wellFormed (.groupJoined 36) = false ∧
    Instr.wellFormed (.groupTrainingMilestone 36 .signal) = false ∧ Instr.wellFormed (.trainingBoundMissed 63) = false ∧
    Instr.wellFormed (.laneSignalLoss 36) = false ∧ Instr.wellFormed (.groupErrorThreshold 36 .replays) = false ∧
    Instr.wellFormed (.datumTimestampExchange 36 0 0 0 0) = false ∧ Instr.wellFormed (.identityBlock 36 (zeros 64)) = false ∧
    Instr.wellFormed (.identityBlock 0 (zeros 63)) = false := by decide
theorem test_wellFormed_module :
    Instr.wellFormed (.railFault 0) = false ∧ Instr.wellFormed (.railFault 7) = true ∧
    Instr.wellFormed (.thermalSample [1, 2, 3, 4, 5] [1, 2, 3, 4, 5, 6, 7, 8]) = false ∧
    Instr.wellFormed (.mboxCmd (zeros 63) true) = false ∧ Instr.wellFormed (.registerWrite .host 0x198 true 0) = true ∧
    Instr.wellFormed (.registerWrite .host 0x19C true 0) = false ∧ Instr.wellFormed (.registerWrite .host 0x19C false 0) = true ∧
    Instr.wellFormed (.rcRegisterRead .host 4) = false ∧ Instr.wellFormed (.lowHalfRead .host 2) = false := by decide

/-! ### Worked examples of the spec -/

/-- The LD and the PASS of the example after R138, from their bytes. -/
def ldBytes : List Byte := [0x00, 0x02, 0x00, 0x00, 0x20, 0x00, 0x05, 0x00, 0x00, 0x40, 0xF0, 0x07, 0x00, 0x20, 0x00, 0x00]
def passBytes : List Byte := natLE 0x4820000001FE1101 8 ++ zeros 8
theorem test_ld_word :
    (streamWords ldBytes 1 0 1).map (·.op) = [0x0200] ∧ (streamWords ldBytes 1 0 1).map (·.w) = [ldWord] ∧
    rangeBase (slot0 ldWord) = 0x4000 ∧ rangeLen (slot0 ldWord) = 8192 ∧ dispOf ldWord = 0x2000 := by decide
theorem test_pass_word :
    (streamWords passBytes 1 0 1).map (·.op) = [0x1101] ∧ (streamWords passBytes 1 0 1).map (·.w) = [wd 0x1FE 0x48 0x20 0 0 0] ∧
    Instr.wellFormed (.pass c0 (wd 0x1FE 0x48 0x20 0 0 0)) = true ∧ wm (wd 0x1FE 0x48 0x20 0 0 0) 17 1 = 1 ∧
    wm (wd 0x1FE 0x48 0x20 0 0 0) 18 3 = 7 ∧ wm (wd 0x1FE 0x48 0x20 0 0 0) 24 4 = 1 := by decide

/-- The worked update of R43: 0.9997 goes to 1.0 from the draw 5,033 on, and RNE takes it there. -/
theorem test_worked_update :
    (bf16L.ofVal (.sr 5032) false (val32 0x3F7FEC57)).1 = 0x3F7F ∧ (bf16L.ofVal (.sr 5033) false (val32 0x3F7FEC57)).1 = 0x3F80 ∧
    (bf16L.ofVal .rne false (val32 0x3F7FEC57)).1 = 0x3F80 := by decide
/-- The worked compensated sum of R51: 2^24, 1.0 and 1.0. -/
theorem test_worked_sum :
    combine 0x4B800000 0 0x3F800000 0 = (0x4B800000, 0x3F800000) ∧ combine 0x4B800000 0x3F800000 0x3F800000 0 = (0x4B800001, 0) := by decide
/-- The edges of the number formats: opposite infinities, poison before a NaN, and the largest bfloat16 under SR. -/
theorem test_special_values :
    (fadd 0x7F800000 0xFF800000).v = 0x7FC00000 ∧ (fadd 0x7FC00DEA 0x7FC00000).v = 0x7FC00DEA ∧
    (bf16L.ofVal (.sr 0xFFFF) false (val32 0x7F7F0001)).1 = 0x7F80 ∧ (bf16L.ofVal .rne false (val32 0x7F7F0001)).1 = 0x7F7F := by decide

set_option maxRecDepth 20000 in
/-- The grid of 64 × 64 tiles after R190 on the two grades. -/
theorem test_worked_cut : bestSplit 64 64 144 = 13 := by decide
set_option maxRecDepth 20000 in
theorem test_worked_cut_c : bestSplit 64 64 136 = 17 := by decide

/-- The full-system plan of the route example of chapter 10: each rack's reserve plane at X slot 4. -/
def planFull : Plan :=
  { physId := 0, logicalId := 0, xPos := 1, nxp := 40, ny := 32, nz := 32, xLive := 0x7BDEF7BDEF, peers := [] }
theorem test_worked_route :
    (route planFull (1 + 32 * 5 + 1024 * 30) (30 + 32 * 7 + 1024 * 2)).map (fun h => (h.port, h.dateline)) =
      [(1, false), (3, true), (1, false), (4, false), (4, false), (6, false), (6, true), (6, false), (6, false)] ∧
    (route planFull (1 + 32 * 5 + 1024 * 30) (30 + 32 * 7 + 1024 * 2)).map (fun h => h.pos.x) = [0, 38, 37, 37, 37, 37, 37, 37, 37] := by decide

/-- The positions of chapters 0 and 21: 2.7.4, and 9.6.1 of a full system. -/
theorem test_worked_position :
    (⟨2, 7, 4⟩ : RackPos).physId = 199 ∧ RackPos.ofPhysId 199 = ⟨2, 7, 4⟩ ∧ (⟨9, 6, 1⟩ : RackPos).faceMask = 0x08 ∧
    (⟨8, 8, 8⟩ : RackBox).place ⟨9, 6, 1⟩ = ⟨6, 6, 1⟩ ∧ ((⟨8, 8, 8⟩ : RackBox).self planFull ⟨9, 6, 1⟩).physId = 0x02EF ∧
    ((⟨8, 8, 8⟩ : RackBox).self planFull ⟨9, 6, 1⟩).logicalId = 0x04C5 ∧ (⟨8, 8, 8⟩ : RackBox).sized planFull = planFull ∧
    planFull.columnsOk = true ∧ planFull.gapsOk = true := by decide

/-- What a command leaves: its next state, or the state before it where it gives none. -/
def after (r : Res) (s : State) : State := match r with | .next t => t | _ => s
/-- A host write of QCTRL of queue 2 of context 5. -/
def ctx5 : State :=
  { live with contexts := [(5, { state := 1, job := 7, moduleSet := [0] })], regs := { live.regs with host := { ctxSel := 5 } } }
def qctrl2 (v : Word64) (s : State) : State := after (execRegisterWrite .host 0x100198 true v s) s
/-- The example after R343: the idle write takes all three fields; then QRING_LOG2 is refused, and the STATUS of the window says so. -/
theorem test_worked_queue22 :
    (fun (q : Queue) => (q.replyLog2, q.ringLog2, q.enable)) ((qctrl2 0x5281 ctx5).queue 22) = (10, 10, true) ∧
    ((qctrl2 0x52C1 (qctrl2 0x5281 ctx5)).queue 22).ringLog2 = 10 := by decide

/-- The full 16-bit load of the example after R405: 3,430 W steps the clock to 1.40 GHz under a cap of 3,300 W, and to nothing lower under
3,600 W; 2,782 W holds it. -/
def drawing (cap clock w : Nat) : Nat :=
  let s := { live with power := { live.power with cap := cap, clock := clock } }
  (after (execPowerSample w false s) s).power.clock
set_option maxRecDepth 20000 in
theorem test_worked_power : drawing 3300 0 3430 = 1 ∧ drawing 3300 1 2782 = 1 ∧ drawing 3600 0 3430 = 0 := by decide

end Sys2Proof.Tests
end

section
/-!
A tile that starts on a core (R125, R143, R296, R299). TILE_START moves acquire marks, switches the core to the tile's context and
hands it the tile; each of the three has its rule here, and the obligation is read off them.
-/
namespace Sys2Proof.Machine

/-! ### Acquire marks -/

/-- Of cores and contexts, `t` has those of `s` but for the acquire marks of cores (R150). -/
structure State.SameButMarks (s t : State) : Prop where
  contexts : t.contexts = s.contexts
  core : ∀ k, ∃ m, t.core k = { s.core k with mark := m }

theorem State.SameButMarks.of_eq {s t : State} (hctx : t.contexts = s.contexts) (hcores : t.cores = s.cores) : s.SameButMarks t :=
  ⟨hctx, fun k => ⟨(s.core k).mark, by simp [State.core, hcores]⟩⟩

theorem State.SameButMarks.trans {s t u : State} (h : s.SameButMarks t) (h' : t.SameButMarks u) : s.SameButMarks u := by
  refine ⟨h'.contexts.trans h.contexts, fun k => ?_⟩
  obtain ⟨m, hm⟩ := h.core k
  obtain ⟨n, hn⟩ := h'.core k
  exact ⟨n, by rw [hn, hm]⟩

theorem State.SameButMarks.foldl {α : Type} {f : State → α → State} (hf : ∀ (s : State) a, s.SameButMarks (f s a)) (l : List α) (s : State) :
    s.SameButMarks (l.foldl f s) := by
  induction l generalizing s with
  | nil => exact .of_eq rfl rfl
  | cons a l ih => exact (hf s a).trans (ih (f s a))

theorem State.sameButMarks_setMark (s : State) (k : Nat) (m : BitVec 16) :
    s.SameButMarks (s.modCore k (fun c => { c with mark := m })) := by
  refine ⟨by simp, fun j => ?_⟩
  by_cases hj : j = k
  · subst hj; exact ⟨m, by simp⟩
  · exact ⟨(s.core j).mark, State.core_modCore_other s _ hj⟩

theorem State.sameButMarks_advanceGen (s : State) (rank : Nat) : s.SameButMarks (s.advanceGen rank) := by
  unfold State.advanceGen
  dsimp only
  split
  · exact (State.SameButMarks.of_eq (by simp) (by simp)).trans (.foldl (fun s _ => s.sameButMarks_setMark _ 0) _ _)
  · exact .of_eq (by simp) (by simp)

theorem State.sameButMarks_setMarks (s : State) (rank : Nat) : s.SameButMarks (s.setMarks rank) :=
  (s.sameButMarks_advanceGen rank).trans (.foldl (fun s _ => s.sameButMarks_setMark _ _) _ _)

theorem State.SameButMarks.ctx {s t : State} (h : s.SameButMarks t) (p : Nat) : t.ctx p = s.ctx p := by
  simp [State.ctx, h.contexts]

/-! ### The switch of a core to a context (R143, R299) -/

/-- Registers `b` folded into an accumulator `a`, which is the first operand of each sum (R299). -/
def Gns.folded (a b : Gns) : Gns :=
  let l := combine a.localS a.localC b.localS b.localC
  let r := combine a.redS a.redC b.redS b.redC
  { localS := l.1, localC := l.2, redS := r.1, redC := r.2
    count := BitVec.ofNat 32 (min (a.count.toNat + b.count.toNat) 0xFFFFFFFF) }

theorem State.foldGns_core (s : State) (c k : Nat) : (s.foldGns c k).core k = { s.core k with gns := {} } :=
  State.core_modCore_same _ _ _

theorem State.foldGns_ctx_gns (s : State) (c k : Nat) :
    ((s.foldGns c k).ctx c).gns = (s.ctx c).gns.folded (s.core k).gns :=
  congrArg Context.gns (State.ctx_modCtx_same s c (fun x => { x with gns := x.gns.folded (s.core k).gns }))

/-- A core with its scratchpad, its tiles and its cubes cleared for context `c` (R143). -/
def Core.clearedFor (x : Core) (c : Nat) : Core :=
  { x with
    prevCtx := some c, spad := [], tiles0 := [], tiles1 := [], tiles2 := [], tiles3 := []
    cubes := x.cubes.map (fun e => (e.1, { e.2 with active := [], shadow := [], planes := 0, partials := [] })) }

@[simp] theorem Core.clearedFor_tiles (x : Core) (c : Nat) : (x.clearedFor c).tiles = x.tiles := rfl
@[simp] theorem Core.clearedFor_prevCtx (x : Core) (c : Nat) : (x.clearedFor c).prevCtx = some c := rfl
@[simp] theorem Core.clearedFor_spad (x : Core) (c : Nat) : (x.clearedFor c).spad = [] := rfl
@[simp] theorem Core.clearedFor_gns (x : Core) (c : Nat) : (x.clearedFor c).gns = x.gns := rfl

/-- Every tile of a cleared core is zero (R143). -/
theorem Core.at64_buf_clearedFor (x : Core) (c n i j : Nat) : at64 ((x.clearedFor c).buf n) i j = 0 := by
  unfold Core.buf
  split <;> rfl

theorem State.switchCore_of_same {s : State} {k c : Nat} (h : (s.core k).prevCtx = some c) : s.switchCore k c = s := by
  simp [State.switchCore, h]

theorem State.switchCore_of_none {s : State} {k : Nat} (c : Nat) (h : (s.core k).prevCtx = none) :
    s.switchCore k c = s.modCore k (fun x => x.clearedFor c) := by
  simp [State.switchCore, h, Core.clearedFor]

theorem State.switchCore_of_other {s : State} {k p c : Nat} (h : (s.core k).prevCtx = some p) (hp : p ≠ c) :
    s.switchCore k c = (s.foldGns p k).modCore k (fun x => x.clearedFor c) := by
  simp [State.switchCore, h, hp, Core.clearedFor]

/-- What a switch leaves on its core: the core as it was, or the core cleared, with its gradient-noise registers kept or cleared. -/
theorem State.switchCore_core_cases (s : State) (k c : Nat) :
    ((s.core k).prevCtx = some c ∧ (s.switchCore k c).core k = s.core k) ∨
    ((s.core k).prevCtx ≠ some c ∧ ∃ n, (s.switchCore k c).core k = { s.core k with gns := n }.clearedFor c) := by
  cases h : (s.core k).prevCtx with
  | none => exact .inr ⟨by simp, (s.core k).gns, by simp [State.switchCore_of_none c h]⟩
  | some p =>
    by_cases hp : p = c
    · subst hp; exact .inl ⟨rfl, by rw [State.switchCore_of_same h]⟩
    · exact .inr ⟨by simp [hp], {}, by simp [State.switchCore_of_other h hp, State.foldGns_core]⟩

theorem State.switchCore_tiles (s : State) (k c : Nat) : ((s.switchCore k c).core k).tiles = (s.core k).tiles := by
  obtain ⟨_, h⟩ | ⟨_, n, h⟩ := s.switchCore_core_cases k c <;> simp [h]

theorem State.switchCore_prevCtx (s : State) (k c : Nat) : ((s.switchCore k c).core k).prevCtx = some c := by
  obtain ⟨hc, h⟩ | ⟨_, n, h⟩ := s.switchCore_core_cases k c
  · rw [h, hc]
  · simp [h]

/-- A core of another context, or of none yet, starts with a scratchpad and tiles of zeros (R143). -/
theorem State.switchCore_zeroed {s : State} {k c : Nat} (hne : (s.core k).prevCtx ≠ some c) :
    ((s.switchCore k c).core k).spad = [] ∧ ∀ n i j, at64 (((s.switchCore k c).core k).buf n) i j = 0 := by
  obtain ⟨hc, _⟩ | ⟨_, n, h⟩ := s.switchCore_core_cases k c
  · exact absurd hc hne
  · simp [h, Core.at64_buf_clearedFor]

/-- A core of another context folds its registers into that context's accumulator and clears them (R299). -/
theorem State.switchCore_gns {s : State} {k p c : Nat} (h : (s.core k).prevCtx = some p) (hp : p ≠ c) :
    ((s.switchCore k c).core k).gns = {} ∧
    ((s.switchCore k c).ctx p).gns = (s.ctx p).gns.folded (s.core k).gns := by
  rw [State.switchCore_of_other h hp]
  exact ⟨by simp [State.foldGns_core], s.foldGns_ctx_gns p k⟩

/-! ### The tile handed to the core (R125, R296) -/

/-- The run of tile `t` of grid `g` as it starts: its place and its argument block in TD0 to TD7. -/
def TileRun.starting (g : Grid) (t : Nat × Nat × Nat) (seq slice : Nat) : TileRun :=
  let d := tileTds g t
  { seq := seq, grid := g.id, slice := slice, ctx := g.ctx, td0 := d.getD 0 0, td1 := d.getD 1 0, td2 := d.getD 2 0
    td3 := d.getD 3 0, td4 := d.getD 4 0, td5 := d.getD 5 0, td6 := d.getD 6 0, td7 := d.getD 7 0
    deferredRun := tileRank g == 2 }

/-- TD6 and TD7 hold arguments 2 and 3 where the launch has no segments (R296). -/
theorem TileRun.starting_td67 {g : Grid} (t : Nat × Nat × Nat) (seq slice : Nat) (h : g.tokens = 0) :
    (TileRun.starting g t seq slice).td6 = g.args.getD 2 0 ∧ (TileRun.starting g t seq slice).td7 = g.args.getD 3 0 := by
  simp [TileRun.starting, tileTds, h]

/-- A core as a tile starts on it: the tile after those it has, and its access stream at word 0 with X1 to X31 zero (R125). -/
def Core.giveTile (c : Core) (run : TileRun) (now : Nat) : Core :=
  { c with
    tiles := c.tiles ++ [run], nextId := c.nextId + 1, accPc := 0, x := [], lastIssue := now
    exePc := if c.tiles.isEmpty then 0 else c.exePc }

theorem Core.giveTile_xreg (c : Core) (run : TileRun) (now i : Nat) : (c.giveTile run now).xreg i = 0 := by
  simp [Core.xreg, Core.giveTile, tget]

theorem State.startTile_cores (s : State) (k : Nat) (g : Grid) (x : Slice) (t : Nat × Nat × Nat) :
    (s.startTile k g x t).cores = ((s.switchCore k g.ctx).modCore k (fun c =>
      c.giveTile (.starting g t (s.core k).nextId x.id) (s.switchCore k g.ctx).time)).cores := by
  unfold State.startTile
  dsimp only
  split <;> rfl

/-- The core of a tile start: switched to the tile's context, then given the tile. -/
theorem State.startTile_core (s : State) (k : Nat) (g : Grid) (x : Slice) (t : Nat × Nat × Nat) :
    (s.startTile k g x t).core k =
      ((s.switchCore k g.ctx).core k).giveTile (.starting g t (s.core k).nextId x.id) (s.switchCore k g.ctx).time := by
  rw [State.core, s.startTile_cores k g x t]
  exact State.core_modCore_same _ _ _

/-- Of the accumulators a tile start changes only what the switch of its core changes. -/
theorem State.startTile_ctx_gns (s : State) (k : Nat) (g : Grid) (x : Slice) (t : Nat × Nat × Nat) (p : Nat) :
    ((s.startTile k g x t).ctx p).gns = ((s.switchCore k g.ctx).ctx p).gns := by
  unfold State.startTile
  dsimp only
  split
  · rw [State.ctx_modCtx]
    split
    · next hp => subst hp; rfl
    · rfl
  · rfl

/-! ### TILE_START -/

@[simp] theorem State.fillDeferred_cores (s : State) (rank : Nat) : (s.fillDeferred rank).cores = s.cores := by
  unfold State.fillDeferred
  split
  · split <;> simp
  · rfl

@[simp] theorem State.fillDeferred_contexts (s : State) (rank : Nat) : (s.fillDeferred rank).contexts = s.contexts := by
  unfold State.fillDeferred
  split
  · split <;> simp
  · rfl

/-- The acquire marks of a cluster's cores moved at the first tile of a grid there (R150). -/
def State.markedFor (s : State) (rank : Nat) (g : Grid) : State :=
  if g.marked.contains rank then s
  else (s.setMarks rank).modGrid g.id (fun g => { g with marked := g.marked ++ [rank] })

theorem State.sameButMarks_markedFor (s : State) (rank : Nat) (g : Grid) : s.SameButMarks (s.markedFor rank g) := by
  unfold State.markedFor
  split
  · exact .of_eq rfl rfl
  · exact (s.sameButMarks_setMarks rank).trans (.of_eq (by simp) (by simp))

/-- TILE_START by its parts: the marks, the start on the core, the time of the cluster's last tile, and the deferred queue. -/
theorem State.tileStart_eq (s : State) (rank : Nat) (x : Slice) (g : Grid) (t : Nat × Nat × Nat) (k : Nat) :
    s.tileStart rank x g t k =
      (((s.markedFor rank g).startTile k g x t).modCluster rank (fun y => { y with given := (s.markedFor rank g).time })).fillDeferred rank :=
  rfl

theorem State.tileStart_core (s : State) (rank : Nat) (x : Slice) (g : Grid) (t : Nat × Nat × Nat) (k : Nat) :
    (s.tileStart rank x g t k).core k = ((s.markedFor rank g).startTile k g x t).core k := by
  simp [State.tileStart_eq, State.core]

theorem State.tileStart_ctx (s : State) (rank : Nat) (x : Slice) (g : Grid) (t : Nat × Nat × Nat) (k p : Nat) :
    (s.tileStart rank x g t k).ctx p = ((s.markedFor rank g).startTile k g x t).ctx p := by
  simp [State.tileStart_eq, State.ctx]

/-- A cluster that may start its chosen tile starts it (R191, R292). -/
theorem exec_tileStart {rank : BitVec 8} {s : State} {x : Slice} {g : Grid} {t : Nat × Nat × Nat} {k : Nat} (hw : s.works = true)
    (hstop : s.errs.stopped 2 rank.toNat = false) (hrank : rank.toNat < s.enabledClusters)
    (hc : s.tileChoice rank.toNat = some (x, g, t, k)) :
    exec (.tileStart rank) s = .next (s.tileStart rank.toNat x g t k) := by
  change execTileStart rank s = _
  simp only [execTileStart, hc]
  exact when_true (by simp [hw, hstop, hrank])

end Sys2Proof.Machine

namespace Sys2Proof
open Sys2Proof.Machine

/-- Settles O29: TILE_START is a switch of the core and the hand-over of the tile, but for acquire marks. -/
theorem tileBegins : Obligations.TileBegins := by
  intro rank s x g t k hw hstop hrank hc
  have hm := s.sameButMarks_markedFor rank.toNat g
  have hcore := s.tileStart_core rank.toNat x g t k
  have hctx := s.tileStart_ctx rank.toNat x g t k
  generalize s.markedFor rank.toNat g = m at hm hcore hctx
  rw [m.startTile_core] at hcore
  obtain ⟨mark, hmark⟩ := hm.core k
  have hprev : (m.core k).prevCtx = (s.core k).prevCtx := by rw [hmark]
  have htiles : (m.core k).tiles = (s.core k).tiles := by rw [hmark]
  refine ⟨_, .starting g t (m.core k).nextId x.id, exec_tileStart hw hstop hrank hc, ?_, rfl, rfl, rfl, rfl, rfl, rfl, rfl, rfl,
    TileRun.starting_td67 t _ _, ?_⟩
  · rw [hcore, ← htiles, ← m.switchCore_tiles k g.ctx]; rfl
  · rw [hcore]
    refine ⟨Core.giveTile_xreg _ _ _, rfl, m.switchCore_prevCtx k g.ctx, fun hsame => ?_, fun hne => ?_, fun p hp hne => ?_⟩
    · rw [State.switchCore_of_same (hprev.trans hsame), hmark]
      exact ⟨rfl, rfl⟩
    · exact State.switchCore_zeroed (hprev ▸ hne)
    · obtain ⟨hclear, hfold⟩ := State.switchCore_gns (hprev.trans hp) hne
      refine ⟨hclear, ?_⟩
      rw [hctx p, m.startTile_ctx_gns, hfold, hm.ctx p, hmark]
      rfl

end Sys2Proof
end

section
/-!
A window whose select register names nothing that exists (R338). One rule says what an access to an absent register does (a read
gives zero, a write is discarded, both only mark SEL_INVALID); what remains is which registers are absent, and which a FREE context keeps.
-/
namespace Sys2Proof.Machine

/-! ### A master's own registers -/

@[simp] theorem State.mst_modMst_same (s : State) (m : Master) (f : MasterRegs → MasterRegs) : (s.modMst m f).mst m = f (s.mst m) := by
  cases m <;> rfl

/-- Only the value that `f` gives on the master's present registers counts. -/
theorem State.modMst_congr {s : State} {m : Master} {f g : MasterRegs → MasterRegs} (h : f (s.mst m) = g (s.mst m)) :
    s.modMst m f = s.modMst m g := by
  cases m <;> simp only [State.mst] at h <;> simp only [State.modMst, h]

theorem MasterRegs.mem_mark (r : MasterRegs) (base : Nat) : base ∈ (r.mark base).selInvalid := by
  unfold MasterRegs.mark
  dsimp only
  split
  · next h => exact List.contains_iff_mem.mp h
  · exact List.mem_cons_self

/-- Marking a window moves no select register, so it changes nothing that a window selects. -/
theorem State.selected_modMst_mark (s : State) (m : Master) (b base o : Nat) :
    (s.modMst m (fun r => r.mark b)).selected m base o = s.selected m base o := by
  cases m <;> rfl

/-! ### Blocks (R336) -/

/-- The blocks of control space do not overlap. -/
theorem blocks_disjoint : ∀ b ∈ blocks, ∀ c ∈ blocks, b.1 < c.1 + c.2 → c.1 < b.1 + b.2 → b = c := by decide

theorem blocks_aligned : ∀ b ∈ blocks, b.1 % 8 = 0 := by decide

/-- The first block that holds an offset is the only one. -/
theorem windowOf_add {base size o : Nat} (hb : (base, size) ∈ blocks) (ho : o < size) : windowOf (base + o) = some base := by
  obtain ⟨c, hc⟩ : ∃ c, blocks.find? (fun b => decide (b.1 ≤ base + o) && decide (base + o < b.1 + b.2)) = some c :=
    Option.isSome_iff_exists.mp (List.find?_isSome.mpr ⟨_, hb, by simpa using ho⟩)
  have hin := List.find?_some hc
  simp only [Bool.and_eq_true, decide_eq_true_eq] at hin
  have heq : (base, size) = c := blocks_disjoint _ hb c (List.mem_of_find?_eq_some hc) (by dsimp only; omega) (by dsimp only; omega)
  simp [windowOf, hc, ← heq]

/-! ### Access to an absent register -/

/-- Only in these windows can a register be absent. -/
theorem State.base_of_absent {s : State} {m : Master} {base o : Nat} (h : s.selected m base o = false) :
    base = 0x100000 ∨ base = 0x210000 ∨ base = 0x300000 := by
  unfold State.selected at h
  dsimp only at h
  split at h
  · exact .inl rfl
  · exact .inr (.inl rfl)
  · exact .inr (.inr rfl)
  · cases h

section
variable {s : State} {m : Master} {off base : Nat} (hw : windowOf off = some base) (hsel : s.selected m base (off - base) = false)
include hw hsel

theorem State.readWord_of_absent : s.readWord m off = 0 := by
  simp [State.readWord, hw, hsel]

theorem State.touchWindow_of_absent : s.touchWindow m off = s.modMst m (fun r => r.mark base) := by
  simp [State.touchWindow, hw, hsel]

theorem State.writeReg_of_absent (mask v : Word64) : s.writeReg m off mask v = s.modMst m (fun r => r.mark base) := by
  simp [State.writeReg, hw, hsel, State.touchWindow_of_absent hw hsel]

/-- An offset whose window never lacks what it selects is not the one accessed. -/
theorem ne_of_absent {reg b : Nat} (hreg : windowOf reg = some b) (hb : b ≠ 0x100000 ∧ b ≠ 0x210000 ∧ b ≠ 0x300000) : off ≠ reg := by
  rintro rfl
  obtain rfl : b = base := Option.some.inj (hreg.symm.trans hw)
  have hbase := State.base_of_absent hsel
  omega

/-- No RC field of an absent register is cleared (R333): of the registers with such fields only the lane group's can be absent. -/
theorem State.clearRc_of_absent (low high : Bool) : s.clearRc m off low high = s := by
  have hglobal : off ≠ 0x000060 := ne_of_absent hw hsel (b := 0) rfl (by decide)
  have hstack : off ≠ 0x400010 := ne_of_absent hw hsel (b := 0x400000) rfl (by decide)
  have herr : off ≠ 0x700008 := ne_of_absent hw hsel (b := 0x700000) rfl (by decide)
  have hgroup : ¬ (off = 0x210018 ∧ (s.mst m).grpSel.toNat < 36) := by
    rintro ⟨rfl, hlt⟩
    obtain rfl : 0x210000 = base := Option.some.inj hw
    simp [State.selected, hlt] at hsel
  simp [State.clearRc, hglobal, hstack, herr, hgroup]

theorem State.readReg_of_absent : s.readReg m off = (0, s.modMst m (fun r => r.mark base)) := by
  have hmember : off ≠ 0x600028 := ne_of_absent hw hsel (b := 0x600000) rfl (by decide)
  have hmarked := State.clearRc_of_absent hw ((s.selected_modMst_mark m base base _).trans hsel) true true
  simp [State.readReg, State.readWord_of_absent hw hsel, State.touchWindow_of_absent hw hsel, hmarked, hmember]

end

/-! ### The rows of an 8-byte access -/

theorem exec_registerWrite_eight {m : Master} {offset : BitVec 24} {s : State} (v : Word64) (hup : s.masterUp m = true)
    (h8 : offset.toNat % 8 = 0) : exec (.registerWrite m offset true v) s = .next (s.writeReg m offset.toNat fullMask v) := by
  change execRegisterWrite m offset true v s = _
  have hreg : offset.toNat / 8 * 8 = offset.toNat := Nat.div_mul_cancel (Nat.dvd_of_mod_eq_zero h8)
  simp only [execRegisterWrite, if_true, hreg]
  exact when_true (by simp [hup, h8])

theorem exec_rcRegisterRead {m : Master} {offset : BitVec 24} {s : State} (hup : s.masterUp m = true) (h8 : offset.toNat % 8 = 0) :
    exec (.rcRegisterRead m offset) s =
      .next ((s.readReg m offset.toNat).2.emit (.barRead m (s.readReg m offset.toNat).1)) := by
  change execRcRegisterRead m offset s = _
  exact when_true (by simp [hup, h8])

/-! ### Which registers are absent, and which a FREE context keeps -/

theorem State.selected_cluster_absent {s : State} {m : Master} {o : Nat} (ho : 0 < o) (h : s.enabledClusters ≤ (s.mst m).cluRank.toNat) :
    s.selected m 0x300000 o = false := by
  simp [State.selected, h, ho.ne']

theorem State.selected_group_absent {s : State} {m : Master} {o : Nat} (ho : 0 < o) (h : 36 ≤ (s.mst m).grpSel.toNat) :
    s.selected m 0x210000 o = false := by
  simp [State.selected, h, ho.ne']

theorem State.selected_ctx_free {s : State} {m : Master} {o : Nat} (ho : freeReadable o = false)
    (h : (s.ctx (s.mst m).ctxSel.toNat).state = 0) : s.selected m 0x100000 o = false := by
  simp [State.selected, h, ho]

theorem State.selected_ctx_of_freeReadable (s : State) (m : Master) {o : Nat} (ho : freeReadable o = true) :
    s.selected m 0x100000 o = true := by
  simp [State.selected, ho]

theorem freeReadable_of_queue {o : Nat} (hlo : 0x100 ≤ o) (hhi : o < 0x200) : freeReadable o = true := by
  simp [freeReadable, hlo, hhi]

theorem freeReadable_beyond {o : Nat} (hlo : 0x018 < o) (hq : o < 0x100 ∨ 0x200 ≤ o) : freeReadable o = false := by
  simp only [freeReadable, Bool.or_eq_false_iff, Bool.and_eq_false_iff, beq_eq_false_iff_ne, decide_eq_false_iff_not]
  omega

/-- A register of the context window that is readable is the selected context's own. -/
theorem State.readWord_ctx {s : State} {m : Master} {o : Nat} (ho : 0 < o) (hlt : o < 0x10000) (hr : freeReadable o = true) :
    s.readWord m (0x100000 + o) = s.readCtx (s.mst m).ctxSel.toNat o := by
  have hw : windowOf (0x100000 + o) = some 0x100000 := windowOf_add (size := 0x10000) (by decide) hlt
  simp [State.readWord, hw, s.selected_ctx_of_freeReadable m hr, ho.ne']

theorem State.readCtx_state_free {s : State} {c : Nat} (h : (s.ctx c).state = 0) : s.readCtx c 0x008 = 0 := by
  simp [State.readCtx, h]

theorem State.readCtx_discards (s : State) (c : Nat) : s.readCtx c 0x018 = BitVec.ofNat 64 (s.ctx c).discards.toNat := by
  simp [State.readCtx, fields]

theorem State.readCtx_ringBase (s : State) (c : Nat) {o : Nat} (hlo : 0x100 ≤ o) (hhi : o < 0x200) (ho : o % 0x40 = 0) :
    s.readCtx c o = (s.queue (4 * c + (o - 0x100) / 0x40)).ringBase := by
  unfold State.readCtx
  dsimp only
  split
  case h_7 => simp [hlo, hhi, ho]
  all_goals omega

theorem State.readCtx_headTail (s : State) (c : Nat) {o : Nat} (hlo : 0x100 ≤ o) (hhi : o < 0x200) (ho : o % 0x40 = 0x20) :
    s.readCtx c o = fields [((s.queue (4 * c + (o - 0x100) / 0x40)).head.toNat, 32), ((s.queue (4 * c + (o - 0x100) / 0x40)).tail.toNat, 0)] := by
  unfold State.readCtx
  dsimp only
  split
  case h_7 => simp [hlo, hhi, ho]
  all_goals omega

/-- Two words in one register lose nothing. -/
theorem toNat_fields_halves (high low : Word32) : (fields [(high.toNat, 32), (low.toNat, 0)]).toNat = high.toNat * 2 ^ 32 + low.toNat := by
  have hh := high.isLt
  have hl := low.isLt
  simp only [fields, List.map_cons, List.map_nil, List.foldl_cons, List.foldl_nil, BitVec.toNat_ofNat]
  omega

end Sys2Proof.Machine

namespace Sys2Proof
open Sys2Proof.Machine

/-- Settles O52: each clause names a register that is absent, or one that a FREE context keeps readable. -/
theorem absentInstances : Obligations.AbsentInstances := by
  intro s m o offset v r free q absent
  have window : ∀ base i, offset.toNat = base + i → (base, 0x10000) ∈ blocks → i < 0x10000 → i % 8 = 0 →
      s.selected m base i = false → s.masterUp m = true → absent base := fun base i hoff hb hlt h8 hsel hup => by
    have hw : windowOf offset.toNat = some base := hoff ▸ windowOf_add hb hlt
    have hno : s.selected m base (offset.toNat - base) = false := by rwa [hoff, Nat.add_sub_cancel_left]
    have haligned : offset.toNat % 8 = 0 := by have := blocks_aligned _ hb; dsimp only at this; omega
    refine ⟨s.modMst m (fun y => y.mark base), ?_, ⟨_, ?_, rfl⟩, ?_, ?_⟩
    · rw [exec_registerWrite_eight v hup haligned, State.writeReg_of_absent hw hno]
    · rw [exec_rcRegisterRead hup haligned, State.readReg_of_absent hw hno]
    · exact State.modMst_congr (by simp [MasterRegs.mark])
    · simpa using (s.mst m).mem_mark base
  refine ⟨fun hup h8 hoff ho hlt hrank => ?_, fun hup h8 hoff ho hlt hgrp => ?_, fun hup h8 hoff ho hq hlt hfree => ?_,
    fun hup hoff hfree => ?_, fun hfree => ⟨?_, ?_⟩, fun hlo hhi => ⟨fun ho => ?_, fun ho => ?_⟩⟩
  · exact window _ o hoff (by decide) hlt h8 (State.selected_cluster_absent ho hrank) hup
  · exact window _ o hoff (by decide) hlt h8 (State.selected_group_absent ho hgrp) hup
  · exact window _ o hoff (by decide) hlt h8 (State.selected_ctx_free (freeReadable_beyond ho hq) hfree) hup
  · exact window _ 0x010 hoff (by decide) (by decide) rfl (State.selected_ctx_free rfl hfree) hup
  · exact (State.readWord_ctx (o := 0x008) (by decide) (by decide) rfl).trans (State.readCtx_state_free hfree)
  · exact (State.readWord_ctx (o := 0x018) (by decide) (by decide) rfl).trans (s.readCtx_discards _)
  · rw [State.readWord_ctx (by omega) (by omega) (freeReadable_of_queue hlo hhi), s.readCtx_ringBase _ hlo hhi ho]
  · rw [State.readWord_ctx (by omega) (by omega) (freeReadable_of_queue hlo hhi), s.readCtx_headTail _ hlo hhi ho, toNat_fields_halves]

end Sys2Proof
end

section
/-!
Firmware banks and the fused security counter (R315, R399, R400). A bank verifies only at or above the counter, a boot runs only a bank
that verifies, and CP_READY moves the counter up to the bank that runs.
-/
namespace Sys2Proof.Machine

/-! ### Which bank verifies (R399) -/

theorem judgeBank_verified (fused sec : Nat) (version : Word32) :
    judgeBank fused (.verified version sec) = if fused ≤ sec then .ok (version, sec) else .error 3 := rfl

theorem le_of_judgeBank_ok {fused : Nat} {v : BankVerdict} {x : Word32 × Nat} (h : judgeBank fused v = .ok x) : fused ≤ x.2 := by
  cases v with
  | verified version sec =>
    rw [judgeBank_verified] at h
    split at h
    · next hle => cases h; exact hle
    · cases h
  | noKey | badSignature | oldVersion | unreadable => cases h

/-! ### The commands on the banks (R315, R400) -/

section
variable {s : State} {src : CmdSource}

theorem exec_fwQuery (hr : s.runs src 0x0F00 = true) :
    exec (.fwQuery src) s = .next (if (s.cmd! src).restZero [] = true
      then s.ok (s.cmd! src) (natLE s.boot.version.toNat 4 ++ natLE (if s.boot.staged = true then s.boot.stagedVersion.toNat else 0) 4)
      else s.badParam (s.cmd! src)) := by
  change execFwQuery src s = _
  simp only [execFwQuery, when_true hr]
  cases (s.cmd! src).restZero [] <;> rfl

theorem exec_fwStage_rest {v : BankVerdict} (hr : s.runs src 0x0F01 = true) (hz : (s.cmd! src).restZero [(0, 12)] = false) :
    exec (.fwStage src v) s = .next (s.badParam (s.cmd! src)) := by
  change execFwStage src v s = _
  simp [execFwStage, when_true hr, hz]

theorem exec_fwStage_ok {v : BankVerdict} {x : Word32 × Nat} (hr : s.runs src 0x0F01 = true)
    (hz : (s.cmd! src).restZero [(0, 12)] = true) (hv : judgeBank s.fuses.security v = .ok x) :
    exec (.fwStage src v) s =
      .next ((s.modBoot (fun b => { b with staged := true, stagedVersion := x.1 })).ok (s.cmd! src) (natLE x.1.toNat 4)) := by
  change execFwStage src v s = _
  simp [execFwStage, when_true hr, hz, hv]

theorem exec_fwStage_error {v : BankVerdict} {r : Nat} (hr : s.runs src 0x0F01 = true)
    (hz : (s.cmd! src).restZero [(0, 12)] = true) (hv : judgeBank s.fuses.security v = .error r) :
    exec (.fwStage src v) s = .next ((s.modBoot (fun b => { b with staged := false, stagedVersion := 0 })).badParam (s.cmd! src)) := by
  change execFwStage src v s = _
  simp [execFwStage, when_true hr, hz, hv]

theorem exec_fwActivate_refused (hr : s.runs src 0x0F02 = true)
    (hbad : (s.cmd! src).restZero [] = false ∨ s.boot.staged = false) :
    exec (.fwActivate src) s = .next (s.badParam (s.cmd! src)) := by
  change execFwActivate src s = _
  simp [execFwActivate, when_true hr, hbad]

theorem exec_fwActivate_staged (hr : s.runs src 0x0F02 = true) (hz : (s.cmd! src).restZero [] = true) (hs : s.boot.staged = true) :
    exec (.fwActivate src) s = .next ((s.modBoot (fun b => { b with activeB := !b.runningB })).ok (s.cmd! src)) := by
  change execFwActivate src s = _
  simp [execFwActivate, when_true hr, hz, hs]

end

/-! ### The fused counter at CP_READY (R400) -/

@[simp] theorem State.retireCore_fuses (s : State) (k : Nat) : (s.retireCore k).fuses = s.fuses := by
  unfold State.retireCore State.askStop
  dsimp only
  split <;> simp

theorem State.foldl_retireCore_fuses (l : List Nat) (s : State) : (l.foldl (fun s k => s.retireCore k) s).fuses = s.fuses := by
  induction l generalizing s with
  | nil => rfl
  | cons k l ih => rw [List.foldl_cons, ih, State.retireCore_fuses]

theorem State.enableStandby_fuses (s : State) : s.enableStandby.fuses = s.fuses := rfl

/-- The cores that CP_READY retires again leave the counter as it set it. -/
theorem exec_cpReady_security {s t : State} (h : exec .cpReady s = .next t) :
    t.fuses.security = max s.fuses.security s.boot.security := by
  change execCpReady s = _ at h
  obtain ⟨_, rfl⟩ := when_next h
  rw [State.enableStandby_fuses, State.foldl_retireCore_fuses]
  rfl

/-! ### The bank that a boot runs (R399) -/

@[simp] theorem State.raise_boot (s : State) (e : ErrSpec) : (s.raise e).boot = s.boot := by rw [State.raise_frame]

theorem State.reportTrip_boot (s : State) : s.reportTrip.boot = { s.boot with tripFlash := false } := by
  unfold State.reportTrip
  split
  · simp
  · next h => simp [← Bool.eq_false_iff.mpr h]

theorem exec_bootVerificationDone_active {s : State} {bankA bankB : BankVerdict} {failed : List CoreId} {x : Word32 × Nat}
    (hs : s.boot.state = .standbyBoot) (hv : judgeBank s.fuses.security (if s.boot.activeB = true then bankB else bankA) = .ok x) :
    exec (.bootVerificationDone bankA bankB failed) s =
      .next ((s.booted s.boot.activeB x.1 x.2 0 (failed.map coreKey)).reportTrip) := by
  change execBootVerificationDone bankA bankB failed s = _
  simp only [execBootVerificationDone, hv]
  exact when_true (by simp [hs])

/-- A boot ends with a bank that verified against the counter, or in BOOT_FAILED. -/
theorem exec_bootVerificationDone_cases {s t : State} {bankA bankB : BankVerdict} {failed : List CoreId}
    (h : exec (.bootVerificationDone bankA bankB failed) s = .next t) :
    (∃ v x, judgeBank s.fuses.security v = .ok x ∧ t.boot.state = .readyMain ∧ t.boot.security = x.2) ∨ t.boot.state = .bootFailed := by
  change execBootVerificationDone bankA bankB failed s = _ at h
  obtain ⟨_, rfl⟩ := when_next h
  split
  · next x hfirst => exact .inl ⟨_, x, hfirst, by simp [State.reportTrip_boot, State.booted]⟩
  · next x _ hsecond => exact .inl ⟨_, x, hsecond, by simp [State.reportTrip_boot, State.booted]⟩
  · exact .inr rfl

end Sys2Proof.Machine

namespace Sys2Proof
open Sys2Proof.Machine

/-- Settles O55: the commands by their cases, and no boot runs a bank below the counter, since `judgeBank` accepts none. -/
theorem firmware : Obligations.Firmware := by
  intro s src v c b
  refine ⟨exec_fwQuery, exec_fwStage_rest, fun x => exec_fwStage_ok, fun r => exec_fwStage_error, exec_fwActivate_refused,
    exec_fwActivate_staged, fun t => exec_cpReady_security, fun version sec => judgeBank_verified _ sec version,
    fun bankA bankB failed x => exec_bootVerificationDone_active, fun old bankA bankB failed t ht hready hold => ?_⟩
  obtain ⟨v', x, hv, _, hsec⟩ | hfailed := exec_bootVerificationDone_cases ht
  · have hle := le_of_judgeBank_ok hv
    omega
  · rw [hready] at hfailed
    cases hfailed

end Sys2Proof
end

section
/-!
Every step keeps the memories canonical and the module the same (O60). Laws/Fits*.lean say of every operation that it keeps what `fits`
names; here each command's meaning is read off those lemmas, so that the invariant holds of one step.
-/
namespace Sys2Proof.Machine

variable {z : Stem} {s : State}

/-! ### Outcomes that fit -/

/-- The next state of an outcome, if it gives one, fits the stem. -/
def resFits (z : Stem) (r : Res) : Prop := ∀ t, r = .next t → t.Fits z

@[simp] theorem resFits_next {s : State} : resFits z (.next s) ↔ s.Fits z :=
  ⟨fun h => h s rfl, fun h _ e => by cases e; exact h⟩

@[simp] theorem resFits_refused (r : Refusal) : resFits z (.refused r) := fun _ h => by cases h

@[simp] theorem resFits_when {n : String} {g : Bool} {s : State} (h : s.Fits z) : resFits z (when n g s) :=
  fun _ e => (when_next e).2 ▸ h

@[simp] theorem resFits_onCore {row : String} {op : Nat} {w : InstrWord} {g : Bool} {s : State} (h : s.Fits z) :
    resFits z (onCore row op w g s) :=
  fun _ e => (onCore_next e).2.2 ▸ h

theorem State.Fits.withFree (h : s.Fits z) (n : Nat) : State.Fits { s with free := n } z := h

/-- The security version may rise (R399). -/
theorem State.Fits.withSecurity (h : s.Fits z) {n : Nat} (hn : s.fuses.security ≤ n) :
    State.Fits { s with fuses := { s.fuses with security := n } } z := by
  obtain ⟨hp, ⟨hg, h0, h1, h2, h3, hser, hsec⟩, hm⟩ := h
  exact ⟨hp, ⟨hg, h0, h1, h2, h3, hser, hsec.trans hn⟩, hm⟩

theorem execCpReady_fits (hs : s.Fits z) : resFits z (execCpReady s) := by
  have h := State.Fits.withSecurity (State.enter_fits s .running hs) (le_max_left _ (s.enter .running).boot.security)
  exact resFits_when (State.enableStandby_fits _ (foldl_fits _ _ _ (fun _ _ hs => State.retireCore_fits _ _ hs) h))

theorem execPass_fits (c : CoreId) (w : InstrWord) (hs : s.Fits z) : resFits z (execPass c w s) := by
  unfold execPass
  dsimp only
  split
  · simp +contextual (maxDischargeDepth := 50) [*]
  · refine resFits_onCore (State.exeOr_fits _ _ _ _ hs ?_)
    refine State.issueExe_fits _ _ (State.popSource_fits _ _ _ _ (State.count_fits _ _ _ _ (State.Fits.withFree ?_ _)))
    simp +contextual (maxDischargeDepth := 50) [*]

/-! ### Meanings that branch -/

theorem execDoorbellMirrorStore_fits (job : BitVec 16) (va : Va) (v : Word32) (hs : s.Fits z) : resFits z (execDoorbellMirrorStore job va v s) :=
    resFits_when (by split <;> simp +contextual (maxDischargeDepth := 50) [*])

theorem execDoorbellDiscardedAccess_fits (a : BadDoorbell) (hs : s.Fits z) : resFits z (execDoorbellDiscardedAccess a s) := by
  unfold execDoorbellDiscardedAccess
  split <;> simp +contextual (maxDischargeDepth := 50) [*]

theorem execCommandFetch_fits (fab : Fab) (hs : s.Fits z) : resFits z (execCommandFetch fab s) := by
  unfold execCommandFetch
  split <;> simp +contextual (maxDischargeDepth := 50) [*]

theorem execSliceAssignment_fits (grid : Nat) (fab : Fab) (hs : s.Fits z) : resFits z (execSliceAssignment grid fab s) := by
  unfold execSliceAssignment
  split <;> simp +contextual (maxDischargeDepth := 50) [*]

theorem execRemoteSliceRequest_fits (r : SliceRequest) (hs : s.Fits z) : resFits z (execRemoteSliceRequest r s) := by
  unfold execRemoteSliceRequest
  repeat' split
  all_goals simp +contextual (maxDischargeDepth := 50) [*]

theorem execTileStart_fits (rank : BitVec 8) (hs : s.Fits z) : resFits z (execTileStart rank s) := by
  unfold execTileStart
  split <;> simp +contextual (maxDischargeDepth := 50) [*]

theorem execSliceComplete_fits (r : SliceReport) (hs : s.Fits z) : resFits z (execSliceComplete r s) := by
  unfold execSliceComplete
  repeat' split
  all_goals simp +contextual (maxDischargeDepth := 50) [*]

theorem execGridComplete_fits (grid : Nat) (fab : Fab) (hs : s.Fits z) : resFits z (execGridComplete grid fab s) := by
  unfold execGridComplete
  split <;> simp +contextual (maxDischargeDepth := 50) [*]

theorem execSegmentComplete_fits (grid : Nat) (fab : Fab) (hs : s.Fits z) : resFits z (execSegmentComplete grid fab s) := by
  unfold execSegmentComplete
  split <;> simp +contextual (maxDischargeDepth := 50) [*]

theorem execPlatsetSwitch_fits (ctx : BitVec 6) (hs : s.Fits z) : resFits z (execPlatsetSwitch ctx s) := by
  unfold execPlatsetSwitch
  split <;> simp +contextual (maxDischargeDepth := 50) [*]

theorem execCollectiveSlotStart_fits (fab : Fab) (hs : s.Fits z) : resFits z (execCollectiveSlotStart fab s) := by
  unfold execCollectiveSlotStart
  split <;> simp +contextual (maxDischargeDepth := 50) [*]

theorem execPreemption_fits (hs : s.Fits z) : resFits z (execPreemption s) := by
  unfold execPreemption
  split <;> simp +contextual (maxDischargeDepth := 50) [*]

theorem execCollectiveSegment_fits (p : Packet) (fab : Fab) (hs : s.Fits z) : resFits z (execCollectiveSegment p fab s) := by
  unfold execCollectiveSegment
  repeat' split
  all_goals simp +contextual (maxDischargeDepth := 50) [*]

theorem execSegmentGrant_fits (p : Packet) (fab : Fab) (hs : s.Fits z) : resFits z (execSegmentGrant p fab s) := by
  unfold execSegmentGrant
  repeat' split
  all_goals simp +contextual (maxDischargeDepth := 50) [*]

theorem execWaitReportInterval_fits (coll : Nat) (hs : s.Fits z) : resFits z (execWaitReportInterval coll s) := by
  unfold execWaitReportInterval
  split <;> simp +contextual (maxDischargeDepth := 50) [*]

theorem execWaitReport_fits (w : WaitReport) (hs : s.Fits z) : resFits z (execWaitReport w s) :=
    resFits_when (by split <;> simp +contextual (maxDischargeDepth := 50) [*])

theorem execStragglerTimeout_fits (coll : Nat) (fab : Fab) (hs : s.Fits z) : resFits z (execStragglerTimeout coll fab s) := by
  unfold execStragglerTimeout
  split <;> simp +contextual (maxDischargeDepth := 50) [*]

theorem execDeputyTakeover_fits (coll : Nat) (hs : s.Fits z) : resFits z (execDeputyTakeover coll s) := by
  unfold execDeputyTakeover
  split <;> simp +contextual (maxDischargeDepth := 50) [*]

theorem execReformRecord_fits (r : ReformRec) (fab : Fab) (hs : s.Fits z) : resFits z (execReformRecord r fab s) :=
    resFits_when (by split <;> simp +contextual (maxDischargeDepth := 50) [*])

theorem execCollectiveAbort_fits (a : AbortRec) (hs : s.Fits z) : resFits z (execCollectiveAbort a s) :=
    resFits_when (by split <;> simp +contextual (maxDischargeDepth := 50) [*])

theorem execCollectiveOwnAbort_fits (coll : Nat) (hs : s.Fits z) : resFits z (execCollectiveOwnAbort coll s) := by
  unfold execCollectiveOwnAbort
  split <;> simp +contextual (maxDischargeDepth := 50) [*]

theorem execScatterDispatch_fits (ctx : BitVec 6) (fab : Fab) (hs : s.Fits z) : resFits z (execScatterDispatch ctx fab s) := by
  unfold execScatterDispatch
  dsimp only
  repeat' split
  all_goals simp +contextual (maxDischargeDepth := 50) [*]

theorem execExpertRowSegment_fits (p : Packet) (fab : Fab) (hs : s.Fits z) : resFits z (execExpertRowSegment p fab s) := by
  unfold execExpertRowSegment
  split <;> simp +contextual (maxDischargeDepth := 50) [*]

theorem execExpertMarker_fits (p : Packet) (fab : Fab) (hs : s.Fits z) : resFits z (execExpertMarker p fab s) := by
  unfold execExpertMarker
  split <;> simp +contextual (maxDischargeDepth := 50) [*]

theorem execBatchDeadline_fits (inbox : Byte) (fab : Fab) (hs : s.Fits z) : resFits z (execBatchDeadline inbox fab s) := by
  unfold execBatchDeadline
  split <;> simp +contextual (maxDischargeDepth := 50) [*]

theorem execBatchLatencyFloor_fits (inbox : Byte) (fab : Fab) (hs : s.Fits z) : resFits z (execBatchLatencyFloor inbox fab s) := by
  unfold execBatchLatencyFloor
  split <;> simp +contextual (maxDischargeDepth := 50) [*]

theorem execExpertBatchComplete_fits (inbox : Byte) (fab : Fab) (hs : s.Fits z) : resFits z (execExpertBatchComplete inbox fab s) := by
  unfold execExpertBatchComplete
  split <;> simp +contextual (maxDischargeDepth := 50) [*]

theorem execExpertReturn_fits (p : Packet) (fab : Fab) (hs : s.Fits z) : resFits z (execExpertReturn p fab s) := by
  unfold execExpertReturn
  dsimp only
  repeat' split
  all_goals simp +contextual (maxDischargeDepth := 50) [*]

theorem execExpertReceipt_fits (p : Packet) (fab : Fab) (hs : s.Fits z) : resFits z (execExpertReceipt p fab s) := by
  unfold execExpertReceipt
  repeat' split
  all_goals simp +contextual (maxDischargeDepth := 50) [*]

theorem execExpertResetNotice_fits (p : Packet) (fab : Fab) (hs : s.Fits z) : resFits z (execExpertResetNotice p fab s) := by
  unfold execExpertResetNotice
  repeat' split
  all_goals simp +contextual (maxDischargeDepth := 50) [*]

theorem execGnsReadPlat_fits (src : CmdSource) (hs : s.Fits z) : resFits z (execGnsReadPlat src s) :=
    resFits_when (by split <;> simp +contextual (maxDischargeDepth := 50) [*])

theorem execReplayRecordStop_fits (src : CmdSource) (hs : s.Fits z) : resFits z (execReplayRecordStop src s) := by
  unfold execReplayRecordStop
  dsimp only
  repeat' split
  all_goals simp +contextual (maxDischargeDepth := 50) [*]

theorem execReplayStopDatum_fits (ctx : BitVec 6) (hs : s.Fits z) : resFits z (execReplayStopDatum ctx s) := by
  unfold execReplayStopDatum
  split <;> simp +contextual (maxDischargeDepth := 50) [*]

theorem execReplayRun_fits (src : CmdSource) (fab : Fab) (hs : s.Fits z) : resFits z (execReplayRun src fab s) := by
  unfold execReplayRun
  split <;> simp +contextual (maxDischargeDepth := 50) [*]

theorem execDatumBarrier_fits (src : CmdSource) (hs : s.Fits z) : resFits z (execDatumBarrier src s) := by
  unfold execDatumBarrier
  dsimp only
  repeat' split
  all_goals simp +contextual (maxDischargeDepth := 50) [*]

theorem execBarrierRelease_fits (q : BitVec 8) (fab : Fab) (hs : s.Fits z) : resFits z (execBarrierRelease q fab s) := by
  unfold execBarrierRelease
  dsimp only
  repeat' split
  all_goals simp +contextual (maxDischargeDepth := 50) [*]

theorem execHoldoverReparent_fits (hs : s.Fits z) : resFits z (execHoldoverReparent s) := by
  unfold execHoldoverReparent
  split <;> simp +contextual (maxDischargeDepth := 50) [*]

theorem execPpsEdgeMissing_fits (hs : s.Fits z) : resFits z (execPpsEdgeMissing s) := by
  unfold execPpsEdgeMissing
  split <;> simp +contextual (maxDischargeDepth := 50) [*]

theorem execPowerDown_fits (src : CmdSource) (hs : s.Fits z) : resFits z (execPowerDown src s) := by
  unfold execPowerDown
  dsimp only
  repeat' split
  all_goals simp +contextual (maxDischargeDepth := 50) [*]

theorem execFwStage_fits (src : CmdSource) (v : BankVerdict) (hs : s.Fits z) : resFits z (execFwStage src v s) := by
  unfold execFwStage
  split <;> simp +contextual (maxDischargeDepth := 50) [*]

theorem execPortProfile_fits (src : CmdSource) (hs : s.Fits z) : resFits z (execPortProfile src s) := by
  unfold execPortProfile
  dsimp only
  repeat' split
  all_goals simp +contextual (maxDischargeDepth := 50) [*]

theorem execGroupErrorThreshold_fits (group : BitVec 6) (e : GroupError) (hs : s.Fits z) : resFits z (execGroupErrorThreshold group e s) :=
    resFits_when (by split <;> simp +contextual (maxDischargeDepth := 50) [*])

theorem execDownNotice_fits (port : BitVec 3) (p : Packet) (hs : s.Fits z) : resFits z (execDownNotice port p s) :=
    resFits_when (by split <;> simp +contextual (maxDischargeDepth := 50) [*])

theorem execBranchOutcome_fits (c : CoreId) (hs : s.Fits z) : resFits z (execBranchOutcome c s) :=
    resFits_when (by split <;> simp +contextual (maxDischargeDepth := 50) [*])

theorem execLoadDataWritten_fits (c : CoreId) (load : Nat) (hs : s.Fits z) : resFits z (execLoadDataWritten c load s) := by
  unfold execLoadDataWritten
  dsimp only
  repeat' split
  all_goals simp +contextual (maxDischargeDepth := 50) [*]

theorem execAtom_fits (c : CoreId) (w : InstrWord) (hs : s.Fits z) : resFits z (execAtom c w s) :=
    resFits_onCore (by split <;> simp +contextual (maxDischargeDepth := 50) [*])

theorem execStallCleared_fits (c : CoreId) (stream : Stream) (hs : s.Fits z) : resFits z (execStallCleared c stream s) := by
  unfold execStallCleared
  split <;> simp +contextual (maxDischargeDepth := 50) [*]

theorem execMv_fits (c : CoreId) (w : InstrWord) (hs : s.Fits z) : resFits z (execMv c w s) := by
  unfold execMv
  dsimp only
  repeat' split
  all_goals simp +contextual (maxDischargeDepth := 50) [*]

theorem execGang_fits (c : CoreId) (w : InstrWord) (hs : s.Fits z) : resFits z (execGang c w s) :=
    resFits_onCore (by split <;> simp +contextual (maxDischargeDepth := 50) [*])

theorem execGangItemStart_fits (rank : BitVec 8) (group : BitVec 3) (hs : s.Fits z) : resFits z (execGangItemStart rank group s) :=
    resFits_when (by split <;> simp +contextual (maxDischargeDepth := 50) [*])

theorem execGangItemEnd_fits (rank : BitVec 8) (group : BitVec 3) (hs : s.Fits z) : resFits z (execGangItemEnd rank group s) :=
    resFits_when (by split <;> simp +contextual (maxDischargeDepth := 50) [*])

theorem execGangDrainDone_fits (rank : BitVec 8) (group : BitVec 3) (hs : s.Fits z) : resFits z (execGangDrainDone rank group s) :=
    resFits_when (by split <;> simp +contextual (maxDischargeDepth := 50) [*])

theorem execInvalidateRequest_fits (p : Packet) (hs : s.Fits z) : resFits z (execInvalidateRequest p s) :=
    resFits_when (by split <;> simp +contextual (maxDischargeDepth := 50) [*])

theorem execInvalidateAck_fits (p : Packet) (hs : s.Fits z) : resFits z (execInvalidateAck p s) :=
    resFits_when (by split <;> simp +contextual (maxDischargeDepth := 50) [*])

theorem execRetryResend_fits (access : Nat) (hs : s.Fits z) : resFits z (execRetryResend access s) := by
  unfold execRetryResend
  repeat' split
  all_goals simp +contextual (maxDischargeDepth := 50) [*]

theorem execBearingMissRepeat_fits (access : Nat) (hs : s.Fits z) : resFits z (execBearingMissRepeat access s) := by
  unfold execBearingMissRepeat
  repeat' split
  all_goals simp +contextual (maxDischargeDepth := 50) [*]

theorem execFabricTimeout_fits (access : Nat) (hs : s.Fits z) : resFits z (execFabricTimeout access s) := by
  unfold execFabricTimeout
  repeat' split
  all_goals simp +contextual (maxDischargeDepth := 50) [*]

theorem execReplySlotReclaim_fits (access : Nat) (hs : s.Fits z) : resFits z (execReplySlotReclaim access s) := by
  unfold execReplySlotReclaim
  repeat' split
  all_goals simp +contextual (maxDischargeDepth := 50) [*]

theorem execPageOutDone_fits (job : BitVec 16) (parcel : BitVec 35) (hs : s.Fits z) : resFits z (execPageOutDone job parcel s) := by
  unfold execPageOutDone
  split <;> simp +contextual (maxDischargeDepth := 50) [*]

theorem execMoveCopyComplete_fits (m : MoveSwitch) (hs : s.Fits z) : resFits z (execMoveCopyComplete m s) := by
  unfold execMoveCopyComplete
  repeat' split
  all_goals simp +contextual (maxDischargeDepth := 50) [*]

theorem execPacketForward_fits (src : PacketSource) (hs : s.Fits z) : resFits z (execPacketForward src s) := by
  unfold execPacketForward
  dsimp only
  repeat' split
  all_goals simp +contextual (maxDischargeDepth := 50) [*]

theorem execCombinedReply_fits (r : Reply) (hs : s.Fits z) : resFits z (execCombinedReply r s) := by
  unfold execCombinedReply
  repeat' split
  all_goals simp +contextual (maxDischargeDepth := 50) [*]

theorem execLogWindowClose_fits (code : BitVec 16) (ctx : Byte) (hs : s.Fits z) : resFits z (execLogWindowClose code ctx s) := by
  unfold execLogWindowClose
  split <;> simp +contextual (maxDischargeDepth := 50) [*]

theorem execContextReset_fits (hs : s.Fits z) : resFits z (execContextReset s) := by
  unfold execContextReset
  split <;> simp +contextual (maxDischargeDepth := 50) [*]

theorem execContextResetDone_fits (hs : s.Fits z) : resFits z (execContextResetDone s) := by
  unfold execContextResetDone
  split <;> simp +contextual (maxDischargeDepth := 50) [*]

theorem execCoreReset_fits (hs : s.Fits z) : resFits z (execCoreReset s) := by
  unfold execCoreReset
  repeat' split
  all_goals simp +contextual (maxDischargeDepth := 50) [*]

theorem execCoreResetDone_fits (hs : s.Fits z) : resFits z (execCoreResetDone s) := by
  unfold execCoreResetDone
  repeat' split
  all_goals simp +contextual (maxDischargeDepth := 50) [*]

theorem execProcessorRestart_fits (hs : s.Fits z) : resFits z (execProcessorRestart s) := by
  unfold execProcessorRestart
  repeat' split
  all_goals simp +contextual (maxDischargeDepth := 50) [*]

theorem execProcRestarted_fits (hs : s.Fits z) : resFits z (execProcRestarted s) := by
  unfold execProcRestarted
  repeat' split
  all_goals simp +contextual (maxDischargeDepth := 50) [*]

theorem execCoreStall_fits (c : CoreId) (stream : Stream) (hs : s.Fits z) : resFits z (execCoreStall c stream s) := by
  unfold execCoreStall
  dsimp only
  repeat' split
  all_goals simp +contextual (maxDischargeDepth := 50) [*]

theorem execEngineHang_fits (u : HangUnit) (hs : s.Fits z) : resFits z (execEngineHang u s) := by
  unfold execEngineHang
  repeat' split
  all_goals simp +contextual (maxDischargeDepth := 50) [*]

theorem execModuleStop_fits (hs : s.Fits z) : resFits z (execModuleStop s) := by
  unfold execModuleStop
  repeat' split
  all_goals simp +contextual (maxDischargeDepth := 50) [*]

theorem execBootVerificationDone_fits (bankA : BankVerdict) (bankB : BankVerdict) (failedCores : List CoreId) (hs : s.Fits z) : resFits z (execBootVerificationDone bankA bankB failedCores s) :=
    resFits_when (by split <;> simp +contextual (maxDischargeDepth := 50) [*])

theorem execMemberDataRead_fits (m : Master) (size8 high : Bool) (hs : s.Fits z) : resFits z (execMemberDataRead m size8 high s) :=
    resFits_when (by split <;> simp +contextual (maxDischargeDepth := 50) [*])

theorem execBar4Read_fits (offset : BitVec 38) (len : Nat) (fab : Fab) (hs : s.Fits z) : resFits z (execBar4Read offset len fab s) := by
  unfold execBar4Read
  repeat' split
  all_goals simp +contextual (maxDischargeDepth := 50) [*]

theorem execBar4Write_fits (offset : BitVec 38) (bytes : List Byte) (fab : Fab) (hs : s.Fits z) : resFits z (execBar4Write offset bytes fab s) := by
  unfold execBar4Write
  split <;> simp +contextual (maxDischargeDepth := 50) [*]

/-! ### Every command -/

/-- What a command's meaning answers fits: the meaning is a guarded operation, or one of those above. -/
theorem exec_fits (i : Instr) (hs : s.Fits z) : resFits z (exec i s) :=
  match i with
  | .doorbellWrite _ _ => resFits_when (by simp [hs])
  | .doorbellMirrorStore _ _ _ => execDoorbellMirrorStore_fits _ _ _ hs
  | .doorbellDiscardedAccess _ => execDoorbellDiscardedAccess_fits _ hs
  | .commandFetch _ => execCommandFetch_fits _ hs
  | .nop _ => resFits_when (by simp [hs])
  | .fenceCommand _ => resFits_when (by simp +contextual (maxDischargeDepth := 50) [*])
  | .waitFlag _ _ => resFits_when (by simp [hs])
  | .waitFlagReread _ _ => resFits_when (by simp [hs])
  | .waitFlagTimeout _ => resFits_when (by simp [hs])
  | .setFlag _ _ => resFits_when (by simp +contextual (maxDischargeDepth := 50) [*])
  | .signalHost _ => resFits_when (by simp +contextual (maxDischargeDepth := 50) [*])
  | .ctxCreate _ => resFits_when (by simp [hs])
  | .ctxDestroy _ => resFits_when (by simp [hs])
  | .ctxReset _ => resFits_when (by simp [hs])
  | .ctxQuery _ => resFits_when (by simp [hs])
  | .loadProgram _ _ => resFits_when (by simp [hs])
  | .translationTimeout _ => resFits_when (by simp [hs])
  | .launch _ _ => resFits_when (by simp [hs])
  | .launchDeferred _ _ => resFits_when (by simp [hs])
  | .sliceAssignment _ _ => execSliceAssignment_fits _ _ hs
  | .remoteSliceRequest _ => execRemoteSliceRequest_fits _ hs
  | .tileStart _ => execTileStart_fits _ hs
  | .tileEnd _ => resFits_when (by simp [hs])
  | .sliceComplete _ => execSliceComplete_fits _ hs
  | .gridComplete _ _ => execGridComplete_fits _ _ hs
  | .segmentComplete _ _ => execSegmentComplete_fits _ _ hs
  | .alloc _ _ => resFits_when (by simp [hs])
  | .allocTimeout _ => resFits_when (by simp [hs])
  | .free _ _ => resFits_when (by simp [hs])
  | .copy _ _ => resFits_when (by simp [hs])
  | .fill _ _ => resFits_when (by simp [hs])
  | .invalidate _ => resFits_when (by simp [hs])
  | .pin _ _ => resFits_when (by simp [hs])
  | .hintAnchor _ => resFits_when (by simp [hs])
  | .hintPrefer _ => resFits_when (by simp [hs])
  | .hintCold _ => resFits_when (by simp [hs])
  | .hintWillUse _ => resFits_when (by simp [hs])
  | .lendBackstore _ => resFits_when (by simp [hs])
  | .platLoad _ _ => resFits_when (by simp +contextual (maxDischargeDepth := 50) [*])
  | .platsetActivate _ => resFits_when (by simp +contextual (maxDischargeDepth := 50) [*])
  | .platsetSwitch _ => execPlatsetSwitch_fits _ hs
  | .barrier _ => resFits_when (by simp [hs])
  | .broadcast _ _ => resFits_when (by simp [hs])
  | .reduceScatter _ _ => resFits_when (by simp [hs])
  | .allGather _ _ => resFits_when (by simp [hs])
  | .allReduce _ _ => resFits_when (by simp [hs])
  | .allToAll _ _ => resFits_when (by simp [hs])
  | .collectiveSlotStart _ => execCollectiveSlotStart_fits _ hs
  | .preemption => execPreemption_fits hs
  | .collectiveSegment _ _ => execCollectiveSegment_fits _ _ hs
  | .segmentGrant _ _ => execSegmentGrant_fits _ _ hs
  | .waitReportInterval _ => execWaitReportInterval_fits _ hs
  | .waitReport _ => execWaitReport_fits _ hs
  | .stragglerTimeout _ _ => execStragglerTimeout_fits _ _ hs
  | .deputyTakeover _ => execDeputyTakeover_fits _ hs
  | .reformRecord _ _ => execReformRecord_fits _ _ hs
  | .collectiveAbort _ => execCollectiveAbort_fits _ hs
  | .collectiveOwnAbort _ => execCollectiveOwnAbort_fits _ hs
  | .platReform _ _ => resFits_when (by simp +contextual (maxDischargeDepth := 50) [*])
  | .inboxConfigInbox _ _ => resFits_when (by simp +contextual (maxDischargeDepth := 50) [*])
  | .inboxConfigMap _ _ => resFits_when (by simp +contextual (maxDischargeDepth := 50) [*])
  | .inboxConfigOrigin _ => resFits_when (by simp +contextual (maxDischargeDepth := 50) [*])
  | .inboxQuery _ _ => resFits_when (by simp [hs])
  | .scatterDispatch _ _ => execScatterDispatch_fits _ _ hs
  | .expertRowSegment _ _ => execExpertRowSegment_fits _ _ hs
  | .expertMarker _ _ => execExpertMarker_fits _ _ hs
  | .batchDeadline _ _ => execBatchDeadline_fits _ _ hs
  | .batchLatencyFloor _ _ => execBatchLatencyFloor_fits _ _ hs
  | .expertBatchComplete _ _ => execExpertBatchComplete_fits _ _ hs
  | .expertReturn _ _ => execExpertReturn_fits _ _ hs
  | .expertReceipt _ _ => execExpertReceipt_fits _ _ hs
  | .expertResetNotice _ fab => execExpertResetNotice_fits _ fab hs
  | .waveTimeout _ _ => resFits_when (by simp +contextual (maxDischargeDepth := 50) [*])
  | .optStep _ _ => resFits_when (by simp [hs])
  | .gnsRead _ => resFits_when (by simp +contextual (maxDischargeDepth := 50) [*])
  | .gnsReadPlat _ => execGnsReadPlat_fits _ hs
  | .replayRecordStart _ _ => resFits_when (by simp [hs])
  | .replayRecordStop _ => execReplayRecordStop_fits _ hs
  | .replayStopDatum _ => execReplayStopDatum_fits _ hs
  | .replayRun _ _ => execReplayRun_fits _ _ hs
  | .datumBarrier _ => execDatumBarrier_fits _ hs
  | .barrierStage _ _ => resFits_when (by simp [hs])
  | .barrierRelease _ _ => execBarrierRelease_fits _ _ hs
  | .datumRead _ => resFits_when (by simp [hs])
  | .powerQuery _ => resFits_when (by simp [hs])
  | .powerCap _ => resFits_when (by simp +contextual (maxDischargeDepth := 50) [*])
  | .clockCeiling _ => resFits_when (by simp +contextual (maxDischargeDepth := 50) [*])
  | .powerDown _ => execPowerDown_fits _ hs
  | .portProfile _ => execPortProfile_fits _ hs
  | .portQuery _ => resFits_when (by simp [hs])
  | .errRead _ => resFits_when (by simp [hs])
  | .huskRead _ => resFits_when (by simp [hs])
  | .tallyRead _ => resFits_when (by simp [hs])
  | .fwQuery _ => resFits_when (by simp [hs])
  | .fwStage _ _ => execFwStage_fits _ _ hs
  | .fwActivate _ => resFits_when (by simp +contextual (maxDischargeDepth := 50) [*])
  | .waitCycleCheck => resFits_when (by simp +contextual (maxDischargeDepth := 50) [*])
  | .accessNop _ _ => resFits_onCore (by simp [hs])
  | .xalu _ _ => resFits_onCore (by simp +contextual (maxDischargeDepth := 50) [*])
  | .xmovi _ _ => resFits_onCore (by simp +contextual (maxDischargeDepth := 50) [*])
  | .brx _ _ => resFits_onCore (by simp +contextual (maxDischargeDepth := 50) [*])
  | .brt _ _ => resFits_onCore (by simp +contextual (maxDischargeDepth := 50) [*])
  | .branchOutcome _ => execBranchOutcome_fits _ hs
  | .jmp _ _ => resFits_onCore (by simp +contextual (maxDischargeDepth := 50) [*])
  | .aend _ _ => resFits_onCore (by simp +contextual (maxDischargeDepth := 50) [*])
  | .ld _ _ => resFits_onCore (by simp [hs])
  | .ld2d _ _ => resFits_onCore (by simp [hs])
  | .gather _ _ => resFits_onCore (by simp [hs])
  | .tld _ _ => resFits_onCore (by simp [hs])
  | .loadDataWritten _ _ => execLoadDataWritten_fits _ _ hs
  | .pf _ _ => resFits_onCore (by simp +contextual (maxDischargeDepth := 50) [*])
  | .st _ _ => resFits_onCore (by simp [hs])
  | .st2d _ _ => resFits_onCore (by simp [hs])
  | .atom _ _ => execAtom_fits _ _ hs
  | .inv _ _ => resFits_onCore (by simp +contextual (maxDischargeDepth := 50) [*])
  | .fence _ _ => resFits_onCore (by simp [hs])
  | .fenceSc _ _ => resFits_onCore (by simp [hs])
  | .tpush _ _ => resFits_onCore (by simp +contextual (maxDischargeDepth := 50) [*])
  | .tpop _ _ => resFits_onCore (by simp +contextual (maxDischargeDepth := 50) [*])
  | .stallCleared _ _ => execStallCleared_fits _ _ hs
  | .executeNop _ _ => resFits_onCore (by simp [hs])
  | .loopi _ _ => resFits_onCore (by simp [hs])
  | .bnzd _ _ => resFits_onCore (by simp +contextual (maxDischargeDepth := 50) [*])
  | .brtx _ _ => resFits_onCore (by simp +contextual (maxDischargeDepth := 50) [*])
  | .xend _ _ => resFits_onCore (by simp +contextual (maxDischargeDepth := 50) [*])
  | .latch _ _ => resFits_onCore (by simp +contextual (maxDischargeDepth := 50) [*])
  | .latchLoadDone _ _ => resFits_when (by simp +contextual (maxDischargeDepth := 50) [*])
  | .pass _ _ => execPass_fits _ _ hs
  | .swap _ _ => resFits_onCore (by simp +contextual (maxDischargeDepth := 50) [*])
  | .accld _ _ => resFits_onCore (by simp +contextual (maxDischargeDepth := 50) [*])
  | .mv _ _ => execMv_fits _ _ hs
  | .eow _ _ => resFits_onCore (by simp [hs])
  | .gang _ _ => execGang_fits _ _ hs
  | .gangItemStart _ _ => execGangItemStart_fits _ _ hs
  | .gangItemEnd _ _ => execGangItemEnd_fits _ _ hs
  | .gangDrainDone _ _ => execGangDrainDone_fits _ _ hs
  | .vAdd _ _ => resFits_onCore (by simp [hs])
  | .vSub _ _ => resFits_onCore (by simp [hs])
  | .vMul _ _ => resFits_onCore (by simp [hs])
  | .vFma _ _ => resFits_onCore (by simp [hs])
  | .vFms _ _ => resFits_onCore (by simp [hs])
  | .vNeg _ _ => resFits_onCore (by simp [hs])
  | .vAbs _ _ => resFits_onCore (by simp [hs])
  | .vMax _ _ => resFits_onCore (by simp [hs])
  | .vMin _ _ => resFits_onCore (by simp [hs])
  | .cmpEq _ _ => resFits_onCore (by simp [hs])
  | .cmpLt _ _ => resFits_onCore (by simp [hs])
  | .cmpLe _ _ => resFits_onCore (by simp [hs])
  | .cmpUnord _ _ => resFits_onCore (by simp [hs])
  | .vSel _ _ => resFits_onCore (by simp [hs])
  | .iAdd _ _ => resFits_onCore (by simp [hs])
  | .iSub _ _ => resFits_onCore (by simp [hs])
  | .iMin _ _ => resFits_onCore (by simp [hs])
  | .iMax _ _ => resFits_onCore (by simp [hs])
  | .vAnd _ _ => resFits_onCore (by simp [hs])
  | .vOr _ _ => resFits_onCore (by simp [hs])
  | .vXor _ _ => resFits_onCore (by simp [hs])
  | .vShl _ _ => resFits_onCore (by simp [hs])
  | .vShr _ _ => resFits_onCore (by simp [hs])
  | .vSra _ _ => resFits_onCore (by simp [hs])
  | .vMov _ _ => resFits_onCore (by simp [hs])
  | .cvtF2i _ _ => resFits_onCore (by simp [hs])
  | .cvtI2f _ _ => resFits_onCore (by simp [hs])
  | .vDiv _ _ => resFits_onCore (by simp [hs])
  | .vRcp _ _ => resFits_onCore (by simp [hs])
  | .vSqrt _ _ => resFits_onCore (by simp [hs])
  | .vRsqrt _ _ => resFits_onCore (by simp [hs])
  | .vExp2 _ _ => resFits_onCore (by simp [hs])
  | .vLog2 _ _ => resFits_onCore (by simp [hs])
  | .vExp2s _ _ => resFits_onCore (by simp [hs])
  | .vload _ _ => resFits_onCore (by simp +contextual (maxDischargeDepth := 50) [*])
  | .vstore _ _ => resFits_onCore (by simp +contextual (maxDischargeDepth := 50) [*])
  | .rsum _ _ => resFits_onCore (by simp [hs])
  | .rsumsq _ _ => resFits_onCore (by simp [hs])
  | .csum _ _ => resFits_onCore (by simp [hs])
  | .rmax _ _ => resFits_onCore (by simp [hs])
  | .cmax _ _ => resFits_onCore (by simp [hs])
  | .rargmax _ _ => resFits_onCore (by simp [hs])
  | .tsumsq _ _ => resFits_onCore (by simp [hs])
  | .rmaxupd _ _ => resFits_onCore (by simp [hs])
  | .rsumacc _ _ => resFits_onCore (by simp [hs])
  | .gnsMark _ _ => resFits_onCore (by simp [hs])
  | .adamw _ _ => resFits_onCore (by simp [hs])
  | .momentum _ _ => resFits_onCore (by simp [hs])
  | .tpushx _ _ => resFits_onCore (by simp +contextual (maxDischargeDepth := 50) [*])
  | .tpushe _ _ => resFits_onCore (by simp +contextual (maxDischargeDepth := 50) [*])
  | .tpopx _ _ => resFits_onCore (by simp +contextual (maxDischargeDepth := 50) [*])
  | .read _ => resFits_when (by simp [hs])
  | .write _ => resFits_when (by simp [hs])
  | .atomic _ => resFits_when (by simp [hs])
  | .invalidateRequest _ => execInvalidateRequest_fits _ hs
  | .invalidateAck _ => execInvalidateAck_fits _ hs
  | .regLookup _ _ => resFits_when (by simp [hs])
  | .pageInDone _ _ => resFits_when (by simp [hs])
  | .pageOutStart => resFits_when (by simp [hs])
  | .pageOutDone _ _ => execPageOutDone_fits _ _ hs
  | .tallyEpochEnd => resFits_when (by simp +contextual (maxDischargeDepth := 50) [*])
  | .tallyReport _ _ => resFits_when (by simp [hs])
  | .moveData _ => resFits_when (by simp [hs])
  | .moveCopyComplete _ => execMoveCopyComplete_fits _ hs
  | .drainDone _ => resFits_when (by simp [hs])
  | .moveAbandon _ _ => resFits_when (by simp +contextual (maxDischargeDepth := 50) [*])
  | .reply _ => resFits_when (by simp [hs])
  | .retryResend _ => execRetryResend_fits _ hs
  | .bearingMissRepeat _ => execBearingMissRepeat_fits _ hs
  | .fabricTimeout _ => execFabricTimeout_fits _ hs
  | .replySlotReclaim _ => execReplySlotReclaim_fits _ hs
  | .packetForward _ => execPacketForward_fits _ hs
  | .combinedReply _ => execCombinedReply_fits _ hs
  | .multicastCopy _ _ => resFits_when (by simp +contextual (maxDischargeDepth := 50) [*])
  | .flitTransmit _ => resFits_when (by simp [hs])
  | .dataFlit _ _ => resFits_when (by simp +contextual (maxDischargeDepth := 50) [*])
  | .idleFlit _ _ => resFits_when (by simp [hs])
  | .creditFlit _ _ => resFits_when (by simp [hs])
  | .replayReq _ _ => resFits_when (by simp +contextual (maxDischargeDepth := 50) [*])
  | .managementFlit _ _ => resFits_when (by simp +contextual (maxDischargeDepth := 50) [*])
  | .groupTrainingMilestone _ _ => resFits_when (by simp +contextual (maxDischargeDepth := 50) [*])
  | .identityBlock _ _ => resFits_when (by simp +contextual (maxDischargeDepth := 50) [*])
  | .groupJoined _ => resFits_when (by simp +contextual (maxDischargeDepth := 50) [*])
  | .trainingBoundMissed _ => resFits_when (by simp +contextual (maxDischargeDepth := 50) [*])
  | .laneSignalLoss _ => resFits_when (by simp [hs])
  | .groupErrorThreshold _ _ => execGroupErrorThreshold_fits _ _ hs
  | .downNotice port _ => execDownNotice_fits port _ hs
  | .datumExchangeTimer => resFits_when (by simp +contextual (maxDischargeDepth := 50) [*])
  | .datumTimestampExchange _ _ _ _ _ => resFits_when (by simp +contextual (maxDischargeDepth := 50) [*])
  | .creditViewExchange _ _ _ => resFits_when (by simp [hs])
  | .datumSlewTick => resFits_when (by simp [hs])
  | .holdoverReparent => execHoldoverReparent_fits hs
  | .datumPpsEdge => resFits_when (by simp [hs])
  | .ppsEdgeMissing => execPpsEdgeMissing_fits hs
  | .errorRaised _ => resFits_when (by simp +contextual (maxDischargeDepth := 50) [*])
  | .logWindowClose _ _ => execLogWindowClose_fits _ _ hs
  | .contextReset => execContextReset_fits hs
  | .contextResetDone => execContextResetDone_fits hs
  | .coreReset => execCoreReset_fits hs
  | .coreResetDone => execCoreResetDone_fits hs
  | .processorRestart => execProcessorRestart_fits hs
  | .procRestarted => execProcRestarted_fits hs
  | .processorHeartbeat _ => resFits_when (by simp [hs])
  | .coreStall _ _ => execCoreStall_fits _ _ hs
  | .coreHang _ => resFits_when (by simp [hs])
  | .engineHang _ => execEngineHang_fits _ hs
  | .procTimeout _ => resFits_when (by simp [hs])
  | .hrpTimerExpiry => resFits_when (by simp +contextual (maxDischargeDepth := 50) [*])
  | .resetOverrun _ => resFits_when (by simp [hs])
  | .moduleStop => execModuleStop_fits hs
  | .modResetAssert => resFits_when (by simp [hs])
  | .perstAssert => resFits_when (by simp +contextual (maxDischargeDepth := 50) [*])
  | .moduleReset => resFits_when (by simp [hs])
  | .standbyApplied => resFits_when (by simp [hs])
  | .addrStrapSample _ => resFits_when (by simp [hs])
  | .bootVerificationDone _ _ _ => execBootVerificationDone_fits _ _ _ hs
  | .standbyLost => resFits_when (by simp [hs])
  | .inputInRange => resFits_when (by simp [hs])
  | .inputPowerLoss => resFits_when (by simp +contextual (maxDischargeDepth := 50) [*])
  | .railPowerGood => resFits_when (by simp +contextual (maxDischargeDepth := 50) [*])
  | .railFault _ => resFits_when (by simp +contextual (maxDischargeDepth := 50) [*])
  | .processorImagesVerified _ => resFits_when (by simp +contextual (maxDischargeDepth := 50) [*])
  | .stackTrainingDone _ _ => resFits_when (by simp +contextual (maxDischargeDepth := 50) [*])
  | .pcieLinkUp => resFits_when (by simp [hs])
  | .cpReady => execCpReady_fits hs
  | .powerSample _ _ => resFits_when (by simp [hs])
  | .thermalSample _ _ => resFits_when (by simp [hs])
  | .thermalTrip => resFits_when (by simp [hs])
  | .pmbusRecovery _ => resFits_when (by simp +contextual (maxDischargeDepth := 50) [*])
  | .presence => resFits_when (by simp +contextual (maxDischargeDepth := 50) [*])
  | .sbStatus => resFits_when (by simp +contextual (maxDischargeDepth := 50) [*])
  | .mainGoWrite _ => resFits_when (by simp +contextual (maxDischargeDepth := 50) [*])
  | .alertEnWrite _ => resFits_when (by simp +contextual (maxDischargeDepth := 50) [*])
  | .resetModuleWrite => resFits_when (by simp +contextual (maxDischargeDepth := 50) [*])
  | .regAddr _ _ => resFits_when (by simp +contextual (maxDischargeDepth := 50) [*])
  | .regDataRead => resFits_when (by simp +contextual (maxDischargeDepth := 50) [*])
  | .regDataWrite _ _ _ => resFits_when (by simp +contextual (maxDischargeDepth := 50) [*])
  | .mboxCmd _ _ => resFits_when (by simp +contextual (maxDischargeDepth := 50) [*])
  | .mboxReply => resFits_when (by simp +contextual (maxDischargeDepth := 50) [*])
  | .alertRead => resFits_when (by simp +contextual (maxDischargeDepth := 50) [*])
  | .alertResponse => resFits_when (by simp +contextual (maxDischargeDepth := 50) [*])
  | .smbusLineTimeout => resFits_when (by simp [hs])
  | .registerWrite _ _ _ _ => resFits_when (by simp [hs])
  | .qenableWrite _ _ _ => resFits_when (by simp [hs])
  | .planCommit _ => resFits_when (by simp [hs])
  | .errPop _ => resFits_when (by simp [hs])
  | .apCtrlWrite _ _ => resFits_when (by simp [hs])
  | .rcRegisterRead _ _ => resFits_when (by simp [hs])
  | .lowHalfRead _ _ => resFits_when (by simp [hs])
  | .memberDataRead _ _ _ => execMemberDataRead_fits _ _ _ hs
  | .bar0BadAccess _ _ => resFits_when (by simp [hs])
  | .bar4Read _ _ _ => execBar4Read_fits _ _ _ hs
  | .bar4Write _ _ _ => execBar4Write_fits _ _ _ hs
  | .jtagBypass => resFits_when (by simp [hs])
  | .jtagIdcode => resFits_when (by simp [hs])
  | .jtagSamplePreload _ => resFits_when (by simp +contextual (maxDischargeDepth := 50) [*])
  | .jtagExtest _ => resFits_when (by simp +contextual (maxDischargeDepth := 50) [*])
  | .debugUnlock _ => resFits_when (by simp [hs])
  | .modResetRelease => resFits_when (by simp [hs])
  | .perstDeassert => resFits_when (by simp [hs])
  | .forwardingRecordAged _ _ => resFits_when (by simp [hs])

/-- A step keeps everything but the front of the queue; where none waits, the clock ticks (notes/assumptions/3.md). -/
theorem step_fits {s t : State} (hm : s.MemoriesOk) (h : step s = .next t) : t.Fits ⟨s.pending.tail, s.fuses⟩ := by
  unfold step at h
  split at h
  · next hp =>
    cases h
    exact State.tick_fits s (by simpa [hp] using State.fits_self hm)
  · next i rest hp => exact hp ▸ exec_fits i (State.fits_self (s := { s with pending := rest }) hm) t h

/-! ### The module (R2, R3) -/

theorem Fuses.SameModule.perQuadrant {f g : Fuses} (h : f.SameModule g) : g.perQuadrant = f.perQuadrant := by
  obtain ⟨hg, _⟩ := h
  simp [Fuses.perQuadrant, hg]

theorem Fuses.SameModule.gradeOk {f g : Fuses} (h : f.SameModule g) : g.gradeOk = f.gradeOk := by
  obtain ⟨_, h0, h1, h2, h3, _⟩ := id h
  simp [Fuses.gradeOk, h0, h1, h2, h3, h.perQuadrant]

/-- Four quadrants of a part of its grade make 144 or 136 clusters (R2). -/
theorem Fuses.clusters_length {f : Fuses} (h : f.gradeOk = true) : f.clusters.length = if f.gradeC = true then 136 else 144 := by
  simp only [Fuses.gradeOk, List.all_cons, List.all_nil, Bool.and_true, Bool.and_eq_true, beq_iff_eq] at h
  obtain ⟨h0, h1, h2, h3⟩ := h
  simp only [Fuses.clusters, List.length_append, List.length_map, h0, h1, h2, h3, Fuses.perQuadrant]
  split <;> rfl

end Sys2Proof.Machine

namespace Sys2Proof
open Sys2Proof.Machine

/-- Settles O60: one step fits the rest of the queue and the fuses it began with, and the cluster count follows from the fuses. -/
theorem memoriesStayCanonical : Obligations.MemoriesStayCanonical := by
  intro s t hm h
  obtain ⟨hp, hf, hmem⟩ := step_fits hm h
  refine ⟨hmem, hp, hf, fun hg => ?_⟩
  have hg' : t.fuses.gradeOk = true := hf.gradeOk.trans hg
  obtain ⟨hc, _⟩ := hf
  exact ⟨hg', by rw [State.enabledClusters, Fuses.clusters_length hg', hc]⟩

end Sys2Proof
end

section
/-!
The whole machine: what a step is, with and without a command (O58), and the state right after reset (O59).
-/
namespace Sys2Proof.Machine

theorem step_cons (s : State) (i : Instr) (rest : List Instr) : step { s with pending := i :: rest } = exec i { s with pending := rest } := rfl

theorem step_idle {s : State} (h : s.pending = []) : step s = .next s.tick := by
  unfold step
  rw [h]

theorem State.tick_frame (s : State) : s.tick = { s with time := s.time + 1, datum := s.tick.datum } := rfl

theorem State.tick_counter (s : State) : s.tick.datum.counter = if s.mainUp = true then s.datum.counter + 1 else s.datum.counter := by
  unfold State.tick
  split <;> rfl

end Sys2Proof.Machine

namespace Sys2Proof
open Sys2Proof.Machine

/-- Settles O58: a step is the front command's effect, or a tick. -/
theorem frontCommandRuns : Obligations.FrontCommandRuns :=
  ⟨step_cons, fun s h => ⟨s.tick, step_idle h, rfl, s.tick_frame, s.tick_counter⟩⟩

/-- Settles O59: State.reset field by field; the clusters of a grade follow from its fuses, and the first step is a tick. -/
theorem resetState : Obligations.ResetState := by
  refine ⟨rfl, rfl, rfl, rfl, rfl, rfl, ⟨rfl, rfl, by simp [State.reset]⟩, rfl, rfl, rfl, rfl, by decide, rfl,
    fun f hf => Fuses.clusters_length hf, rfl, fun q => ⟨rfl, rfl, rfl⟩, fun c => rfl, fun _ _ => rfl, fun t ht => ?_⟩
  rw [step_idle rfl] at ht
  cases ht
  exact ⟨rfl, rfl⟩

end Sys2Proof
end

section
/-!
Rules for the execute stream of a core: what an issue, a popped operand and a tally write, the change of one core with tallies beside it,
and reads of tiles after writes. The proofs about cubes, lanes, reductions and the optimiser use these and do not unfold the state.
-/
namespace Sys2Proof.Machine

/-! ### Changes of one core, with tallies -/

theorem State.CoreAndTallies.refl (s : State) (c : CoreId) : s.CoreAndTallies s c := ⟨rfl, fun _ _ => rfl⟩

theorem State.CoreAndTallies.trans {s t u : State} {c : CoreId} (h : s.CoreAndTallies t c) (h' : t.CoreAndTallies u c) :
    s.CoreAndTallies u c := by
  refine ⟨?_, fun j hj => (h'.2 j hj).trans (h.2 j hj)⟩
  rw [h'.1, h.1]

theorem State.OnlyCore.withTallies {s t : State} {c : CoreId} (h : s.OnlyCore t c) : s.CoreAndTallies t c := by
  refine ⟨?_, h.2⟩
  rw [h.1]

variable {s t : State} {c : CoreId}

theorem State.CoreAndTallies.modCore (h : s.CoreAndTallies t c) (f : Core → Core) : s.CoreAndTallies (t.modCore (coreKey c) f) c :=
  h.trans ((State.OnlyCore.refl t c).modCore f).withTallies

theorem State.CoreAndTallies.setCore (h : s.CoreAndTallies t c) (x : Core) : s.CoreAndTallies (t.setCore (coreKey c) x) c :=
  h.trans ⟨rfl, fun j hj => by simp [State.core_setCore, hj]⟩

theorem State.CoreAndTallies.tallyTile (h : s.CoreAndTallies t c) (x : TileRun) (m : Made) : s.CoreAndTallies (t.tallyTile x m) c :=
  h.trans ⟨rfl, fun _ _ => rfl⟩

theorem State.CoreAndTallies.withFree (h : s.CoreAndTallies t c) (n : Nat) : s.CoreAndTallies { t with free := n } c :=
  h.trans ⟨rfl, fun _ _ => rfl⟩

theorem State.CoreAndTallies.issueExe (h : s.CoreAndTallies t c) : s.CoreAndTallies (t.issueExe (coreKey c)) c := h.modCore _

theorem State.CoreAndTallies.count (h : s.CoreAndTallies t c) (i n : Nat) : s.CoreAndTallies (t.count (coreKey c) i n) c := h.modCore _

theorem State.CoreAndTallies.popSource (h : s.CoreAndTallies t c) (sel : Nat) (pop : Bool) :
    s.CoreAndTallies (t.popSource (coreKey c) sel pop) c := by
  unfold State.popSource
  split
  · exact h.modCore _
  · exact h

@[simp] theorem State.core_tallyTile (s : State) (x : TileRun) (m : Made) (k : Nat) : (s.tallyTile x m).core k = s.core k := rfl
@[simp] theorem State.time_tallyTile (s : State) (x : TileRun) (m : Made) : (s.tallyTile x m).time = s.time := rfl
@[simp] theorem State.free_tallyTile (s : State) (x : TileRun) (m : Made) : (s.tallyTile x m).free = s.free := rfl
@[simp] theorem State.core_withFree (s : State) (n k : Nat) : State.core { s with free := n } k = s.core k := rfl
@[simp] theorem State.core_setCore_same (s : State) (k : Nat) (x : Core) : (s.setCore k x).core k = x := by simp [State.core_setCore]

/-! ### Issue and operands -/

/-- The core of the execute stream after an issue (R57). -/
def Core.issuedExe (x : Core) (now : Nat) : Core :=
  { x with exePc := x.exePc + 1, nextId := x.nextId + 1, lastIssue := now,
           tiles := match x.tiles with | t :: ts => { t with issued := true } :: ts | [] => [] }

@[simp] theorem State.core_issueExe (s : State) (k : Nat) : (s.issueExe k).core k = (s.core k).issuedExe s.time :=
  State.core_modCore_same _ _ _

/-- A core after a data-queue operand is popped (R55). -/
def Core.usedSource (x : Core) (sel : Nat) (pop : Bool) : Core := if isDq sel && pop then x.popEntry (sel - 0x20) else x

@[simp] theorem State.core_popSource (s : State) (k sel : Nat) (pop : Bool) :
    (s.popSource k sel pop).core k = (s.core k).usedSource sel pop := by
  unfold State.popSource Core.usedSource
  split <;> simp

@[simp] theorem State.popSource_time (s : State) (k sel : Nat) (pop : Bool) : (s.popSource k sel pop).time = s.time := by
  unfold State.popSource
  split <;> simp

/-- Popping an operand touches the data queues, and the access commands that this lets retire. -/
theorem Core.usedSource_frame (x : Core) (sel : Nat) (pop : Bool) :
    x.usedSource sel pop = { x with dqs := (x.usedSource sel pop).dqs, ops := (x.usedSource sel pop).ops } := by
  unfold Core.usedSource
  split <;> rfl

theorem Core.entries_usedSource (x : Core) (sel : Nat) (pop : Bool) (q : Nat) :
    (x.usedSource sel pop).entries q = if isDq sel = true ∧ pop = true ∧ q = sel - 0x20 then (x.entries q).drop 1 else x.entries q := by
  unfold Core.usedSource
  have hpop : (x.popEntry (sel - 0x20)).entries q = if q = sel - 0x20 then (x.entries q).drop 1 else x.entries q := by
    change tget (tset x.dqs _ _) q [] = _
    rw [tget_tset]
    split
    · next hq => subst hq; rfl
    · rfl
  cases hd : isDq sel <;> cases hp : pop <;> simp [hpop]

/-- The head that is a core's own and confirmed is the operand (R55, R67). -/
theorem Core.headEntry_eq {x : Core} {q : Nat} {e : DqEntry} (hh : (x.entries q).head? = some e) (ht : e.tile = x.exeTile.seq)
    (hu : x.unconfirmed e.epoch = false) : x.headEntry q = some e := by
  simp [Core.headEntry, hh, ht, hu]

theorem Core.source_of_operandAt {x : Core} {sel range base len : Nat} (h : x.OperandAt sel range base len) : x.source sel range = (base, len) := by
  unfold Core.OperandAt at h
  unfold Core.source
  split at h
  · next hd =>
    obtain ⟨e, hh, ht, hu, _, hb, hl⟩ := h
    simp [hd, Core.headEntry_eq hh ht hu, hb, hl]
  · next hd => simp [hd, h]

theorem Core.sourceWait_of_operandAt {x : Core} {sel range base len : Nat} (h : x.OperandAt sel range base len) :
    ∀ e ∈ x.sourceWait sel, e.1 = false := by
  unfold Core.OperandAt at h
  unfold Core.sourceWait
  split at h
  · next hd =>
    obtain ⟨e, hh, ht, hu, hr, _⟩ := h
    simp [hd, Core.headReady, Core.headEntry_eq hh ht hu, hr]
  · next hd => simp [hd]

/-- An instruction of the execute stream that the core takes. -/
theorem onCore_takesExe {row : String} {op : Nat} {w : InstrWord} {eff : State} (h : s.ExeTakes c op w) :
    onCore row op w (s.exeReady c) eff = .next eff :=
  onCore_true h.1 h.2

/-! ### Tiles -/

theorem bitsOf_lt (v lo n : Nat) : bitsOf v lo n < 2 ^ n := Nat.mod_lt _ (by positivity)

/-- One element of a tile written. -/
theorem at64_put64 {t : Table Word32} {i j m n : Nat} {v : Word32} (hj : j < 64) (hn : n < 64) :
    at64 (put64 t i j v) m n = if m = i ∧ n = j then v else at64 t m n := by
  have h : (64 * m + n = 64 * i + j) ↔ (m = i ∧ n = j) := by omega
  simp only [at64, put64, tget_tset, h]

theorem at64_putCol {t : Table Word32} {j n : Nat} {f : Nat → Word32} (hj : j < 64) (hn : n < 64) (rows m : Nat) :
    at64 (putCol t j rows f) m n = if m < rows ∧ n = j then f m else at64 t m n := by
  induction rows with
  | zero => simp [putCol]
  | succ k ih =>
    have hstep : putCol t j (k + 1) f = put64 (putCol t j k f) k j (f k) := by simp [putCol, List.range_succ]
    rw [hstep, at64_put64 hj hn, ih]
    by_cases hm : m = k
    · subst hm
      by_cases hc : n = j <;> simp [hc]
    · have h : m < k + 1 ↔ m < k := by omega
      simp [hm, h]

theorem at64_putRow {t : Table Word32} {i n : Nat} {mask : Word64} {f : Nat → Word32} (hn : n < 64) (m : Nat) :
    at64 (putRow t i mask f) m n = if m = i ∧ mask.getLsbD n = true then f n else at64 t m n := by
  have main : ∀ k ≤ 64, at64 ((List.range k).foldl (fun t j => if mask.getLsbD j then put64 t i j (f j) else t) t) m n =
      if n < k ∧ m = i ∧ mask.getLsbD n = true then f n else at64 t m n := by
    intro k
    induction k with
    | zero => simp
    | succ k ih =>
      intro hk
      rw [List.range_succ, List.foldl_append, List.foldl_cons, List.foldl_nil]
      by_cases hb : mask.getLsbD k = true
      · rw [if_pos hb, at64_put64 (by omega) hn, ih (by omega)]
        by_cases hnk : n = k
        · subst hnk
          by_cases hm : m = i <;> simp [hm, hb]
        · have h : n < k + 1 ↔ n < k := by omega
          simp [hnk, h]
      · rw [if_neg hb, ih (by omega)]
        by_cases hnk : n = k
        · subst hnk; simp [hb]
        · have h : n < k + 1 ↔ n < k := by omega
          simp [h]
  simp only [putRow, main 64 (le_refl _), hn, true_and]

/-- Writing a tile buffer touches the four buffers alone. -/
theorem Core.setBuf_frame (x : Core) (i : Nat) (t : Table Word32) :
    x.setBuf i t = { x with
      tiles0 := (x.setBuf i t).tiles0, tiles1 := (x.setBuf i t).tiles1, tiles2 := (x.setBuf i t).tiles2, tiles3 := (x.setBuf i t).tiles3 } := by
  unfold Core.setBuf
  split <;> rfl

@[simp] theorem Core.cubes_setBuf (x : Core) (i : Nat) (t : Table Word32) : (x.setBuf i t).cubes = x.cubes := by rw [Core.setBuf_frame]
@[simp] theorem Core.gns_setBuf (x : Core) (i : Nat) (t : Table Word32) : (x.setBuf i t).gns = x.gns := by rw [Core.setBuf_frame]
@[simp] theorem Core.cube_setBuf (x : Core) (i : Nat) (t : Table Word32) (n : Nat) : (x.setBuf i t).cube n = x.cube n := by
  simp [Core.cube]

@[simp] theorem Core.buf_setBuf_same (x : Core) (i : Nat) (t : Table Word32) : (x.setBuf i t).buf i = t := by
  match i with
  | 0 | 1 | 2 | _ + 3 => rfl

theorem Core.buf_setBuf_other (x : Core) {i j : Nat} (t : Table Word32) (hi : i < 4) (hj : j < 4) (h : j ≠ i) :
    (x.setBuf i t).buf j = x.buf j := by
  have hi' : i = 0 ∨ i = 1 ∨ i = 2 ∨ i = 3 := by omega
  have hj' : j = 0 ∨ j = 1 ∨ j = 2 ∨ j = 3 := by omega
  rcases hi' with rfl | rfl | rfl | rfl <;> rcases hj' with rfl | rfl | rfl | rfl <;> simp [Core.setBuf, Core.buf] at h ⊢

theorem Core.cube_setCube (x : Core) (i j : Nat) (q : Cube) : (x.setCube i q).cube j = if j = i then q else x.cube j := tget_tset _ _ _ _ _
@[simp] theorem Core.cube_setCube_same (x : Core) (i : Nat) (q : Cube) : (x.setCube i q).cube i = q := tget_tset_same _ _ _ _
@[simp] theorem Core.buf_setCube (x : Core) (i j : Nat) (q : Cube) : (x.setCube i q).buf j = x.buf j := rfl

theorem isBuf_iff {d : Nat} : isBuf d = true ↔ 0x40 ≤ d ∧ d ≤ 0x43 := by simp [isBuf]
theorem isShadow_iff {d : Nat} : isShadow d = true ↔ 0x44 ≤ d ∧ d ≤ 0x47 := by simp [isShadow]

/-! ### What lanes and reductions may touch -/

/-- Of a core, `y` differs from `x` in tile buffers, shadow tiles and gradient-noise registers alone. -/
structure Core.OnlyLanes (x y : Core) : Prop where
  rest : y = { x with tiles0 := y.tiles0, tiles1 := y.tiles1, tiles2 := y.tiles2, tiles3 := y.tiles3, cubes := y.cubes, gns := y.gns }
  cube : ∀ i, (y.cube i).active = (x.cube i).active ∧ (y.cube i).planeActive = (x.cube i).planeActive ∧
    (y.cube i).planeShadow = (x.cube i).planeShadow

theorem Core.OnlyLanes.refl (x : Core) : x.OnlyLanes x := ⟨rfl, fun _ => ⟨rfl, rfl, rfl⟩⟩

theorem Core.OnlyLanes.trans {x y z : Core} (h : x.OnlyLanes y) (h' : y.OnlyLanes z) : x.OnlyLanes z := by
  refine ⟨by rw [h'.rest, h.rest], fun i => ?_⟩
  obtain ⟨ha, hp, hs⟩ := h.cube i
  obtain ⟨ha', hp', hs'⟩ := h'.cube i
  exact ⟨ha'.trans ha, hp'.trans hp, hs'.trans hs⟩

theorem Core.onlyLanes_setBuf (x : Core) (i : Nat) (t : Table Word32) : x.OnlyLanes (x.setBuf i t) :=
  ⟨by rw [Core.setBuf_frame], fun _ => by simp⟩

theorem Core.onlyLanes_setLane (x : Core) (d : Nat) (t : Table Word32) : x.OnlyLanes (x.setLane d t) := by
  unfold Core.setLane
  split
  · exact x.onlyLanes_setBuf _ t
  · split
    · refine ⟨rfl, fun i => ?_⟩
      rw [Core.cube_setCube]
      split
      · next h => subst h; exact ⟨rfl, rfl, rfl⟩
      · exact ⟨rfl, rfl, rfl⟩
    · exact .refl x

theorem Core.onlyLanes_gns (x : Core) (g : Gns) : x.OnlyLanes { x with gns := g } := ⟨rfl, fun _ => ⟨rfl, rfl, rfl⟩⟩

/-- The frame of an instruction of the lanes or the reduction unit that has issued (R98, R106). -/
theorem Core.OnlyLanes.laneFrame {x y : Core} (h : x.OnlyLanes y) (now : Nat) : x.LaneFrame (y.issuedExe now) := by
  obtain ⟨hrest, hcube⟩ := h
  refine ⟨?_, ?_, ?_, ?_, ?_, ?_, ?_, hcube⟩
  all_goals rw [hrest]
  · exact ⟨rfl, rfl, rfl, rfl, rfl, rfl, rfl⟩
  · exact ⟨rfl, rfl⟩
  all_goals rfl

theorem Core.lane_of_isBuf {x : Core} {d : Nat} (h : isBuf d = true) : x.lane d = x.buf (d - 0x40) := by simp [Core.lane, h]

theorem Core.lane_setLane_same (x : Core) {d : Nat} (t : Table Word32) (h : isLane d = true) : (x.setLane d t).lane d = t := by
  unfold Core.setLane Core.lane
  by_cases hb : isBuf d = true
  · simp [hb]
  · have hs : isShadow d = true := by simpa [isLane, hb] using h
    simp [hb, hs]

theorem Core.lane_setLane_other (x : Core) {d e : Nat} (t : Table Word32) (h : e ≠ d) :
    (x.setLane d t).lane e = x.lane e := by
  unfold Core.setLane
  split
  · next hb =>
    rw [isBuf_iff] at hb
    unfold Core.lane
    split
    · next hbe =>
      rw [isBuf_iff] at hbe
      exact x.buf_setBuf_other t (by omega) (by omega) (by omega)
    · simp
  · split
    · next hs =>
      rw [isShadow_iff] at hs
      unfold Core.lane
      split
      · rfl
      · split
        · next hse =>
          rw [isShadow_iff] at hse
          rw [Core.cube_setCube, if_neg (by omega)]
        · rfl
    · rfl

@[simp] theorem Core.gns_setLane (x : Core) (d : Nat) (t : Table Word32) : (x.setLane d t).gns = x.gns := by
  unfold Core.setLane
  split
  · simp
  · split <;> rfl

end Sys2Proof.Machine
end

section
/-!
The reduction unit (O17, O18): what each reduction leaves in its tile buffer, element by element, and in the gradient-noise registers.
-/
namespace Sys2Proof.Machine

variable {s : State} {c : CoreId} {w : InstrWord}

/-! ### A reduction on its core -/

theorem Core.onlyLanes_reduce (x : Core) (nn : Nat) (r : RedSpec) (f : Nat → Nat → Word32) : x.OnlyLanes (x.reduce nn r f).1 := by
  unfold Core.reduce
  dsimp only
  split
  case h_7 =>
    split
    · exact x.onlyLanes_gns _
    · split
      · exact x.onlyLanes_gns _
      · exact x.onlyLanes_setBuf _ _
  all_goals exact x.onlyLanes_setBuf _ _

theorem Core.reduce_tsumsq (x : Core) {r : RedSpec} (f : Nat → Nat → Word32) (hl : r.dest ≠ 0x58) (hr : r.dest ≠ 0x59) :
    (x.reduce 6 r f).1 = x.setBuf (r.dest - 0x40)
      (put64 (x.buf (r.dest - 0x40)) r.idx r.res (chainSum ((List.range r.rows).map (rowSumSq f r.mask))).v) := by
  unfold Core.reduce
  dsimp only
  rw [if_neg hl, if_neg hr]
  rfl

/-- TSUMSQ into a gradient-noise register combines its value with the register (R111). -/
theorem Core.reduce_tsumsq_local (x : Core) {r : RedSpec} (f : Nat → Nat → Word32) (h : r.dest = 0x58) :
    (x.reduce 6 r f).1 =
      let p := combine x.gns.localS x.gns.localC (chainSum ((List.range r.rows).map (rowSumSq f r.mask))).v 0
      { x with gns := { x.gns with localS := p.1, localC := p.2 } } := by
  unfold Core.reduce
  dsimp only
  rw [if_pos h]
  rfl

theorem Core.reduce_tsumsq_reduced (x : Core) {r : RedSpec} (f : Nat → Nat → Word32) (h : r.dest = 0x59) :
    (x.reduce 6 r f).1 =
      let p := combine x.gns.redS x.gns.redC (chainSum ((List.range r.rows).map (rowSumSq f r.mask))).v 0
      { x with gns := { x.gns with redS := p.1, redC := p.2 } } := by
  unfold Core.reduce
  dsimp only
  rw [if_neg (by omega), if_pos h]
  rfl

/-- A reduction as the core takes it: the reduction on the core, with its tallies, and the issue. -/
theorem reduceStep_next {row : String} {op nn : Nat} (h : s.ExeTakes c op w) :
    ∃ t, onCore row op w (s.exeReady c) (s.reduceStep (coreKey c) nn w) = .next t ∧ s.CoreAndTallies t c ∧
      (s.core (coreKey c)).LaneFrame (t.core (coreKey c)) ∧
      t.core (coreKey c) = ((s.core (coreKey c)).reduce nn (redSpecOf w (selD w)) (at64 ((s.core (coreKey c)).lane (selA w)))).1.issuedExe s.time := by
  refine ⟨_, onCore_takesExe h, ((State.CoreAndTallies.refl s c).setCore _ |>.tallyTile _ _).issueExe, ?_⟩
  have hcore : (s.reduceStep (coreKey c) nn w).core (coreKey c) =
      ((s.core (coreKey c)).reduce nn (redSpecOf w (selD w)) (at64 ((s.core (coreKey c)).lane (selA w)))).1.issuedExe s.time := by
    simp [State.reduceStep]
  rw [hcore]
  exact ⟨(Core.onlyLanes_reduce _ _ _ _).laneFrame _, rfl⟩

/-! ### The tile that a reduction into a tile buffer leaves (R108 to R110) -/

/-- A reduction that writes the tile `u` over its destination buffer leaves everything else that reductions may touch. -/
theorem reduceStep_setBuf {row : String} {op nn : Nat} {u : Table Word32} {at_ : Nat → Nat → Prop} {v : Nat → Nat → Word32}
    (h : s.ExeTakes c op w) (hd : isBuf (selD w) = true)
    (hu : ((s.core (coreKey c)).reduce nn (redSpecOf w (selD w)) (at64 ((s.core (coreKey c)).lane (selA w)))).1 =
      (s.core (coreKey c)).setBuf (selD w - 0x40) u)
    (hv : ∀ m n, m < 64 → n < 64 → (at_ m n → at64 u m n = v m n) ∧
      (¬ at_ m n → at64 u m n = at64 ((s.core (coreKey c)).buf (selD w - 0x40)) m n)) :
    ∃ t, onCore row op w (s.exeReady c) (s.reduceStep (coreKey c) nn w) = .next t ∧ s.CoreAndTallies t c ∧
      (s.core (coreKey c)).LaneFrame (t.core (coreKey c)) ∧ (t.core (coreKey c)).gns = (s.core (coreKey c)).gns ∧
      (∀ n, n < 4 → n ≠ selD w - 0x40 → (t.core (coreKey c)).buf n = (s.core (coreKey c)).buf n) ∧
      (t.core (coreKey c)).cubes = (s.core (coreKey c)).cubes ∧
      ∀ m n, m < 64 → n < 64 → (at_ m n → at64 ((t.core (coreKey c)).buf (selD w - 0x40)) m n = v m n) ∧
        (¬ at_ m n → at64 ((t.core (coreKey c)).buf (selD w - 0x40)) m n = at64 ((s.core (coreKey c)).buf (selD w - 0x40)) m n) := by
  obtain ⟨t, ht, honly, hframe, hcore⟩ := reduceStep_next (nn := nn) (row := row) h
  rw [hu] at hcore
  rw [isBuf_iff] at hd
  have hbuf : ∀ n, (t.core (coreKey c)).buf n = ((s.core (coreKey c)).setBuf (selD w - 0x40) u).buf n := fun n => by rw [hcore]; rfl
  refine ⟨t, ht, honly, hframe, ?_, fun n hn hne => ?_, ?_, fun m n hm hn => ?_⟩
  · rw [hcore]; exact Core.gns_setBuf _ _ _
  · rw [hbuf, Core.buf_setBuf_other _ _ (by omega) hn hne]
  · rw [hcore]; exact Core.cubes_setBuf _ _ _
  · rw [hbuf, Core.buf_setBuf_same]
    exact hv m n hm hn

/-! ### The fields of a reduction -/

theorem redSpecOf_res_lt (w : InstrWord) (d : Nat) : (redSpecOf w d).res < 64 := bitsOf_lt _ _ _
theorem redSpecOf_idx_lt (w : InstrWord) (d : Nat) : (redSpecOf w d).idx < 64 := bitsOf_lt _ _ _
theorem redSpecOf_rows_le (w : InstrWord) (d : Nat) : (redSpecOf w d).rows ≤ 64 := bitsOf_lt _ _ 6
theorem alphaCol_lt (m : Nat) : alphaCol m < 64 := Nat.mod_lt _ (by norm_num)

/-- An item of a list made over a range. -/
theorem getD_map_range {α : Type} (g : Nat → α) (d : α) {n i : Nat} (h : i < n) : ((List.range n).map g).getD i d = g i := by
  simp [List.getD, List.getElem?_range h]

/-- A column written with values listed over its rows. -/
theorem putCol_listed {α : Type} (t : Table Word32) (j rows : Nat) (g : Nat → α) (d : α) (p : α → Word32) {m n : Nat} (hj : j < 64) (hn : n < 64) :
    at64 (putCol t j rows (fun i => p (((List.range rows).map g).getD i d))) m n = if m < rows ∧ n = j then p (g m) else at64 t m n := by
  rw [at64_putCol hj hn]
  split
  · next h => rw [getD_map_range g d h.1]
  · rfl

/-- Two columns written, the second over the first. -/
theorem at64_putCols {t : Table Word32} {i j n rows m : Nat} {f g : Nat → Word32} {q : Prop} [Decidable q] (hi : i < 64) (hj : j < 64)
    (hn : n < 64) (hq : q ↔ m < rows ∧ (n = i ∨ n = j)) :
    at64 (putCol (putCol t i rows f) j rows g) m n = if q then (if n = j then g m else f m) else at64 t m n := by
  rw [at64_putCol hj hn, at64_putCol hi hn]
  by_cases hm : m < rows <;> by_cases hnj : n = j <;> simp [hm, hnj, hq]

theorem if_congr_left {p : Prop} [Decidable p] {α : Type} {a b u : α} (h : p → a = b) : (if p then a else u) = if p then b else u := by
  split
  · next hp => exact h hp
  · rfl

theorem ite_spec {p : Prop} [Decidable p] {α : Type} {a b u : α} (h : u = if p then a else b) : (p → u = a) ∧ (¬ p → u = b) :=
  ⟨fun hp => by rw [h, if_pos hp], fun hp => by rw [h, if_neg hp]⟩

theorem satAdd_toNat (a : Word32) (n : Nat) : (satAdd a n).toNat = min (a.toNat + n) (2 ^ 32 - 1) := by
  simp only [satAdd, BitVec.toNat_ofNat]
  omega

end Sys2Proof.Machine

namespace Sys2Proof
open Sys2Proof.Machine

/-- Settles O17: each reduction puts one tile over its destination buffer; the tile read element by element. -/
theorem reductionResults : Obligations.ReductionResults := by
  intro c w s
  have hres := redSpecOf_res_lt w (selD w)
  have hidx := redSpecOf_idx_lt w (selD w)
  refine ⟨fun h hd => ?_, fun h hd => ?_, fun h hd => ?_, fun h hd => ?_, fun h hd => ?_, fun h hd => ?_, fun h hd => ?_, fun h hd => ?_,
    fun h hd => ?_⟩
  · exact reduceStep_setBuf (nn := 0) h hd rfl fun m n _ hn => ite_spec (putCol_listed _ _ _ _ _ FRes.v hres hn)
  · exact reduceStep_setBuf (nn := 1) h hd rfl fun m n _ hn => ite_spec (putCol_listed _ _ _ _ _ FRes.v hres hn)
  · refine reduceStep_setBuf (nn := 2) h hd rfl fun m n _ hn => ite_spec ?_
    rw [at64_putRow hn, getD_map_range _ _ hn]
    split
    · next hm => rw [if_pos hm.2]
    · rfl
  · exact reduceStep_setBuf (nn := 3) h hd rfl fun m n _ hn => ite_spec (at64_putCol hres hn _ _)
  · exact reduceStep_setBuf (nn := 4) h hd rfl fun m n _ hn => ite_spec (at64_putRow hn _)
  · refine reduceStep_setBuf (nn := 5) h hd rfl fun m n _ hn => ite_spec ?_
    rw [at64_putCols hres hidx hn Iff.rfl]
    refine if_congr_left fun ⟨hm, _⟩ => ?_
    simp only [getD_map_range _ _ hm, apply_ite Prod.fst, apply_ite Prod.snd]
    rfl
  · have hb := isBuf_iff.mp hd
    exact reduceStep_setBuf (nn := 6) h hd (Core.reduce_tsumsq _ _ (show selD w ≠ 0x58 by omega) (show selD w ≠ 0x59 by omega))
      fun m n _ hn => ite_spec (at64_put64 hres hn)
  · refine reduceStep_setBuf (nn := 7) h hd rfl fun m n _ hn => ite_spec ?_
    rw [at64_putCols (alphaCol_lt _) hres hn (and_congr_right fun _ => or_comm)]
    refine if_congr_left fun ⟨hm, _⟩ => ?_
    simp only [getD_map_range _ _ hm]
    rfl
  · exact reduceStep_setBuf (nn := 8) h hd rfl fun m n _ hn => ite_spec (putCol_listed _ _ _ _ _ FRes.v hres hn)

/-- Settles O18: TSUMSQ by its destination, GNS_MARK by its saturating count. -/
theorem gradientNoise : Obligations.GradientNoise := by
  intro c w s
  refine ⟨fun h hd => ?_, fun h hd => ?_, fun h => ?_⟩
  · obtain ⟨t, ht, honly, hframe, hcore⟩ := reduceStep_next (nn := 6) (row := "TSUMSQ") h
    rw [Core.reduce_tsumsq_local _ _ hd] at hcore
    exact ⟨t, ht, honly, hframe, by rw [hcore]; rfl⟩
  · obtain ⟨t, ht, honly, hframe, hcore⟩ := reduceStep_next (nn := 6) (row := "TSUMSQ") h
    rw [Core.reduce_tsumsq_reduced _ _ hd] at hcore
    exact ⟨t, ht, honly, hframe, by rw [hcore]; rfl⟩
  · refine ⟨_, onCore_takesExe h, ((State.OnlyCore.refl s c).modCore _).issueExe, ?_⟩
    simp only [State.core_issueExe, State.core_modCore_same]
    exact ⟨(Core.onlyLanes_gns _ _).laneFrame _, rfl, satAdd_toNat _ _⟩

end Sys2Proof
end

section
/-!
The model's shifts and signed readings as those of bit vectors (R104, R126).
-/
namespace Sys2Proof.Machine

variable {n : Nat}

theorem signedOf_toNat (h : 0 < n) (a : BitVec n) : signedOf a.toNat n = a.toInt := by
  obtain ⟨m, rfl⟩ : ∃ m, n = m + 1 := ⟨n - 1, by omega⟩
  have ha := a.isLt
  have hp : 2 ^ (m + 1) = 2 * 2 ^ m := Nat.pow_succ'
  have hlt : a.toNat / 2 ^ m < 2 := (Nat.div_lt_iff_lt_mul (by positivity)).mpr (by omega)
  have hle : 1 ≤ a.toNat / 2 ^ m ↔ 2 ^ m ≤ a.toNat := by rw [Nat.le_div_iff_mul_le (by positivity), one_mul]
  have hbit : bitOf a.toNat m = true ↔ 2 ^ m ≤ a.toNat := by
    simp only [bitOf, beq_iff_eq, ← hle]
    generalize a.toNat / 2 ^ m = q at *
    omega
  rw [BitVec.toInt_eq_toNat_cond]
  simp only [signedOf, Nat.add_sub_cancel, hbit, Nat.mod_eq_of_lt ha]
  generalize 2 ^ m = p at *
  split <;> split <;> omega

theorem ofNat_shiftBy_left (a : BitVec n) {b : Nat} (h : b < n) : BitVec.ofNat n (shiftBy 0 n a.toNat b) = a <<< b := by
  apply BitVec.eq_of_toNat_eq
  simp [shiftBy, Nat.not_le.mpr h, Nat.shiftLeft_eq]

theorem ofNat_shiftBy_right (a : BitVec n) {b : Nat} (h : b < n) : BitVec.ofNat n (shiftBy 1 n a.toNat b) = a >>> b := by
  apply BitVec.eq_of_toNat_eq
  have hlt : a.toNat / 2 ^ b < 2 ^ n := lt_of_le_of_lt (Nat.div_le_self _ _) a.isLt
  simp [shiftBy, Nat.not_le.mpr h, Nat.shiftRight_eq_div_pow, Nat.mod_eq_of_lt hlt]

theorem ofNat_shiftBy_arith (a : BitVec n) {b : Nat} (h : b < n) : BitVec.ofNat n (shiftBy 2 n a.toNat b) = a.sshiftRight b := by
  have hval : shiftBy 2 n a.toNat b = (a.toInt / ((2 ^ b : Nat) : Int) % ((2 ^ n : Nat) : Int)).toNat := by
    rw [← signedOf_toNat (by omega)]
    simp [shiftBy, Nat.not_le.mpr h]
  apply BitVec.eq_of_toNat_eq
  rw [hval, BitVec.sshiftRight, BitVec.toNat_ofInt, BitVec.toNat_ofNat, Int.shiftRight_eq_div_pow]
  refine Nat.mod_eq_of_lt ((Int.toNat_lt (Int.emod_nonneg _ (by positivity))).mpr (Int.emod_lt_of_pos _ (by positivity)))

end Sys2Proof.Machine
end

section
/-!
The lanes (O13): a lane instruction puts its results over the rows and masked columns of its destination, and its tap reduces them.
-/
namespace Sys2Proof.Machine

variable {s : State} {c : CoreId} {w : InstrWord}

/-! ### Tables filled from a list of cells -/

theorem tget_map_cells {α : Type} (l : List Nat) (g : Nat → α) (k : Nat) (d : α) :
    tget (l.map (fun n => (n, g n))) k d = if k ∈ l then g k else d := by
  induction l with
  | nil => simp [tget]
  | cons n l ih =>
    simp only [List.map_cons, tget, List.mem_cons]
    by_cases h : n = k
    · subst h; simp
    · simp [h, ih, Ne.symm h]

theorem tget_foldl_tset {α : Type} (l : List Nat) (g : Nat → α) (t : Table α) (k : Nat) (d : α) :
    tget ((l.map (fun n => (n, g n))).foldl (fun t e => tset t e.1 e.2) t) k d = if k ∈ l then g k else tget t k d := by
  induction l generalizing t with
  | nil => simp
  | cons n l ih =>
    simp only [List.map_cons, List.foldl_cons, ih, tget_tset, List.mem_cons]
    by_cases h : k = n
    · subst h; simp
    · simp [h]

/-- The cells of an instruction are its rows and masked columns (R98). -/
theorem mem_laneCells {i j : Nat} (hj : j < 64) : 64 * i + j ∈ laneCells w ↔ i ≤ wm w 16 6 ∧ w.imm.getLsbD j = true := by
  simp only [laneCells, List.mem_flatten, List.mem_map, List.mem_range, exists_exists_and_eq_and, List.mem_filter]
  constructor
  · rintro ⟨i', hi', j', ⟨hj', hb⟩, h⟩
    obtain ⟨rfl, rfl⟩ : i' = i ∧ j' = j := by omega
    exact ⟨by omega, hb⟩
  · rintro ⟨hi, hb⟩
    exact ⟨i, by omega, j, ⟨hj, hb⟩, rfl⟩

/-! ### A lane instruction on its core -/

/-- The results of a lane instruction, cell by cell; zero outside its cells. -/
def Core.laneAt (x : Core) (nn : Nat) (w : InstrWord) (free i j : Nat) : Word32 :=
  tget ((laneCells w).map (fun n => (n, (x.laneRes nn w free (n / 64) (n % 64)).v))) (64 * i + j) 0

theorem Core.laneAt_eq (x : Core) (nn free : Nat) {i j : Nat} (hj : j < 64) (h : i ≤ wm w 16 6 ∧ w.imm.getLsbD j = true) :
    x.laneAt nn w free i j = (x.laneRes nn w free i j).v := by
  rw [Core.laneAt, tget_map_cells, if_pos ((mem_laneCells hj).mpr h)]
  congr 2 <;> omega

/-- The core with the results in their lane (R98). -/
def Core.lanePut (x : Core) (nn : Nat) (w : InstrWord) (free : Nat) : Core :=
  x.setLane (selD w) (((laneCells w).map (fun n => (n, (x.laneRes nn w free (n / 64) (n % 64)).v))).foldl
    (fun t e => tset t e.1 e.2) (x.lane (selD w)))

theorem Core.at64_lanePut (x : Core) (nn free : Nat) (hd : isLane (selD w) = true) {i j : Nat} (hj : j < 64) :
    at64 ((x.lanePut nn w free).lane (selD w)) i j =
      if i ≤ wm w 16 6 ∧ w.imm.getLsbD j = true then x.laneAt nn w free i j else at64 (x.lane (selD w)) i j := by
  rw [Core.lanePut, Core.lane_setLane_same _ _ hd]
  simp only [at64, Core.laneAt, tget_foldl_tset, tget_map_cells, mem_laneCells hj]
  split <;> simp [*]

/-- The core after a lane instruction and its tap (R107). -/
def Core.laneTap (x : Core) (nn : Nat) (w : InstrWord) (free : Nat) : Core :=
  if wm w 24 4 = 0 then x.lanePut nn w free
  else ((x.lanePut nn w free).reduce (wm w 24 4 - 1) (redSpecOf w (wx w 0 48 8)) (x.laneAt nn w free)).1

theorem Core.onlyLanes_laneTap (x : Core) (nn free : Nat) : x.OnlyLanes (x.laneTap nn w free) := by
  have hput : x.OnlyLanes (x.lanePut nn w free) := x.onlyLanes_setLane _ _
  unfold Core.laneTap
  split
  · exact hput
  · exact hput.trans (Core.onlyLanes_reduce _ _ _ _)

theorem State.core_laneStep (s : State) (k nn : Nat) (w : InstrWord) :
    (s.laneStep k nn w).core k = ((s.core k).laneTap nn w s.free).issuedExe s.time := by
  have hout : ∀ x : Core, ((laneCells w).map (fun n => (n, x.laneRes nn w s.free (n / 64) (n % 64)))).map (fun r => (r.1, r.2.v)) =
      (laneCells w).map (fun n => (n, (x.laneRes nn w s.free (n / 64) (n % 64)).v)) := fun x => by simp
  unfold State.laneStep Core.laneTap
  simp only [hout, State.core_issueExe, State.core_withFree, State.core_tallyTile, State.core_setCore_same]
  split <;> rfl

theorem State.coreAndTallies_laneStep (s : State) (c : CoreId) (nn : Nat) (w : InstrWord) :
    s.CoreAndTallies (s.laneStep (coreKey c) nn w) c :=
  (((State.CoreAndTallies.refl s c).setCore _ |>.tallyTile _ _).withFree _).issueExe

/-- A lane instruction: `P` holds of each result with its operands (R104, R105). -/
theorem laneStep_next {row : String} {op nn : Nat} {P : Word32 → Word32 → Word32 → Word32 → Prop} (h : s.ExeTakes c op w)
    (hd : isLane (selD w) = true)
    (hP : ∀ i j, P (at64 ((s.core (coreKey c)).lane (selA w)) i j) ((s.core (coreKey c)).laneB w i j)
      (at64 ((s.core (coreKey c)).lane (selC w)) i j) ((s.core (coreKey c)).laneRes nn w s.free i j).v) :
    let x := s.core (coreKey c)
    ∃ (t : State) (y : Core) (f : Nat → Nat → Word32), onCore row op w (s.exeReady c) (s.laneStep (coreKey c) nn w) = .next t ∧
      s.CoreAndTallies t c ∧ x.LaneFrame (t.core (coreKey c)) ∧
      (∀ i j, i < 64 → j < 64 →
        if i ≤ wm w 16 6 ∧ w.imm.getLsbD j = true then
          P (at64 (x.lane (selA w)) i j) (x.laneB w i j) (at64 (x.lane (selC w)) i j) (f i j) ∧ at64 (y.lane (selD w)) i j = f i j
        else at64 (y.lane (selD w)) i j = at64 (x.lane (selD w)) i j) ∧
      (∀ d, isLane d = true → d ≠ selD w → y.lane d = x.lane d) ∧ y.gns = x.gns ∧
      (if wm w 24 4 = 0 then y else (y.reduce (wm w 24 4 - 1) (redSpecOf w (wx w 0 48 8)) f).1).SameArrays (t.core (coreKey c)) := by
  intro x
  refine ⟨_, x.lanePut nn w s.free, x.laneAt nn w s.free, onCore_takesExe h, s.coreAndTallies_laneStep c nn w, ?_, fun i j _ hj => ?_,
    fun d _ hne => Core.lane_setLane_other _ _ hne, Core.gns_setLane _ _ _, ?_⟩
  · rw [State.core_laneStep]
    exact (Core.onlyLanes_laneTap _ _ _).laneFrame _
  · rw [Core.at64_lanePut _ _ _ hd hj]
    split
    · next hc => exact ⟨Core.laneAt_eq x nn s.free hj hc ▸ hP i j, rfl⟩
    · rfl
  · rw [State.core_laneStep]
    exact ⟨rfl, rfl, rfl, rfl, rfl, rfl, rfl⟩

/-! ### The operations (R104, R105) -/

/-- A unary operation without an operand a reads operand b. -/
theorem Core.laneRes_unary {x : Core} {nn : Nat} (h : nn ∈ vecUnary) (free i j : Nat) :
    x.laneRes nn w free i j = laneOp nn (laneMode w free i j) (if selA w = 0 then x.laneB w i j else at64 (x.lane (selA w)) i j)
      (x.laneB w i j) (at64 (x.lane (selC w)) i j) := by
  simp [Core.laneRes, h]

theorem Core.laneRes_binary {x : Core} {nn : Nat} (h : nn ∉ vecUnary) (free i j : Nat) :
    x.laneRes nn w free i j = laneOp nn (laneMode w free i j) (at64 (x.lane (selA w)) i j) (x.laneB w i j) (at64 (x.lane (selC w)) i j) := by
  simp [Core.laneRes, h]

theorem laneMode_rne (h : wm w 28 2 = 0) (free i j : Nat) : laneMode w free i j = .rne := by simp [laneMode, h]
theorem laneMode_rtz (h : wm w 28 2 = 2) (free i j : Nat) : laneMode w free i j = .rtz := by simp [laneMode, h]

theorem cmpVal_unord (a b : Word32) :
    (cmpRes (cmpVal 3 a b)).v = if isNan (val32 a) = true ∨ isNan (val32 b) = true then 0x3F800000 else 0 := by
  simp [cmpRes, cmpVal]

theorem selVal_eq (a b c : Word32) : selVal a b c = if isNan (val32 c) = true ∨ isZero (val32 c) = true then b else a := by simp [selVal]

end Sys2Proof.Machine

namespace Sys2Proof
open Sys2Proof.Machine

/-- Settles O13, operation by operation: a unary operation reads what `laneRes_unary` says, any other its operands as they stand. -/
theorem laneResults : Obligations.LaneResults := by
  intro c w s k x one un bi
  have unary : ∀ {nn : Nat} (free i j : Nat), nn ∈ vecUnary → ∀ {f : Word32 → Word32},
      (∀ a b c, (laneOp nn (laneMode w free i j) a b c).v = f a) →
      un f (at64 (x.lane (selA w)) i j) (x.laneB w i j) (at64 (x.lane (selC w)) i j) (x.laneRes nn w free i j).v :=
    fun free i j hn f hf => by rw [Core.laneRes_unary hn, hf]
  have other : ∀ {nn : Nat} (free i j : Nat), nn ∉ vecUnary → ∀ {P : Word32 → Word32 → Word32 → Word32 → Prop},
      (∀ m a b c, P a b c (laneOp nn m a b c).v) →
      P (at64 (x.lane (selA w)) i j) (x.laneB w i j) (at64 (x.lane (selC w)) i j) (x.laneRes nn w free i j).v :=
    fun free i j hn P hP => by rw [Core.laneRes_binary hn]; exact hP _ _ _ _
  have cons : ∀ {α : Type} {p : α → Prop} {a : α} {l : List α}, p a → (∀ e ∈ l, p e) → ∀ e ∈ a :: l, p e :=
    fun h hl => List.forall_mem_cons.mpr ⟨h, hl⟩
  refine cons (fun h hd => laneStep_next h hd fun i j => other _ i j (by decide) fun _ _ _ _ => rfl) <|
    cons (fun h hd => laneStep_next h hd fun i j => other _ i j (by decide) fun _ _ _ _ => rfl) <|
    cons (fun h hd => laneStep_next h hd fun i j => other _ i j (by decide) fun _ _ _ _ => rfl) <|
    cons (fun h hd => laneStep_next h hd fun i j => other _ i j (by decide) fun _ _ _ _ => rfl) <|
    cons (fun h hd => laneStep_next h hd fun i j => other _ i j (by decide) fun _ _ _ _ => rfl) <|
    cons (fun h hd => laneStep_next h hd fun i j => unary (nn := 0x05) (f := fun a => (fneg a).v) _ i j (by decide) fun _ _ _ => rfl) <|
    cons (fun h hd => laneStep_next h hd fun i j => unary (nn := 0x06) (f := fun a => (fabs a).v) _ i j (by decide) fun _ _ _ => rfl) <|
    cons (fun h hd => laneStep_next h hd fun i j => other _ i j (by decide) fun _ _ _ _ => rfl) <|
    cons (fun h hd => laneStep_next h hd fun i j => other _ i j (by decide) fun _ _ _ _ => rfl) <|
    cons (fun h hd => laneStep_next h hd fun i j => other _ i j (by decide) fun _ _ _ _ => rfl) <|
    cons (fun h hd => laneStep_next h hd fun i j => other _ i j (by decide) fun _ _ _ _ => rfl) <|
    cons (fun h hd => laneStep_next h hd fun i j => other _ i j (by decide) fun _ _ _ _ => rfl) <|
    cons (fun h hd => laneStep_next h hd fun i j => other _ i j (by decide) fun _ a b _ => cmpVal_unord a b) <|
    cons (fun h hd => laneStep_next h hd fun i j => other _ i j (by decide) fun _ a b c => selVal_eq a b c) <|
    cons (fun h hd => laneStep_next h hd fun i j => other _ i j (by decide) fun _ _ _ _ => rfl) <|
    cons (fun h hd => laneStep_next h hd fun i j => other _ i j (by decide) fun _ _ _ _ => rfl) <|
    cons (fun h hd => laneStep_next h hd fun i j => other _ i j (by decide) fun _ _ _ _ => rfl) <|
    cons (fun h hd => laneStep_next h hd fun i j => other _ i j (by decide) fun _ _ _ _ => rfl) <|
    cons (fun h hd => laneStep_next h hd fun i j => other _ i j (by decide) fun _ _ _ _ => rfl) <|
    cons (fun h hd => laneStep_next h hd fun i j => other _ i j (by decide) fun _ _ _ _ => rfl) <|
    cons (fun h hd => laneStep_next h hd fun i j => other _ i j (by decide) fun _ _ _ _ => rfl) <|
    cons (fun h hd => laneStep_next h hd fun i j => other _ i j (by decide) fun _ a b _ hb => ofNat_shiftBy_left a hb) <|
    cons (fun h hd => laneStep_next h hd fun i j => other _ i j (by decide) fun _ a b _ hb => ofNat_shiftBy_right a hb) <|
    cons (fun h hd => laneStep_next h hd fun i j => other _ i j (by decide) fun _ a b _ hb => ofNat_shiftBy_arith a hb) <|
    cons (fun h hd => laneStep_next h hd fun i j => unary (nn := 0x1C) (f := fun a => a) _ i j (by decide) fun _ _ _ => rfl) <|
    cons (fun h hd => laneStep_next (nn := 0x1D) h hd fun i j => by
      rw [Core.laneRes_unary (by decide)]
      exact ⟨fun hm => by rw [laneMode_rne hm]; rfl, fun hm => by rw [laneMode_rtz hm]; rfl⟩) <|
    cons (fun h hd => laneStep_next (nn := 0x1E) h hd fun i j => by
      rw [Core.laneRes_unary (by decide)]
      exact ⟨fun hm => by rw [laneMode_rne hm]; rfl, fun hm => by rw [laneMode_rtz hm]; rfl⟩) <|
    cons (fun h hd => laneStep_next h hd fun i j => other _ i j (by decide) fun _ _ _ _ => rfl) <|
    cons (fun h hd => laneStep_next h hd fun i j => unary (nn := 0x21) (f := fun a => (frcp a).v) _ i j (by decide) fun _ _ _ => rfl) <|
    cons (fun h hd => laneStep_next h hd fun i j => unary (nn := 0x22) (f := fun a => (fsqrt a).v) _ i j (by decide) fun _ _ _ => rfl) <|
    cons (fun h hd => laneStep_next h hd fun i j => unary (nn := 0x23) (f := fun a => (frsqrt a).v) _ i j (by decide) fun _ _ _ => rfl) <|
    cons (fun h hd => laneStep_next h hd fun i j => unary (nn := 0x24) (f := fun a => (fexp2 a).v) _ i j (by decide) fun _ _ _ => rfl) <|
    cons (fun h hd => laneStep_next h hd fun i j => unary (nn := 0x25) (f := fun a => (flog2 a).v) _ i j (by decide) fun _ _ _ => rfl) <|
    cons (fun h hd => laneStep_next h hd fun i j => other _ i j (by decide) fun _ _ _ _ => rfl) <|
    by simp

end Sys2Proof
end

section
/-!
VLOAD and VSTORE (O16): the tile that a load leaves in its lane, and the pieces that a store writes to the scratchpad, which never overlap.
-/
namespace Sys2Proof.Machine

variable {s : State} {c : CoreId} {w : InstrWord}

/-! ### Memory written piece by piece -/

/-- Pieces written one after another. -/
def memPieces (m : Mem) (l : List (Nat × List Byte)) : Mem := l.foldl (fun m e => memWriteN m e.1 e.2) m

/-- Two pieces share no byte. -/
def Apart (p q : Nat × List Byte) : Prop := p.1 + p.2.length ≤ q.1 ∨ q.1 + q.2.length ≤ p.1

theorem memPieces_wf {m : Mem} (h : Memory.wf m = true) (l : List (Nat × List Byte)) : Memory.wf (memPieces m l) = true :=
  memWriteN_foldl_wf l Prod.fst Prod.snd h

theorem memPieces_append (m : Mem) (l : List (Nat × List Byte)) (p : Nat × List Byte) :
    memPieces m (l ++ [p]) = memWriteN (memPieces m l) p.1 p.2 := by
  simp [memPieces]

theorem memRead_memPieces_other {m : Mem} (h : Memory.wf m = true) {l : List (Nat × List Byte)} {a : Nat}
    (ha : ∀ p ∈ l, a < p.1 ∨ p.1 + p.2.length ≤ a) : memRead (memPieces m l) a = memRead m a := by
  induction l using List.reverseRecOn with
  | nil => rfl
  | append_singleton l p ih =>
    rw [memPieces_append, memRead_memWriteN_other (memPieces_wf h l) _ _ (ha p (by simp)), ih (fun q hq => ha q (by simp [hq]))]

theorem memReadN_memWriteN_other {m : Mem} (h : Memory.wf m = true) {p q : Nat × List Byte} (hpq : Apart p q) :
    memReadN (memWriteN m q.1 q.2) p.1 p.2.length = memReadN m p.1 p.2.length := by
  refine List.map_congr_left fun i hi => memRead_memWriteN_other h _ _ ?_
  rw [List.mem_range] at hi
  obtain h | h := hpq <;> omega

/-- A piece that every other piece is apart from reads as written. -/
theorem memReadN_memPieces {m : Mem} (h : Memory.wf m = true) {l : List (Nat × List Byte)} {p : Nat × List Byte} (hp : p ∈ l)
    (hl : ∀ q ∈ l, q = p ∨ Apart p q) : memReadN (memPieces m l) p.1 p.2.length = p.2 := by
  induction l using List.reverseRecOn with
  | nil => simp at hp
  | append_singleton l q ih =>
    rw [memPieces_append]
    obtain rfl | hq := hl q (by simp)
    · exact memReadN_memWriteN (memPieces_wf h l) _ _
    · rw [memReadN_memWriteN_other (memPieces_wf h l) hq]
      by_cases hpl : p ∈ l
      · exact ih hpl (fun q' hq' => hl q' (by simp [hq']))
      · obtain rfl : p = q := by simpa [hpl] using hp
        exact memReadN_memWriteN_self hq
where
  /-- A piece apart from itself is empty. -/
  memReadN_memWriteN_self {m : Mem} {p : Nat × List Byte} (hp : Apart p p) : memReadN m p.1 p.2.length = p.2 := by
    have hlen : p.2 = [] := List.eq_nil_of_length_eq_zero (by obtain h | h := hp <;> omega)
    rw [hlen]
    rfl

/-- What a fold that collects pieces has collected. -/
theorem foldl_collect {α β : Type} (l : List α) (p : α → Bool) (f : α → List β) (g : α → Made) (a : List β) (m : Made) :
    (l.foldl (fun acc n => if p n then (acc.1 ++ f n, acc.2.add (g n)) else acc) (a, m)).1 = a ++ (l.filter p).flatMap f := by
  induction l generalizing a m with
  | nil => simp
  | cons n l ih =>
    simp only [List.foldl_cons, List.filter_cons]
    split
    · rw [ih]; simp
    · rw [ih]

@[simp] theorem natLE_length (v n : Nat) : (natLE v n).length = n := by
  induction n generalizing v with
  | zero => rfl
  | succ n ih => simp [natLE, ih]

/-! ### The pieces of a plain store -/

/-- The piece of element n of a plain VSTORE (R102). -/
def plainPiece (job : BitVec 16) (c : Core) (w : InstrWord) (fmt base : Nat) (t : Table Word32) (n : Nat) : Nat × List Byte :=
  (base + n * (elemBits fmt / 8),
    natLE (laneOut fmt (vstoreMode job c w (elemBits fmt / 8) n) (wx w 0 56 1 == 0) (tget t n 0)).1 (elemBits fmt / 8))

theorem mem_plainStores {job : BitVec 16} {x : Core} {fmt base len : Nat} {t : Table Word32} {p : Nat × List Byte} :
    p ∈ (plainStores job x w fmt base len t).1 ↔
      ∃ n, n ∈ laneCells w ∧ rowFits fmt (wm w 16 6 + 1) len (n / 64) = true ∧ plainPiece job x w fmt base t n = p := by
  have hl : (plainStores job x w fmt base len t).1 =
      ((laneCells w).filter (fun n => rowFits fmt (wm w 16 6 + 1) len (n / 64))).flatMap (fun n => [plainPiece job x w fmt base t n]) := by
    unfold plainStores
    dsimp only
    rw [foldl_collect]
    rfl
  simp [hl, and_assoc, eq_comm (a := p)]

theorem plainPiece_apart (job : BitVec 16) (x : Core) (fmt base : Nat) (t : Table Word32) {m n : Nat} (h : m ≠ n) :
    Apart (plainPiece job x w fmt base t m) (plainPiece job x w fmt base t n) := by
  simp only [Apart, plainPiece, natLE_length]
  generalize elemBits fmt / 8 = d
  obtain h | h := Nat.lt_or_gt_of_ne h
  · left
    have := Nat.mul_le_mul_right d h
    rw [Nat.succ_mul] at this
    omega
  · right
    have := Nat.mul_le_mul_right d h
    rw [Nat.succ_mul] at this
    omega

/-! ### The pieces of a store to an MX format -/

/-- The codes that a VSTORE leaves in half-row h (R41, R98). -/
def mxCodes (job : BitVec 16) (c : Core) (w : InstrWord) (fmt base : Nat) (t : Table Word32) (h : Nat) : Nat × List Nat :=
  let ns := (List.range 32).map (fun j => 32 * h + j)
  let q := quantiseElems fmt (ns.map (fun n => if wm w 28 2 = 1 then vstoreMode job c w 1 n else .rne)) (ns.map (fun n => tget t n 0))
  (q.1, (List.range 32).map (fun j => if w.imm.getLsbD (32 * (h % 2) + j) then (q.2.1.getD j (0, {})).1
    else elemAt fmt (c.bytes (base + h * elemBytes fmt 32) (elemBytes fmt 32)) j))

/-- The block of half-row h, and the byte of its scale. -/
def blockPiece (job : BitVec 16) (c : Core) (w : InstrWord) (fmt base : Nat) (t : Table Word32) (h : Nat) : Nat × List Byte :=
  (base + h * elemBytes fmt 32, packElems fmt (mxCodes job c w fmt base t h).2)
def scalePiece (job : BitVec 16) (c : Core) (w : InstrWord) (fmt base : Nat) (t : Table Word32) (h : Nat) : Nat × List Byte :=
  (base + tileScales fmt (wm w 16 6 + 1) + h, [BitVec.ofNat 8 (mxCodes job c w fmt base t h).1])

theorem mem_mxStores {job : BitVec 16} {x : Core} {fmt base len : Nat} {t : Table Word32} {p : Nat × List Byte} :
    p ∈ (mxStores job x w fmt base len t).1 ↔
      ∃ h, h ∈ halfRows w ∧ rowFits fmt (wm w 16 6 + 1) len (h / 2) = true ∧
        (p = blockPiece job x w fmt base t h ∨ p = scalePiece job x w fmt base t h) := by
  have hl : (mxStores job x w fmt base len t).1 = ((halfRows w).filter (fun h => rowFits fmt (wm w 16 6 + 1) len (h / 2))).flatMap
      (fun h => [blockPiece job x w fmt base t h, scalePiece job x w fmt base t h]) := by
    unfold mxStores
    dsimp only
    rw [foldl_collect]
    rfl
  simp [hl, and_assoc]

theorem blockPiece_length (job : BitVec 16) (x : Core) (fmt base : Nat) (t : Table Word32) (h : Nat) :
    (blockPiece job x w fmt base t h).2.length = elemBytes fmt 32 := by
  simp [blockPiece, packElems, mxCodes]

theorem mem_halfRows {h : Nat} :
    h ∈ halfRows w ↔ h < 2 * (wm w 16 6 + 1) ∧ ∃ j, j < 32 ∧ w.imm.getLsbD (32 * (h % 2) + j) = true := by
  simp [halfRows]

/-- The blocks end where the scales begin, or before (R102). -/
theorem block_le_scales {fmt rows h : Nat} (hh : h < 2 * rows) : h * elemBytes fmt 32 + elemBytes fmt 32 ≤ tileScales fmt rows := by
  have hbb : elemBytes fmt 32 = 4 * elemBits fmt := by simp only [elemBytes, ceilDiv]; omega
  have hrow : tileRow fmt = 8 * elemBits fmt := by simp only [tileRow, elemBytes, ceilDiv]; omega
  have hle : (h + 1) * (4 * elemBits fmt) ≤ (2 * rows) * (4 * elemBits fmt) := Nat.mul_le_mul_right _ hh
  have hts : rows * (8 * elemBits fmt) ≤ tileScales fmt rows := by
    simp only [tileScales, hrow, ceilDiv]
    omega
  rw [hbb]
  calc h * (4 * elemBits fmt) + 4 * elemBits fmt = (h + 1) * (4 * elemBits fmt) := by ring
    _ ≤ rows * (8 * elemBits fmt) := by rw [show rows * (8 * elemBits fmt) = (2 * rows) * (4 * elemBits fmt) by ring]; exact hle
    _ ≤ _ := hts

section
variable (job : BitVec 16) (x : Core) (fmt base : Nat) (t : Table Word32) {h h' : Nat}

theorem blockPiece_apart (hne : h ≠ h') : Apart (blockPiece job x w fmt base t h) (blockPiece job x w fmt base t h') := by
  simp only [Apart, blockPiece_length]
  simp only [blockPiece]
  generalize elemBytes fmt 32 = d
  obtain h | h := Nat.lt_or_gt_of_ne hne
  · left
    have := Nat.mul_le_mul_right d h
    rw [Nat.succ_mul] at this
    omega
  · right
    have := Nat.mul_le_mul_right d h
    rw [Nat.succ_mul] at this
    omega

theorem scalePiece_apart (hne : h ≠ h') : Apart (scalePiece job x w fmt base t h) (scalePiece job x w fmt base t h') := by
  simp only [Apart, scalePiece, List.length_singleton]
  omega

theorem blockPiece_apart_scalePiece (hh : h < 2 * (wm w 16 6 + 1)) : Apart (blockPiece job x w fmt base t h) (scalePiece job x w fmt base t h') := by
  have := block_le_scales (fmt := fmt) hh
  left
  rw [blockPiece_length]
  simp only [blockPiece, scalePiece]
  omega

end

/-! ### VLOAD -/

/-- The element that VLOAD brings to cell n, and what it made (R41, R102). -/
def vloadElem (x : Core) (w : InstrWord) (free base len n : Nat) : FRes :=
  if rowFits (wm w 24 4) (wm w 16 6 + 1) len (n / 64) then
    laneIn (wm w 24 4) (elemAt (wm w 24 4) (x.bytes (base + n / 64 * tileRow (wm w 24 4)) (tileRow (wm w 24 4))) (n % 64))
      (memRead x.spad (base + tileScales (wm w 24 4) (wm w 16 6 + 1) + 2 * (n / 64) + n % 64 / 32)).toNat
  else ⟨BitVec.ofNat 32 (Config.freeWord (free + n)).toNat, {}⟩

/-- The core with the tile that VLOAD brings. -/
def Core.vloadPut (x : Core) (w : InstrWord) (free base len : Nat) : Core :=
  x.setLane (selD w) (((laneCells w).map (fun n => (n, (vloadElem x w free base len n).v))).foldl (fun t e => tset t e.1 e.2) (x.lane (selD w)))

theorem Core.at64_vloadPut (x : Core) (free base len : Nat) (hd : isLane (selD w) = true) {i j : Nat} (hj : j < 64) :
    at64 ((x.vloadPut w free base len).lane (selD w)) i j =
      if i ≤ wm w 16 6 ∧ w.imm.getLsbD j = true then (vloadElem x w free base len (64 * i + j)).v else at64 (x.lane (selD w)) i j := by
  rw [Core.vloadPut, Core.lane_setLane_same _ _ hd]
  simp only [at64, tget_foldl_tset, mem_laneCells hj]

theorem exec_vload {base len : Nat} (h : s.ExeTakes c 0x1330 w) (ho : (s.core (coreKey c)).OperandAt (selA w) (wx w 0 0 32) base len) :
    ∃ t, exec (.vload c w) s = .next t ∧ s.CoreAndTallies t c ∧ t.core (coreKey c) =
      (((s.core (coreKey c)).vloadPut w s.free base len).usedSource (selA w) true).issuedExe s.time := by
  refine ⟨_, onCore_takesExe h, ?_⟩
  rw [State.exeOr_go (Core.sourceWait_of_operandAt ho), Core.source_of_operandAt ho]
  refine ⟨((((State.CoreAndTallies.refl s c).withFree _).modCore _ |>.tallyTile _ _).popSource _ _).issueExe, ?_⟩
  simp only [State.core_issueExe, State.core_popSource, State.core_tallyTile, State.core_modCore_same, State.core_withFree,
    State.popSource_time, State.time_tallyTile, Core.vloadPut, List.foldl_map]
  rfl

theorem Core.lane_usedSource (x : Core) (sel : Nat) (pop : Bool) (d : Nat) : (x.usedSource sel pop).lane d = x.lane d := by
  rw [Core.usedSource_frame]; rfl

/-! ### VSTORE -/

/-- The pieces of a VSTORE (R41, R102). -/
def vstorePieces (job : BitVec 16) (x : Core) (w : InstrWord) (base len : Nat) : List (Nat × List Byte) :=
  if isMx (wm w 24 4) then (mxStores job x w (wm w 24 4) base len (x.lane (selA w))).1
  else (plainStores job x w (wm w 24 4) base len (x.lane (selA w))).1

theorem exec_vstore {base len : Nat} (h : s.ExeTakes c 0x1331 w) (ho : (s.core (coreKey c)).OperandAt (selD w) (wx w 0 0 32) base len) :
    let x := s.core (coreKey c)
    ∃ t, exec (.vstore c w) s = .next t ∧ s.CoreAndTallies t c ∧ t.core (coreKey c) =
      Core.issuedExe { x with spad := memPieces x.spad (vstorePieces (s.drawJob x.exeTile.ctx) x w base len) } s.time := by
  refine ⟨_, onCore_takesExe h, ?_⟩
  rw [State.exeOr_go (Core.sourceWait_of_operandAt ho), Core.source_of_operandAt ho]
  refine ⟨((State.CoreAndTallies.refl s c).modCore _ |>.tallyTile _ _).issueExe, ?_⟩
  simp only [State.core_issueExe, State.core_tallyTile, State.core_modCore_same, vstorePieces, apply_ite Prod.fst]
  rfl

theorem memReadN_plainPiece {m : Mem} (hm : Memory.wf m = true) {job : BitVec 16} {x : Core} {fmt base len n : Nat} {t : Table Word32}
    (hn : n ∈ laneCells w) (hfit : rowFits fmt (wm w 16 6 + 1) len (n / 64) = true) :
    memReadN (memPieces m (plainStores job x w fmt base len t).1) (base + n * (elemBits fmt / 8)) (elemBits fmt / 8) =
      (plainPiece job x w fmt base t n).2 := by
  have hlen : (plainPiece job x w fmt base t n).2.length = elemBits fmt / 8 := natLE_length _ _
  have := memReadN_memPieces hm (mem_plainStores.mpr ⟨n, hn, hfit, rfl⟩ : plainPiece job x w fmt base t n ∈ _) fun q hq => by
    obtain ⟨m, _, _, rfl⟩ := mem_plainStores.mp hq
    by_cases hmn : n = m
    · exact .inl (by rw [hmn])
    · exact .inr (plainPiece_apart job x fmt base t hmn)
  rwa [hlen] at this

section
variable {m : Mem} {job : BitVec 16} {x : Core} {fmt base len h : Nat} {t : Table Word32}

theorem memReadN_blockPiece (hm : Memory.wf m = true) (hh : h ∈ halfRows w) (hfit : rowFits fmt (wm w 16 6 + 1) len (h / 2) = true) :
    memReadN (memPieces m (mxStores job x w fmt base len t).1) (base + h * elemBytes fmt 32) (elemBytes fmt 32) =
      packElems fmt (mxCodes job x w fmt base t h).2 := by
  have := memReadN_memPieces hm (mem_mxStores.mpr ⟨h, hh, hfit, .inl rfl⟩ : blockPiece job x w fmt base t h ∈ _) fun q hq => by
    obtain ⟨h', hh', _, rfl | rfl⟩ := mem_mxStores.mp hq
    · by_cases he : h = h'
      · exact .inl (by rw [he])
      · exact .inr (blockPiece_apart job x fmt base t he)
    · exact .inr (blockPiece_apart_scalePiece job x fmt base t (mem_halfRows.mp hh).1)
  rwa [blockPiece_length] at this

theorem memRead_scalePiece (hm : Memory.wf m = true) (hh : h ∈ halfRows w) (hfit : rowFits fmt (wm w 16 6 + 1) len (h / 2) = true) :
    memRead (memPieces m (mxStores job x w fmt base len t).1) (base + tileScales fmt (wm w 16 6 + 1) + h) =
      BitVec.ofNat 8 (mxCodes job x w fmt base t h).1 := by
  have := memReadN_memPieces hm (mem_mxStores.mpr ⟨h, hh, hfit, .inr rfl⟩ : scalePiece job x w fmt base t h ∈ _) fun q hq => by
    obtain ⟨h', hh', _, rfl | rfl⟩ := mem_mxStores.mp hq
    · exact .inr (Or.symm (blockPiece_apart_scalePiece job x fmt base t (mem_halfRows.mp hh').1))
    · by_cases he : h = h'
      · exact .inl (by rw [he])
      · exact .inr (scalePiece_apart job x fmt base t he)
  simpa [memReadN, scalePiece] using this

end

end Sys2Proof.Machine

namespace Sys2Proof
open Sys2Proof.Machine

/-- Settles O16. -/
theorem tileTransfers : Obligations.TileTransfers := by
  intro c w s base len k x fmt rows wd frame
  refine ⟨fun h ho hd => ?_, fun h ho hwf => ?_⟩
  · obtain ⟨t, ht, honly, hcore⟩ := exec_vload h ho
    have hlanes : x.OnlyLanes (x.vloadPut w s.free base len) := x.onlyLanes_setLane _ _
    have hgns : (x.vloadPut w s.free base len).gns = x.gns := Core.gns_setLane _ _ _
    have hlane : ∀ d, (t.core k).lane d = (x.vloadPut w s.free base len).lane d := fun d => by
      rw [hcore]; exact Core.lane_usedSource _ _ _ d
    refine ⟨t, ht, honly, ?_, ?_, fun q => ?_, fun d _ hne => ?_, fun i j _ hj => ?_⟩
    · rw [hcore, Core.usedSource_frame]
      refine ⟨?_, ?_, ?_, ?_, ?_, hgns⟩
      all_goals rw [hlanes.rest]
      · exact ⟨rfl, rfl, rfl, rfl, rfl, rfl, rfl⟩
      all_goals rfl
    · rw [hcore, Core.usedSource_frame, hlanes.rest]; rfl
    · rw [hcore]
      refine (Core.entries_usedSource _ _ _ q).trans ?_
      rw [hlanes.rest]
      rfl
    · rw [hlane]; exact Core.lane_setLane_other _ _ hne
    · rw [hlane, Core.at64_vloadPut _ _ _ _ hd hj]
      refine ⟨fun hn => if_neg hn, fun hi hb hfit => ?_⟩
      have hrow : (64 * i + j) / 64 = i := by omega
      have hcol : (64 * i + j) % 64 = j := by omega
      rw [if_pos ⟨hi, hb⟩, vloadElem, hrow, hcol, if_pos hfit]
      rfl
  · obtain ⟨t, ht, honly, hcore⟩ := exec_vstore h ho
    refine ⟨t, ht, honly, ?_, ?_, fun d => ?_, fun hmx i j hi hj hb hfit => ?_, fun hmx i h hi hh hb hfit => ?_, fun a ha => ?_⟩
    · rw [hcore]
      exact ⟨⟨rfl, rfl, rfl, rfl, rfl, rfl, rfl⟩, rfl, rfl, rfl, rfl, rfl⟩
    · rw [hcore]; rfl
    · rw [hcore]; rfl
    · have hrow : (64 * i + j) / 64 = i := by omega
      have hpieces : vstorePieces (s.drawJob x.exeTile.ctx) x w base len =
          (plainStores (s.drawJob x.exeTile.ctx) x w fmt base len (x.lane (selA w))).1 := if_neg (by simpa using hmx)
      rw [hcore, hpieces]
      exact memReadN_plainPiece hwf ((mem_laneCells hj).mpr ⟨hi, hb⟩) (by rw [hrow]; exact hfit)
    · have hrow : (2 * i + h) / 2 = i := by omega
      have hhalf : (2 * i + h) % 2 = h := by omega
      have hpieces : vstorePieces (s.drawJob x.exeTile.ctx) x w base len =
          (mxStores (s.drawJob x.exeTile.ctx) x w fmt base len (x.lane (selA w))).1 := if_pos hmx
      have hmem : 2 * i + h ∈ halfRows w := mem_halfRows.mpr ⟨by omega, by rw [hhalf]; exact hb⟩
      have hvs : ∀ j, 32 * (2 * i + h) + j = 64 * i + (32 * h + j) := fun j => by omega
      have hcodes : mxCodes (s.drawJob x.exeTile.ctx) x w fmt base (x.lane (selA w)) (2 * i + h) =
          (let e := quantiseElems fmt ((List.range 32).map (fun j => if wm w 28 2 = 1 then
              vstoreMode (s.drawJob x.exeTile.ctx) x w 1 (32 * (2 * i + h) + j) else .rne))
            ((List.range 32).map (fun j => at64 (x.lane (selA w)) i (32 * h + j)))
          (e.1, (List.range 32).map (fun j => if w.imm.getLsbD (32 * h + j) then (e.2.1.getD j (0, {})).1
            else elemAt fmt (memReadN x.spad (base + (2 * i + h) * elemBytes fmt 32) (elemBytes fmt 32)) j))) := by
        simp only [mxCodes, hhalf, List.map_map, at64, ← hvs]
        rfl
      have hscale := memRead_scalePiece hwf hmem (by rw [hrow]; exact hfit) (job := s.drawJob x.exeTile.ctx) (x := x) (base := base)
        (t := x.lane (selA w))
      have hblock := memReadN_blockPiece hwf hmem (by rw [hrow]; exact hfit) (job := s.drawJob x.exeTile.ctx) (x := x) (base := base)
        (t := x.lane (selA w))
      rw [hcodes] at hscale hblock
      rw [hcore, hpieces]
      exact ⟨hscale, hblock⟩
    · rw [hcore]
      exact memRead_memPieces_other hwf fun p hp => ha p hp
end Sys2Proof
end

section
/-!
The access stream (O1 to O4): arithmetic, branches, predicted branches and tokens, from the core that each leaves.
-/
namespace Sys2Proof.Machine

variable {s : State} {c : CoreId} {w : InstrWord}

/-- An instruction of the access stream that the core takes and that no condition stalls. -/
theorem onCore_takesAcc {row : String} {op : Nat} {l : List (Bool × StallKind)} {eff : State} (h : s.AccTakes c op w)
    (hl : ∀ e ∈ l, e.1 = false) : onCore row op w (s.accReady c) (s.accOr (coreKey c) l eff) = .next eff := by
  obtain ⟨hw, hr, ho⟩ := h
  rw [State.accOr_go ho hl]
  exact onCore_true hw hr

theorem Core.setX_frame (x : Core) (i : Nat) (v : Word64) : x.setX i v = { x with x := (x.setX i v).x } := by
  unfold Core.setX
  split <;> rfl

theorem Core.accFrame_issueAcc (x : Core) (item : Option Nat) (now : Nat) : x.AccFrame (x.issueAcc item now) :=
  ⟨⟨rfl, rfl⟩, ⟨rfl, rfl, rfl, rfl, rfl, rfl, rfl⟩, ⟨rfl, rfl, rfl⟩, rfl, rfl, rfl, rfl⟩

/-- A register written at an issue. -/
theorem Core.accFrame_setX_issueAcc (x : Core) (d : Nat) (v : Word64) (now : Nat) : x.AccFrame ((x.setX d v).issueAcc none now) := by
  rw [Core.setX_frame]
  exact ⟨⟨rfl, rfl⟩, ⟨rfl, rfl, rfl, rfl, rfl, rfl, rfl⟩, ⟨rfl, rfl, rfl⟩, rfl, rfl, rfl, rfl⟩

/-- A register written by the access stream: the one core, what it leaves, and the registers after. -/
theorem writeX_spec (s : State) (c : CoreId) (d : Nat) (v : Word64) :
    let k := coreKey c
    let t := (s.modCore k (fun x => x.setX d v)).issueAcc k none
    s.OnlyCore t c ∧ (s.core k).AccFrame (t.core k) ∧ (t.core k).accPc = (s.core k).accPc + 1 ∧
      ∀ i, (t.core k).xreg i = if i ≠ 0 ∧ i = d then v else (s.core k).xreg i := by
  intro k t
  have hcore : t.core k = ((s.core k).setX d v).issueAcc none s.time := by
    rw [State.core_issueAcc, State.core_modCore_same]; rfl
  refine ⟨((State.OnlyCore.refl s c).modCore _).issueAcc none, ?_, ?_, fun i => ?_⟩
  · rw [hcore]; exact Core.accFrame_setX_issueAcc _ _ _ _
  · rw [hcore, Core.issueAcc_accPc, Core.setX_frame]
  · rw [hcore]; exact Core.xreg_setX _ _ _ _

/-! ### The operations of XALU (R126) -/

section
variable {op : Nat} {a b : Word64}

theorem xaluOp_add (h : op = 0) : xaluOp op a b = a + b := by rw [h]; rfl
theorem xaluOp_sub (h : op = 1) : xaluOp op a b = a - b := by rw [h]; rfl
theorem xaluOp_mul (h : op = 2) : xaluOp op a b = a * b := by rw [h]; rfl
theorem xaluOp_and (h : op = 3) : xaluOp op a b = a &&& b := by rw [h]; rfl
theorem xaluOp_or (h : op = 4) : xaluOp op a b = a ||| b := by rw [h]; rfl
theorem xaluOp_xor (h : op = 5) : xaluOp op a b = a ^^^ b := by rw [h]; rfl
theorem xaluOp_shl (h : op = 6) (hb : b.toNat < 64) : xaluOp op a b = a <<< b.toNat := by rw [h]; exact ofNat_shiftBy_left a hb
theorem xaluOp_shr (h : op = 7) (hb : b.toNat < 64) : xaluOp op a b = a >>> b.toNat := by rw [h]; exact ofNat_shiftBy_right a hb
theorem xaluOp_sra (h : op = 8) (hb : b.toNat < 64) : xaluOp op a b = a.sshiftRight b.toNat := by
  rw [h]; exact ofNat_shiftBy_arith a hb
theorem xaluOp_min (h : op = 9) : xaluOp op a b = if a.sle b then a else b := by simp [h, xaluOp, BitVec.sle_iff_toInt_le]
theorem xaluOp_max (h : op = 10) : xaluOp op a b = if b.sle a then a else b := by simp [h, xaluOp, BitVec.sle_iff_toInt_le]
theorem xaluOp_minu (h : op = 11) : xaluOp op a b = if a ≤ b then a else b := by rw [h]; rfl
theorem xaluOp_maxu (h : op = 12) : xaluOp op a b = if b ≤ a then a else b := by rw [h]; rfl

end

/-! ### Branches -/

/-- The path epoch that a BRT opens (R58, R59). -/
def Core.opened (x : Core) (w : InstrWord) : Epoch :=
  { id := x.nextEpoch, tile := x.accTile.seq, queue := selA w - 0x30, predicted := predictTaken w,
    altPc := branchTo x.accPc (wTarget w) (!predictTaken w), savedX := x.x, popped := [], faults := [], commands := 0 }


/-- The core after a branch of the access stream. -/
theorem goto_spec (s : State) (c : CoreId) (pc : Nat) :
    let k := coreKey c
    let t := (s.issueAcc k none).accGoto k pc
    s.OnlyCore t c ∧ t.core k = { (s.core k).issueAcc none s.time with accPc := pc } := by
  intro k t
  refine ⟨((State.OnlyCore.refl s c).issueAcc none).modCore _, ?_⟩
  change ((s.issueAcc k none).modCore k _).core k = _
  rw [State.core_modCore_same, State.core_issueAcc]

theorem Core.accFrame_goto (x : Core) (now pc : Nat) : x.AccFrame { x.issueAcc none now with accPc := pc } :=
  ⟨⟨rfl, rfl⟩, ⟨rfl, rfl, rfl, rfl, rfl, rfl, rfl⟩, ⟨rfl, rfl, rfl⟩, rfl, rfl, rfl, rfl⟩

theorem Core.accTile_updateLast {x y : Core} {f : TileRun → TileRun} (hy : y.tiles = updateLast f x.tiles) (h : x.tiles ≠ []) :
    y.accTile = f x.accTile := by
  obtain ⟨t, ht⟩ := Option.ne_none_iff_exists'.mp (mt List.getLast?_eq_none_iff.mp h)
  simp [Core.accTile, hy, ht]

@[simp] theorem updateLast_eq_nil {α : Type} (f : α → α) (l : List α) : updateLast f l = [] ↔ l = [] := by
  rw [← List.length_eq_zero_iff, updateLast_length, List.length_eq_zero_iff]

theorem State.tiles_of_accReady (h : s.accReady c = true) : (s.core (coreKey c)).tiles ≠ [] := by
  intro hnil
  simp [State.accReady, State.coreOpen, hnil] at h

/-! ### Tokens -/

/-- The token that a TPUSH of the access stream appends (R126). -/
def State.pushed (s : State) (k : Nat) (w : InstrWord) : Token :=
  { id := (s.core k).nextId, val := BitVec.ofNat 32 (if selB w = 0 then wi w 0 32 else (s.accX k (selB w)).toNat),
    epoch := (s.core k).epoch, tile := (s.core k).accTile.seq }

theorem Core.accToken_eq {x : Core} {q : Nat} {t : Token} (he : ∀ e ∈ x.epochs, e.queue ≠ q) (hh : (x.tokens q).head? = some t)
    (ht : t.tile = x.accTile.seq) : x.accToken q = some t := by
  have hany : x.epochs.any (fun e => e.queue == q) = false := by simpa using he
  simp [Core.accToken, hany, hh, ht]

theorem Core.tokens_pushToken (x : Core) (q i : Nat) (t : Token) :
    (x.pushToken q t).tokens i = if i = q then x.tokens i ++ [t] else x.tokens i := by
  change tget (tset x.tqs q (x.tokens q ++ [t])) i [] = _
  rw [tget_tset]
  split
  · next h => rw [h]
  · rfl

theorem Core.tokens_popToken (x : Core) (q i : Nat) :
    (x.popToken q).tokens i = if i = q then (x.tokens i).drop 1 else x.tokens i := by
  change tget (tset x.tqs q ((x.tokens q).drop 1)) i [] = _
  rw [tget_tset]
  split
  · next h => rw [h]
  · rfl

/-- A token popped touches its queue, the commands that retire by it, and what the last path epoch remembers of it. -/
theorem Core.accPop_frame (x : Core) (q : Nat) :
    x.accPop q = { x with tqs := (x.accPop q).tqs, ops := (x.accPop q).ops, epochs := (x.accPop q).epochs } := by
  unfold Core.accPop
  split <;> rfl

theorem Core.tokens_accPop (x : Core) (q i : Nat) : (x.accPop q).tokens i = if i = q then (x.tokens i).drop 1 else x.tokens i := by
  unfold Core.accPop
  split
  · next h =>
    split
    · next hi => rw [hi, h]; rfl
    · rfl
  · exact x.tokens_popToken q i

theorem exec_branchOutcome {e : Epoch} {tok : Token} (hworks : s.works = true) (hfrozen : (s.core (coreKey c)).frozen = false)
    (he : (s.core (coreKey c)).epochs.head? = some e) (htok : ((s.core (coreKey c)).tokens e.queue).head? = some tok)
    (htile : tok.tile = (s.core (coreKey c)).accTile.seq) :
    let u := s.modCore (coreKey c) (fun y => { y.popToken e.queue with lastIssue := s.time })
    exec (.branchOutcome c) s = .next (if (tok.val != 0) = e.predicted then u.confirm (coreKey c) e else u.refute (coreKey c) e) := by
  change execBranchOutcome c s = _
  have ht : ((s.core (coreKey c)).tokens e.queue).head?.filter (fun t => t.tile == (s.core (coreKey c)).accTile.seq) = some tok := by
    simp [htok, htile]
  unfold execBranchOutcome
  simp only [he, Option.bind_some, ht]
  rw [when_true (by simp [hworks, hfrozen])]
  simp only [beq_iff_eq]

end Sys2Proof.Machine

namespace Sys2Proof
open Sys2Proof.Machine

/-- Settles O1. -/
theorem accessArithmetic : Obligations.AccessArithmetic := by
  intro c w s k a b
  refine ⟨fun h => ?_, fun h => ?_, fun h => ?_⟩
  · refine ⟨_, onCore_takesAcc h (by simp), (State.OnlyCore.refl s c).issueAcc none, ?_⟩
    rw [State.core_issueAcc]
    exact ⟨Core.accFrame_issueAcc _ _ _, rfl, rfl⟩
  · obtain ⟨honly, hframe, hpc, hregs⟩ := writeX_spec s c (selD w) (xaluOp (wm w 16 4) a b)
    refine ⟨_, _, onCore_takesAcc h (by simp), honly, hframe, hpc, hregs, ?_⟩
    exact ⟨xaluOp_add, xaluOp_sub, xaluOp_mul, xaluOp_and, xaluOp_or, xaluOp_xor, xaluOp_shl, xaluOp_shr, xaluOp_sra, xaluOp_min,
      xaluOp_max, xaluOp_minu, xaluOp_maxu⟩
  · obtain ⟨honly, hframe, hpc, hregs⟩ := writeX_spec s c (selD w) w.imm
    exact ⟨_, onCore_takesAcc h (by simp), honly, hframe, hpc, hregs⟩

/-- Settles O2. -/
theorem accessBranches : Obligations.AccessBranches := by
  intro c w s k a b pc
  refine ⟨fun h => ?_, fun h => ?_, fun h => ?_⟩
  · obtain ⟨honly, hcore⟩ := goto_spec s c (branchTo pc (wTarget w) (brxHolds (wm w 16 3) a b))
    refine ⟨_, brxHolds (wm w 16 3) a b, onCore_takesAcc h (by simp), honly, ?_⟩
    rw [hcore]
    refine ⟨Core.accFrame_goto _ _ _, rfl, rfl, ?_, ?_, ?_, ?_, ?_, ?_⟩
    all_goals intro hop; simp [brxHolds, hop, BitVec.lt_def, BitVec.le_def]
  · obtain ⟨honly, hcore⟩ := goto_spec s c (branchTo pc (wTarget w) true)
    refine ⟨_, onCore_takesAcc h (by simp), honly, ?_⟩
    rw [hcore]
    exact ⟨Core.accFrame_goto _ _ _, rfl, rfl⟩
  · refine ⟨_, onCore_takesAcc h (by simp), ((State.OnlyCore.refl s c).issueAcc none).modCore _, ?_⟩
    rw [State.core_modCore_same, State.core_issueAcc]
    refine ⟨⟨⟨rfl, rfl⟩, ⟨rfl, rfl, rfl, rfl, rfl, rfl, rfl⟩, ⟨rfl, rfl, rfl⟩, rfl, rfl, rfl, rfl⟩, rfl, rfl, ?_, ?_⟩
    · rw [Core.accTile_updateLast (x := (s.core k).issueAcc none s.time) rfl]
      exact mt (updateLast_eq_nil _ _).mp (State.tiles_of_accReady h.2.1)
    · simp only [List.isEmpty_iff]
      exact ite_congr (propext (updateLast_eq_nil _ _)) (fun _ => rfl) (fun _ => rfl)

/-- Settles O3. -/
theorem branchPrediction : Obligations.BranchPrediction := by
  intro c w s k x goes
  refine ⟨fun h hlen => ?_, fun e tok hworks hfrozen he htok htile => ?_⟩
  · refine ⟨_, x.opened w, onCore_takesAcc h (by simpa using hlen), ((State.OnlyCore.refl s c).issueAcc none).modCore _ |>.modCore _, ?_⟩
    obtain ⟨-, hcore⟩ := goto_spec s c (branchTo x.accPc (wTarget w) (predictTaken w))
    rw [State.core_modCore_same, hcore]
    refine ⟨⟨⟨rfl, rfl⟩, ⟨rfl, rfl, rfl, rfl, rfl, rfl, rfl⟩, ⟨rfl, rfl, rfl⟩, rfl, rfl, rfl, rfl⟩, rfl, List.getLast?_concat, ?_, rfl, rfl,
      rfl, rfl, rfl, ?_, ?_, ?_⟩
    · rw [List.length_append, List.length_singleton]
      exact congrArg (· + 1) (updateLast_length _ _)
    all_goals intro hop; simp [Core.opened, predictTaken, hop]
  · exact exec_branchOutcome hworks hfrozen he htok htile

/-- Settles O4. -/
theorem accessTokens : Obligations.AccessTokens := by
  intro c w s k x
  refine ⟨fun h hlen => ?_, fun tok h hep hhead htile => ?_⟩
  · refine ⟨_, s.pushed k w, onCore_takesAcc h (by simpa [Core.tqFull] using hlen), ((State.OnlyCore.refl s c).modCore _).issueAcc _, ?_⟩
    rw [State.core_issueAcc, State.core_modCore_same]
    refine ⟨fun q => Core.tokens_pushToken _ _ _ _, ?_, rfl, rfl, rfl, rfl, ⟨rfl, rfl, rfl, rfl, rfl, rfl, rfl⟩, ⟨rfl, rfl, rfl⟩, rfl, rfl⟩
    simp only [State.pushed]
    split
    · rfl
    · exact BitVec.ofNat_toNat _ _
  · have htok : x.accToken (selA w - 0x30) = some tok := Core.accToken_eq hep hhead htile
    refine ⟨_, onCore_takesAcc h (by simp [k, x] at htok; simp [htok]), ((State.OnlyCore.refl s c).modCore _).issueAcc _, ?_⟩
    rw [State.core_issueAcc, State.core_modCore_same]
    refine ⟨fun q => ?_, fun i => ?_, ?_⟩
    · rw [Core.setX_frame]; exact Core.tokens_accPop _ _ _
    · refine (Core.xreg_setX _ _ _ _).trans ?_
      rw [Core.accPop_frame, htok]
      have hval : BitVec.ofNat 64 tok.val.toNat = tok.val.setWidth 64 := BitVec.ofNat_toNat _ _
      rw [← hval]
      rfl
    · rw [Core.setX_frame, Core.accPop_frame]
      exact ⟨rfl, rfl, ⟨rfl, rfl, rfl, rfl, rfl, rfl, rfl⟩, ⟨rfl, rfl, rfl⟩, rfl, rfl⟩

end Sys2Proof
end

section
/-!
Loads, stores, atomics, invalidations and fences (O5 to O7): an access that nothing holds back has its effect, and a wait that has ended
lets its stream go on.
-/
namespace Sys2Proof.Machine

variable {s : State} {c : CoreId} {w : InstrWord}

/-! ### What does not hold an access back -/

theorem addrOk_of_le {a n : Nat} (hn : 0 < n) (h : a + n ≤ 2 ^ 56) : addrOk a n = true := by
  simp only [addrOk, decide_eq_true_eq]; omega

theorem rangeLen_pos (r : Nat) : 0 < rangeLen r := by simp only [rangeLen]; omega
theorem rowLen_pos (w : InstrWord) : 0 < rowLen w := by simp only [rowLen]; omega
theorem rows2d_pos {a pitch base n : Nat} (w : InstrWord) {e : Nat × Nat × Nat} (h : e ∈ rows2d a pitch (rowLen w) base n) :
    0 < e.2.1 := by
  obtain ⟨i, _, rfl⟩ := List.mem_map.mp h
  exact rowLen_pos w
theorem gatherSize_pos (w : InstrWord) : 0 < gatherSize w := by unfold gatherSize; split <;> omega
theorem wm_lt (w : InstrWord) (lo n : Nat) : wm w lo n < 2 ^ n := bitsOf_lt _ _ _

/-- With no branch open, no address waits for one (R63). -/
theorem specStalls_nil {k : Nat} (he : (s.core k).epochs = []) (ctx : Nat) (vas : List Nat) : s.specStalls k ctx vas = [] := by
  have hnone : s.specStall k ctx = fun _ => none := by
    funext va
    simp [State.specStall, he]
  simp [State.specStalls, hnone]

theorem heldStalls_go {k ctx : Nat} {vas : List Nat} (he : (s.core k).epochs = []) (hs : s.slotsShort k ctx vas true = false) :
    ∀ e ∈ s.heldStalls k ctx vas, e.1 = false := by
  simp [State.heldStalls, he, specStalls_nil he, hs]

/-- A word that the translator lets pass has its ranges in bounds (R124, R137). -/
theorem rangeInside_of_wordOk {op r : Nat} (h : wordOk op w = true) (hr : r ∈ wordRanges op w) : rangeInside r = true := by
  by_contra hin
  have hbad : (!(wordRanges op w).all rangeInside) = true := by
    rw [Bool.not_eq_true', List.all_eq_false]
    exact ⟨r, hr, hin⟩
  have hreason : ∀ access minor, wordReason access minor op w ≠ 0 := by
    intro access minor
    unfold wordReason
    split
    · decide
    · simp only [hbad, Bool.true_or, if_true]
      repeat' split
      all_goals decide
  simp [wordOk, hreason] at h

theorem spadReserved_of_inside {r : Nat} (h : rangeInside r = true) : rangeBase r + rangeLen r ≤ spadReserved := by
  simp only [rangeInside, Bool.and_eq_true, decide_eq_true_eq] at h
  exact h.2

/-! ### Loads -/

/-- A load that is in bounds, with room for its entry and its requests (R54, R63, R124, R127). -/
structure State.LoadGoes (s : State) (k : Nat) (w : InstrWord) (y : LoadSpec) : Prop where
  epochs : (s.core k).epochs = []
  room : selC w ≠ 0 → ((s.core k).entries (selC w - 0x20)).length < 64
  addrs : ∀ r ∈ y.ranges, addrOk r.1 r.2.1 = true
  slots : s.slotsShort k (s.core k).accTile.ctx ((byLine (cutPieces y.ranges)).map (·.1))
    (decide (wm w 20 1 = 1) || (decide (wm w 17 1 = 1) && decide (wm w 18 2 ≥ 2))) = false
  reads : ∀ r, y.reads = some r → (s.core k).loadPending r.1 r.2 = false

theorem onCore_loadStep {row : String} {op : Nat} {y : LoadSpec} {spad : Bool} (h : s.AccTakes c op w) (hs : spad = true)
    (hgo : s.LoadGoes (coreKey c) w y) :
    onCore row op w (s.accReady c) (s.loadStep (coreKey c) w y spad) =
      .next (s.startLoads (coreKey c) w y (byLine (cutPieces y.ranges))) := by
  have hany : y.ranges.any (fun r => !addrOk r.1 r.2.1) = false := by simpa using hgo.addrs
  have hqueue : ∀ e ∈ (match loadQueue w with
      | some q => [((s.core (coreKey c)).dqFull q, StallKind.dataQueueFull q)] | none => []), e.1 = false := by
    unfold loadQueue
    by_cases hc : selC w = 0
    · simp [hc]
    · simpa [hc, Core.dqFull] using hgo.room hc
  have hreads : ∀ e ∈ (match y.reads with
      | some r => [((s.core (coreKey c)).loadPending r.1 r.2, StallKind.interlock r.1 r.2)] | none => []), e.1 = false := by
    have := hgo.reads
    split
    · next r hr => simpa using this r hr
    · simp
  unfold State.loadStep
  simp only [hs, hany, Bool.not_true, Bool.false_eq_true, if_false]
  refine onCore_takesAcc h fun e he => ?_
  simp only [List.mem_append, specStalls_nil hgo.epochs, hgo.epochs, hgo.slots, List.mem_cons, List.not_mem_nil, or_false] at he
  obtain ((he | rfl | rfl) | he) := he
  · exact hqueue e he
  · simp
  · rfl
  · exact hreads e he

@[simp] theorem LoadSpec.staged_base (y : LoadSpec) (p : Option TldPlan) : (y.staged p).base = y.base := by cases p <;> rfl
@[simp] theorem LoadSpec.staged_len (y : LoadSpec) (p : Option TldPlan) : (y.staged p).len = y.len := by cases p <;> rfl
@[simp] theorem LoadSpec.staged_reads (y : LoadSpec) (p : Option TldPlan) : (y.staged p).reads = y.reads := by cases p <;> rfl
theorem LoadSpec.staged_tld (y : LoadSpec) (p : Option TldPlan) (h : y.tld = none) : (y.staged p).tld = p := by cases p <;> [exact h; rfl]
theorem LoadSpec.staged_ranges (y : LoadSpec) (p : Option TldPlan) {ranges : List (Nat × Nat × Nat)} (hn : p = none → ranges = y.ranges)
    (hs : p ≠ none → ranges = y.ranges.map (fun r => (r.1, r.2.1, r.2.2 - y.base))) : (y.staged p).ranges = ranges := by
  cases p
  · exact (hn rfl).symm
  · exact (hs (by simp)).symm

/-- Where a piece goes does not matter to its address. -/
theorem LoadSpec.staged_addrs {y : LoadSpec} {p : Option TldPlan} (h : ∀ r ∈ y.ranges, addrOk r.1 r.2.1 = true) :
    ∀ r ∈ (y.staged p).ranges, addrOk r.1 r.2.1 = true := by
  cases p with
  | none => exact h
  | some p =>
    intro r hr
    obtain ⟨r', hr', rfl⟩ := List.mem_map.mp hr
    exact h r' hr'

/-- A load of rows, in the form in which the translator lets it start (R83 to R86). -/
theorem load_starts {row : String} {op base len : Nat} {y : LoadSpec} {spad : Bool} {rows ranges : List (Nat × Nat × Nat)}
    (h : s.AccTakes c op w) (he : (s.core (coreKey c)).epochs = [])
    (hroom : selC w ≠ 0 → ((s.core (coreKey c)).entries (selC w - 0x20)).length < 64) (hs : spad = true)
    (hy : y.ranges = rows ∧ y.base = base ∧ y.len = len ∧ y.tld = none)
    (hreads : ∀ r, y.reads = some r → (s.core (coreKey c)).loadPending r.1 r.2 = false) (hpos : ∀ e ∈ rows, 0 < e.2.1)
    (hn : s.substitute (coreKey c) w base len = none → ranges = rows)
    (hsome : s.substitute (coreKey c) w base len ≠ none → ranges = rows.map (fun r => (r.1, r.2.1, r.2.2 - base)))
    (hrows : ∀ e ∈ rows, e.1 + e.2.1 ≤ 2 ^ 56)
    (hslots : s.slotsShort (coreKey c) (s.core (coreKey c)).accTile.ctx ((byLine (cutPieces ranges)).map (·.1))
      (decide (wm w 20 1 = 1) || (decide (wm w 17 1 = 1) && decide (wm w 18 2 ≥ 2))) = false) :
    ∃ z : LoadSpec, onCore row op w (s.accReady c)
        (s.loadStep (coreKey c) w (y.staged (s.substitute (coreKey c) w base len)) spad) =
        .next (s.startLoads (coreKey c) w z (byLine (cutPieces ranges))) ∧ z.base = base ∧ z.len = len ∧ z.ranges = ranges ∧
      z.tld = s.substitute (coreKey c) w base len := by
  obtain ⟨rfl, rfl, rfl, htld⟩ := hy
  have hranges := y.staged_ranges _ hn hsome
  refine ⟨_, ?_, LoadSpec.staged_base _ _, LoadSpec.staged_len _ _, hranges, LoadSpec.staged_tld _ _ htld⟩
  rw [onCore_loadStep h hs ⟨he, hroom, LoadSpec.staged_addrs fun r hr => addrOk_of_le (hpos r hr) (hrows r hr), by rwa [hranges],
    by simpa using hreads⟩, hranges]

/-! ### Stores -/

/-- A store of rows that is in bounds, with its token there and no load that writes its bytes (R53, R63, R144). -/
theorem onCore_storeStep {row : String} {op base len addr : Nat} {rows : List (Nat × Nat × Nat)} (h : s.AccTakes c op w)
    (he : (s.core (coreKey c)).epochs = []) (htok : selC w = 0 ∨ (s.core (coreKey c)).accToken (selC w - 0x30) ≠ none)
    (hspad : base + len ≤ spadReserved) (hrows : ∀ r ∈ rows, addrOk r.1 r.2.1 = true)
    (hpend : (s.core (coreKey c)).loadPending base len = false)
    (hslots : s.slotsShort (coreKey c) (s.core (coreKey c)).accTile.ctx ((cutPieces rows).map (·.va)) true = false) :
    onCore row op w (s.accReady c) (s.storeStep (coreKey c) w rows base len addr) =
      .next ((if selC w = 0 then s else s.modCore (coreKey c) (fun y => y.accPop (selC w - 0x30))).putHeld (coreKey c) w
        ((cutPieces rows).map (fun p => s.coreReq (s.core (coreKey c)).accTile .write p.va (p.len - 1) 0 (s.getSpad (coreKey c) p.spad p.len)))
        false false 0) := by
  have hany : rows.any (fun r => !addrOk r.1 r.2.1) = false := by simpa using hrows
  have hok : spadOk base len = true := by simpa [spadOk] using hspad
  unfold State.storeStep
  simp only [hany, hok, Bool.not_true, Bool.false_eq_true, if_false]
  rw [onCore_takesAcc h]
  · by_cases hc : selC w = 0 <;> simp [hc]
  · intro e hmem
    simp only [List.mem_append, List.mem_cons, List.not_mem_nil, or_false] at hmem
    obtain ((hmem | hmem) | rfl) := hmem
    · exact heldStalls_go he hslots e hmem
    · by_cases hc : selC w = 0
      · simp [hc] at hmem
      · obtain hz | htok := htok
        · exact absurd hz hc
        · simp only [hc, if_false, List.mem_cons, List.not_mem_nil, or_false] at hmem
          rw [hmem]
          simpa [Option.isSome_iff_ne_none] using htok
    · exact hpend

theorem exec_atom {wide : Bool} (h : s.AccTakes c 0x0300 w) (he : (s.core (coreKey c)).epochs = []) (hw : wide = (wm w 26 1 == 1))
    (ha : (s.accX (coreKey c) (selA w)).toNat < 2 ^ 56) (hal : (s.accX (coreKey c) (selA w)).toNat % (if wide then 8 else 4) = 0)
    (hstrict : (s.ctx (s.core (coreKey c)).accTile.ctx).strict = true → wm w 22 4 ≠ 9)
    (hslots : s.slotsShort (coreKey c) (s.core (coreKey c)).accTile.ctx [(s.accX (coreKey c) (selA w)).toNat] true = false) :
    let t := (s.core (coreKey c)).accTile
    let go := s.putHeld (coreKey c) w
      [{ s.coreReq t .atomic (s.accX (coreKey c) (selA w)).toNat (wm w 22 4 + 16 * b2n wide)
          ((s.accX (coreKey c) (selB w)).toNat % (if wide then 2 ^ 64 else 2 ^ 32)) [] with
         noCombine := decide (wm w 22 4 = 9) && !(s.ctx t.ctx).fpCombine }] false true (selD w)
    exec (.atom c w) s = .next (if selD w ≠ 0 ∧ go.atomicsOpen (coreKey c) ((s.core (coreKey c)).nextId + 1) = true
      then go.stallAcc (coreKey c) .ordering else go) := by
  intro t go
  change execAtom c w s = _
  have hbad : atomBad (s.ctx (s.core (coreKey c)).accTile.ctx).strict wide (wm w 22 4) (s.accX (coreKey c) (selA w)).toNat = none := by
    simp only [atomBad, addrOk_of_le Nat.one_pos ha, hal]
    simpa using hstrict
  unfold execAtom
  simp only [← hw, hbad]
  exact onCore_takesAcc h (heldStalls_go he hslots)

theorem exec_inv (h : s.AccTakes c 0x0301 w) (he : (s.core (coreKey c)).epochs = [])
    (hab : (s.accX (coreKey c) (selA w)).toNat + (s.accX (coreKey c) (selB w)).toNat ≤ 2 ^ 56)
    (ha : (s.accX (coreKey c) (selA w)).toNat < 2 ^ 56) (hslots : s.slotsHeld < replySlots) :
    exec (.inv c w) s = .next (s.putHeld (coreKey c) w [s.coreReq (s.core (coreKey c)).accTile .invalidate
      (s.accX (coreKey c) (selA w)).toNat 0 (s.accX (coreKey c) (selB w)).toNat []] true false 0) := by
  change execInv c w s = _
  have hrange : addrOk (s.accX (coreKey c) (selA w)).toNat (s.accX (coreKey c) (selB w)).toNat = true := by
    simp only [addrOk, decide_eq_true_eq]; omega
  unfold execInv
  simp only [addrOk_of_le Nat.one_pos ha, hrange, Bool.not_true, Bool.false_eq_true, or_self, if_false]
  refine onCore_takesAcc h ?_
  simp [he, hslots]

/-! ### Fences -/

theorem onCore_fenceStep {row : String} {op : Nat} {kind : BarrierKind} (h : s.AccTakes c op w) (he : (s.core (coreKey c)).epochs = []) :
    onCore row op w (s.accReady c) (s.fenceStep (coreKey c) w kind) =
      .next (((s.modCore (coreKey c) (fun y => { y with barriers := y.barriers ++
        [{ seq := (s.core (coreKey c)).nextId, scope := wm w 18 2, kind := kind, mark := decide (wm w 18 2 ≥ 2),
           upTo := s.fabric.nextAccess }] })).issueAcc (coreKey c) none).pump (coreKey c)) := by
  unfold State.fenceStep
  exact onCore_takesAcc h (by simp [he])

/-! ### The end of a stall and of a load -/

theorem exec_stallCleared_access {p : StallKind × Nat} (hw : s.works = true) (hf : (s.core (coreKey c)).frozen = false)
    (hp : (s.core (coreKey c)).accStall = some p) (hfree : s.accFree (coreKey c) p.1 = true) :
    exec (.stallCleared c .access) s = .next (s.modCore (coreKey c) (fun c => { c with accStall := none })) :=
  when_true (by simp [hw, hf, hp, hfree])

theorem exec_stallCleared_execute {p : StallKind × Nat} (hw : s.works = true) (hf : (s.core (coreKey c)).frozen = false)
    (hp : (s.core (coreKey c)).exeStall = some p) (hfree : s.exeFree (coreKey c) p.1 = true) :
    exec (.stallCleared c .execute) s = .next ((s.countGangWait (coreKey c)).modCore (coreKey c) (fun c => { c with exeStall := none })) :=
  when_true (by simp [hw, hf, hp, hfree])

/-- The wait for the gang unit is counted in the cluster alone (R94). -/
theorem State.countGangWait_frame (s : State) (k : Nat) : s.countGangWait k = { s with clusters := (s.countGangWait k).clusters } := by
  unfold State.countGangWait
  split <;> rfl

theorem State.tallyOn_mems (s : State) (k epoch ctx : Nat) (m : Made) :
    (s.tallyOn k epoch ctx m).dram = s.dram ∧ (s.tallyOn k epoch ctx m).hostMem = s.hostMem := by
  unfold State.tallyOn
  split <;> exact ⟨rfl, rfl⟩

/-- The bytes of scales that have come to a transposing load's end, and the state that drew those that have not
(notes/assumptions/16.md). -/
def State.scaleBytes (s : State) (p : TldPlan) : List Byte × State :=
  if !isMx p.format.toNat then ([], s) else if p.scalesIn then (p.stagedScales, s) else s.drawBytes 128

/-- What the unit of a transposing load puts out when its load ends (R85). -/
def State.tldDone (s : State) (k ctx epoch : Nat) (p : TldPlan) : State :=
  let o := p.output (s.drawJob ctx) (s.scaleBytes p).1
  ((s.scaleBytes p).2.putSpad k p.dest o.1).tallyOn k epoch ctx o.2

theorem State.tldDone_mems (s : State) (k ctx epoch : Nat) (p : TldPlan) :
    (s.tldDone k ctx epoch p).dram = s.dram ∧ (s.tldDone k ctx epoch p).hostMem = s.hostMem := by
  have hscales : (s.scaleBytes p).2.dram = s.dram ∧ (s.scaleBytes p).2.hostMem = s.hostMem := by
    unfold State.scaleBytes
    split
    · exact ⟨rfl, rfl⟩
    · split <;> exact ⟨rfl, rfl⟩
  obtain ⟨hd, hh⟩ := State.tallyOn_mems ((s.scaleBytes p).2.putSpad k p.dest (p.output (s.drawJob ctx) (s.scaleBytes p).1).1) k epoch ctx
    (p.output (s.drawJob ctx) (s.scaleBytes p).1).2
  exact ⟨hd.trans hscales.1, hh.trans hscales.2⟩

/-- The context of the tile that a load is of. -/
def Core.owner (x : Core) (l : Load) : Nat := ((x.tiles.find? (fun t => t.seq == l.tile)).getD noTile).ctx

/-- A load is no longer outstanding, and its entry is ready (R54). -/
def State.loadEnded (s : State) (k : Nat) (l : Load) : State :=
  (s.modCore k (fun y =>
    { y with loads := y.loads.filter (fun z => z.id != l.id), dqs := y.dqs.map (fun q => (q.1, entryReady l.entry q.2)) })).pump k

theorem exec_loadDataWritten_plain {l : Load} (hw : s.works = true) (hl : (s.core (coreKey c)).load? l.id = some l) (hm : l.missing = 0)
    (ht : l.tld = none) : exec (.loadDataWritten c l.id) s = .next (s.loadEnded (coreKey c) l) := by
  change execLoadDataWritten c l.id s = _
  unfold execLoadDataWritten State.loadEnded
  simp only [hl, ht]
  rw [when_true (by simp [hw, hm])]

theorem exec_loadDataWritten_tld {l : Load} {p : TldPlan} (hw : s.works = true) (hl : (s.core (coreKey c)).load? l.id = some l)
    (hm : l.missing = 0) (ht : l.tld = some p) : exec (.loadDataWritten c l.id) s =
      .next ((s.tldDone (coreKey c) ((s.core (coreKey c)).owner l) l.epoch p).loadEnded (coreKey c) l) := by
  change execLoadDataWritten c l.id s = _
  unfold execLoadDataWritten State.loadEnded State.tldDone State.scaleBytes Core.owner
  simp only [hl, ht]
  rw [when_true (by simp [hw, hm])]

end Sys2Proof.Machine

namespace Sys2Proof
open Sys2Proof.Machine

/-- Settles O5. -/
theorem loadsIssue : Obligations.LoadsIssue := by
  intro c w s k x free starts room r a pitch
  refine ⟨fun base addr h hr hb hspad ha ranges hn hs hrows hfree => ?_, fun h hr ranges hn hs hrows hfree => ?_,
    fun offs h hr h1 h0 hoffs hpend ranges hn hs hrows hfree => ?_, fun rows h hr hrw hrows hfree => ?_, fun h => ?_⟩
  · subst hb ha
    exact load_starts h hr.1 hr.2 (by simpa [spadOk] using hspad) ⟨rfl, rfl, rfl, rfl⟩ (by simp) (by simp [rangeLen_pos]) hn hs hrows hfree
  · exact load_starts h hr.1 hr.2 rfl ⟨rfl, rfl, rfl, rfl⟩ (by simp) (fun _ => rows2d_pos w) hn hs hrows hfree
  · have hfits : (decide (pitch ≤ rangeLen (slot1 w) / 4) && decide (pitch ≤ rangeLen r / gatherSize w)) = true := by simp [h1, h0]
    have hpos : ∀ e ∈ offs.zipIdx.map (fun o => ((a + o.1) % 2 ^ 64, gatherSize w, rangeBase r + o.2 * gatherSize w)), 0 < e.2.1 := by
      intro e he
      obtain ⟨o, _, rfl⟩ := List.mem_map.mp he
      exact gatherSize_pos w
    refine load_starts h hr.1 hr.2 hfits ⟨?_, rfl, rfl, rfl⟩ ?_ hpos hn hs hrows hfree
    · rw [if_pos hfits, hoffs]
    · rintro _ ⟨⟩
      exact hpend
  · subst hrw
    refine ⟨_, onCore_loadStep h rfl ⟨hr.1, hr.2, fun e he => addrOk_of_le ?_ (hrows e he), hfree, by simp⟩, rfl, rfl, _, rfl, ?_,
      rfl, rfl, rfl, rfl, rfl, rfl⟩
    · obtain ⟨i, _, rfl⟩ := List.mem_map.mp he
      exact rowLen_pos w
    · have := wm_lt w 24 4
      simp only [BitVec.toNat_ofNat]
      omega
  · exact onCore_takesAcc h (by simp)

/-- Settles O6. -/
theorem storesIssue : Obligations.StoresIssue := by
  intro c w s k x t r a b writes free tokenOk popped
  refine ⟨fun n base addr h he htok hn hb hspad ha haddr hpend hfree => ?_, fun rows h he htok hrw hrows hpend hfree => ?_,
    fun wide go h he hw ha hal hstrict hslots hgo => ?_, fun h he hab ha hslots => ?_⟩
  · subst hn hb ha
    exact onCore_storeStep h he htok hspad (by simpa using addrOk_of_le (rangeLen_pos _) haddr) hpend hfree
  · subst hrw
    exact onCore_storeStep h he htok (spadReserved_of_inside (rangeInside_of_wordOk h.1 (by simp [wordRanges])))
      (fun e hmem => addrOk_of_le (rows2d_pos w hmem) (hrows e hmem)) hpend hfree
  · subst hgo
    exact exec_atom h he hw ha hal hstrict hslots
  · exact exec_inv h he hab ha hslots

/-- Settles O7. -/
theorem fencesAndLoadEnds : Obligations.FencesAndLoadEnds := by
  intro c w s l k x ended owner whole put
  refine ⟨fun h he => onCore_fenceStep h he, fun h he => onCore_fenceStep h he, fun p hw hf hp hfree => ?_,
    fun p hw hf hp hfree => ?_, fun ⟨hw, hl, hm⟩ htld => ?_, fun p scales ⟨hw, hl, hm⟩ htld hscales => ?_, fun p ⟨hw, hl, hm⟩ htld _ _ => ?_⟩
  · refine ⟨_, exec_stallCleared_access hw hf hp hfree, (State.OnlyCore.refl s c).modCore _, ?_⟩
    rw [State.core_modCore_same]
  · refine ⟨_, exec_stallCleared_execute hw hf hp hfree, ?_⟩
    rw [State.core_modCore_same, State.countGangWait_frame]
    exact ⟨rfl, rfl, rfl⟩
  · exact exec_loadDataWritten_plain hw hl hm htld
  · have hdrawn : s.scaleBytes p = (scales, s) := by
      unfold State.scaleBytes
      obtain ⟨hmx, rfl⟩ | ⟨hmx, hin, rfl⟩ := hscales
      · simp [hmx]
      · simp [hmx, hin]
    have htail := exec_loadDataWritten_tld hw hl hm htld
    rw [State.tldDone, hdrawn] at htail
    exact htail
  · obtain ⟨hd, hh⟩ := s.tldDone_mems k owner l.epoch p
    exact ⟨_, exec_loadDataWritten_tld hw hl hm htld, hd, hh⟩

end Sys2Proof
end

section
/-!
The scalars of the execute stream (O8, O9): loop counters, branches and tokens, from the core that each leaves.
-/
namespace Sys2Proof.Machine

variable {s : State} {c : CoreId} {w : InstrWord}

/-- An instruction of the execute stream that the core takes and that no condition holds back. -/
theorem onCore_goesExe {row : String} {op : Nat} {l : List (Bool × StallKind)} {eff : State} (h : s.ExeTakes c op w)
    (hl : ∀ e ∈ l, e.1 = false) : onCore row op w (s.exeReady c) (s.exeOr (coreKey c) l eff) = .next eff := by
  rw [State.exeOr_go hl]
  exact onCore_takesExe h

/-- Tokens, loop counters and the commands that retire by a token are all that has changed. -/
def Core.OnlyScalars (x y : Core) : Prop := y = { x with tqs := y.tqs, ops := y.ops, loops := y.loops }

theorem Core.OnlyScalars.exeFrame {x y : Core} (h : x.OnlyScalars y) (now : Nat) : x.ExeFrame (y.issuedExe now) := by
  rw [h]
  exact ⟨⟨rfl, rfl, rfl, rfl, rfl, rfl, rfl⟩, ⟨rfl, rfl, rfl, rfl, rfl, rfl, rfl⟩, rfl, rfl, rfl⟩

theorem Core.OnlyScalars.exePc {x y : Core} (h : x.OnlyScalars y) (now : Nat) : (y.issuedExe now).exePc = x.exePc + 1 := by
  rw [h]; rfl

/-- Going on elsewhere is no other change. -/
theorem Core.ExeFrame.goto {x y : Core} (h : x.ExeFrame y) (pc : Nat) : x.ExeFrame { y with exePc := pc } := h

theorem Core.onlyScalars_popToken (x : Core) (q : Nat) : x.OnlyScalars (x.popToken q) := rfl

/-- The change of one core at an issue of the execute stream. -/
theorem issueExe_spec (s : State) (c : CoreId) (f : Core → Core) :
    let t := (s.modCore (coreKey c) f).issueExe (coreKey c)
    s.OnlyCore t c ∧ t.core (coreKey c) = (f (s.core (coreKey c))).issuedExe s.time := by
  refine ⟨((State.OnlyCore.refl s c).modCore _).issueExe, ?_⟩
  rw [State.core_issueExe, State.core_modCore_same]
  rfl

theorem exeGoto_spec (s : State) (c : CoreId) (f : Core → Core) (pc : Nat) :
    let t := ((s.modCore (coreKey c) f).issueExe (coreKey c)).exeGoto (coreKey c) pc
    s.OnlyCore t c ∧ t.core (coreKey c) = { (f (s.core (coreKey c))).issuedExe s.time with exePc := pc } := by
  obtain ⟨honly, hcore⟩ := issueExe_spec s c f
  refine ⟨honly.modCore _, ?_⟩
  rw [← hcore]
  exact State.core_modCore_same _ _ _

theorem branchTo_goes {pc : Nat} {off : Int} {b : Bool} {p : Prop} (h : b = true ↔ p) :
    (p → branchTo pc off b = ((pc : Int) + 1 + off).toNat) ∧ (¬ p → branchTo pc off b = pc + 1) := by
  rw [← h]
  cases b <;> simp [branchTo]

theorem imm32_eq (w : InstrWord) : BitVec.ofNat 32 (wi w 0 32) = w.imm.setWidth 32 := by
  apply BitVec.eq_of_toNat_eq
  simp [wi, bitsOf]

/-! ### Tokens -/

theorem Core.headToken_eq {x : Core} {q : Nat} {t : Token} (hh : (x.tokens q).head? = some t) (ht : t.tile = x.exeTile.seq)
    (hu : x.unconfirmed t.epoch = false) : x.headToken q = some t := by
  simp [Core.headToken, hh, ht, hu]

theorem Core.tokenWait_go {x : Core} {q : Nat} {t : Token} (h : x.headToken q = some t) : ∀ e ∈ x.tokenWait q, e.1 = false := by
  simp [Core.tokenWait, h]

theorem Core.headVal_eq {x : Core} {q : Nat} {t : Token} (h : x.headToken q = some t) : x.headVal q = t.val := by
  simp [Core.headVal, h]

/-- A token pushed by the execute stream. -/
theorem exe_push {row : String} {op q v : Nat} (h : s.ExeTakes c op w) (hroom : ((s.core (coreKey c)).tokens q).length < 32) :
    let x := s.core (coreKey c)
    ∃ t tok, onCore row op w (s.exeReady c) (s.exeOr (coreKey c) [(x.tqFull q, .tokenFull q)]
        ((s.modCore (coreKey c) (fun c => c.pushToken q (x.exeToken v))).issueExe (coreKey c))) = .next t ∧ s.OnlyCore t c ∧
      x.ExeFrame (t.core (coreKey c)) ∧ (t.core (coreKey c)).loops = x.loops ∧ (t.core (coreKey c)).exePc = x.exePc + 1 ∧
      (∀ i, (t.core (coreKey c)).tokens i = if i = q then x.tokens i ++ [tok] else x.tokens i) ∧ tok.val = BitVec.ofNat 32 v ∧
      tok.tile = x.exeTile.seq := by
  intro x
  obtain ⟨honly, hcore⟩ := issueExe_spec s c (fun c => c.pushToken q (x.exeToken v))
  have hscalars : x.OnlyScalars (x.pushToken q (x.exeToken v)) := rfl
  refine ⟨_, x.exeToken v, onCore_goesExe h (by simpa [Core.tqFull] using hroom), honly, ?_⟩
  rw [hcore]
  exact ⟨hscalars.exeFrame _, rfl, hscalars.exePc _, fun i => Core.tokens_pushToken _ _ _ _, rfl, rfl⟩

end Sys2Proof.Machine

namespace Sys2Proof
open Sys2Proof.Machine

/-- Settles O8. -/
theorem executeLoops : Obligations.ExecuteLoops := by
  intro c w s k x goes
  refine ⟨fun h => ?_, fun h => ?_, fun h => ?_, fun tok h hhead htile hconf => ?_⟩
  · refine ⟨_, onCore_takesExe h, (State.OnlyCore.refl s c).issueExe, ?_⟩
    rw [State.core_issueExe]
    exact ⟨⟨⟨rfl, rfl, rfl, rfl, rfl, rfl, rfl⟩, ⟨rfl, rfl, rfl, rfl, rfl, rfl, rfl⟩, rfl, rfl, rfl⟩, rfl, rfl, rfl⟩
  · let f : Core → Core := fun c => { c with loops := tset c.loops (selD w - 0x38) (BitVec.ofNat 32 (wi w 0 32)) }
    have hscalars : x.OnlyScalars (f x) := rfl
    obtain ⟨honly, hcore⟩ := issueExe_spec s c f
    refine ⟨_, onCore_takesExe h, honly, ?_⟩
    rw [hcore]
    refine ⟨hscalars.exeFrame _, rfl, fun i => ?_, hscalars.exePc _⟩
    rw [← imm32_eq]
    exact tget_tset _ _ _ _ _
  · let f : Core → Core := fun c => { c with loops := tset c.loops (selD w - 0x38) (x.loop (selD w - 0x38) - 1) }
    have hscalars : x.OnlyScalars (f x) := rfl
    obtain ⟨honly, hcore⟩ := exeGoto_spec s c f (branchTo x.exePc (wTarget w) (x.loop (selD w - 0x38) - 1 != 0))
    refine ⟨_, onCore_takesExe h, honly, ?_⟩
    rw [hcore]
    refine ⟨(hscalars.exeFrame _).goto _, rfl, fun i => ?_, branchTo_goes ?_⟩
    · rw [show (if i = selD w - 0x38 then x.loop i - 1 else x.loop i) =
          if i = selD w - 0x38 then x.loop (selD w - 0x38) - 1 else x.loop i by split <;> simp_all]
      exact tget_tset _ _ _ _ _
    · rw [bne_iff_ne, ne_eq, ne_eq, sub_eq_zero]
  · have htok : x.headToken (selA w - 0x30) = some tok := Core.headToken_eq hhead htile hconf
    obtain ⟨honly, hcore⟩ := exeGoto_spec s c (fun c => c.popToken (selA w - 0x30))
      (branchTo x.exePc (wTarget w) (x.headVal (selA w - 0x30) != 0))
    refine ⟨_, onCore_goesExe h (Core.tokenWait_go htok), honly, ?_⟩
    rw [hcore]
    refine ⟨((x.onlyScalars_popToken _).exeFrame _).goto _, rfl, fun q => Core.tokens_popToken _ _ _, branchTo_goes ?_⟩
    rw [Core.headVal_eq htok, bne_iff_ne]

/-- Settles O9. -/
theorem executeTokens : Obligations.ExecuteTokens := by
  intro c w s k x qd qa e
  refine ⟨fun h hroom => ?_, fun h hroom => ?_, fun tok h hhead htile hconf => ?_⟩
  · rw [← imm32_eq]
    exact exe_push h hroom
  · rw [← imm32_eq]
    obtain ⟨t, tok, ht, honly, hframe, hloops, hpc, htoks, hval, htile⟩ :=
      exe_push (row := "TPUSHE") (v := b2n (relHolds (wm w 16 3) e (BitVec.ofNat 32 (wi w 0 32)))) h hroom
    refine ⟨t, tok, ht, honly, hframe, hloops, hpc, htoks, hval.trans ?_, htile⟩
    cases relHolds (wm w 16 3) e (BitVec.ofNat 32 (wi w 0 32)) <;> rfl
  · have htok : x.headToken qa = some tok := Core.headToken_eq hhead htile hconf
    let f : Core → Core := fun c =>
      if selD w = 0 then c.popToken qa else { c.popToken qa with loops := tset (c.popToken qa).loops (selD w - 0x38) (x.headVal qa) }
    have hscalars : x.OnlyScalars (f x) := by
      simp only [f]
      split <;> rfl
    obtain ⟨honly, hcore⟩ := issueExe_spec s c f
    refine ⟨_, onCore_goesExe h (Core.tokenWait_go htok), honly, ?_⟩
    refine hcore ▸ ⟨hscalars.exeFrame _, hscalars.exePc _, fun q => ?_, fun i => ?_⟩
    · refine Eq.trans ?_ (Core.tokens_popToken x qa q)
      simp only [f]
      split <;> rfl
    · rw [← Core.headVal_eq htok]
      by_cases hd : selD w = 0
      · simp only [hd, f, ne_eq, not_true_eq_false, false_and, if_false, if_true]; rfl
      · simp only [hd, f, ne_eq, not_false_eq_true, true_and, if_false]
        exact tget_tset _ _ _ _ _

end Sys2Proof
end

section
/-!
The cubes (O10 to O12): planes, accumulator tiles, passes and the fill buffer.
-/
namespace Sys2Proof.Machine

variable {s : State} {c : CoreId} {w : InstrWord}

/-! ### What an instruction of the cubes may touch -/

/-- Cubes, MV batches, counters and popped operands are all that has changed. -/
def Core.OnlyCubes (x y : Core) : Prop :=
  y = { x with cubes := y.cubes, fill := y.fill, counters := y.counters, dqs := y.dqs, ops := y.ops }

theorem Core.OnlyCubes.refl (x : Core) : x.OnlyCubes x := rfl

theorem Core.OnlyCubes.trans {x y z : Core} (h : x.OnlyCubes y) (h' : y.OnlyCubes z) : x.OnlyCubes z := by
  unfold Core.OnlyCubes at *
  rw [h', h]

theorem Core.OnlyCubes.usedSource {x y : Core} (h : x.OnlyCubes y) (sel : Nat) (pop : Bool) : x.OnlyCubes (y.usedSource sel pop) :=
  h.trans (by
    unfold Core.OnlyCubes
    rw [Core.usedSource_frame])

theorem Core.OnlyCubes.cubeFrame {x y : Core} (h : x.OnlyCubes y) (now : Nat) : x.CubeFrame (y.issuedExe now) := by
  rw [h]
  exact ⟨⟨rfl, rfl, rfl, rfl, rfl, rfl, rfl⟩, rfl, rfl, rfl, rfl, rfl, rfl, rfl, rfl, rfl, rfl⟩

theorem Core.OnlyCubes.exePc {x y : Core} (h : x.OnlyCubes y) (now : Nat) : (y.issuedExe now).exePc = x.exePc + 1 := by
  rw [h]; rfl

theorem Core.OnlyCubes.spad {x y : Core} (h : x.OnlyCubes y) : y.spad = x.spad := by rw [h]

theorem Core.OnlyCubes.sameAccess {x y : Core} (h : x.OnlyCubes y) : x.SameAccess y := by
  rw [h]
  exact ⟨rfl, rfl, rfl, rfl, rfl, rfl, rfl⟩

theorem Core.cubes_usedSource (x : Core) (sel : Nat) (pop : Bool) (i : Nat) : (x.usedSource sel pop).cube i = x.cube i := by
  rw [Core.usedSource_frame]; rfl

theorem Core.fill_usedSource (x : Core) (sel : Nat) (pop : Bool) : (x.usedSource sel pop).fill = x.fill := by
  rw [Core.usedSource_frame]

theorem Core.cube_setCube_other (x : Core) {i j : Nat} (q : Cube) (h : j ≠ i) : (x.setCube i q).cube j = x.cube j := by
  rw [Core.cube_setCube, if_neg h]

theorem State.viewSlot_none (s : State) (k base len : Nat) : s.viewSlot k none base len = (s.core k, {}) := rfl

/-! ### Batches that close -/

/-- The core after a batch has run, but for its counters. -/
def Core.ranBatch (x : Core) (b : MvBatch) : Core :=
  x.setCube b.cube { x.cube b.cube with
    active := (b.rows.foldl (fun z e => rowPass e.plane b.format.toNat e.a e.scales 64 e.acc false z)
      ((x.cube b.cube).active, ({} : Made))).1 }

theorem State.core_runBatch (s : State) (k : Nat) (b : MvBatch) :
    (s.runBatch k b).core k = { (s.core k).ranBatch b with counters := ((s.runBatch k b).core k).counters } := by
  unfold State.runBatch State.count
  simp only [State.core_modCore_same, State.core_tallyTile]
  rfl

theorem State.CoreAndTallies.runBatch {t : State} (h : s.CoreAndTallies t c) (b : MvBatch) :
    s.CoreAndTallies (t.runBatch (coreKey c) b) c :=
  ((h.modCore _).tallyTile _ _).count _ _

/-- What batches that run leave: cubes and counters change, the fill buffer is the caller's. -/
theorem foldl_runBatch (c : CoreId) (l : List MvBatch) (s : State) :
    let u := l.foldl (fun s b => s.runBatch (coreKey c) b) s
    s.CoreAndTallies u c ∧ u.time = s.time ∧ (s.core (coreKey c)).OnlyCubes (u.core (coreKey c)) ∧
      (u.core (coreKey c)).fill = (s.core (coreKey c)).fill ∧ (u.core (coreKey c)).dqs = (s.core (coreKey c)).dqs := by
  induction l generalizing s with
  | nil => exact ⟨State.CoreAndTallies.refl s c, rfl, rfl, rfl, rfl⟩
  | cons b l ih =>
    obtain ⟨honly, htime, hcubes, hfill, hdqs⟩ := ih (s.runBatch (coreKey c) b)
    have hrun := s.core_runBatch (coreKey c) b
    have hstep : (s.core (coreKey c)).OnlyCubes ((s.runBatch (coreKey c) b).core (coreKey c)) := by
      rw [hrun]; rfl
    refine ⟨((State.CoreAndTallies.refl s c).runBatch b).trans honly, htime, hstep.trans hcubes, hfill.trans ?_, hdqs.trans ?_⟩
    · rw [hrun]; rfl
    · rw [hrun]; rfl

/-- The batches that close leave the fill buffer; their rows run on their cubes (R73, R74). -/
theorem closeBatches_spec (s : State) (c : CoreId) (p : MvBatch → Bool) :
    let u := s.closeBatches (coreKey c) p
    let x := s.core (coreKey c)
    let y := u.core (coreKey c)
    s.CoreAndTallies u c ∧ u.time = s.time ∧ x.OnlyCubes y ∧ y.fill = x.fill.filter (fun b => !p b) ∧ y.dqs = x.dqs := by
  intro u x y
  obtain ⟨honly, htime, hcubes, hfill, hdqs⟩ := foldl_runBatch c (x.fill.filter p)
    (s.modCore (coreKey c) (fun c => { c with fill := c.fill.filter (fun b => !p b) }))
  have hcore : (s.modCore (coreKey c) (fun c => { c with fill := c.fill.filter (fun b => !p b) })).core (coreKey c) =
      { x with fill := x.fill.filter (fun b => !p b) } := State.core_modCore_same _ _ _
  rw [hcore] at hcubes hfill hdqs
  exact ⟨((State.CoreAndTallies.refl s c).modCore _).trans honly, htime, Core.OnlyCubes.trans (y := { x with fill := _ }) rfl hcubes, hfill, hdqs⟩

/-- Where no batch meets the test, none runs. -/
theorem closeBatches_none {k : Nat} {p : MvBatch → Bool} (h : ∀ b ∈ (s.core k).fill, p b = false) :
    s.closeBatches k p = s.modCore k (fun c => { c with fill := c.fill.filter (fun b => !p b) }) := by
  have hnone : (s.core k).fill.filter p = [] := by simpa using h
  unfold State.closeBatches
  rw [hnone]
  rfl

/-- A batch that closes alone runs its rows in order on its cube. -/
theorem closeBatches_one {k : Nat} {b : MvBatch} (h : (s.core k).fill = [b]) :
    (((s.closeBatches k (fun _ => true)).core k).cube b.cube).active = (((s.core k).ranBatch b).cube b.cube).active := by
  have hgo : s.closeBatches k (fun _ => true) = (s.modCore k (fun c => { c with fill := [] })).runBatch k b := by
    unfold State.closeBatches
    rw [h]
    simp
  rw [hgo, State.core_runBatch, State.core_modCore_same]
  rfl

theorem State.core_count (s : State) (k i n : Nat) :
    (s.count k i n).core k = { s.core k with counters := ((s.count k i n).core k).counters } := by
  unfold State.count
  rw [State.core_modCore_same]

/-- The oldest batch closes where four are open (R73). -/
theorem fill_closeOldest (v : State) (c : CoreId) :
    let fill := (v.core (coreKey c)).fill
    (State.core (match fill.head?.filter (fun _ => decide (fill.length ≥ 4)) with
      | some o => v.closeBatches (coreKey c) (fun b => b == o) | none => v) (coreKey c)).fill =
      match fill.head? with
      | some o => if fill.length ≥ 4 then fill.filter (fun b => !(b == o)) else fill
      | none => fill := by
  intro fill
  cases hh : fill.head? with
  | none => rfl
  | some o =>
    by_cases hl : fill.length ≥ 4
    · obtain ⟨-, -, -, hfill, -⟩ := closeBatches_spec v c (fun b => b == o)
      simp only [hl, decide_true, Option.filter, if_true]
      exact hfill
    · simp only [hl, decide_false, Option.filter, if_false, Bool.false_eq_true]
      rfl

/-! ### The end of the execute stream -/

theorem State.tiles_of_exeReady (h : s.exeReady c = true) : (s.core (coreKey c)).tiles ≠ [] := by
  intro hnil
  simp [State.exeReady, State.coreOpen, hnil] at h

theorem Core.OnlyCubes.tiles_eq {x y : Core} (h : x.OnlyCubes y) : y.tiles = x.tiles := by rw [h]

/-- XEND marks the tile of the execute stream (R57). -/
theorem Core.exeEnd_ended {x : Core} {now : Nat} (h : x.tiles ≠ []) :
    (Core.exeTile { x.issuedExe now with tiles := match (x.issuedExe now).tiles with
      | t :: ts => { t with exeEnd := true } :: ts | [] => [] }).exeEnd = true := by
  obtain ⟨t, ts, hts⟩ := List.exists_cons_of_ne_nil h
  simp [Core.exeTile, Core.issuedExe, hts]

/-! ### Rows of a pass -/

/-- One row of a pass writes its own row, in the columns it has (R78, R79). -/
theorem at64_rowPass (p : Plane) (fa : Nat) (a sa : List Nat) {cols : Nat} (hc : cols ≤ 64) (row : Nat) (clear : Bool)
    (acc : Table Word32 × Made) {m n : Nat} (hn : n < 64) :
    at64 (rowPass p fa a sa cols row clear acc).1 m n =
      if m = row ∧ n < cols then (accumulate fa p.format.toNat a (p.col n) sa (p.colScales n) (if clear then 0 else at64 acc.1 m n)).v
      else at64 acc.1 m n := by
  induction cols generalizing m n with
  | zero => simp [rowPass]
  | succ j ih =>
    have hstep : (rowPass p fa a sa (j + 1) row clear acc).1 = put64 (rowPass p fa a sa j row clear acc).1 row j
        (accumulate fa p.format.toNat a (p.col j) sa (p.colScales j)
          (if clear then 0 else at64 (rowPass p fa a sa j row clear acc).1 row j)).v := by
      simp [rowPass, List.range_succ]
    have hj : at64 (rowPass p fa a sa j row clear acc).1 row j = at64 acc.1 row j := by
      rw [ih (by omega) (by omega)]
      simp
    rw [hstep, at64_put64 (by omega) hn, hj, ih (by omega) hn]
    by_cases hm : m = row
    · subst hm
      by_cases hnj : n = j
      · subst hnj; simp
      · have : n < j + 1 ↔ n < j := by omega
        simp [hnj, this]
    · simp [hm]

/-- The rows of a pass each write their own row. -/
theorem at64_passRows (v : Core) (p : Plane) (base fa rows : Nat) {cols : Nat} (hc : cols ≤ 64) (clear : Bool) (acc : Table Word32)
    {m n : Nat} (hn : n < 64) :
    at64 (passRows v p base fa rows cols clear acc).1 m n =
      if m < rows ∧ n < cols then
        (accumulate fa p.format.toNat (rowCodes v base fa m) (p.col n) (if isMx fa then rowScales v base fa rows m else []) (p.colScales n)
          (if clear then 0 else at64 acc m n)).v
      else at64 acc m n := by
  have main : ∀ l, at64 ((List.range l).foldl (fun x i =>
        rowPass p fa (rowCodes v base fa i) (if isMx fa then rowScales v base fa rows i else []) cols i clear x) (acc, {})).1 m n =
      if m < l ∧ n < cols then
        (accumulate fa p.format.toNat (rowCodes v base fa m) (p.col n) (if isMx fa then rowScales v base fa rows m else []) (p.colScales n)
          (if clear then 0 else at64 acc m n)).v
      else at64 acc m n := by
    intro l
    induction l with
    | zero => simp
    | succ i ih =>
      rw [List.range_succ, List.foldl_append, List.foldl_cons, List.foldl_nil, at64_rowPass _ _ _ _ hc _ _ _ hn, ih]
      by_cases hm : m = i
      · subst hm; simp
      · have : m < i + 1 ↔ m < i := by omega
        simp [hm, this]
  exact main rows

/-- A row without a stated value leaves the other rows and the columns behind its own. -/
theorem at64_freeRow (f row : Nat) {cols : Nat} (t : Table Word32) {m n : Nat} (hc : cols ≤ 64) (hn : n < 64)
    (h : ¬ (m = row ∧ n < cols)) : at64 (freeRow f cols row t) m n = at64 t m n := by
  induction cols with
  | zero => rfl
  | succ j ih =>
    have hstep : freeRow f (j + 1) row t =
        put64 (freeRow f j row t) row j (BitVec.ofNat 32 (Config.freeWord (f + 64 * row + j)).toNat) := by
      simp [freeRow, List.range_succ]
    rw [hstep, at64_put64 (by omega) hn, if_neg (by omega), ih (by omega) (by omega)]

theorem at64_freeRows (f rows : Nat) {cols : Nat} (t : Table Word32) {m n : Nat} (hc : cols ≤ 64) (hn : n < 64)
    (h : ¬ (m < rows ∧ n < cols)) : at64 ((List.range rows).foldl (fun t r => freeRow f cols r t) t) m n = at64 t m n := by
  induction rows with
  | zero => rfl
  | succ i ih =>
    rw [List.range_succ, List.foldl_append, List.foldl_cons, List.foldl_nil, at64_freeRow _ _ _ hc hn (by omega), ih (by omega)]

/-- A row put into the open batch that a test names (R73). -/
def State.putRow (s : State) (k : Nat) (mine : MvBatch → Bool) (row : MvRow) : State :=
  s.modCore k (fun c => { c with fill := updateFirst mine (fun b => { b with rows := b.rows ++ [row] }) c.fill })

/-! ### Instructions of the cubes -/

/-- The cube whose shadow plane a LATCH loads (R77). -/
def State.latched (s : State) (k : Nat) (w : InstrWord) (base len : Nat) : Cube :=
  { (s.core k).cube (selD w - 0x48) with
    planeShadow := readPlane (s.viewSlot k (wordSlot w) base len).1 base (wm w 24 4) (s.latchTransposed k w), loading := true, fresh := true }

theorem exec_latch {base len : Nat} (h : s.ExeTakes c 0x1100 w) (ho : (s.core (coreKey c)).OperandAt (selA w) (slot0 w) base len)
    (hload : ((s.core (coreKey c)).cube (selD w - 0x48)).loading = false) :
    ∃ t, exec (.latch c w) s = .next t ∧ s.CoreAndTallies t c ∧ t.core (coreKey c) =
      (((s.core (coreKey c)).setCube (selD w - 0x48) (s.latched (coreKey c) w base len)).usedSource (selA w) (wm w 17 1 == 1)).issuedExe
        s.time := by
  refine ⟨_, onCore_takesExe h, ?_⟩
  rw [State.exeOr_go, Core.source_of_operandAt ho]
  · refine ⟨((((State.CoreAndTallies.refl s c).modCore _).tallyTile _ _).popSource _ _).issueExe, ?_⟩
    simp only [State.core_issueExe, State.core_popSource, State.core_tallyTile, State.core_modCore_same, State.popSource_time,
      State.time_tallyTile]
    rfl
  · intro e he
    simp only [List.mem_append, List.mem_singleton] at he
    obtain he | rfl := he
    · exact Core.sourceWait_of_operandAt ho e he
    · exact hload

/-- A cube after SWAP, its parts added (R48, R80). -/
def Cube.swapped (q : Cube) : Cube := { q with active := q.shadow, shadow := q.whole.1, planes := 0, partials := [] }
def Core.swapped (x : Core) (i : Nat) : Core := x.setCube i (x.cube i).swapped

theorem exec_swap (h : s.ExeTakes c 0x1102 w) :
    let u := s.closeBatches (coreKey c) (fun b => b.cube == selD w - 0x48)
    ∃ t, exec (.swap c w) s = .next t ∧ u.CoreAndTallies t c ∧
      t.core (coreKey c) = ((u.core (coreKey c)).swapped (selD w - 0x48)).issuedExe u.time := by
  intro u
  refine ⟨_, onCore_takesExe h, (((State.CoreAndTallies.refl u c).modCore _).tallyTile _ _).issueExe, ?_⟩
  simp only [State.core_issueExe, State.core_tallyTile, State.core_modCore_same]
  rfl

/-- The cube that a PASS accumulates into, as it finds it: its plane taken, its part entered (R48, R77). -/
def State.passCube (u : State) (k : Nat) (w : InstrWord) : Cube :=
  (((u.core k).cube (selD w - 0x48)).takePlane).enterPart (u.kParts k) (wm w 16 1 == 1)

/-- The active tile after a PASS (R78, R79). -/
def State.passTile (u : State) (k : Nat) (w : InstrWord) (base len : Nat) : Table Word32 :=
  let rows := 8 * (wm w 18 3 + 1)
  let cols := 8 * (wm w 21 3 + 1)
  let q := u.passCube k w
  if mixable (wm w 24 4) q.planeActive.format.toNat then
    (passRows (u.viewSlot k (wordSlot w) base len).1 q.planeActive base (wm w 24 4) rows cols (wm w 16 1 == 1) q.active).1
  else (List.range rows).foldl (fun t r => freeRow u.free cols r t) q.active

/-- The cube after a PASS, with the tile it leaves. -/
def State.passedCube (u : State) (k : Nat) (w : InstrWord) (tile : Table Word32) : State :=
  u.modCore k (fun c => c.setCube (selD w - 0x48) { u.passCube k w with active := tile, planes := (u.passCube k w).planes + 1 })

theorem State.core_passedCube (u : State) (k : Nat) (w : InstrWord) (tile : Table Word32) :
    (u.passedCube k w tile).core k = (u.core k).setCube (selD w - 0x48)
      { u.passCube k w with active := tile, planes := (u.passCube k w).planes + 1 } := State.core_modCore_same _ _ _

/-- The state after the rows of a PASS, before it is counted. -/
def State.passDone (u : State) (k : Nat) (w : InstrWord) (base len : Nat) : State :=
  if mixable (wm w 24 4) (u.passCube k w).planeActive.format.toNat then
    (u.passedCube k w (u.passTile k w base len)).tallyTile (u.core k).exeTile ((u.viewSlot k (wordSlot w) base len).2.add
      (passRows (u.viewSlot k (wordSlot w) base len).1 (u.passCube k w).planeActive base (wm w 24 4) (8 * (wm w 18 3 + 1))
        (8 * (wm w 21 3 + 1)) (wm w 16 1 == 1) (u.passCube k w).active).2)
  else { u.passedCube k w (u.passTile k w base len) with free := u.free + 4096 }

theorem passDone_spec (u : State) (c : CoreId) (w : InstrWord) (base len : Nat) :
    let k := coreKey c
    u.CoreAndTallies (u.passDone k w base len) c ∧ (u.passDone k w base len).core k = (u.core k).setCube (selD w - 0x48)
      { u.passCube k w with active := u.passTile k w base len, planes := (u.passCube k w).planes + 1 } := by
  intro k
  unfold State.passDone
  split
  · exact ⟨((State.CoreAndTallies.refl u c).modCore _).tallyTile _ _, u.core_passedCube k w _⟩
  · exact ⟨((State.CoreAndTallies.refl u c).modCore _).withFree _, u.core_passedCube k w _⟩

theorem passDone_time (u : State) (k : Nat) (w : InstrWord) (base len : Nat) : (u.passDone k w base len).time = u.time := by
  unfold State.passDone
  split <;> rfl

theorem exec_pass {base len : Nat} (h : s.ExeTakes c 0x1101 w) (ho : (s.core (coreKey c)).OperandAt (selA w) (slot0 w) base len)
    (hload : ((s.core (coreKey c)).cube (selD w - 0x48)).loading = false) :
    let k := coreKey c
    let u := s.closeBatches k (fun b => b.below (selD w - 0x48) (8 * (wm w 18 3 + 1)))
    let q := u.passCube k w
    ∃ t now ctr, exec (.pass c w) s = .next t ∧ u.CoreAndTallies t c ∧ t.core k =
      (Core.usedSource { (u.core k).setCube (selD w - 0x48) { q with active := u.passTile k w base len, planes := q.planes + 1 } with
        counters := ctr } (selA w) (wm w 17 1 == 1)).issuedExe now := by
  intro k u q
  obtain ⟨honly, hcore⟩ := passDone_spec u c w base len
  have hwait : ∀ e ∈ (s.core k).sourceWait (selA w) ++
      [(((s.core k).cube (selD w - 0x48)).loading, StallKind.planeLoad (selD w - 0x48))], e.1 = false := by
    intro e he
    simp only [List.mem_append, List.mem_singleton] at he
    obtain he | rfl := he
    · exact Core.sourceWait_of_operandAt ho e he
    · exact hload
  have hexec : exec (.pass c w) s = .next ((((u.passDone k w base len).count k 12
      (stepsOf q.planeActive.format.toNat (8 * (wm w 18 3 + 1)) (8 * (wm w 21 3 + 1)))).popSource k (selA w) (wm w 17 1 == 1)).issueExe k) := by
    refine (onCore_goesExe h hwait).trans ?_
    rw [Core.source_of_operandAt ho]
    refine congrArg (fun z : State => Host.Outcome.next (((z.count k 12 _).popSource k _ _).issueExe k))
      (ite_congr rfl (fun hmix => ?_) (fun hmix => ?_))
    · rw [State.passTile, if_pos hmix]; rfl
    · rw [State.passTile, if_neg hmix]; rfl
  obtain ⟨ctr, hcount⟩ : ∃ ctr, ((u.passDone k w base len).count k 12
      (stepsOf q.planeActive.format.toNat (8 * (wm w 18 3 + 1)) (8 * (wm w 21 3 + 1)))).core k =
      { (u.passDone k w base len).core k with counters := ctr } := ⟨_, State.core_count _ _ _ _⟩
  rw [hcore] at hcount
  refine ⟨_, u.time, ctr, hexec, ((honly.count _ _).popSource _ _).issueExe, ?_⟩
  rw [State.core_issueExe, State.core_popSource, hcount, State.popSource_time]
  congr 1
  exact passDone_time u k w base len

end Sys2Proof.Machine

namespace Sys2Proof
open Sys2Proof.Machine

/-- Settles O10. -/
theorem planesAndTiles : Obligations.PlanesAndTiles := by
  intro c w s k x d
  refine ⟨fun base len h ho hload => ?_, fun n hw hload => ?_, fun h => ?_, fun h => ?_⟩
  · obtain ⟨t, ht, honly, hcore⟩ := exec_latch h ho hload
    have hcubes : x.OnlyCubes (x.setCube d (s.latched k w base len)) := rfl
    have hcube : ∀ i, (t.core k).cube i = (x.setCube d (s.latched k w base len)).cube i := fun i => by
      rw [hcore]; exact Core.cubes_usedSource _ _ _ i
    have hd : (t.core k).cube d = s.latched k w base len := (hcube d).trans (Core.cube_setCube_same _ _ _)
    refine ⟨t, ht, honly, ?_, ?_, fun q => ?_, fun i hi => ?_, ?_, fun hn => ?_, ?_⟩
    · rw [hcore]; exact (hcubes.usedSource _ _).cubeFrame _
    · rw [hcore]; exact Core.fill_usedSource _ _ _
    · rw [hcore]; exact Core.entries_usedSource _ _ _ q
    · rw [hcube]; exact Core.cube_setCube_other _ _ hi
    · rw [hd]; rfl
    · rw [hn]; rfl
    · rw [hd]; exact ⟨rfl, rfl, rfl, rfl⟩
  · refine ⟨_, when_true (by simp only [hw, Bool.true_and]; exact hload), (State.OnlyCore.refl s c).modCore _, ?_⟩
    exact State.core_modCore_same _ _ _
  · obtain ⟨t, ht, honly, hcore⟩ := exec_swap h
    have hcubes : (( s.closeBatches k (fun b => b.cube == d)).core k).OnlyCubes
        (((s.closeBatches k (fun b => b.cube == d)).core k).swapped d) := rfl
    have hd : (t.core k).cube d = (((s.closeBatches k (fun b => b.cube == d)).core k).cube d).swapped := by
      rw [hcore]; exact Core.cube_setCube_same _ _ _
    refine ⟨t, _, ht, rfl, honly, ?_, ?_, ?_, ?_, ?_, fun hp => ?_, ?_, ?_, fun i hi => ?_⟩
    · rw [hcore]; exact hcubes.cubeFrame _
    · rw [hcore]; rfl
    · rw [hcore]; rfl
    · rw [hd]; rfl
    · rw [hd]; rfl
    · rw [hd]
      simp only [Cube.swapped, Cube.whole, hp]
      rfl
    · rw [hd]; rfl
    · rw [hd]; rfl
    · rw [hcore]; exact Core.cube_setCube_other _ _ hi
  · have hcore : ∀ f : Core → Core, ((s.modCore k f).issueExe k).core k = (f x).issuedExe s.time := fun f => by
      rw [State.core_issueExe, State.core_modCore_same]; rfl
    refine ⟨_, onCore_takesExe h, ((State.OnlyCore.refl s c).modCore _).issueExe, ?_⟩
    rw [hcore]
    have hcubes : ∀ q, x.OnlyCubes (x.setCube d q) := fun _ => rfl
    refine ⟨(hcubes _).cubeFrame _, rfl, rfl, fun i hi => Core.cube_setCube_other _ _ hi, ?_⟩
    have hcube : ∀ q, ((x.setCube d q).issuedExe s.time).cube d = q := fun q => Core.cube_setCube_same x d q
    refine ⟨by rw [hcube], by rw [hcube], by rw [hcube], fun r j hr hj => ?_⟩
    rw [hcube, at64, tget_map_cells, if_pos (by rw [List.mem_range]; omega)]
    rfl

/-- Settles O11. -/
theorem passAccumulates : Obligations.PassAccumulates := by
  intro c w s base len k d rows cols clear u y q p fa fb v h ho hload
  obtain ⟨-, -, hclosed, -, hdqs⟩ := closeBatches_spec s c (fun b => b.below d rows)
  obtain ⟨t, now, ctr, ht, honly, hcore⟩ := exec_pass h ho hload
  have hcubes : y.OnlyCubes { y.setCube d { q with active := u.passTile k w base len, planes := q.planes + 1 } with counters := ctr } := rfl
  have hcube : ∀ i, (t.core k).cube i = (y.setCube d { q with active := u.passTile k w base len, planes := q.planes + 1 }).cube i :=
    fun i => by rw [hcore]; exact Core.cubes_usedSource _ _ _ i
  have hd : (t.core k).cube d = { q with active := u.passTile k w base len, planes := q.planes + 1 } :=
    (hcube d).trans (Core.cube_setCube_same _ _ _)
  have hcols : cols ≤ 64 := by
    have := wm_lt w 21 3
    simp only [cols]; omega
  refine ⟨t, ht, honly, ?_, ?_, fun n => ?_, ?_, ?_, ?_, fun i hi => ?_, fun hn => ?_, ?_, fun r j hr hj => ⟨fun hout => ?_, fun hin hmix => ?_⟩⟩
  · rw [hcore]; exact (hcubes.usedSource _ _).cubeFrame _
  · rw [hcore]; exact Core.fill_usedSource _ _ _
  · rw [hcore]
    refine (Core.entries_usedSource _ _ _ n).trans ?_
    have hentries : y.entries n = (s.core k).entries n := by unfold Core.entries; rw [hdqs]
    exact hentries ▸ rfl
  · rw [hd]
  · rw [hd]
  · rw [hd]
  · rw [hcube]; exact Core.cube_setCube_other _ _ hi
  · simp only [v, hn]; rfl
  · rw [hcore]; exact (hcubes.usedSource _ _).spad.trans hclosed.spad
  · rw [hd]
    simp only [State.passTile]
    split
    · rw [at64_passRows _ _ _ _ _ hcols _ _ hj, if_neg hout]; rfl
    · rw [at64_freeRows _ _ _ hcols hj hout]; rfl
  · rw [hd]
    simp only [State.passTile]
    rw [if_pos (show mixable (wm w 24 4) (u.passCube k w).planeActive.format.toNat = true from hmix), at64_passRows _ _ _ _ _ hcols _ _ hj, if_pos hin]
    rfl

/-- Settles O12. -/
theorem fillBuffer : Obligations.FillBuffer := by
  intro c w s k x cube row v y mine joined fresh runs
  obtain ⟨-, -, -, hfill, -⟩ := closeBatches_spec s c (fun b => b.writes cube row.acc)
  have hjoin : s.ExeTakes c 0x1104 w → y.fill.any mine = true → exec (.mv c w) s = .next (((v.putRow k mine row).closeBatches k
      (fun b => mine b && decide (b.rows.length ≥ 8))).issueExe k) := fun h hany =>
    (onCore_takesExe h).trans (congrArg (fun z : State => Host.Outcome.next (z.issueExe k)) (if_pos hany))
  have hput : (v.putRow k mine row).core k = { y with fill := joined } := State.core_modCore_same _ _ _
  refine ⟨⟨rfl, rfl, rfl⟩, hfill, fun h hany hlt => ?_, fun h hany => ?_, fun h hany => ?_, fun h => ?_, fun h => ?_⟩
  · have hnone : ∀ b ∈ ((v.putRow k mine row).core k).fill, (mine b && decide (b.rows.length ≥ 8)) = false := by
      rw [hput]
      intro b hb
      by_cases hm : mine b = true
      · simp [hlt b hb hm]
      · simp [hm]
    have hjoined : joined.filter (fun b => !(mine b && decide (b.rows.length ≥ 8))) = joined := by
      rw [List.filter_eq_self]
      intro b hb
      rw [hnone b (by rw [hput]; exact hb)]
      rfl
    refine ⟨_, hjoin h hany, ?_, ?_⟩
    · rw [closeBatches_none hnone]
      exact (((State.OnlyCore.refl v c).modCore _).modCore _).issueExe
    · rw [closeBatches_none hnone, State.core_issueExe, State.core_modCore_same, hput]
      have hcubes : y.OnlyCubes { y with fill := joined.filter (fun b => !(mine b && decide (b.rows.length ≥ 8))) } := rfl
      exact ⟨hcubes.cubeFrame _, rfl, hjoined⟩
  · obtain ⟨-, -, -, hclosed, -⟩ := closeBatches_spec (v.putRow k mine row) c (fun b => mine b && decide (b.rows.length ≥ 8))
    refine ⟨_, hjoin h hany, ?_⟩
    rw [State.core_issueExe]
    refine hclosed.trans ?_
    rw [hput]
  · refine ⟨_, (onCore_takesExe h).trans (congrArg (fun z : State => Host.Outcome.next (z.issueExe k))
      (if_neg (by rw [Bool.not_eq_true]; exact hany))), ?_⟩
    rw [State.core_issueExe, State.core_modCore_same]
    exact congrArg (· ++ [fresh]) (fill_closeOldest v c)
  · obtain ⟨-, -, hcubes, hclosed, -⟩ := closeBatches_spec s c (fun _ => true)
    refine ⟨_, onCore_takesExe h, ?_⟩
    rw [State.core_issueExe]
    refine ⟨?_, hcubes.exePc _, ?_, ?_, fun b hb => ?_⟩
    · refine hclosed.trans ?_
      simp
    · exact hcubes.spad
    · exact hcubes.sameAccess
    · refine (closeBatches_one hb).trans ?_
      rw [Core.ranBatch, Core.cube_setCube_same]
  · obtain ⟨-, -, hcubes, hclosed, -⟩ := closeBatches_spec s c (fun _ => true)
    refine ⟨_, onCore_takesExe h, ?_⟩
    rw [State.core_modCore_same, State.core_issueExe]
    refine ⟨?_, ?_, hcubes.spad, hcubes.sameAccess, fun b hb => ?_⟩
    · refine hclosed.trans ?_
      simp
    · exact Core.exeEnd_ended (by rw [Core.OnlyCubes.tiles_eq hcubes]; exact State.tiles_of_exeReady h.2)
    · refine (closeBatches_one hb).trans ?_
      rw [Core.ranBatch, Core.cube_setCube_same]

end Sys2Proof
end

section
/-!
The special values of the long operations (O15): what each answers before it computes.
-/
namespace Sys2Proof.Machine

theorem exists_zero_of_isZero {v : FVal} (h : isZero v = true) : ∃ g e, v = .fin g 0 e := by
  unfold isZero at h
  split at h
  · exact ⟨_, _, rfl⟩
  · cases h

theorem nanOf_pair {x y : FVal} (hx : isNan x = false) (hy : isNan y = false) : nanOf [x, y] = none := by
  cases x <;> cases y <;> simp_all [nanOf, isNan]

section
variable {a b : Word32}

theorem fdiv_inf_inf {g h : Bool} (ha : val32 a = .inf g) (hb : val32 b = .inf h) : fdiv a b = invalid32 := by
  simp [fdiv, ha, hb, nanOf]

theorem fdiv_zero_zero {g h : Bool} {e f : Int} (ha : val32 a = .fin g 0 e) (hb : val32 b = .fin h 0 f) : fdiv a b = invalid32 := by
  simp [fdiv, ha, hb, nanOf]

theorem fdiv_fin_zero {g h : Bool} {m : Nat} {e f : Int} (ha : val32 a = .fin g (m + 1) e) (hb : val32 b = .fin h 0 f) :
    fdiv a b = inf32 (g != h) true := by
  simp [fdiv, ha, hb, nanOf, isNeg]

theorem fdiv_fin_inf {g h : Bool} {m : Nat} {e : Int} (ha : val32 a = .fin h m e) (hb : val32 b = .inf g) :
    (fdiv a b).v = BitVec.ofNat 32 (fp32L.signed (h != g) 0) := by
  simp [fdiv, ha, hb, nanOf, isNeg]

/-- A value below zero, or minus infinity, has no root and no logarithm. -/
theorem roots_of_neg (h : val32 a = .inf true ∨ ∃ m e, val32 a = .fin true (m + 1) e) :
    fsqrt a = invalid32 ∧ frsqrt a = invalid32 ∧ flog2 a = invalid32 := by
  obtain h | ⟨m, e, h⟩ := h
  · simp [fsqrt, frsqrt, flog2, h, nanOf]
  · simp [fsqrt, frsqrt, flog2, h, nanOf]

theorem fexp2s_ninf {x m : Word32} (hm : val32 m = .inf true) (hx : isNan (val32 x) = false) : fexp2s x m = ⟨0, {}⟩ := by
  simp [fexp2s, hm, nanOf_pair hx (show isNan (.inf true) = false from rfl)]

end

end Sys2Proof.Machine

namespace Sys2Proof
open Sys2Proof.Machine

/-- Settles O15. -/
theorem specialValues : Obligations.SpecialValues := by
  refine ⟨fun a b ha hb => ?_, fun a b ha hb => ?_, fun a b ⟨g, m, e, ha⟩ hb => ?_, fun a b g ⟨h, m, e, ha⟩ hb => ?_, rfl, rfl, rfl, rfl,
    rfl, rfl, rfl, rfl, rfl, rfl, rfl, rfl, fun a h => ?_, rfl, rfl, fun x hx => ?_⟩
  · obtain ⟨g, hg⟩ : ∃ g, val32 a = .inf g := by obtain h | h := ha <;> exact ⟨_, h⟩
    obtain ⟨h, hh⟩ : ∃ g, val32 b = .inf g := by obtain h | h := hb <;> exact ⟨_, h⟩
    rw [fdiv_inf_inf hg hh]
    rfl
  · obtain ⟨g, e, hg⟩ := exists_zero_of_isZero ha
    obtain ⟨h, f, hh⟩ := exists_zero_of_isZero hb
    rw [fdiv_zero_zero hg hh]
    rfl
  · obtain ⟨h, f, hh⟩ := exists_zero_of_isZero hb
    rw [fdiv_fin_zero ha hh, ha, hh]
    cases g <;> cases h <;> rfl
  · rw [fdiv_fin_inf ha hb, ha]
    cases g <;> cases h <;> rfl
  · obtain ⟨h1, h2, h3⟩ := roots_of_neg h
    rw [h1, h2, h3]
    exact ⟨rfl, rfl, rfl⟩
  · rw [fexp2s_ninf rfl hx]

end Sys2Proof
end

section
/-!
ADAMW and MOMENTUM (O19): the fused instructions without an OPT_STEP launch, and with one.
-/
namespace Sys2Proof.Machine

variable {s : State} {c : CoreId} {w : InstrWord} {adam : Bool}

theorem exec_optInstr (h : s.ExeTakes c (if adam then 0x1500 else 0x1501) w) :
    exec (if adam then .adamw c w else .momentum c w) s = .next (s.optStepExe (coreKey c) adam w) := by
  cases adam
  · exact onCore_takesExe h
  · exact onCore_takesExe h

theorem optStepExe_none {k : Nat} (h : (s.grid? (s.core k).exeTile.grid).bind (·.opt) = none) :
    s.optStepExe k adam w = (s.issueExe k).raise (s.tileErr k 0x0106 (s.core k).exeTile 0 0) := by
  simp only [State.optStepExe, h]

/-- What the instruction leaves over its elements (R114, R115). -/
def State.optResult (s : State) (k : Nat) (adam : Bool) (o : OptConst) (w : InstrWord) : OptAcc :=
  (laneCells w).foldl (optElem adam o (s.drawJob (s.core k).exeTile.ctx) (s.core k) w) { spad := (s.core k).spad }

theorem State.CoreAndTallies.modCtx {t : State} (h : s.CoreAndTallies t c) (n : Nat) (f : Context → Context) :
    s.CoreAndTallies (t.modCtx n f) c := h.trans ⟨rfl, fun _ _ => rfl⟩

theorem State.CoreAndTallies.modGrid {t : State} (h : s.CoreAndTallies t c) (n : Nat) (f : Grid → Grid) :
    s.CoreAndTallies (t.modGrid n f) c := h.trans ⟨rfl, fun _ _ => rfl⟩

@[simp] theorem State.core_modCtx (s : State) (n : Nat) (f : Context → Context) (k : Nat) : (s.modCtx n f).core k = s.core k := rfl
@[simp] theorem State.core_modGrid (s : State) (n : Nat) (f : Grid → Grid) (k : Nat) : (s.modGrid n f).core k = s.core k := rfl

@[simp] theorem State.ctx_modGrid (s : State) (n : Nat) (f : Grid → Grid) (k : Nat) : (s.modGrid n f).ctx k = s.ctx k := rfl
@[simp] theorem State.ctx_issueExe (s : State) (k n : Nat) : (s.issueExe k).ctx n = s.ctx n := rfl
theorem State.nonfiniteSkips_tallyTile (s : State) (t : TileRun) (m : Made) (n : Nat) :
    ((s.tallyTile t m).ctx n).nonfiniteSkips = (s.ctx n).nonfiniteSkips := by
  rw [State.tallyTile, State.ctx_modGrid, State.tally, State.ctx_modCtx]
  split
  · next h => rw [h]
  · rfl

theorem optStepExe_some {o : OptConst} (h : (s.grid? (s.core (coreKey c)).exeTile.grid).bind (·.opt) = some o) :
    let k := coreKey c
    let u := s.optStepExe k adam w
    let ctx := (s.core k).exeTile.ctx
    s.CoreAndTallies u c ∧ u.core k = Core.issuedExe { s.core k with spad := (s.optResult k adam o w).spad } s.time ∧
      (u.ctx ctx).nonfiniteSkips = satAdd (s.ctx ctx).nonfiniteSkips (s.optResult k adam o w).skips := by
  intro k u ctx
  have hu : u = ((((s.modCore k (fun c => { c with spad := (s.optResult k adam o w).spad })).tallyTile (s.core k).exeTile
      (s.optResult k adam o w).made).modCtx ctx (fun c =>
        { c with nonfiniteSkips := satAdd c.nonfiniteSkips (s.optResult k adam o w).skips })).modGrid (s.core k).exeTile.grid
      (fun g => { g with skips := g.skips + (s.optResult k adam o w).skips })).issueExe k := by
    simp only [u, State.optStepExe, k, h]
    rfl
  rw [hu]
  refine ⟨(((((State.CoreAndTallies.refl s c).modCore _).tallyTile _ _).modCtx _ _).modGrid _ _).issueExe, ?_, ?_⟩
  · simp only [State.core_issueExe, State.core_modGrid, State.core_modCtx, State.core_tallyTile, State.core_modCore_same]
    rfl
  · simp only [State.ctx_issueExe, State.ctx_modGrid, State.ctx_modCtx_same, State.nonfiniteSkips_tallyTile]
    rfl

end Sys2Proof.Machine

namespace Sys2Proof
open Sys2Proof.Machine

/-- Settles O19. -/
theorem optimiserSteps : Obligations.OptimiserSteps := by
  intro c w s adam k x t i h
  refine ⟨fun ho => ?_, fun o ho => ?_, fun o nesterov w0 m0 v0 g => ?_⟩
  · rw [← optStepExe_none (adam := adam) (w := w) ho]
    exact exec_optInstr h
  · obtain ⟨honly, hcore, hskips⟩ := optStepExe_some (adam := adam) (w := w) ho
    refine ⟨_, _, exec_optInstr h, honly, rfl, ?_, hskips, ?_⟩
    · rw [hcore]; rfl
    · rw [hcore]
      exact ⟨⟨rfl, rfl, rfl, rfl, rfl, rfl, rfl⟩, ⟨rfl, rfl⟩, ⟨rfl, rfl, rfl, rfl, rfl, rfl, rfl⟩, rfl, rfl⟩
  · cases nesterov <;> exact ⟨rfl, rfl, rfl, rfl, rfl⟩

end Sys2Proof
end

section
/-!
The gang unit (O20, O21): the items of an instruction, the unit taken and passed on, the groups, and the drain.
-/
namespace Sys2Proof.Machine

variable {s : State} {c : CoreId} {w : InstrWord}

/-! ### Changes of one unit -/

/-- Nothing but the gang unit of one cluster has changed. -/
def State.OnlyGang (s t : State) (r : Nat) : Prop := t = { s with clusters := t.clusters } ∧ ∀ j, j ≠ r → t.cluster j = s.cluster j

theorem State.OnlyGang.refl (s : State) (r : Nat) : s.OnlyGang s r := ⟨rfl, fun _ _ => rfl⟩

theorem State.OnlyGang.trans {s t u : State} {r : Nat} (h : s.OnlyGang t r) (h' : t.OnlyGang u r) : s.OnlyGang u r := by
  refine ⟨?_, fun j hj => (h'.2 j hj).trans (h.2 j hj)⟩
  rw [h'.1, h.1]

theorem State.OnlyGang.modGang {s t : State} {r : Nat} (h : s.OnlyGang t r) (f : Gang → Gang) : s.OnlyGang (t.modGang r f) r :=
  h.trans ⟨rfl, fun j hj => by rw [State.modGang, State.cluster_modCluster, if_neg hj]⟩

theorem State.OnlyGang.core {s t : State} {r : Nat} (h : s.OnlyGang t r) (k : Nat) : t.core k = s.core k := by rw [h.1]; rfl
theorem State.OnlyGang.cores {s t : State} {r : Nat} (h : s.OnlyGang t r) : t.cores = s.cores := by rw [h.1]
theorem State.OnlyGang.time {s t : State} {r : Nat} (h : s.OnlyGang t r) : t.time = s.time := by rw [h.1]
theorem State.OnlyGang.dram {s t : State} {r : Nat} (h : s.OnlyGang t r) : t.dram = s.dram := by rw [h.1]

theorem State.gang_modGang (s : State) (r : Nat) (f : Gang → Gang) : ((s.modGang r f).cluster r).gang = f (s.cluster r).gang := by
  rw [State.modGang, State.cluster_modCluster_same]

/-- A unit in a launch's hands, in a shape. -/
def Gang.taken (g : Gang) (n shape : Nat) : Gang :=
  { g with holder := some n, shape := shape, waiting := g.waiting.filter (fun w => w.1 != n) }

theorem takeGang_eq (s : State) (r n : Nat) :
    s.takeGang r n = s.modGang r (fun g => g.taken n (((s.grid? n).map (fun g => g.shape.toNat)).getD 0)) := rfl

/-- A unit that a launch takes keeps its queue and its groups (R94). -/
theorem takeGang_spec (s : State) (r n : Nat) :
    let g := ((s.takeGang r n).cluster r).gang
    s.OnlyGang (s.takeGang r n) r ∧ g.queue = (s.cluster r).gang.queue ∧ g.groups = (s.cluster r).gang.groups ∧ g.holder = some n ∧
      g.shape = ((s.grid? n).map (fun g => g.shape.toNat)).getD 0 := by
  intro g
  simp only [g]
  rw [takeGang_eq, State.gang_modGang]
  exact ⟨(State.OnlyGang.refl s r).modGang _, rfl, rfl, rfl, rfl⟩

/-- So does one that passes on. -/
theorem handGang_spec (s : State) (r : Nat) :
    let g := ((s.handGang r).cluster r).gang
    s.OnlyGang (s.handGang r) r ∧ g.queue = (s.cluster r).gang.queue ∧ g.groups = (s.cluster r).gang.groups := by
  intro g
  simp only [g]
  unfold State.handGang
  dsimp only
  split
  · exact ⟨State.OnlyGang.refl s r, rfl, rfl⟩
  · split
    · exact ⟨State.OnlyGang.refl s r, rfl, rfl⟩
    · split
      · next n _ =>
        obtain ⟨honly, hq, hg, -⟩ := takeGang_spec s r n
        exact ⟨honly, hq, hg⟩
      · rw [State.gang_modGang]
        exact ⟨(State.OnlyGang.refl s r).modGang _, rfl, rfl⟩

/-- A launch with items on the unit keeps it (R94). -/
theorem handGang_busy {r h : Nat} (hh : (s.cluster r).gang.holder = some h) (hb : (s.cluster r).gang.busy s h = true) :
    s.handGang r = s := by
  unfold State.handGang
  simp only [hh, hb, if_true]

theorem busy_of_queued {g : Gang} {it : GangItem} (hit : it ∈ g.queue) : g.busy s it.grid = true := by
  have : g.queue.any (fun i => i.grid == it.grid) = true := List.any_eq_true.mpr ⟨it, hit, by simp⟩
  simp [Gang.busy, this]

/-! ### The items of an instruction -/

theorem State.OnlyCore.popSource {s t : State} {c : CoreId} (h : s.OnlyCore t c) (sel : Nat) (pop : Bool) :
    s.OnlyCore (t.popSource (coreKey c) sel pop) c := by
  unfold State.popSource
  split
  · exact h.modCore _
  · exact h

theorem State.OnlyCore.cluster {s t : State} {c : CoreId} (h : s.OnlyCore t c) (r : Nat) : t.cluster r = s.cluster r := by rw [h.1]; rfl

theorem ceilDiv_mul_lt {n g i : Nat} (hg : 0 < g) (h : i < ceilDiv n g) : i * g < n := by
  unfold ceilDiv at h
  have h1 := Nat.div_mul_le_self (n + g - 1) g
  have h2 : (i + 1) * g ≤ (n + g - 1) / g * g := Nat.mul_le_mul_right g h
  rw [Nat.succ_mul] at h2
  omega

theorem div_lt_ceilDiv {n g i : Nat} (hg : 0 < g) (h : i < n) : i / g < ceilDiv n g := by
  unfold ceilDiv
  rw [Nat.div_lt_iff_lt_mul hg]
  have h1 := Nat.div_add_mod (n + g - 1) g
  have h2 := Nat.mod_lt (n + g - 1) hg
  rw [mul_comm] at h1
  omega

/-- A piece of a cut is inside it, and no larger than a group. -/
theorem mem_gangCuts {n g : Nat} (hg : 0 < g) {p : Nat × Nat} (h : p ∈ gangCuts n g) : p.1 + p.2 ≤ n ∧ p.2 ≤ g := by
  obtain ⟨i, hi, rfl⟩ := List.mem_map.mp h
  have := ceilDiv_mul_lt hg (List.mem_range.mp hi)
  refine ⟨?_, Nat.min_le_left _ _⟩
  have := Nat.min_le_right g (n - i * g)
  simp only
  omega

/-- The pieces of a cut cover it. -/
theorem exists_gangCut {n g i : Nat} (hg : 0 < g) (h : i < n) : ∃ p ∈ gangCuts n g, p.1 ≤ i ∧ i < p.1 + p.2 := by
  refine ⟨(i / g * g, min g (n - i / g * g)), List.mem_map.mpr ⟨i / g, List.mem_range.mpr (div_lt_ceilDiv hg h), rfl⟩, ?_, ?_⟩
  · exact Nat.div_mul_le_self i g
  · have h1 := Nat.div_add_mod i g
    have h2 := Nat.mod_lt i hg
    rw [mul_comm] at h1
    simp only
    omega

theorem gangRows_pos (shape : Nat) : 0 < gangRows shape := by unfold gangRows; split <;> omega
theorem gangCols_pos (shape : Nat) : 0 < gangCols shape := by unfold gangCols; split <;> omega

section
variable {x : Core} {k shape now : Nat} {t : TileRun} {a b : Nat}

/-- An item of an instruction: its place in the cut of rows and columns. -/
theorem mem_gangItems {it : GangItem} (h : it ∈ gangItems x k shape now t w a b) :
    ∃ r q, r ∈ gangCuts (wi w 16 7) (gangRows shape) ∧ q ∈ gangCuts (wi w 23 7) (gangCols shape) ∧
      it.core = k ∧ it.grid = t.grid ∧ it.aBase = a ∧ it.bBase = b ∧ it.dBase = rangeBase (wx w 0 0 32) ∧ it.k = wi w 0 16 + 1 ∧
      it.width = wi w 23 7 ∧ it.aRow = r.1 ∧ it.rows = r.2 ∧ it.bCol = q.1 ∧ it.cols = q.2 ∧ it.chain = (wm w 16 1 == 1) := by
  obtain ⟨e, he, rfl⟩ := List.mem_map.mp h
  obtain ⟨l, hl, hel⟩ := List.mem_flatten.mp (List.fst_mem_of_mem_zipIdx he)
  obtain ⟨r, hr, rfl⟩ := List.mem_map.mp hl
  obtain ⟨q, hq, hrq⟩ := List.mem_map.mp hel
  refine ⟨r, q, hr, hq, rfl, rfl, rfl, rfl, rfl, rfl, rfl, ?_⟩
  rw [← hrq]
  exact ⟨rfl, rfl, rfl, rfl, rfl⟩

/-- Each place of the cut has its item. -/
theorem exists_gangItem {r q : Nat × Nat} (hr : r ∈ gangCuts (wi w 16 7) (gangRows shape))
    (hq : q ∈ gangCuts (wi w 23 7) (gangCols shape)) :
    ∃ it ∈ gangItems x k shape now t w a b, it.aRow = r.1 ∧ it.rows = r.2 ∧ it.bCol = q.1 ∧ it.cols = q.2 := by
  have hmem : (r, q) ∈ ((gangCuts (wi w 16 7) (gangRows shape)).map (fun r =>
      (gangCuts (wi w 23 7) (gangCols shape)).map (fun q => (r, q)))).flatten :=
    List.mem_flatten.mpr ⟨_, List.mem_map.mpr ⟨r, hr, rfl⟩, List.mem_map.mpr ⟨q, hq, rfl⟩⟩
  obtain ⟨n, hn⟩ := List.mem_iff_getElem?.mp hmem
  refine ⟨_, List.mem_map.mpr ⟨((r, q), n), List.mem_zipIdx_iff_getElem?.mpr hn, rfl⟩, rfl, rfl, rfl, rfl⟩

end

/-! ### An instruction whose launch holds the unit -/

/-- The unit in the hands of the launch of a core's tile. -/
def State.gangHeld (s : State) (k : Nat) : State :=
  if (s.cluster (k / 32)).gang.holder.isNone then s.takeGang (k / 32) (s.core k).exeTile.grid else s

/-- The items in the queue of the unit. -/
def State.gangQueued (s : State) (k : Nat) (its : List GangItem) : State :=
  (s.gangHeld k).modGang (k / 32) (fun g => { g with queue := g.queue ++ its, asking := g.asking.filter (· != k) })

/-- The instruction issued. -/
def State.gangIssued (s : State) (k : Nat) (w : InstrWord) (its : List GangItem) : State :=
  ((((s.gangQueued k its).modCore k (fun c => { c with nextId := c.nextId + its.length })).popSource k (selA w) (wm w 17 1 == 1)).popSource k
    (selB w) (wm w 18 1 == 1)).issueExe k

theorem gangHeld_spec (s : State) (k : Nat)
    (h : (s.cluster (k / 32)).gang.holder = some (s.core k).exeTile.grid ∨ (s.cluster (k / 32)).gang.holder = none) :
    let t := s.gangHeld k
    let g := (s.cluster (k / 32)).gang
    let r := k / 32
    s.OnlyGang t r ∧ (t.cluster r).gang.queue = g.queue ∧ (t.cluster r).gang.groups = g.groups ∧
      (t.cluster r).gang.holder = some (s.core k).exeTile.grid ∧ (t.cluster r).gang.shape =
        if g.holder = none then ((s.grid? (s.core k).exeTile.grid).map (fun y => y.shape.toNat)).getD 0 else g.shape := by
  intro t g r
  simp only [t, g, r, State.gangHeld]
  obtain h | h := h
  · simp only [h, Option.isNone_some, Bool.false_eq_true, if_false]
    exact ⟨State.OnlyGang.refl s _, by simp⟩
  · simp only [h, Option.isNone_none, if_true]
    exact takeGang_spec s _ _

theorem gangQueued_spec (s : State) (k : Nat) (its : List GangItem)
    (h : (s.cluster (k / 32)).gang.holder = some (s.core k).exeTile.grid ∨ (s.cluster (k / 32)).gang.holder = none) :
    let t := s.gangQueued k its
    let g := (s.cluster (k / 32)).gang
    let r := k / 32
    s.OnlyGang t r ∧ (t.cluster r).gang.queue = g.queue ++ its ∧ (t.cluster r).gang.groups = g.groups ∧
      (t.cluster r).gang.holder = some (s.core k).exeTile.grid ∧ (t.cluster r).gang.shape =
        if g.holder = none then ((s.grid? (s.core k).exeTile.grid).map (fun y => y.shape.toNat)).getD 0 else g.shape := by
  intro t g r
  obtain ⟨honly, hq, hg, hh, hs⟩ := gangHeld_spec s k h
  refine ⟨honly.modGang _, ?_⟩
  simp only [t, State.gangQueued]
  rw [State.gang_modGang]
  exact ⟨congrArg (· ++ its) hq, hg, hh, hs⟩

/-- The issue changes the one core, and no cluster. -/
theorem gangIssued_spec (s : State) (c : CoreId) (w : InstrWord) (its : List GangItem) :
    let k := coreKey c
    let u := s.gangQueued k its
    let t := s.gangIssued k w its
    u.OnlyCore t c ∧ t.core k = ((Core.usedSource { u.core k with nextId := (u.core k).nextId + its.length } (selA w)
      (wm w 17 1 == 1)).usedSource (selB w) (wm w 18 1 == 1)).issuedExe u.time := by
  intro k u t
  refine ⟨((((State.OnlyCore.refl u c).modCore _).popSource _ _).popSource _ _).issueExe, ?_⟩
  simp only [t, State.gangIssued, State.core_issueExe, State.core_popSource, State.core_modCore_same, State.popSource_time]
  rfl

theorem gangWait_none {x : Core} {a al b bl : Nat} (hoa : x.OperandAt (selA w) (wx w 0 32 32) a al)
    (hob : x.OperandAt (selB w) (wx w 0 64 32) b bl) : ∀ e ∈ x.sourceWait (selA w) ++ x.sourceWait (selB w), e.1 = false := fun e he =>
  (List.mem_append.mp he).elim (Core.sourceWait_of_operandAt hoa e) (Core.sourceWait_of_operandAt hob e)

theorem exec_gang_joins {a al b bl : Nat} (h : s.ExeTakes c 0x1200 w)
    (hoa : (s.core (coreKey c)).OperandAt (selA w) (wx w 0 32 32) a al) (hob : (s.core (coreKey c)).OperandAt (selB w) (wx w 0 64 32) b bl)
    (hm : (s.cluster (coreKey c / 32)).gang.holder = some (s.core (coreKey c)).exeTile.grid ∨
      (s.cluster (coreKey c / 32)).gang.holder = none) :
    let k := coreKey c
    let t := (s.core k).exeTile
    let its := gangItems (s.core k) k (((s.grid? t.grid).map (fun y => y.shape.toNat)).getD 0) s.time t w a b
    (s.cluster (k / 32)).gang.queue.length + its.length ≤ 32 →
      exec (.gang c w) s = .next ((s.gangIssued k w its).handGang (k / 32)) := by
  intro k t its hroom
  have hmine : ((s.cluster (k / 32)).gang.holder == some t.grid || (s.cluster (k / 32)).gang.holder.isNone) = true := by
    simpa using hm
  change execGang c w s = _
  unfold execGang
  simp only [Core.source_of_operandAt hoa, Core.source_of_operandAt hob, firstStall_none (gangWait_none hoa hob)]
  refine (onCore_takesExe h).trans (congrArg Host.Outcome.next ?_)
  rw [if_neg (show ¬ (!((s.cluster (k / 32)).gang.holder == some t.grid || (s.cluster (k / 32)).gang.holder.isNone)) = true by
    simp [hmine]), if_neg (Nat.not_lt.mpr hroom)]
  rfl

theorem exec_gang_full {a al b bl : Nat} (h : s.ExeTakes c 0x1200 w)
    (hoa : (s.core (coreKey c)).OperandAt (selA w) (wx w 0 32 32) a al) (hob : (s.core (coreKey c)).OperandAt (selB w) (wx w 0 64 32) b bl)
    (hm : (s.cluster (coreKey c / 32)).gang.holder = some (s.core (coreKey c)).exeTile.grid ∨
      (s.cluster (coreKey c / 32)).gang.holder = none) :
    let k := coreKey c
    let t := (s.core k).exeTile
    let its := gangItems (s.core k) k (((s.grid? t.grid).map (fun y => y.shape.toNat)).getD 0) s.time t w a b
    32 < (s.cluster (k / 32)).gang.queue.length + its.length → exec (.gang c w) s = .next (s.stallExe k .gangQueue) := by
  intro k t its hfull
  have hmine : ((s.cluster (k / 32)).gang.holder == some t.grid || (s.cluster (k / 32)).gang.holder.isNone) = true := by
    simpa using hm
  change execGang c w s = _
  unfold execGang
  simp only [Core.source_of_operandAt hoa, Core.source_of_operandAt hob, firstStall_none (gangWait_none hoa hob)]
  refine (onCore_takesExe h).trans (congrArg Host.Outcome.next ?_)
  rw [if_neg (show ¬ (!((s.cluster (k / 32)).gang.holder == some t.grid || (s.cluster (k / 32)).gang.holder.isNone)) = true by
    simp [hmine]), if_pos hfull]

/-- A launch that does not hold the unit asks for it (R94). -/
def State.gangAsked (s : State) (k : Nat) : State :=
  s.modGang (k / 32) (fun g =>
    { g with
      asking := if g.asking.contains k then g.asking else g.asking ++ [k]
      waiting := if g.waiting.any (fun e => e.1 == (s.core k).exeTile.grid) then g.waiting
                 else g.waiting ++ [((s.core k).exeTile.grid, decide ((s.grid? (s.core k).exeTile.grid).map (·.cls) = some .generate), s.time)] })

theorem gangAsked_spec (s : State) (k : Nat) :
    let g := ((s.gangAsked k).cluster (k / 32)).gang
    g.queue = (s.cluster (k / 32)).gang.queue ∧ g.groups = (s.cluster (k / 32)).gang.groups ∧ g.holder = (s.cluster (k / 32)).gang.holder := by
  intro g
  simp only [g, State.gangAsked]
  rw [State.gang_modGang]
  exact ⟨rfl, rfl, rfl⟩

theorem exec_gang_asks {a al b bl : Nat} (h : s.ExeTakes c 0x1200 w)
    (hoa : (s.core (coreKey c)).OperandAt (selA w) (wx w 0 32 32) a al) (hob : (s.core (coreKey c)).OperandAt (selB w) (wx w 0 64 32) b bl)
    (hm : ¬ ((s.cluster (coreKey c / 32)).gang.holder = some (s.core (coreKey c)).exeTile.grid ∨
      (s.cluster (coreKey c / 32)).gang.holder = none)) :
    exec (.gang c w) s = .next ((s.gangAsked (coreKey c)).stallExe (coreKey c) .gangUnit) := by
  have hmine : ((s.cluster (coreKey c / 32)).gang.holder == some (s.core (coreKey c)).exeTile.grid ||
      (s.cluster (coreKey c / 32)).gang.holder.isNone) = false := by
    simpa [Option.isSome_iff_ne_none] using hm
  change execGang c w s = _
  unfold execGang
  simp only [Core.source_of_operandAt hoa, Core.source_of_operandAt hob, firstStall_none (gangWait_none hoa hob)]
  refine (onCore_takesExe h).trans (congrArg Host.Outcome.next ?_)
  rw [if_pos (show (!((s.cluster (coreKey c / 32)).gang.holder == some (s.core (coreKey c)).exeTile.grid ||
    (s.cluster (coreKey c / 32)).gang.holder.isNone)) = true by simp [hmine])]
  rfl

end Sys2Proof.Machine

namespace Sys2Proof
open Sys2Proof.Machine

/-- Settles O20. -/
theorem gangIssue : Obligations.GangIssue := by
  intro c w s a al b bl k x r g mine cut shape its h hoa hob
  refine ⟨fun hm hroom => ?_, fun it hit => ?_, fun i j hi hj => ?_, fun hm => ?_, fun hm hfull => exec_gang_full h hoa hob hm hfull⟩
  · obtain ⟨honly, hqueue, hgroups, hholder, hshape⟩ := gangQueued_spec s k its hm
    obtain ⟨hcoreOnly, hcore⟩ := gangIssued_spec s c w its
    obtain ⟨hhand, hhqueue, hhgroups⟩ := handGang_spec (s.gangIssued k w its) r
    have hcl := hcoreOnly.cluster
    refine ⟨_, exec_gang_joins h hoa hob hm hroom, ?_, fun hne => ?_, ?_, ?_⟩
    · exact hhqueue.trans ((congrArg (fun z => z.gang.queue) (hcl r)).trans hqueue)
    · obtain ⟨it, hit⟩ := List.exists_mem_of_ne_nil _ hne
      obtain ⟨-, -, -, -, -, hgrid, -⟩ := mem_gangItems hit
      have hgang : ((s.gangIssued k w its).cluster r).gang = ((s.gangQueued k its).cluster r).gang := congrArg Cluster.gang (hcl r)
      have hbusy : ((s.gangIssued k w its).cluster r).gang.busy (s.gangIssued k w its) x.exeTile.grid = true := by
        rw [← hgrid]
        refine busy_of_queued ?_
        rw [hgang, hqueue]
        exact List.mem_append_right _ hit
      rw [handGang_busy (hgang ▸ hholder) hbusy, hgang]
      exact ⟨hholder, hshape⟩
    · exact hhgroups.trans ((congrArg (fun z => z.gang.groups) (hcl r)).trans hgroups)
    · rw [hhand.core, hcore, Core.usedSource_frame, Core.usedSource_frame, honly.core]
      refine ⟨rfl, rfl, ⟨rfl, rfl, rfl, rfl, rfl, rfl, rfl⟩, ⟨rfl, rfl, rfl, rfl, rfl, rfl, rfl⟩, fun j hj => ?_, fun j hj => ?_⟩
      · rw [hhand.2 j hj]
        exact (hcl j).trans (honly.2 j hj)
      · rw [hhand.core]
        exact (hcoreOnly.2 j hj).trans (honly.core j)
  · obtain ⟨p, q, hp, hq, hcore, hgrid, ha, hb, hd, hk, hw, har, hr, hbc, hc, hch⟩ := mem_gangItems hit
    obtain ⟨hrows, hrow⟩ := mem_gangCuts (gangRows_pos cut) hp
    obtain ⟨hcols, hcol⟩ := mem_gangCuts (gangCols_pos cut) hq
    refine ⟨hcore, hgrid, ha, hb, hd, hk, hw, by omega, by omega, by omega, by omega, ?_⟩
    rw [hch, beq_iff_eq]
  · obtain ⟨p, hp, hpi, hip⟩ := exists_gangCut (gangRows_pos cut) hi
    obtain ⟨q, hq, hqj, hjq⟩ := exists_gangCut (gangCols_pos cut) hj
    obtain ⟨it, hit, har, hr, hbc, hc⟩ := exists_gangItem (w := w) (x := x) (k := k) (now := s.time) (t := x.exeTile) (a := a) (b := b) hp hq
    exact ⟨it, hit, by omega, by omega, by omega, by omega⟩
  · refine ⟨_, exec_gang_asks h hoa hob hm, ?_⟩
    have hcore : ((s.gangAsked k).stallExe k .gangUnit).core k = { x with exeStall := some (.gangUnit, s.time) } :=
      State.core_modCore_same _ _ _
    rw [hcore]
    exact ⟨rfl, rfl, gangAsked_spec s k⟩

end Sys2Proof
end

section
/-!
The groups of the gang unit (O21): what an item reads as it starts, how it ends, and what its drain writes.
-/
namespace Sys2Proof.Machine

variable {s : State} {x : GangItem} {rank : BitVec 8} {group : BitVec 3}

/-! ### Operands -/

/-- Place m * c + j of rows of c elements put one behind the other. -/
theorem getElem?_flatten_rows {α : Type} {c : Nat} (l : List (List α)) (hl : ∀ e ∈ l, e.length = c) {m j : Nat} (hj : j < c) :
    l.flatten[m * c + j]? = l[m]?.bind (·[j]?) := by
  induction l generalizing m with
  | nil => simp
  | cons e l ih =>
    have he : e.length = c := hl e (by simp)
    cases m with
    | zero =>
      rw [List.flatten_cons, List.getElem?_append_left (by omega)]
      simp
    | succ m =>
      rw [List.flatten_cons, List.getElem?_append_right (by rw [he, Nat.succ_mul]; omega), he,
        show (m + 1) * c + j - c = m * c + j by rw [Nat.succ_mul]; omega, ih (fun e he => hl e (by simp [he]))]
      simp

/-- Codes first to first + n of packed elements. -/
def Core.codes (y : Core) (fmt base first n : Nat) : List Nat :=
  (List.range n).map (fun i => elemAt fmt (y.bytes base (elemBytes fmt (first + n))) (first + i))

theorem Core.codes_getElem? (y : Core) (fmt base first : Nat) {n m : Nat} (hm : m < n) :
    (y.codes fmt base first n)[m]? = some (elemAt fmt (memReadN y.spad base (elemBytes fmt (first + n))) (first + m)) := by
  simp [Core.codes, hm, Core.bytes]

theorem gangRead_eq (s : State) (x : GangItem) : s.gangRead x = { x with
    a := (s.core x.core).codes x.opFormat.toNat x.aBase (x.aRow * x.k) (x.rows * x.k)
    b := ((List.range x.k).map (fun r => (s.core x.core).codes x.opFormat.toNat x.bBase (r * x.width + x.bCol) x.cols)).flatten } := rfl

/-! ### Groups -/

theorem Gang.group_setGroup (g : Gang) (i j : Nat) (q : GangGroup) : (g.setGroup i q).group j = if j = i then q else g.group j :=
  tget_tset _ _ _ _ _

theorem exec_gangItemStart (hw : s.works = true)
    (hi : group.toNat < gangGroups (s.cluster rank.toNat).gang.shape)
    (hr : ((s.cluster rank.toNat).gang.group group.toNat).running = none)
    (hn : (s.cluster rank.toNat).gang.nextItem group.toNat = some x) :
    exec (.gangItemStart rank group) s = .next (s.modGang rank.toNat (fun g =>
      { g.setGroup group.toNat { g.group group.toNat with
          running := some (s.gangRead x), acc := if (g.group group.toNat).chain.isSome then (g.group group.toNat).acc else []
          lastServed := x.core % 32 } with
        queue := g.queue.filter (fun y => y.id != x.id || y.core != x.core) })) := by
  change execGangItemStart rank group s = _
  unfold execGangItemStart
  simp only [hn]
  exact when_true (by simp [hw, hi, hr])

/-- A group after its item (R91, R93). -/
def GangGroup.ended (p : GangGroup) (x : GangItem) : GangGroup :=
  if x.chain then { p with running := none, acc := (gangCells x p.acc).1, chain := some x.core }
  else { p with running := none, acc := [], done := (gangCells x p.acc).1, draining := some x, chain := none }

/-- The state after a group's item has ended, before the unit may pass on. -/
def State.gangEnded (s : State) (r i : Nat) (x : GangItem) : State :=
  let p := (s.cluster r).gang.group i
  ((s.modGang r (fun g => g.setGroup i (p.ended x))).tally x.ctx (gangCells x p.acc).2).modGrid x.grid
    (fun g => { g with nans := g.nans + (gangCells x p.acc).2.nan })

theorem exec_gangItemEnd (hw : s.works = true) (hr : ((s.cluster rank.toNat).gang.group group.toNat).running = some x)
    (hd : x.chain = true ∨ ((s.cluster rank.toNat).gang.group group.toNat).draining = none) :
    exec (.gangItemEnd rank group) s = .next ((s.gangEnded rank.toNat group.toNat x).handGang rank.toNat) := by
  change execGangItemEnd rank group s = _
  unfold execGangItemEnd
  simp only [hr]
  refine when_true ?_
  obtain h | h := hd <;> simp [hw, h]

theorem gangEnded_spec (s : State) (r i : Nat) (x : GangItem) :
    let t := (s.gangEnded r i x).handGang r
    (t.cluster r).gang.group i = ((s.cluster r).gang.group i).ended x ∧ t.cores = s.cores ∧ t.dram = s.dram := by
  intro t
  obtain ⟨honly, -, hgroups⟩ := handGang_spec (s.gangEnded r i x) r
  have hgang : ((s.gangEnded r i x).cluster r).gang = (s.cluster r).gang.setGroup i (((s.cluster r).gang.group i).ended x) :=
    s.gang_modGang r (fun g => g.setGroup i (((s.cluster r).gang.group i).ended x))
  refine ⟨?_, honly.cores, honly.dram⟩
  rw [Gang.group, hgroups, hgang]
  exact tget_tset_same _ _ _ _

/-! ### The drain -/

/-- Where row n of a result lies. -/
def GangItem.rowAt (x : GangItem) (n : Nat) : Nat := x.dBase + elemBytes x.outFormat.toNat ((x.aRow + n) * x.width + x.bCol)

/-- The piece that row n of a drain writes. -/
def GangItem.rowPiece (x : GangItem) (t : Table Word32) (n : Nat) : Nat × List Byte := (x.rowAt n, (drainRow x t n).1)

theorem drainRow_length (x : GangItem) (t : Table Word32) (n : Nat) : (drainRow x t n).1.length = elemBytes x.outFormat.toNat x.cols := by
  simp [drainRow, packElems]

/-- A drain writes its rows to the issuing core's scratchpad, and leaves every other core and every unit. -/
theorem drainRows_spec (s : State) (x : GangItem) (t : Table Word32) (l : List Nat) :
    let u := l.foldl (fun s i => (s.putSpad x.core (x.rowAt i) (drainRow x t i).1).tally x.ctx (drainRow x t i).2) s
    (u.core x.core).spad = memPieces (s.core x.core).spad (l.map (x.rowPiece t)) ∧ (∀ j, j ≠ x.core → u.core j = s.core j) ∧
      u.clusters = s.clusters := by
  induction l generalizing s with
  | nil => exact ⟨rfl, fun _ _ => rfl, rfl⟩
  | cons n l ih =>
    obtain ⟨hspad, hcore, hclusters⟩ := ih ((s.putSpad x.core (x.rowAt n) (drainRow x t n).1).tally x.ctx (drainRow x t n).2)
    have hput : ((s.putSpad x.core (x.rowAt n) (drainRow x t n).1).core x.core).spad =
        memWriteN (s.core x.core).spad (x.rowAt n) (drainRow x t n).1 := congrArg Core.spad (State.core_modCore_same _ _ _)
    refine ⟨hspad.trans ?_, fun j hj => (hcore j hj).trans ?_, hclusters⟩
    · exact congrArg (fun m => memPieces m (l.map (x.rowPiece t))) hput
    · rw [State.tally, State.core_modCtx, State.putSpad, State.core_modCore_other _ _ hj]

/-- Elements of whole bytes: so many take so many bytes. -/
theorem elemBytes_of_le {f : Nat} (hf : f ≤ 2) (n : Nat) : elemBytes f n = n * (elemBits f / 8) := by
  have hf : f = 0 ∨ f = 1 ∨ f = 2 := by omega
  obtain rfl | rfl | rfl := hf
  all_goals simp only [elemBytes, elemBits, ceilDiv]; omega

theorem rowPiece_apart {x : GangItem} (hf : x.outFormat.toNat ≤ 2) (hc : x.bCol + x.cols ≤ x.width) (t : Table Word32) {m n : Nat}
    (h : m ≠ n) : Apart (x.rowPiece t m) (x.rowPiece t n) := by
  have hle : ∀ m n, m < n → x.rowAt m + elemBytes x.outFormat.toNat x.cols ≤ x.rowAt n := by
    intro m n hmn
    have h1 : (x.aRow + m + 1) * x.width ≤ (x.aRow + n) * x.width := Nat.mul_le_mul_right _ (by omega)
    have h2 : (x.aRow + m) * x.width + x.bCol + x.cols ≤ (x.aRow + n) * x.width + x.bCol := by
      rw [Nat.succ_mul] at h1
      omega
    have h3 := Nat.mul_le_mul_right (elemBits x.outFormat.toNat / 8) h2
    simp only [GangItem.rowAt, elemBytes_of_le hf]
    rw [Nat.add_mul] at h3
    omega
  simp only [Apart, GangItem.rowPiece, drainRow_length]
  obtain h | h := Nat.lt_or_gt_of_ne h
  · exact .inl (hle m n h)
  · exact .inr (hle n m h)

theorem exec_gangDrainDone (hw : s.works = true) (hd : ((s.cluster rank.toNat).gang.group group.toNat).draining = some x) :
    let p := (s.cluster rank.toNat).gang.group group.toNat
    exec (.gangDrainDone rank group) s = .next ((s.drainItem x p.done).modGang rank.toNat (fun g =>
      g.setGroup group.toNat { p with draining := none, done := [] })) := by
  intro p
  change execGangDrainDone rank group s = _
  unfold execGangDrainDone
  simp only [hd]
  exact when_true (by simp [hw])

end Sys2Proof.Machine

namespace Sys2Proof
open Sys2Proof.Machine

/-- Settles O21. -/
theorem gangGroups : Obligations.GangGroups := by
  intro rank group s x r i g p spad read fmt row
  refine ⟨⟨rfl, fun m hm => Core.codes_getElem? _ _ _ _ hm, fun m j hm hj => ?_⟩, fun hw => ⟨fun hi hr hn => ?_, fun hr hc => ?_, fun hr hc hd => ?_, fun hd hwf hfmt hcols => ?_⟩⟩
  · refine (getElem?_flatten_rows _ ?_ hj).trans ?_
    · intro e he
      obtain ⟨n, _, rfl⟩ := List.mem_map.mp he
      simp
    · rw [List.getElem?_map, List.getElem?_range hm]
      exact Core.codes_getElem? (s.core x.core) fmt x.bBase (m * x.width + x.bCol) hj
  · refine ⟨_, exec_gangItemStart hw hi hr hn, ?_⟩
    rw [State.gang_modGang]
    have hgroup : ∀ (q : List GangItem) (e : GangGroup) (j : Nat), Gang.group { g.setGroup i e with queue := q } j =
        if j = i then e else g.group j := fun q e j => Gang.group_setGroup g i j e
    rw [hgroup, if_pos rfl]
    refine ⟨rfl, ?_, rfl, rfl, fun y hy => ?_, fun j hj => ?_, rfl⟩
    · simp only [Option.isSome_iff_ne_none, ne_eq, ite_not]
      rfl
    · obtain ⟨hmem, hother⟩ := List.mem_filter.mp hy
      refine ⟨hmem, fun ⟨hid, hcore⟩ => ?_⟩
      simp [hid, hcore] at hother
    · rw [hgroup, if_neg hj]
  · obtain ⟨hgroup, hcores, hdram⟩ := gangEnded_spec s r i x
    refine ⟨_, exec_gangItemEnd hw hr (.inl hc), hgroup.trans ?_, hcores, hdram⟩
    rw [GangGroup.ended, if_pos hc]
  · obtain ⟨hgroup, hcores, hdram⟩ := gangEnded_spec s r i x
    refine ⟨_, exec_gangItemEnd hw hr (.inr hd), hgroup.trans ?_, hcores, hdram⟩
    rw [GangGroup.ended, if_neg (by simp [hc])]
  · obtain ⟨hspad, hcore, hclusters⟩ := drainRows_spec s x p.done (List.range x.rows)
    refine ⟨_, exec_gangDrainDone hw hd, ?_, fun n hn => ?_, fun a ha => ?_, fun j hj => hcore j hj⟩
    · rw [State.gang_modGang]
      exact tget_tset_same _ _ _ _
    · refine (congrArg (fun m => memReadN m (row n) _) hspad).trans ?_
      have := memReadN_memPieces hwf (p := x.rowPiece p.done n) (l := (List.range x.rows).map (x.rowPiece p.done))
        (List.mem_map.mpr ⟨n, List.mem_range.mpr hn, rfl⟩) (fun q hq => by
          obtain ⟨m, _, rfl⟩ := List.mem_map.mp hq
          by_cases hmn : n = m
          · exact .inl (by rw [hmn])
          · exact .inr (rowPiece_apart hfmt hcols p.done hmn))
      rwa [show (x.rowPiece p.done n).2.length = elemBytes x.outFormat.toNat x.cols from drainRow_length x p.done n] at this
    · refine (congrArg (fun m => memRead m a) hspad).trans (memRead_memPieces_other hwf fun q hq => ?_)
      obtain ⟨n, hn, rfl⟩ := List.mem_map.mp hq
      have := ha n (List.mem_range.mp hn)
      rwa [← drainRow_length x p.done n] at this

end Sys2Proof
end

section
/-!
Rules for the memory side: what is taken in, counted and held leaves memory alone; parcels and entries read after they are changed.
-/
namespace Sys2Proof.Machine

/-! ### Items of a list changed -/

/-- The first item that meets a test, after it is changed into one that still does. -/
theorem find?_updateFirst {α : Type} {p : α → Bool} {f : α → α} (hf : ∀ a, p a = true → p (f a) = true) (l : List α) :
    (updateFirst p f l).find? p = (l.find? p).map f := by
  induction l with
  | nil => rfl
  | cons a l ih =>
    by_cases ha : p a = true
    · simp [updateFirst, ha, hf a ha]
    · simp [updateFirst, ha, ih]

/-- An item that another test finds, when the change does not touch what it finds. -/
theorem find?_updateFirst_other {α : Type} {p q : α → Bool} {f : α → α} (hq : ∀ a, p a = true → q a = false ∧ q (f a) = false) (l : List α) :
    (updateFirst p f l).find? q = l.find? q := by
  induction l with
  | nil => rfl
  | cons a l ih =>
    by_cases ha : p a = true
    · simp [updateFirst, ha, hq a ha]
    · by_cases hqa : q a = true
      · simp [updateFirst, ha, hqa]
      · simp [updateFirst, ha, hqa, ih]

@[simp] theorem updateFirst_length {α : Type} (p : α → Bool) (f : α → α) (l : List α) : (updateFirst p f l).length = l.length := by
  induction l with
  | nil => rfl
  | cons a l ih =>
    unfold updateFirst
    split <;> simp [ih]

variable {s : State}

/-- The parcel of an address of a job, after it is changed. -/
theorem parcel?_modParcel (job : BitVec 16) (pn : Nat) {f : HomeParcel → HomeParcel}
    (hf : ∀ p, (f p).job = p.job ∧ (f p).parcel = p.parcel) : (s.modParcel job pn f).parcel? job pn = (s.parcel? job pn).map f :=
  find?_updateFirst (fun p hp => by rw [(hf p).1, (hf p).2]; exact hp) _

theorem entry?_modEntry (job : BitVec 16) (pn : Nat) {f : CadEntry → CadEntry}
    (hf : ∀ e, (f e).job = e.job ∧ (f e).parcel = e.parcel) : (s.modEntry job pn f).entry? job pn = (s.entry? job pn).map f :=
  find?_updateFirst (fun e he => by rw [(hf e).1, (hf e).2]; exact he) _

/-! ### What is taken in -/

theorem State.discharge_frame (s : State) (q : Packet) :
    s.discharge q = { s with fabric := (s.discharge q).fabric, ports := (s.discharge q).ports } := by
  unfold State.discharge
  split <;> rfl

theorem State.takeArrived_frame (s : State) (p : Packet → Bool) :
    s.takeArrived p = { s with fabric := (s.takeArrived p).fabric, ports := (s.takeArrived p).ports } := by
  unfold State.takeArrived
  split
  · rw [State.discharge_frame]; rfl
  · rfl

theorem State.slackOn_frame (s : State) (r : Request) : s.slackOn r = { s with contexts := (s.slackOn r).contexts } := by
  unfold State.slackOn
  split
  · split <;> rfl
  · rfl

theorem State.keepOld_frame (s : State) (r : Request) : s.keepOld r = { s with fabric := (s.keepOld r).fabric } := by
  unfold State.keepOld
  split
  · split <;> rfl
  · rfl

/-- A request taken in changes the fabric, the credits it gives back, and the slack that it meets (R213, R214). -/
theorem State.takeIn_frame (s : State) (r : Request) : s.takeIn r = { s with
    fabric := (s.takeIn r).fabric, ports := (s.takeIn r).ports, contexts := (s.takeIn r).contexts } := by
  unfold State.takeIn
  split
  · rw [State.takeArrived_frame, State.keepOld_frame]
  · split
    · rfl
    · rw [State.slackOn_frame]

theorem State.takeIn_home (s : State) (r : Request) : (s.takeIn r).home = s.home := by rw [State.takeIn_frame]
theorem State.takeIn_dram (s : State) (r : Request) : (s.takeIn r).dram = s.dram := by rw [State.takeIn_frame]
theorem State.takeIn_boot (s : State) (r : Request) : (s.takeIn r).boot = s.boot := by rw [State.takeIn_frame]

/-! ### Page-outs that a write cancels -/

theorem State.pageOutOf_frame (s : State) (may : HomeParcel → Bool) :
    s.pageOutOf may = { s with home := (s.pageOutOf may).home, recov := (s.pageOutOf may).recov, free := (s.pageOutOf may).free } := by
  unfold State.pageOutOf
  split <;> rfl

theorem State.cancelPageOut_frame (s : State) (job : BitVec 16) (pn : Nat) : s.cancelPageOut job pn = { s with
    home := (s.cancelPageOut job pn).home, recov := (s.cancelPageOut job pn).recov, free := (s.cancelPageOut job pn).free } := by
  unfold State.cancelPageOut
  split
  · split
    · dsimp only
      split
      · rw [State.pageOutOf_frame]; rfl
      · rfl
    · rfl
  · rfl

theorem State.cancelPageOut_dram (s : State) (job : BitVec 16) (pn : Nat) : (s.cancelPageOut job pn).dram = s.dram := by
  rw [State.cancelPageOut_frame]

/-! ### Writes to DRAM -/

theorem State.putDram_dram (s : State) (a : Nat) (bs : List Byte) : (s.putDram a bs).dram = memWriteN s.dram a bs := by
  unfold State.putDram
  dsimp only
  split <;> rfl

theorem State.poke_frame (s : State) (job : BitVec 16) (va : Nat) : s.poke job va = { s with queues := (s.poke job va).queues } := by
  unfold State.poke
  split <;> rfl

theorem State.poke_dram (s : State) (job : BitVec 16) (va : Nat) : (s.poke job va).dram = s.dram := by rw [State.poke_frame]

@[simp] theorem slice_length (l : List Byte) (off n : Nat) : (slice l off n).length = n := by simp [slice]

end Sys2Proof.Machine
end

section
/-!
A request at its home (O22): what the checks decide is what happens to it.
-/
namespace Sys2Proof.Machine

variable {s : State} {r : Request}

/-! ### The count at the home (R171) -/

theorem State.countReq_frame (s : State) (job : BitVec 16) (pn n : Nat) : s.countReq job pn n =
    { s with home := { s.home with parcels := (s.countReq job pn n).home.parcels } } := rfl

theorem parcel?_countReq (job : BitVec 16) (pn n : Nat) :
    (s.countReq job pn n).parcel? job pn = (s.parcel? job pn).map
      (fun p => { p with counts := tset p.counts n (tget p.counts n 0 + 1) }) :=
  parcel?_modParcel job pn fun _ => ⟨rfl, rfl⟩

theorem localAddr_countReq (job : BitVec 16) (va n : Nat) :
    (s.countReq job (parcelOf va) n).localAddr job va = s.localAddr job va := by
  unfold State.localAddr
  rw [parcel?_countReq]
  cases s.parcel? job (parcelOf va) <;> rfl

/-- An answer names its home's frame and generation alone, which no count changes. -/
theorem answer_countReq (n : Nat) (st : RStatus) (reason : Nat) (data : List Byte) :
    (s.countReq r.job (parcelOf r.va.toNat) n).answer r st reason data = s.answer r st reason data := by
  unfold State.answer
  rw [parcel?_countReq]
  cases s.parcel? r.job (parcelOf r.va.toNat) <;> rfl

/-! ### Held requests (R172) -/

theorem serve_hold_room {p : HomeParcel} (h : s.homeAct r = .hold) (hp : s.parcel? r.job (parcelOf r.va.toNat) = some p)
    (hl : p.held.length < 256) :
    s.serve r = (none, (s.countReq r.job (parcelOf r.va.toNat) r.src.toNat).holdReq r) := by
  simp only [State.serve, h, State.holdOrRetry, parcel?_countReq, hp, Option.map_some, hl, decide_true, Option.getD_some, if_true]

theorem serve_hold_full {p : HomeParcel} (h : s.homeAct r = .hold) (hp : s.parcel? r.job (parcelOf r.va.toNat) = some p)
    (hl : 256 ≤ p.held.length) :
    s.serve r = (some (s.answer r .retry 0 []), (s.countReq r.job (parcelOf r.va.toNat) r.src.toNat).modHome
      (fun h => { h with moveRetries := h.moveRetries + 1 })) := by
  have hlt : ¬ p.held.length < 256 := by omega
  simp only [State.serve, h, State.holdOrRetry, parcel?_countReq, hp, Option.map_some, hlt, decide_false, Option.getD_some,
    Bool.false_eq_true, if_false, answer_countReq]

/-! ### The other decisions -/

theorem serve_denied {m : Nat} (h : s.homeAct r = .denied m) : s.serve r = (some (s.answer r .denied m []), s) := by
  simp only [State.serve, h]

theorem serve_drop (h : s.homeAct r = .drop) : s.serve r = (some (s.answer r .noFrame 0 []), s) := by simp only [State.serve, h]

theorem serve_poison (h : s.homeAct r = .poison) :
    s.serve r = (some (s.answer r .poison 0 (if r.op = .read then List.replicate 128 0xFF else [])),
      s.countReq r.job (parcelOf r.va.toNat) r.src.toNat) := by
  simp only [State.serve, h, State.poisoned]

theorem serve_forward {f : FwdRec} (h : s.homeAct r = .away)
    (hf : s.home.forwards.find? (fun f => f.job == r.job && f.parcel == parcelOf r.va.toNat) = some f) (hfwd : r.fwd = false) :
    s.serve r = (none, s.forwardReq r f.home) := by
  simp only [State.serve, h, hf, hfwd, Bool.false_eq_true, if_false]

theorem serve_away (h : s.homeAct r = .away)
    (hf : s.home.forwards.find? (fun f => f.job == r.job && f.parcel == parcelOf r.va.toNat) = none ∨ r.fwd = true) :
    s.serve r = (some (s.answer r .bearingMiss 0 []), s) := by
  simp only [State.serve, h]
  split
  · next f hsome =>
    obtain hnone | hfwd := hf
    · rw [hnone] at hsome; cases hsome
    · simp [hfwd]
  · rfl

theorem serve_perform (h : s.homeAct r = .perform) :
    s.serve r = (some ((s.countReq r.job (parcelOf r.va.toNat) r.src.toNat).performAt r).1,
      ((s.countReq r.job (parcelOf r.va.toNat) r.src.toNat).performAt r).2) := by
  simp only [State.serve, h]

/-! ### A request performed (R157, R213) -/

theorem poked_dram (p : Prop) [Decidable p] (v : State) (job : BitVec 16) (va : Nat) :
    (if p then v.poke job va else v).dram = v.dram := by
  split
  · exact State.poke_dram _ _ _
  · rfl

/-- A performed request: its answer, and the bytes of DRAM that it reads or writes. -/
theorem performAt_spec {la : Nat} (hop : r.op = .read ∨ r.op = .write ∨ r.op = .atomic) (hla : s.localAddr r.job r.va.toNat = some la)
    (hwf : Memory.wf s.dram = true) :
    let wide := atomWide r
    let n := if r.op = .write then r.size.toNat + 1 else if wide then 8 else 4
    let old := leNat (s.getDram la (if wide then 8 else 4))
    let rep := (s.performAt r).1
    let u := (s.performAt r).2
    rep.status = .ok ∧ rep.dest = r.src ∧ rep.tag = r.tag ∧
      (r.op = .read → rep.data = s.getDram (lineOf la) 128 ∧ u.dram = s.dram) ∧
      (r.op = .write → rep.data = [] ∧ u.getDram la n = slice r.payload 0 n) ∧
      (r.op = .atomic → rep.data = natLE old 8 ∧ u.getDram la n = natLE (atomApply (atomCode r) wide old r.arg.toNat).1 n) ∧
      ∀ a, r.op ≠ .read → a < la ∨ la + n ≤ a → memRead u.dram a = memRead s.dram a := by
  intro wide n old rep u
  have hput : ∀ (bs : List Byte), bs.length = n → u.dram = memWriteN s.dram la bs →
      u.getDram la n = bs ∧ ∀ a, a < la ∨ la + n ≤ a → memRead u.dram a = memRead s.dram a := by
    intro bs hlen hu
    refine ⟨?_, fun a ha => ?_⟩
    · rw [State.getDram, hu, ← hlen]
      exact memReadN_memWriteN hwf _ _
    · rw [hu]
      exact memRead_memWriteN_other hwf _ _ (by rw [hlen]; exact ha)
  obtain hop | hop | hop := hop
  · have hperf : s.performAt r = (s.answer r .ok 0 (s.getDram (lineOf la) 128), s.moved (lineOf la) 128) := by
      simp only [State.performAt, hla, hop]
    simp only [rep, u, hperf, hop]
    exact ⟨rfl, rfl, rfl, fun _ => ⟨rfl, rfl⟩, by simp⟩
  · have hperf : s.performAt r = ((s.cancelPageOut r.job (parcelOf r.va.toNat)).answer r .ok 0 [],
        ((s.cancelPageOut r.job (parcelOf r.va.toNat)).putDram la (slice r.payload 0 (r.size.toNat + 1))).moved la (r.size.toNat + 1)) := by
      simp only [State.performAt, hla, hop]
    obtain ⟨hread, hother⟩ := hput (slice r.payload 0 n) (slice_length _ _ _) (by
      simp only [u, n, hperf, hop, if_true]
      exact (State.putDram_dram _ _ _).trans (congrArg (fun m => memWriteN m la _) (State.cancelPageOut_dram _ _ _)))
    refine ⟨?_, ?_, ?_, by simp [hop], fun _ => ⟨?_, hread⟩, by simp [hop], fun a _ => hother a⟩
    all_goals simp only [rep, hperf, State.answer]
  · have hn : n = if wide then 8 else 4 := by simp [n, hop]
    have hrep : ∃ v : State, rep = v.answer r .ok 0 (natLE old 8) := ⟨_, by
      simp only [rep, old, State.performAt, hla, hop, State.getDram, State.cancelPageOut_dram]
      rfl⟩
    have hu : u.dram = memWriteN s.dram la (natLE (atomApply (atomCode r) wide old r.arg.toNat).1 n) := by
      rw [hn]
      have hput : ∀ bs, ((s.cancelPageOut r.job (parcelOf r.va.toNat)).putDram la bs).dram = memWriteN s.dram la bs := fun bs =>
        (State.putDram_dram _ _ _).trans (congrArg (fun m => memWriteN m la bs) (State.cancelPageOut_dram _ _ _))
      have hget : ∀ m, (s.cancelPageOut r.job (parcelOf r.va.toNat)).getDram la m = s.getDram la m := fun m => by
        rw [State.getDram, State.cancelPageOut_dram]; rfl
      simp only [u, State.performAt, hla, hop, hget]
      split
      · rw [poked_dram]; exact hput _
      · rw [poked_dram]; exact hput _
    obtain ⟨v, hv⟩ := hrep
    obtain ⟨hread, hother⟩ := hput _ (natLE_length _ _) hu
    rw [hv]
    exact ⟨rfl, rfl, rfl, by simp [hop], by simp [hop], fun _ => ⟨rfl, hread⟩, fun a _ => hother a⟩

theorem exec_home (hop : r.op = .read ∨ r.op = .write ∨ r.op = .atomic) (hready : s.homeReady r = true) :
    exec (match r.op with | .read => .read r | .write => .write r | _ => .atomic r) s = .next (s.homeRequest r) := by
  obtain hop | hop | hop := hop <;> simp only [hop] <;> exact when_true (by simp [hop, hready])

/-- What a home sends and keeps after it has handled a request. -/
def State.served (r : Request) (x : Option Reply × State) : State :=
  match x with
  | (some rep, u) => u.sendReply r rep
  | (none, u) => u

/-- A request of another module at the home logic of one that runs. -/
theorem homeRequest_eq (hown : s.ownSent r = false) (hboot : s.boot.state ≠ .stopped) :
    s.homeRequest r = State.served r ((s.takeIn r).serve r) := by
  unfold State.homeRequest
  simp only [hboot, hown, Bool.false_eq_true, false_and, if_false]
  rfl

end Sys2Proof.Machine

namespace Sys2Proof
open Sys2Proof.Machine

/-- Settles O22. -/
theorem homeRequests : Obligations.HomeRequests := by
  intro r s la t pn wide n i old hop hready hown hboot
  have hexec : ∀ x, t.serve r = x → exec i s = .next (State.served r x) := fun x hx => by
    rw [← hx, ← homeRequest_eq hown hboot]
    exact exec_home hop hready
  have hhome : t.home = s.home := s.takeIn_home r
  refine ⟨fun m h => ?_, fun p h hp hl => ?_, fun p h hp hl => ?_, fun h => ?_, fun h => ?_, fun f h hf hfwd => ?_, fun h hf => ?_,
    fun h hla hwf => ?_⟩
  · exact hexec _ (serve_denied h)
  · exact hexec _ (serve_hold_room h hp hl)
  · refine ⟨_, hexec _ (serve_hold_full h hp hl), s.takeIn_dram r, ?_⟩
    change t.home.moveRetries + 1 = _
    rw [hhome]
  · exact hexec _ (serve_drop h)
  · exact ⟨_, hexec _ (serve_poison h), s.takeIn_dram r⟩
  · exact hexec _ (serve_forward h (by rw [hhome]; exact hf) hfwd)
  · exact hexec _ (serve_away h (by rw [hhome]; exact hf))
  · have hlocal : t.localAddr r.job r.va.toNat = some la := by
      unfold State.localAddr State.parcel?
      rw [hhome]
      exact hla
    have hdram : (t.countReq r.job pn r.src.toNat).dram = s.dram := s.takeIn_dram r
    have hspec := performAt_spec (s := t.countReq r.job pn r.src.toNat) hop ((localAddr_countReq _ _ _).trans hlocal) (by rw [hdram]; exact hwf)
    simp only [State.getDram, hdram] at hspec
    exact ⟨_, _, hexec _ (serve_perform h), hspec⟩

end Sys2Proof
end

section
/-!
The memory side's steps on messages, timers and bearing requests (O23 to O25).
-/
namespace Sys2Proof.Machine

variable {s : State}

/-- A guard that holds, and its effect. -/
theorem when_eq {n : String} {g : Bool} {t u : State} (hg : g = true) (h : t = u) : when n g t = .next u := by
  rw [when_true hg, h]

/-! ### Acknowledgements (R209) -/

theorem exec_invalidateAck {p : Packet} {tag : BitVec 16} {issuer : BitVec 15} (hup : s.mainUp = true) (ha : ackOf p = some (tag, issuer))
    (hd : p.env.dest.toNat = s.self) : exec (.invalidateAck p) s = .next ((s.takeArrived (· == p)).acked p tag issuer) := by
  change execInvalidateAck p s = _
  unfold execInvalidateAck
  simp only [ha]
  exact when_eq (by simp [hup, hd]) rfl

/-- Taking a packet away leaves the fabric's lists of relays, INVALIDATEs and accesses as they were. -/
theorem takeArrived_lists (s : State) (p : Packet → Bool) :
    (s.takeArrived p).fabric.relays = s.fabric.relays ∧ (s.takeArrived p).fabric.invals = s.fabric.invals ∧
      (s.takeArrived p).fabric.accesses = s.fabric.accesses := by
  unfold State.takeArrived
  split
  · unfold State.discharge
    split <;> exact ⟨rfl, rfl, rfl⟩
  · exact ⟨rfl, rfl, rfl⟩

theorem takeArrived_self (s : State) (p : Packet → Bool) : (s.takeArrived p).self = s.self := by
  rw [State.takeArrived_frame]
  rfl

section
variable {p : Packet} {tag : BitVec 16} {issuer : BitVec 15}

theorem acked_own {x : Inval} (hi : issuer.toNat = s.self) (hx : s.fabric.invals.find? (fun y => y.tag == tag) = some x) :
    s.acked p tag issuer = if x.left ≤ 1 then s.invalDone x else s.modFabric (fun f =>
      { f with invals := updateFirst (fun y => y.id == x.id) (fun y => { y with left := y.left - 1 }) f.invals }) := by
  simp only [State.acked, hi, if_true, hx]

theorem acked_own_none (hi : issuer.toNat = s.self) (hx : s.fabric.invals.find? (fun y => y.tag == tag) = none) :
    s.acked p tag issuer = s := by
  simp only [State.acked, hi, if_true, hx]

theorem acked_relay {x : Relay} (hi : issuer.toNat ≠ s.self)
    (hx : s.fabric.relays.find? (fun x => x.tag == tag && x.issuer == issuer && x.left != 0) = some x) :
    s.acked p tag issuer = if x.left = 1 then
        (s.modFabric (fun f => { f with relays := takeFirst (· == x) f.relays })).sendAck x.dst p.env.cls x.va x.tag x.issuer
      else s.modFabric (fun f => { f with relays := updateFirst (· == x) (fun y => { y with left := y.left - 1 }) f.relays }) := by
  simp only [State.acked, hi, if_false, hx]

theorem acked_relay_none (hi : issuer.toNat ≠ s.self)
    (hx : s.fabric.relays.find? (fun x => x.tag == tag && x.issuer == issuer && x.left != 0) = none) : s.acked p tag issuer = s := by
  simp only [State.acked, hi, if_false, hx]

end

theorem exec_invalidateRequest {p : Packet} {r : Request} (hup : s.mainUp = true) (hr : invalidateOf p = some r) :
    exec (.invalidateRequest p) s =
      .next (if s.boot.state = .stopped then s.takeArrived (· == p) else (s.takeArrived (· == p)).invalidated p r) := by
  change execInvalidateRequest p s = _
  unfold execInvalidateRequest
  simp only [hr]
  exact when_eq (by simp [hup]) rfl

/-! ### Replies (R200) -/

theorem exec_reply {rep : Reply} (hup : s.mainUp = true) (hd : rep.dest.toNat = s.self) :
    exec (.reply rep) s = .next ((s.takeArrived (isRep rep)).replied rep) := when_eq (by simp [hup, hd]) rfl

/-! ### Timers -/

theorem dueAt_true {a : Access} {t : Nat} (ht : t ≤ s.time) (hs : a.purpose = .lookup → s.slotsHeld < replySlots) : dueAt s a t = true := by
  by_cases h : a.purpose = .lookup
  · simp [dueAt, ht, h, hs h]
  · simp [dueAt, ht, h]

section
variable {id t : Nat} {a : Access}

theorem exec_retryResend (hup : s.mainUp = true) (ha : s.access? id = some a) (hst : a.stage = .retry t) (ht : t ≤ s.time)
    (hs : a.purpose = .lookup → s.slotsHeld < replySlots) :
    exec (.retryResend id) s = .next (if a.purpose = .lookup then s.lookupAgain a else s.route a) := by
  change execRetryResend id s = _
  unfold execRetryResend
  simp only [ha, hst]
  exact when_eq (by simp [hup, dueAt_true ht hs]) rfl

theorem exec_bearingMissRepeat (hup : s.mainUp = true) (ha : s.access? id = some a) (hst : a.stage = .repeatAt t) (ht : t ≤ s.time)
    (hs : a.purpose = .lookup → s.slotsHeld < replySlots) : exec (.bearingMissRepeat id) s = .next (s.repeatNow a) := by
  change execBearingMissRepeat id s = _
  unfold execBearingMissRepeat
  simp only [ha, hst]
  exact when_eq (by simp [hup, dueAt_true ht hs]) rfl

theorem repeatNow_unchanged {b : Bearing} (hb : s.bearing? a.req.job a.parcel = some b) (hm : a.missed = some (b.home, b.gen)) :
    s.repeatNow a = s.modAccess a.id (fun a => { a with stage := .repeatAt (s.time + 1000), missed := none }) := by
  simp only [State.repeatNow, hb, hm, if_true]

theorem repeatNow_changed (h : ∀ b, s.bearing? a.req.job a.parcel = some b → a.missed ≠ some (b.home, b.gen)) :
    s.repeatNow a = s.route a := by
  unfold State.repeatNow
  split
  · next b hb => rw [if_neg (h b hb)]
  · rfl

theorem exec_fabricTimeout_access (hup : s.mainUp = true) (ha : s.access? id = some a) (hw : a.waits = true)
    (ht : a.sentAt + s.fabricTimeout a.ctx ≤ s.time) : exec (.fabricTimeout id) s = .next (s.timeOut a) := by
  change execFabricTimeout id s = _
  unfold execFabricTimeout
  simp only [ha]
  exact when_eq (by simp [hup, hw, ht]) rfl

theorem exec_fabricTimeout_inval {x : Inval} (hup : s.mainUp = true) (ha : s.access? id = none)
    (hx : s.fabric.invals.find? (fun x => x.id == id) = some x) (ho : x.orphan = none)
    (ht : x.sentAt + s.fabricTimeout x.ctx ≤ s.time) : exec (.fabricTimeout id) s = .next (s.timeOutInval x) := by
  change execFabricTimeout id s = _
  unfold execFabricTimeout
  simp only [ha, hx]
  exact when_eq (by simp [hup, ho, ht]) rfl

/-- A target declared unreachable 100 µs ago, and a timeout that has passed (R395). -/
theorem lost_of_unreachable {m : Nat} {u : Nat × Nat} (hu : u ∈ s.fabric.unreachable) (hm : u.1 = m)
    (ht : max t (u.2 + 100000) ≤ s.time) :
    s.fabric.unreachable.any (fun u => u.1 == m && decide (max t (u.2 + 100000) ≤ s.time)) = true :=
  List.any_eq_true.mpr ⟨u, hu, by simp only [hm, beq_self_eq_true, Bool.true_and, decide_eq_true_eq]; exact ht⟩

theorem exec_replySlotReclaim_access {u : Nat × Nat} (hup : s.mainUp = true) (ha : s.access? id = some a) (hst : a.stage = .timedOut t)
    (hu : u ∈ s.fabric.unreachable) (hm : u.1 = a.req.dest.toNat) (ht : max t (u.2 + 100000) ≤ s.time) :
    exec (.replySlotReclaim id) s = .next (s.dropAccess id).ownNext := by
  change execReplySlotReclaim id s = _
  unfold execReplySlotReclaim
  simp only [ha, hst]
  exact when_eq (by rw [hup, lost_of_unreachable hu hm ht]; rfl) rfl

theorem exec_replySlotReclaim_inval {x : Inval} {u : Nat × Nat} {m : BitVec 15} (hup : s.mainUp = true) (ha : s.access? id = none)
    (hx : s.fabric.invals.find? (fun x => x.id == id) = some x) (ho : x.orphan = some t) (hu : u ∈ s.fabric.unreachable)
    (hmem : m ∈ x.mods) (hm : u.1 = m.toNat) (ht : max t (u.2 + 100000) ≤ s.time) :
    exec (.replySlotReclaim id) s =
      .next (s.modFabric (fun f => { f with invals := f.invals.filter (fun y => y.id != x.id) })).ownNext := by
  change execReplySlotReclaim id s = _
  unfold execReplySlotReclaim
  simp only [ha, hx, ho, Option.map_some, Option.getD_some]
  refine when_eq ?_ rfl
  rw [hup, Bool.true_and]
  exact List.any_eq_true.mpr ⟨m, hmem, lost_of_unreachable hu hm ht⟩

end

end Sys2Proof.Machine

namespace Sys2Proof
open Sys2Proof.Machine

/-- Settles O23. -/
theorem homeMessages : Obligations.HomeMessages := by
  intro p r tag issuer rep s hup t u mine
  obtain ⟨hrelays, hinvals, -⟩ := takeArrived_lists s (· == p)
  have hself := takeArrived_self s (· == p)
  refine ⟨fun hr hb => ?_, fun hr hb => ?_, fun ha hd => ⟨fun x hi hx hl => ?_, fun x hi hx hl => ?_, fun hi hx => ?_, fun x hi hx hl => ?_,
    fun x hi hx hl => ?_, fun hi hx => ?_⟩, fun a hd hx => ?_, fun hd hx => ?_⟩
  · rw [exec_invalidateRequest hup hr, if_neg hb]
  · rw [exec_invalidateRequest hup hr, if_pos hb]
  · rw [exec_invalidateAck hup ha hd, acked_relay (by rw [hself]; exact hi) (by rw [hrelays]; exact hx), if_neg hl]
  · rw [exec_invalidateAck hup ha hd, acked_relay (by rw [hself]; exact hi) (by rw [hrelays]; exact hx), if_pos hl]
  · rw [exec_invalidateAck hup ha hd, acked_relay_none (by rw [hself]; exact hi) (by rw [hrelays]; exact hx)]
  · rw [exec_invalidateAck hup ha hd, acked_own (by rw [hself]; exact hi) (by rw [hinvals]; exact hx), if_neg (by omega)]
  · rw [exec_invalidateAck hup ha hd, acked_own (by rw [hself]; exact hi) (by rw [hinvals]; exact hx), if_pos hl]
  · rw [exec_invalidateAck hup ha hd, acked_own_none (by rw [hself]; exact hi) (by rw [hinvals]; exact hx)]
  all_goals
    obtain ⟨-, -, haccesses⟩ := takeArrived_lists s (isRep rep)
    rw [exec_reply hup hd, State.replied, haccesses, hx]

/-- Settles O24. -/
theorem senderTimers : Obligations.SenderTimers := by
  intro id s at_ hup
  refine ⟨fun a ha => ⟨fun ht => ⟨fun hst hp => ?_, fun hst hp hs => ?_, fun hs => ⟨fun b hst hb hm => ?_, fun hst hb => ?_⟩⟩, fun hw ht => ?_,
    fun u hst hu hm ht => ?_⟩, fun x ha hx => ⟨fun ho ht => ?_, fun u m ho hu hmem hm ht => ?_⟩⟩
  · rw [exec_retryResend hup ha hst ht (fun h => absurd h hp), if_neg hp]
  · rw [exec_retryResend hup ha hst ht (fun _ => hs), if_pos hp]
  · rw [exec_bearingMissRepeat hup ha hst ht hs, repeatNow_unchanged hb hm]
    exact ⟨_, rfl, rfl, rfl⟩
  · rw [exec_bearingMissRepeat hup ha hst ht hs, repeatNow_changed hb]
  · exact exec_fabricTimeout_access hup ha hw ht
  · exact exec_replySlotReclaim_access hup ha hst hu hm ht
  · exact exec_fabricTimeout_inval hup ha hx ho ht
  · exact exec_replySlotReclaim_inval hup ha hx ho hu hmem hm ht

end Sys2Proof
end

section
/-!
What a registrar answers (O25).
-/
namespace Sys2Proof.Machine

variable {s : State} {r : Request} {fab : Fab}

theorem exec_regLookup (hop : r.op = .regLookup) (hr : s.registrarReach r = true) :
    exec (.regLookup r fab) s = .next (s.regLookup r fab) := when_eq (by simp [hop, hr]) rfl

/-- A bearing request of a job that has a context here, from another module set. -/
theorem regLookup_foreign {c : Nat} (hb : s.boot.state ≠ .stopped) (hc : (s.takeIn r).ctxOf r.job = some c)
    (hset : r.arg.toNat % 2 ^ 32 ≠ ((s.takeIn r).ctx c).setCrc.toNat) :
    s.regLookup r fab = ((s.takeIn r).refuse r .denied 3).raise { code := 0x0109, ctx := some c } := by
  simp only [State.regLookup, State.takeIn_boot, hb, if_false, hc, if_pos hset]

theorem regLookup_unmapped {c : Nat} (hb : s.boot.state ≠ .stopped) (hc : (s.takeIn r).ctxOf r.job = some c)
    (hset : r.arg.toNat % 2 ^ 32 = ((s.takeIn r).ctx c).setCrc.toNat)
    (he : (s.takeIn r).entry? r.job (parcelOf r.va.toNat) = none) :
    s.regLookup r fab = (s.takeIn r).refuse r .addrUnmapped 0 := by
  simp only [State.regLookup, State.takeIn_boot, hb, if_false, hc, if_neg (not_not_intro hset), he]

theorem regLookup_entry {c : Nat} {e : CadEntry} (hb : s.boot.state ≠ .stopped)
    (hc : (s.takeIn r).ctxOf r.job = some c) (hset : r.arg.toNat % 2 ^ 32 = ((s.takeIn r).ctx c).setCrc.toNat)
    (he : (s.takeIn r).entry? r.job (parcelOf r.va.toNat) = some e) :
    s.regLookup r fab = (s.takeIn r).lookedUp c r e fab := by
  simp only [State.regLookup, State.takeIn_boot, hb, if_false, hc, if_neg (not_not_intro hset), he]

/-- An entry in memory is answered with its bearing (R179). -/
theorem lookedUp_present {c : Nat} {e : CadEntry} (he : e.state = .resident ∨ e.state = .moving ∨ e.state = .pagingOut) :
    s.lookedUp c r e fab = s.sendReply r (s.bearingReply r e) := by
  obtain he | he | he := he <;> simp only [State.lookedUp, he]

theorem lookedUp_paged {c : Nat} {e : CadEntry} (he : e.state = .pagingIn ∨ e.state = .paged) (hh : e.home.toNat = s.self) :
    s.lookedUp c r e fab = s.holdLookup r := by
  obtain he | he := he <;> simp only [State.lookedUp, he, hh, if_true]

theorem holdLookup_room {p : HomeParcel} (hp : s.parcel? r.job (parcelOf r.va.toNat) = some p) (hl : p.held.length < 256) :
    s.holdLookup r = s.holdReq r := by
  simp only [State.holdLookup, State.holdOrRetry, hp, Option.map_some, hl, decide_true, Option.getD_some, if_true]

theorem holdLookup_full {p : HomeParcel} (hp : s.parcel? r.job (parcelOf r.va.toNat) = some p) (hl : 256 ≤ p.held.length) :
    s.holdLookup r = (s.modHome (fun h => { h with moveRetries := h.moveRetries + 1 })).sendReply r (s.answer r .retry 0 []) := by
  have hlt : ¬ p.held.length < 256 := by omega
  simp only [State.holdLookup, State.holdOrRetry, hp, Option.map_some, hlt, decide_false, Option.getD_some, Bool.false_eq_true, if_false]

end Sys2Proof.Machine

namespace Sys2Proof
open Sys2Proof.Machine

/-- Settles O25. -/
theorem registrarAnswers : Obligations.RegistrarAnswers := by
  intro r fab s hop hr t run
  have hrun : run = .next (s.regLookup r fab) := exec_regLookup hop hr
  refine ⟨fun hb => ?_, fun hb hc => ?_, fun c hb hc => ?_⟩
  · rw [hrun]
    simp only [State.regLookup, State.takeIn_boot, hb, if_true]
    rfl
  · rw [hrun]
    simp only [t] at hc
    simp only [State.regLookup, State.takeIn_boot, hb, if_false, hc]
    rfl
  · refine ⟨fun hcrc => ?_, fun hcrc he => ?_, fun e hcrc he => ?_⟩
    · rw [hrun, regLookup_foreign hb hc hcrc]
    · rw [hrun, regLookup_unmapped hb hc hcrc he]
    · have hlooked : run = .next (t.lookedUp c r e fab) := by rw [hrun, regLookup_entry hb hc hcrc he]
      refine ⟨fun hst => ⟨t.bearingReply r e, ?_, rfl, rfl, rfl, rfl, rfl, rfl, rfl⟩, fun p hst hpn hh hp => ⟨fun hl => ?_, fun hl => ?_⟩, hlooked⟩
      · rw [hlooked, lookedUp_present hst]
      · rw [hlooked, lookedUp_paged hst hh, holdLookup_room (by rw [← hpn]; exact hp) hl]
      · refine ⟨_, by rw [hlooked, lookedUp_paged hst hh, holdLookup_full (by rw [← hpn]; exact hp) hl], ?_⟩
        exact congrArg (fun h : Home => h.moveRetries + 1) (s.takeIn_home r)

end Sys2Proof
end

section
/-!
A parcel moves (O26): tallies, the lines of a copy, the switch, the drain, the end of a move.
-/
namespace Sys2Proof.Machine

variable {s : State} {r : Request}

/-! ### Lines of a copy (R183, R195) -/

theorem State.openIncoming_frame (s : State) (r : Request) : s.openIncoming r = { s with home := (s.openIncoming r).home } := by
  unfold State.openIncoming
  dsimp only
  split
  · rfl
  · split <;> rfl

/-- The state after a line of a copy that is not the last. -/
def State.lineTaken (s : State) (r : Request) (x : Incoming) : State :=
  let la := x.frame * frameBytes + lineOf (r.va.toNat % frameBytes)
  ((s.putDram la (slice r.payload 0 128)).moved la 128).modHome (fun h =>
    { h with incoming := updateFirst (fun y => y.job == x.job && y.parcel == x.parcel) (fun _ => { x with got := x.got + 1 }) h.incoming })

theorem moveLine_line {c : Nat} {x : Incoming} (hb : s.boot.state ≠ .stopped) (hc : (s.takeIn r).ctxOf r.job = some c)
    (hx : ((s.takeIn r).openIncoming r).home.incoming.find? (fun x => x.job == r.job && x.parcel == parcelOf r.va.toNat) = some x)
    (hg : x.got + 1 ≠ frameLines) : s.moveLine r = (((s.takeIn r).openIncoming r).lineTaken r x).refuse r .ok 0 := by
  simp only [State.moveLine, State.takeIn_boot, hb, if_false, hc, Option.isNone_some, Bool.false_eq_true, hx, hg]
  rfl

theorem State.modHome_dram (s : State) (f : Home → Home) : (s.modHome f).dram = s.dram := rfl
theorem State.moved_dram (s : State) (a n : Nat) : (s.moved a n).dram = s.dram := rfl

theorem lineTaken_eq (x : Incoming) : (s.lineTaken r x).dram =
    memWriteN s.dram (x.frame * frameBytes + lineOf (r.va.toNat % frameBytes)) (slice r.payload 0 128) := by
  rw [State.lineTaken, State.modHome_dram, State.moved_dram, State.putDram_dram]

/-- Bytes written are read back, and no other byte has changed. -/
theorem memWriteN_spec {m : Mem} (hwf : Memory.wf m = true) (a n : Nat) {bs : List Byte} (hlen : bs.length = n) :
    memReadN (memWriteN m a bs) a n = bs ∧ ∀ b, b < a ∨ a + n ≤ b → memRead (memWriteN m a bs) b = memRead m b := by
  subst hlen
  exact ⟨memReadN_memWriteN hwf _ _, fun b hb => memRead_memWriteN_other hwf _ _ hb⟩

/-- A line lies where it belongs in the arriving frame, and nowhere else. -/
theorem lineTaken_dram {x : Incoming} (hwf : Memory.wf s.dram = true) :
    let la := x.frame * frameBytes + lineOf (r.va.toNat % frameBytes)
    (s.lineTaken r x).getDram la 128 = slice r.payload 0 128 ∧
      ∀ a, a < la ∨ la + 128 ≤ a → memRead (s.lineTaken r x).dram a = memRead s.dram a := by
  dsimp only
  rw [State.getDram, lineTaken_eq]
  exact memWriteN_spec hwf _ _ (slice_length _ _ _)

/-! ### The switch (R183, R184) -/

/-- The entry after its switch. -/
def CadEntry.switched (e : CadEntry) (m : BitVec 15) (f : BitVec 18) (now : Nat) : CadEntry :=
  { e with state := .resident, prevHome := e.home, home := BitVec.ofNat 16 m.toNat, frame := f, gen := e.gen + 1, moveTo := none,
           lastMove := some now }

theorem exec_moveCopyComplete {job : BitVec 16} {parcel : BitVec 35} {e : CadEntry} {m : BitVec 15} {f : BitVec 18} (hs : s.surveys = true)
    (he : s.entry? job parcel.toNat = some e) (hst : e.state = .moving) (hto : e.moveTo = some (m, f))
    (hin : s.moveInTime job e.parcel e.moveStart 1000 = true) (harr : m.toNat = s.self → s.arrivedHere job e.parcel = true)
    (hgive : e.home.toNat = s.self → s.canGive job e.parcel = true) :
    exec (.moveCopyComplete (.registrar job parcel)) s = .next (s.switchEntry e m f) := by
  change execMoveCopyComplete (.registrar job parcel) s = _
  unfold execMoveCopyComplete
  simp only [he, hto]
  refine when_eq ?_ rfl
  have harr' : (m.toNat != s.self || s.arrivedHere job e.parcel) = true := by
    by_cases h : m.toNat = s.self
    · simp [harr h]
    · simp [h]
  have hgive' : (e.home.toNat != s.self || s.canGive job e.parcel) = true := by
    by_cases h : e.home.toNat = s.self
    · simp [hgive h]
    · simp [h]
  simp [hs, hst, hin, harr', hgive']

/-- The entry's names are those it is found by. -/
theorem entry?_names {job : BitVec 16} {pn : Nat} {e : CadEntry} (h : s.entry? job pn = some e) : e.job = job ∧ e.parcel = pn := by
  have := List.find?_some h
  simpa using this

/-- The switch of an entry whose old home is another module, which is told. -/
theorem switchEntry_away {e : CadEntry} {m : BitVec 15} {f : BitVec 18} (he : s.entry? e.job e.parcel = some e) (hh : e.home.toNat ≠ s.self) :
    let u := s.switchEntry e m f
    u.dram = s.dram ∧ u.cores = s.cores ∧ u.home.movesDone = s.home.movesDone + 1 ∧
      u.out = s.out ++ [.ctrl e.home.toNat (.switched e.job e.parcel m f (e.gen + 1))] ∧
      u.entry? e.job e.parcel = some (e.switched m f s.time) := by
  intro u
  have hu : u = (((s.trace.modEntry e.job e.parcel (fun e => e.switched m f s.time)).modHome (fun h =>
      { h with movesDone := h.movesDone + 1 })).emit (.ctrl e.home.toNat (.switched e.job e.parcel m f (e.gen + 1)))) := if_neg hh
  rw [hu]
  refine ⟨rfl, rfl, rfl, rfl, ?_⟩
  have hentry : (s.trace.modEntry e.job e.parcel (fun e => e.switched m f s.time)).entry? e.job e.parcel =
      (s.trace.entry? e.job e.parcel).map (fun e => e.switched m f s.time) := entry?_modEntry _ _ fun _ => ⟨rfl, rfl⟩
  refine Eq.trans ?_ (hentry.trans ?_)
  · rfl
  · rw [show s.trace.entry? e.job e.parcel = some e from he]
    rfl

/-! ### Forwarding records (R180) -/

/-- Changing the first of the items that meet a test into one that another test counts. -/
theorem countP_updateFirst {α : Type} {p q : α → Bool} {f : α → α} (hp : ∀ a, p a = true → q a = false ∧ q (f a) = true) {l : List α}
    (h : ∃ a ∈ l, p a = true) : (updateFirst p f l).countP q = l.countP q + 1 := by
  induction l with
  | nil => simp at h
  | cons a l ih =>
    by_cases ha : p a = true
    · simp [updateFirst, ha, hp a ha]
    · obtain ⟨b, hb, hpb⟩ := h
      have hbl : b ∈ l := by
        obtain rfl | hb := List.mem_cons.mp hb
        · exact absurd hpb ha
        · exact hb
      simp only [updateFirst, ha, Bool.false_eq_true, if_false, List.countP_cons, ih ⟨b, hbl, hpb⟩]
      omega

end Sys2Proof.Machine

namespace Sys2Proof
open Sys2Proof.Machine

/-- Settles O26. -/
theorem moves : Obligations.Moves := by
  intro r fab s job parcel pn t
  refine ⟨fun hs ht => ⟨_, when_eq (by simp [hs, ht]) rfl, rfl⟩, fun hop hr => when_eq (by simp [hop, hr]) rfl,
    fun hop hr => when_eq (by simp [hop, hr]) rfl, fun c x hop hr hb hc hwf hx hg => ?_, fun e m f hs he hst hto hin harr hh => ?_,
    fun e m f hs he hst hto hin harr hh hgive => exec_moveCopyComplete hs he hst hto hin harr fun _ => hgive,
    fun m f g hs hg hin => when_eq (by rw [hs, hg, hin]; rfl) rfl, fun hop hr => when_eq (by simp [hop, hr]) rfl,
    fun hs ho => when_eq (by rw [hs, ho]; rfl) rfl, fun f hs hf hj hpn ha ht => ?_⟩
  · have hdram : (t.openIncoming r).dram = s.dram := by rw [State.openIncoming_frame]; exact s.takeIn_dram r
    refine ⟨_, (when_eq (by simp [hop, hr]) rfl : exec (.moveData r) s = .next (s.moveLine r)).trans
      (congrArg Host.Outcome.next (moveLine_line hb hc hx hg)), ?_⟩
    have := lineTaken_dram (s := t.openIncoming r) (r := r) (x := x) (by rw [hdram]; exact hwf)
    rwa [hdram] at this
  · obtain ⟨rfl, hpn⟩ := entry?_names he
    have hself : s.entry? e.job e.parcel = some e := by rw [hpn]; exact he
    obtain ⟨hd, hcores, hmoves, hout, hentry⟩ := switchEntry_away (m := m) (f := f) hself hh
    rw [hpn] at hentry
    exact ⟨_, exec_moveCopyComplete hs he hst hto hin harr (fun h => absurd h hh), hd, hcores, hmoves, hpn ▸ hout, hentry⟩
  · have hmine : (f.job == job && f.parcel == parcel.toNat && !f.aged && decide (f.made + 10000000 ≤ s.time)) = true := by
      simp [hj, hpn, pn, ha, ht]
    have hany : s.home.forwards.any
        (fun f => f.job == job && f.parcel == parcel.toNat && !f.aged && decide (f.made + 10000000 ≤ s.time)) = true :=
      List.any_eq_true.mpr ⟨f, hf, hmine⟩
    refine ⟨_, when_eq (by rw [hs, hany]; rfl) rfl, rfl, updateFirst_length _ _ _, ?_⟩
    refine countP_updateFirst (fun a hm => ?_) ⟨f, hf, hmine⟩
    simp only [Bool.and_eq_true, Bool.not_eq_true'] at hm
    exact ⟨hm.1.2, rfl⟩

end Sys2Proof
end

section
/-!
Launches and LOAD_PROGRAM (O28).
-/
namespace Sys2Proof.Machine

variable {src : CmdSource} {s : State} {fab : Fab} {k : LaunchKind} {pk : Program × Kernel}

theorem exec_launchKind_eq {t : State} (hl : s.launchReady src k = true) (h : s.launchCmd src k fab = t) :
    match k with
    | .launch => s.runs src 0x0201 = true → exec (.launch src fab) s = .next t
    | .deferred => s.runs src 0x0202 = true → exec (.launchDeferred src fab) s = .next t
    | .opt => s.runs src 0x0600 = true → exec (.optStep src fab) s = .next t := by
  cases k <;> exact fun hr => when_eq (by rw [hr, hl]; rfl) h

theorem launchCmd_bad (h : s.launchOk (srcCtx src) k (s.cmd! src) = none) : s.launchCmd src k fab = s.launchBad src fab := by
  simp only [State.launchCmd, h]

theorem launchCmd_hand (hk : k ≠ .opt) (h : s.launchOk (srcCtx src) k (s.cmd! src) = some pk) :
    s.launchCmd src k fab = s.handLaunch src k pk fab := by
  simp only [State.launchCmd, h, if_neg hk]

theorem launchCmd_opt (h : s.launchOk (srcCtx src) .opt (s.cmd! src) = some pk) :
    s.launchCmd src .opt fab = s.afterDeferred src ((s.cmd! src).param 40 2) (s.handLaunch src .opt pk fab) := by
  simp only [State.launchCmd, h, if_true]

/-- The grid that a launch hands to the Surveyor, after its argument block is read once. -/
def State.launchGrid (s : State) (src : CmdSource) (k : LaunchKind) (pk : Program × Kernel) (fab : Fab) (gate : Option Word64) : Grid :=
  let x := s.engineRead (srcCtx src) (.cmd src) fab ((s.cmd! src).param 16 8) (32 + 8 * pk.2.tensors.length)
  let args := (List.range (4 + pk.2.tensors.length)).map (fun n => BitVec.ofNat 64 (field x.1 (8 * n) 8))
  x.2.2.gridOf (srcCtx src) k (x.2.2.cmd! src) pk args none gate

/-- A launch hands over one grid (R317). -/
theorem handLaunch_grids (hk : k ≠ .opt) :
    let u := (s.engineRead (srcCtx src) (.cmd src) fab ((s.cmd! src).param 16 8) (32 + 8 * pk.2.tensors.length)).2.2
    (s.handLaunch src k pk fab).nextGrid = u.nextGrid + 1 ∧ (s.handLaunch src k pk fab).grids = u.grids ++
      [s.launchGrid src k pk fab (match src with | .queue q => (u.queue q.toNat).release.map (·.1) | .mailbox => none)] := by
  simp only [State.handLaunch, hk, false_and, if_false]
  cases src with
  | queue q => dsimp only; split <;> exact ⟨rfl, rfl⟩
  | mailbox => exact ⟨rfl, rfl⟩

theorem exec_loadProgram (hr : s.runs src 0x0200 = true) (h : loadOk (s.cmd! src) = false ∨ imageSizeOk ((s.cmd! src).param 8 8) = false ∨
    s.readable (srcCtx src) ((s.cmd! src).param 0 8) ((s.cmd! src).param 8 8) = true) :
    exec (.loadProgram src fab) s = .next (s.load src fab) :=
  when_true (by simpa [hr, or_assoc] using h)

theorem exec_translationTimeout (hr : s.runs src 0x0200 = true) (hl : loadOk (s.cmd! src) = true)
    (ht : (s.cmd! src).time + 200000000 ≤ s.time) :
    exec (.translationTimeout src) s = .next (s.status (s.cmd! src) stTimeout) :=
  when_true (by simp [hr, hl, ht])

end Sys2Proof.Machine

namespace Sys2Proof
open Sys2Proof.Machine

/-- Settles O28. -/
theorem launches : Obligations.Launches := by
  intro src fab s
  refine ⟨fun k hr hl ho => ?_, fun k pk hk hr hl ho => ?_, fun k cm pk args o gate hk => ?_, fun pk hr hl ho => ?_, exec_loadProgram,
    exec_translationTimeout⟩
  · have h := exec_launchKind_eq hl (launchCmd_bad (fab := fab) ho)
    cases k <;> exact h hr
  · have h := exec_launchKind_eq hl (launchCmd_hand (fab := fab) hk ho)
    obtain ⟨hnext, hgrids⟩ := handLaunch_grids (s := s) (src := src) (fab := fab) (pk := pk) hk
    refine ⟨s.handLaunch src k pk fab, ?_, hnext, ?_⟩
    · cases k with
      | launch => exact h hr
      | deferred => exact h hr
      | opt => exact absurd rfl hk
    · cases src <;> exact hgrids
  · refine ⟨rfl, rfl, rfl, rfl, rfl, rfl, ?_, rfl, ?_⟩
    · simp only [State.gridOf, if_neg hk]
    · cases k with
      | launch => simp [State.gridOf]
      | deferred => simp [State.gridOf]
      | opt => exact absurd rfl hk
  · exact exec_launchKind_eq (k := .opt) hl (launchCmd_opt ho) hr

end Sys2Proof
end

section
/-!
Slices, tiles and grids (O30): what each row of the Surveyor needs, and what it then does.
-/
namespace Sys2Proof.Machine

variable {s : State} {grid : Nat} {g : Grid} {x : Slice} {fab : Fab} {c : CoreId} {r : SliceRequest} {y : Nat} {p : Program}

theorem exec_sliceAssignment (hs : s.surveys = true) (hg : s.grid? grid = some g) (hc : s.ctxLive g.ctx = true)
    (ha : g.assigned = false) (hp : g.peer = none) : exec (.sliceAssignment grid fab) s = .next (s.assign g fab) := by
  change execSliceAssignment grid fab s = _
  simp only [execSliceAssignment, hg]
  exact when_true (by simp [hs, hc, ha, hp])

/-! ### A peer's slice (R192) -/

theorem exec_remoteSliceRequest (hs : s.surveys = true) (hy : s.ctxOf r.job = some y) (hc : s.ctxLive y = true)
    (hp : s.peerProgram y r = some p) (hn : r.clusters = s.enabledClusters) :
    exec (.remoteSliceRequest r) s = .next (s.takeSlice y p r) := by
  change execRemoteSliceRequest r s = _
  simp only [execRemoteSliceRequest, hy, hp]
  exact when_true (by simp [hs, hc, hn])

/-- The grid under which the first slice of a peer's grid runs here. -/
def State.newPeerGrid (s : State) (y : Nat) (p : Program) (r : SliceRequest) : Grid :=
  { id := s.nextGrid, ctx := y, program := p.handle, kernel := r.kernelId, cls := r.cls, replayable := r.replayable, shape := r.shape
    tokens := r.tokens, segIndex := r.segIndex, segCount := r.segCount, order := s.decoded, argBlock := r.argBlock, args := r.args
    assigned := true, peer := some (r.issuer.toNat, r.grid) }

theorem takeSlice_grids (h : s.peerGrid r = none) : (s.takeSlice y p r).grids = s.grids ++ [s.newPeerGrid y p r] := by
  simp only [State.takeSlice, h]
  split <;> rfl

/-! ### Ends of tiles, slices, segments and grids -/

theorem exec_tileEnd (hw : s.works = true) (ht : (s.core (coreKey c)).tiles ≠ []) (hf : (s.core (coreKey c)).frozen = false)
    (ha : (s.core (coreKey c)).exeTile.accEnd = true) (he : (s.core (coreKey c)).exeTile.exeEnd = true)
    (hep : ∀ p ∈ (s.core (coreKey c)).epochs, p.tile ≠ (s.core (coreKey c)).exeTile.seq)
    (hc : s.ctxLive (s.core (coreKey c)).exeTile.ctx = true)
    (ho : s.tileOpen (coreKey c) (s.core (coreKey c)).exeTile.seq = false) :
    exec (.tileEnd c) s = .next (s.endTile (coreKey c) (s.core (coreKey c)).exeTile) :=
  when_true (by simpa [hw, hf, ha, he, hc, ho] using ⟨ht, hep⟩)

theorem exec_sliceComplete_own (hs : s.surveys = true) (hx : s.slice? grid = some x) (hg : s.grid? x.grid = some g)
    (hc : s.ctxLive g.ctx = true) (hd : sliceDone x = true) (hp : g.peer = none ∨ s.gridStoresOpen g = false) :
    exec (.sliceComplete (.own grid)) s = .next (s.reportSlice x g) := by
  change execSliceComplete (.own grid) s = _
  simp only [execSliceComplete, hx, hg]
  exact when_true (by obtain h | h := hp <;> simp [hs, hc, hd, h])

theorem reportSlice_own (hp : g.peer = none) : s.reportSlice x g = s.modSlice x.id (fun y => { y with reported := true }) := by
  simp only [State.reportSlice, hp]

theorem exec_sliceComplete_peer {n records : Nat} {dead : Bool} (hs : s.surveys = true) (hg : s.grid? grid = some g)
    (hc : s.ctxLive g.ctx = true)
    (hx : s.slices.find? (fun x => x.grid == grid && x.module.isSome && x.id == n / 256 && !x.reported) = some x) :
    exec (.sliceComplete (.peer grid n records dead)) s = .next ((s.modSlice x.id (fun y => { y with reported := true })).modGrid grid
      (fun g => { g with records := g.records + records, dead := g.dead || dead })) := by
  change execSliceComplete (.peer grid n records dead) s = _
  simp only [execSliceComplete, hx, hg]
  exact when_true (by simp [hs, hc])

theorem exec_segmentComplete (hg : s.grid? grid = some g) (hd : s.gridDone g = true) (ht : g.tokens ≠ 0) (hi : g.segIndex < g.segCount)
    (hf : g.segFlag = 0 ∨ s.rangeReady (s.ctx g.ctx).job g.segFlag.toNat 8 true = true) :
    exec (.segmentComplete grid fab) s = .next (s.endSegment g fab) := by
  change execSegmentComplete grid fab s = _
  simp only [execSegmentComplete, hg]
  exact when_true (by simpa [hd, ht, hi] using hf)

theorem exec_gridComplete (hg : s.grid? grid = some g) (hd : s.gridDone g = true) (hi : g.tokens = 0 ∨ g.segIndex = g.segCount) :
    exec (.gridComplete grid fab) s = .next (s.completeGrid g fab) := by
  change execGridComplete grid fab s = _
  simp only [execGridComplete, hg]
  exact when_true (by simpa [hd] using hi)

end Sys2Proof.Machine

namespace Sys2Proof
open Sys2Proof.Machine

/-- Settles O30. -/
theorem slicesAndGrids : Obligations.SlicesAndGrids := by
  intro s grid g x fab c r
  refine ⟨exec_sliceAssignment, fun y p => exec_remoteSliceRequest, fun y p h => ⟨s.newPeerGrid y p r, ?_, ?_⟩, exec_tileEnd,
    fun hs hx hg hc hd hp => ?_, fun hs hx hg hc hd ho => exec_sliceComplete_own hs hx hg hc hd (.inr ho),
    fun n records dead => exec_sliceComplete_peer, exec_segmentComplete, exec_gridComplete⟩
  · rw [takeSlice_grids h]
    exact List.mem_append_right _ List.mem_cons_self
  · exact ⟨rfl, rfl, rfl, rfl, rfl, rfl, rfl, rfl, rfl, rfl, rfl⟩
  · rw [exec_sliceComplete_own hs hx hg hc hd (.inl hp), reportSlice_own hp]

end Sys2Proof
end

section
/-!
Doorbells and the fetch of commands (O31).
-/
namespace Sys2Proof.Machine

variable {s : State} {fab : Fab} {v : Word32} {job : BitVec 16} {va : Va}

/-- The doorbell of a queue whose new TAIL lies within the ring, or that is halted already (R309). -/
theorem doorbell_within {n : Nat} (h : (v - (s.queue n).head).toNat ≤ (s.queue n).size ∨ (s.queue n).haltReason ≠ 0) :
    s.doorbell n v = s.modQueue n (fun y => { y with tail := v }) := by
  have hq := State.queue_modQueue_same s n (fun y => { y with tail := v })
  simp only [State.doorbell, hq]
  refine if_neg (not_and_or.mpr (h.imp (fun hle => ?_) id))
  exact not_lt.mpr hle

theorem doorbell_beyond {n : Nat} (h : (s.queue n).size < (v - (s.queue n).head).toNat) (h0 : (s.queue n).haltReason = 0) :
    s.doorbell n v = (s.modQueue n (fun y => { y with tail := v })).halt n 1 .none := by
  have hq := State.queue_modQueue_same s n (fun y => { y with tail := v })
  simp only [State.doorbell, hq]
  exact if_pos ⟨h, h0⟩

/-- A mirror store goes to the queue of the job's context here (R343). -/
theorem exec_mirrorStore_ctx {c : Nat} (hm : s.mainUp = true) (hd : isDoorbell va.toNat 4 = true) (hs : mirrorModule va.toNat = s.self)
    (hc : s.ctxOf job = some c) : exec (.doorbellMirrorStore job va v) s =
      .next ((s.doorbell (4 * c + mirrorQueue va.toNat) v).mirrorDone (s.mirrorReq job va.toNat 4 (some v)) .ok 0) :=
  when_eq (by simp [hm, hd, hs]) (by rw [hc])

theorem exec_mirrorStore_none (hm : s.mainUp = true) (hd : isDoorbell va.toNat 4 = true) (hs : mirrorModule va.toNat = s.self)
    (hc : s.ctxOf job = none) : exec (.doorbellMirrorStore job va v) s =
      .next (s.mirrorDone (s.mirrorReq job va.toNat 4 (some v)) .denied 1) :=
  when_eq (by simp [hm, hd, hs]) (by rw [hc])

/-- A write to a page at another offset or of another size. -/
theorem exec_discarded_page {q : BitVec 8} {offset : BitVec 12} {size : Nat} (hh : s.hostUp = true) (h : ¬ (offset = 0 ∧ size = 4)) :
    exec (.doorbellDiscardedAccess (.pageWrite q offset size)) s = .next s.ignoreDoorbell :=
  when_true (by simpa [hh, ← not_and_or] using h)

theorem exec_discarded_mirror {size : Nat} (hm : s.mainUp = true) (hv : isMirror va.toNat = true) (hs : mirrorModule va.toNat = s.self)
    (hd : isDoorbell va.toNat size = false) : exec (.doorbellDiscardedAccess (.mirrorStore job va size)) s =
      .next (s.ignoreDoorbell.mirrorDone (s.mirrorReq job va.toNat size none) .ok 0) :=
  when_true (by simp [hm, hv, hs, hd])

theorem exec_discarded_atomic {r : Request} (hv : isMirror r.va.toNat = true) (hs : mirrorModule r.va.toNat = s.self)
    (hop : r.op = .atomic) (hr : s.canReach r = true) : exec (.doorbellDiscardedAccess (.mirrorAtomic r)) s =
      .next ((s.ignoreDoorbell.takeArrived (isReq r)).sendReply r (s.answer r .ok 0 (zeros 8))) :=
  when_true (by simp [hv, hs, hop, hr])

theorem exec_commandFetch {m : Nat} (hc : s.cpUp = true) (hm : s.nextQueue = some m) :
    exec (.commandFetch fab) s = .next (s.fetch m fab) := by
  change execCommandFetch fab s = _
  simp only [execCommandFetch, hm]
  exact when_true hc

end Sys2Proof.Machine

namespace Sys2Proof
open Sys2Proof.Machine

/-- Settles O31. -/
theorem doorbells : Obligations.Doorbells := by
  intro s q v job va fab n x ahead mine
  refine ⟨fun hh h => when_eq hh (doorbell_within h), fun hh h h0 => when_eq hh (doorbell_beyond h h0), fun c => exec_mirrorStore_ctx,
    exec_mirrorStore_none, fun offset size hh h => ⟨_, exec_discarded_page hh h, rfl, rfl, rfl⟩,
    fun size hm hmine hd => exec_discarded_mirror hm hmine.1 hmine.2 hd, fun r hmine hop hr => exec_discarded_atomic hmine.1 hmine.2 hop hr,
    fun m => exec_commandFetch⟩

end Sys2Proof
end

section
/-!
A reply to a ring in host memory (O32): what the end of a command writes, queue by queue.
-/
namespace Sys2Proof.Machine

variable {s : State} {c : Cmd} {q : BitVec 8} {status detail : Nat} {result : List Byte}

/-! ### The 32 bytes of a reply slot (R313) -/

theorem replyBytes_length (slot : List Byte) (status detail : Nat) (result : List Byte) :
    (replyBytes slot status detail result).length = 32 := by simp [replyBytes]

theorem slice_append_left {l m : List Byte} {n : Nat} (h : l.length = n) : slice (l ++ m) 0 n = l := by
  subst h
  refine List.ext_getElem (by simp) fun i hi _ => ?_
  simp only [slice_length] at hi
  simp [slice, List.getD_eq_getElem?_getD, List.getElem?_append_left hi, hi]

theorem slice_append_right {l m : List Byte} {n k : Nat} (h : l.length = n) (hm : m.length = k) : slice (l ++ m) n k = m := by
  subst h hm
  refine List.ext_getElem (by simp) fun i hi _ => ?_
  simp only [slice_length] at hi
  simp [slice, List.getD_eq_getElem?_getD, hi]

theorem replyBytes_fields (slot : List Byte) (status detail : Nat) (result : List Byte) :
    let b := replyBytes slot status detail result
    slice b 0 4 = slice slot 4 4 ∧ slice b 4 2 = natLE status 2 ∧ b.getD 6 0 = BitVec.ofNat 8 detail ∧ b.getD 7 0 = 1 ∧
      slice b 8 24 = slice result 0 24 := by
  refine ⟨?_, ?_, by simp [replyBytes, slice, natLE], by simp [replyBytes, slice, natLE], ?_⟩
  · simp only [replyBytes, List.append_assoc]
    exact slice_append_left (slice_length _ _ _)
  · simp [replyBytes, slice, natLE, List.range_succ]
  · exact slice_append_right (by simp) (slice_length _ _ _)

/-! ### The end of a command (R320) -/

/-- The state between the reply's bytes and the free queue. -/
def State.replyRun (s : State) (c : Cmd) (q : BitVec 8) (bs : List Byte) : State :=
  let t := s.trace.putHost ((s.queue q.toNat).replyBase.toNat + 32 * field c.slot 10 2) bs
  if bitOf (field c.slot 2 1) 0 then t.emit (.msix q.toNat) else t

/-- The queue of a command that ends, free for the next. -/
def Queue.freed (x : Queue) (order : Nat) : Queue := { x with cur := if x.cur.map (·.order) = some order then none else x.cur }

theorem finish_hostQueue (hsrc : c.src = .queue q) (hdev : (s.queue q.toNat).replyDev = false) :
    s.finish c status detail result =
      ((s.replyRun c q (replyBytes c.slot status detail result)).modQueue q.toNat
        (fun x => x.freed c.order)).modCtx (q.toNat / 4)
          (fun x => { x with history := histDone x.history c.order status }) := by
  have hdev' : (s.trace.queue q.toNat).replyDev = false := hdev
  simp only [State.finish, State.writeReply, hsrc, hdev', Bool.false_eq_true, if_false]
  rfl

theorem replyRun_frame (s : State) (c : Cmd) (q : BitVec 8) (bs : List Byte) :
    (s.replyRun c q bs).queues = s.queues ∧ (s.replyRun c q bs).dram = s.dram ∧
      (s.replyRun c q bs).hostMem = memWriteN s.hostMem ((s.queue q.toNat).replyBase.toNat + 32 * field c.slot 10 2) bs ∧
      (s.replyRun c q bs).out = s.out ++ (if bitOf (field c.slot 2 1) 0 = true then [.msix q.toNat] else []) := by
  unfold State.replyRun
  split
  · exact ⟨rfl, rfl, rfl, rfl⟩
  · exact ⟨rfl, rfl, rfl, (List.append_nil _).symm⟩

end Sys2Proof.Machine

namespace Sys2Proof
open Sys2Proof.Machine

/-- Settles O32. -/
theorem replyWritten : Obligations.ReplyWritten := by
  intro s c q status detail result n a t hsrc hdev hwf
  have ht := finish_hostQueue (status := status) (detail := detail) (result := result) hsrc hdev
  obtain ⟨hqueues, hdram, hhost, hout⟩ := replyRun_frame s c q (replyBytes c.slot status detail result)
  have hmem : t.hostMem = memWriteN s.hostMem a (replyBytes c.slot status detail result) := (congrArg State.hostMem ht).trans hhost
  obtain ⟨hread, hother⟩ := memWriteN_spec hwf a 32 (replyBytes_length c.slot status detail result)
  have hget : t.getHost a 32 = replyBytes c.slot status detail result := by
    rw [State.getHost, hmem]
    exact hread
  have hq (m : Nat) : t.queue m = if m = n then (s.queue n).freed c.order else s.queue m :=
    calc t.queue m = ((s.replyRun c q (replyBytes c.slot status detail result)).modQueue n (fun x => x.freed c.order)).queue m := (congrArg (fun x : State => x.queue m) ht :)
      _ = if m = n then ((s.replyRun c q (replyBytes c.slot status detail result)).queue n).freed c.order else (s.replyRun c q (replyBytes c.slot status detail result)).queue m := State.queue_modQueue _ _ _ _
      _ = _ := by rw [State.queue, State.queue, hqueues]; rfl
  obtain ⟨h1, h2, h3, h4, h5⟩ := replyBytes_fields c.slot status detail result
  rw [hget, hmem]
  refine ⟨h1, h2, h3, h4, h5, hother, (congrArg State.dram ht).trans hdram, (congrArg State.out ht).trans hout, fun hcur => ?_, fun m hm => ?_⟩
  · rw [hq, if_pos rfl, Queue.freed, if_pos hcur]
  · rw [hq, if_neg hm]

end Sys2Proof
end

section
/-!
The commands of family 0x00 (O33): each command as its guard lets it run.
-/
namespace Sys2Proof.Machine

/-- A guarded meaning with a condition of its own that holds. -/
theorem when_pos {n : String} {g : Bool} {p : Prop} [Decidable p] {t u : State} (hg : g = true) (hp : p) :
    when n g (if p then t else u) = .next t := when_eq hg (if_pos hp)

theorem when_neg {n : String} {g : Bool} {p : Prop} [Decidable p] {t u : State} (hg : g = true) (hp : ¬ p) :
    when n g (if p then t else u) = .next u := when_eq hg (if_neg hp)

variable {src : CmdSource} {s : State} {fab : Fab}

/-! ### FENCE and WAIT_FLAG (R322, R323) -/

theorem exec_fenceCommand_bad (hr : s.runs src 0x0001 = true)
    (hbad : (s.cmd! src).restZero [(0, 1), (2, 2)] = false ∨ 1 < (s.cmd! src).param 0 1) :
    exec (.fenceCommand src) s = .next (s.badParam (s.cmd! src)) :=
  when_pos hr (by obtain h | h := hbad <;> simp [h])

theorem exec_fenceCommand (hr : s.runs src 0x0001 = true) (hz : (s.cmd! src).restZero [(0, 1), (2, 2)] = true)
    (hp : (s.cmd! src).param 0 1 ≤ 1) :
    exec (.fenceCommand src) s = .next (if s.fenceOpen src (s.cmd! src) then
      s.promote (srcCtx src) ((s.cmd! src).param 2 2) (s.cmd! src).order else s.ok (s.cmd! src)) :=
  when_neg hr (by simp [hz, hp])

theorem exec_waitFlag (hr : s.runs src 0x0002 = true) (hn : (s.cmd! src).lastRead = none) (hf : s.flagReady src = true) :
    exec (.waitFlag src fab) s = .next (if waitFlagOk (s.cmd! src) then s.readFlag src fab else s.badParam (s.cmd! src)) :=
  when_true (by simp [hr, hn, hf])

theorem exec_waitFlagReread {w : Word64} {t : Nat} (hr : s.runs src 0x0002 = true) (hl : (s.cmd! src).lastRead = some (w, t))
    (ht : t ≤ s.time) (hf : s.flagReady src = true) : exec (.waitFlagReread src fab) s = .next (s.readFlag src fab) := by
  change execWaitFlagReread src fab s = _
  unfold execWaitFlagReread
  exact when_true (by simp [hr, hl, ht, hf])

theorem readFlag_host (hb : bitOf ((s.cmd! src).param 25 1) 0 = true) (hd : (s.cmd! src).dead = false) :
    s.readFlag src fab = if flagHolds (s.cmd! src) (leNat (s.getHost ((s.cmd! src).param 0 8) 8)) then
        s.finish (s.cmd! src) stOk 0 (natLE (leNat (s.getHost ((s.cmd! src).param 0 8) 8)) 8)
      else s.modCmd src (fun k => { k with
        lastRead := some (BitVec.ofNat 64 (leNat (s.getHost ((s.cmd! src).param 0 8) 8)), s.time + 2000) }) := by
  simp only [State.readFlag, hb, if_true, hd, Bool.false_eq_true, if_false]

theorem exec_waitFlagTimeout {w : Word64} {t : Nat} (hr : s.runs src 0x0002 = true) (hl : (s.cmd! src).lastRead = some (w, t))
    (hus : (s.cmd! src).param 28 4 ≠ 0) (ht : (s.cmd! src).time + (s.cmd! src).param 28 4 * 1000 ≤ s.time) :
    exec (.waitFlagTimeout src) s = .next (s.finish (s.cmd! src) stTimeout 0 (natLE w.toNat 8)) :=
  when_eq (by simp [hr, hl, hus, ht]) (by rw [hl]; rfl)

/-! ### SET_FLAG and SIGNAL_HOST (R324) -/

theorem exec_setFlag_bad (hr : s.runs src 0x0003 = true)
    (hw : bitOf ((s.cmd! src).param 17 1) 0 = true ∨ s.writable (srcCtx src) ((s.cmd! src).param 0 8) 8 = true)
    (hbad : 2 ≤ (s.cmd! src).param 16 1 ∨ 2 ≤ (s.cmd! src).param 17 1 ∨ (s.cmd! src).restZero [(0, 18)] = false ∨
      (bitOf ((s.cmd! src).param 17 1) 0 = false ∧ vaRange ((s.cmd! src).param 0 8) 8 = false)) :
    exec (.setFlag src fab) s = .next (s.badParam (s.cmd! src)) := by
  refine when_neg (by simpa [hr] using hw) ?_
  simp only [Bool.and_eq_true, Bool.or_eq_true, decide_eq_true_eq, not_and_or, not_or, Bool.not_eq_true]
  obtain h | h | h | h := hbad
  · exact .inl (.inl (.inl (by omega)))
  · exact .inl (.inl (.inr (by omega)))
  · exact .inl (.inr h)
  · exact .inr h

/-- A SET_FLAG whose parameters hold. -/
theorem exec_setFlag (hr : s.runs src 0x0003 = true) (hz : (s.cmd! src).restZero [(0, 18)] = true)
    (ha : (s.cmd! src).param 16 1 ≤ 1) (hh : (s.cmd! src).param 17 1 ≤ 1)
    (hv : bitOf ((s.cmd! src).param 17 1) 0 = true ∨ vaRange ((s.cmd! src).param 0 8) 8 = true ∧
      s.writable (srcCtx src) ((s.cmd! src).param 0 8) 8 = true) :
    exec (.setFlag src fab) s = .next ((s.setFlag src (s.cmd! src) fab).2.finish ((s.setFlag src (s.cmd! src) fab).2.cmd! src)
      (((s.setFlag src (s.cmd! src) fab).2.cmd! src).statusOr stOk) 0 (s.setFlag src (s.cmd! src) fab).1) := by
  refine when_pos ?_ ?_
  · obtain h | ⟨-, h⟩ := hv <;> simp [hr, h]
  · obtain h | ⟨h, -⟩ := hv <;> simp [hz, ha, hh, h]

theorem setFlag_hostAdd (h : (s.cmd! src).param 17 1 = 1) (ha : (s.cmd! src).param 16 1 = 1) :
    s.setFlag src (s.cmd! src) fab = (natLE (leNat (s.getHost ((s.cmd! src).param 0 8) 8)) 8,
      s.putHost ((s.cmd! src).param 0 8) (natLE (leNat (s.getHost ((s.cmd! src).param 0 8) 8) + (s.cmd! src).param 8 8) 8)) := by
  simp [State.setFlag, h, ha, bitOf]

theorem setFlag_hostStore (h : (s.cmd! src).param 17 1 = 1) (ha : (s.cmd! src).param 16 1 = 0) :
    s.setFlag src (s.cmd! src) fab = ([], s.putHost ((s.cmd! src).param 0 8) (natLE ((s.cmd! src).param 8 8) 8)) := by
  simp [State.setFlag, h, ha, bitOf]

theorem exec_waitCycleCheck (hc : s.cpUp = true) (ht : s.lastCycleCheck + cyclePeriod ≤ s.time) :
    ∃ t, exec .waitCycleCheck s = .next t ∧ t.lastCycleCheck = s.time :=
  ⟨_, when_true (by simp [hc, ht]), rfl⟩

end Sys2Proof.Machine

namespace Sys2Proof
open Sys2Proof.Machine

/-- Settles O33. -/
theorem queueCommands : Obligations.QueueCommands := by
  intro src s fab
  refine ⟨when_true, exec_fenceCommand_bad, exec_fenceCommand, fun hr hn hf hbad => ?_, fun hr hn hf hok => ?_, fun _ _ => exec_waitFlagReread,
    readFlag_host, fun _ _ => exec_waitFlagTimeout, exec_setFlag_bad, fun hr hz ha hh => ?_, fun hr hz ha hh => ?_,
    fun hr hz ha hh hv hw => exec_setFlag hr hz ha (by omega) (.inr ⟨hv, hw⟩), fun q hsrc hr hz => ?_,
    fun hr hz => when_neg hr (by simp [hz]), exec_waitCycleCheck⟩
  · rw [exec_waitFlag hr hn hf, if_neg (by simp [hbad])]
  · rw [exec_waitFlag hr hn hf, if_pos hok]
  · rw [exec_setFlag hr hz (by omega) (by omega) (.inl (by rw [hh]; rfl)), setFlag_hostAdd hh ha]
    rfl
  · rw [exec_setFlag hr hz (by omega) (by omega) (.inl (by rw [hh]; rfl)), setFlag_hostStore hh ha]
    rfl
  · subst hsrc
    exact when_pos hr hz

end Sys2Proof
end

section
/-!
The commands on memory (O34): each command as its guard and its checks let it run.
-/
namespace Sys2Proof.Machine

variable {src : CmdSource} {s : State} {fab : Fab}

/-! ### ALLOC and FREE (R173, R177) -/

theorem exec_alloc_bad (hr : s.runs src 0x0300 = true) (h : s.allocParams (srcCtx src) (s.cmd! src) = false) :
    exec (.alloc src fab) s = .next (s.badParam (s.cmd! src)) :=
  when_eq (by simp [hr, h]) (by simp [State.alloc, h])

theorem exec_alloc (hr : s.runs src 0x0300 = true) (h : s.allocParams (srcCtx src) (s.cmd! src) = true)
    (ht : s.time ≤ (s.cmd! src).time + 20000000) (ha : s.allocAnswered (srcCtx src) (s.cmd! src) fab = true)
    (hp : (s.cmd! src).param 16 1 ≠ 1) : exec (.alloc src fab) s = .next (s.allocate src [] fab) :=
  when_eq (by simp [hr, h, ht, ha, hp]) (by simp [State.alloc, h, hp])

theorem exec_alloc_list (hr : s.runs src 0x0300 = true) (h : s.allocParams (srcCtx src) (s.cmd! src) = true)
    (ht : s.time ≤ (s.cmd! src).time + 20000000) (ha : s.allocAnswered (srcCtx src) (s.cmd! src) fab = true)
    (hp : (s.cmd! src).param 16 1 = 1)
    (hread : s.readable (srcCtx src) ((s.cmd! src).param 24 8) (2 * (s.cmd! src).param 20 4) = true) :
    let r := s.engineRead (srcCtx src) (.cmd src) fab ((s.cmd! src).param 24 8) (2 * (s.cmd! src).param 20 4)
    exec (.alloc src fab) s = .next (r.2.2.allocate src ((chunks 2 r.1).map leNat) fab) :=
  when_eq (by simp [hr, h, ht, ha, hread]) (by simp [State.alloc, h, hp])

theorem exec_allocTimeout (hr : s.runs src 0x0300 = true) (h : s.allocParams (srcCtx src) (s.cmd! src) = true)
    (ht : (s.cmd! src).time + 20000000 ≤ s.time) : exec (.allocTimeout src) s = .next (s.status (s.cmd! src) stTimeout) :=
  when_true (by simp [hr, h, ht])

theorem exec_free_bad (hr : s.runs src 0x0301 = true) (h : freeOk (s.cmd! src) = false) :
    exec (.free src fab) s = .next (s.badParam (s.cmd! src)) :=
  when_eq (by simp [hr, h]) (by simp [State.free_, h])

theorem exec_free (hr : s.runs src 0x0301 = true) (h : freeOk (s.cmd! src) = true)
    (hbusy : ∀ pn ∈ parcelsIn ((s.cmd! src).param 0 8) ((s.cmd! src).param 8 8), s.parcelBusy (s.ctx (srcCtx src)).job pn = false) :
    let r := s.freeRange (srcCtx src) (.cmd src) fab ((s.cmd! src).param 0 8) ((s.cmd! src).param 8 8)
    exec (.free src fab) s = .next (r.2.finishCounted src r.1 []) := by
  refine when_eq ?_ (by simp [State.free_, h])
  simp only [hr, h, Bool.true_and, Bool.not_true, Bool.false_or, Bool.not_eq_true', List.any_eq_false, Bool.not_eq_true]
  exact hbusy

/-! ### COPY, FILL and INVALIDATE (R315) -/

theorem exec_copy_bad (hr : s.runs src 0x0302 = true) (h : copyOk (s.cmd! src) = false) :
    exec (.copy src fab) s = .next (s.badParam (s.cmd! src)) :=
  when_eq (by simp [hr, h]) (by simp [State.copyCmd, h])

theorem exec_copy (hr : s.runs src 0x0302 = true) (h : copyOk (s.cmd! src) = true)
    (hs : copyHostSrc (s.cmd! src) = true ∨ s.readable (srcCtx src) ((s.cmd! src).param 0 8) ((s.cmd! src).param 16 8) = true)
    (hd : copyHostDst (s.cmd! src) = true ∨ s.writable (srcCtx src) ((s.cmd! src).param 8 8) ((s.cmd! src).param 16 8) = true) :
    exec (.copy src fab) s =
      .next (((s.copyRead src fab).2.copyWrite src fab (s.copyRead src fab).1).finishCounted src stOk []) :=
  when_eq (by obtain h1 | h1 := hs <;> obtain h2 | h2 := hd <;> simp [hr, h1, h2]) (by simp [State.copyCmd, h])

theorem copyRead_host (hs : copyHostSrc (s.cmd! src) = true) :
    s.copyRead src fab = (s.getHost ((s.cmd! src).param 0 8) ((s.cmd! src).param 16 8), s) := by
  simp only [State.copyRead, hs, if_true]

theorem copyWrite_host {bs : List Byte} (hd : copyHostDst (s.cmd! src) = true) :
    s.copyWrite src fab bs = s.putHost ((s.cmd! src).param 8 8) bs := by
  simp only [State.copyWrite, hd, if_true]

theorem exec_fill_bad (hr : s.runs src 0x0303 = true) (h : fillOk (s.cmd! src) = false) :
    exec (.fill src fab) s = .next (s.badParam (s.cmd! src)) :=
  when_eq (by simp [hr, h]) (by simp [State.fillCmd, h])

theorem exec_fill (hr : s.runs src 0x0303 = true) (h : fillOk (s.cmd! src) = true)
    (hw : s.writable (srcCtx src) ((s.cmd! src).param 0 8) ((s.cmd! src).param 8 8) = true) :
    exec (.fill src fab) s = .next ((s.engineWrite (srcCtx src) (.cmd src) fab ((s.cmd! src).param 0 8)
      (List.replicate ((s.cmd! src).param 8 8 / 8) (natLE ((s.cmd! src).param 16 8) 8)).flatten).2.finishCounted src stOk []) :=
  when_eq (by simp [hr, hw]) (by simp [State.fillCmd, h])

theorem exec_invalidate_bad (hr : s.runs src 0x0304 = true) (h : invalidateOk (s.cmd! src) = false) :
    exec (.invalidate src) s = .next (s.badParam (s.cmd! src)) :=
  when_eq (by simp [hr, h]) (by simp [State.invalidateCmd, h])

theorem exec_invalidate (hr : s.runs src 0x0304 = true) (hs : s.slotsHeld < replySlots) :
    exec (.invalidate src) s = .next (s.invalidateCmd src) :=
  when_true (by simp [hr, hs])

/-! ### PIN, HINT and LEND_BACKSTORE (R185, R193) -/

theorem exec_pin_bad (hr : s.runs src 0x0305 = true)
    (h : pinOk (s.cmd! src) = false ∨ s.inSet (srcCtx src) ((s.cmd! src).param 16 2) = false) :
    exec (.pin src fab) s = .next (s.badParam (s.cmd! src)) :=
  when_eq hr (by
    unfold State.pinCmd
    exact if_pos (by obtain h | h := h <;> simp [h]))

theorem exec_hintAnchor (hr : s.runs src 0x0306 = true) (h : (s.cmd! src).param 0 1 = 0 ∨ 3 < (s.cmd! src).param 0 1) :
    exec (.hintAnchor src) s = .next (s.hintAnchor src) :=
  when_true (by simpa [hr] using h)

/-- A HINT of the kind that its row names. -/
theorem hints_kind {n : Nat} (hr : s.runs src 0x0306 = true) (h : (s.cmd! src).param 0 1 = n) : s.hints src n = true := by
  simp [State.hints, hr, h]

theorem exec_lendBackstore (hr : s.runs src 0x0307 = true)
    (h : (s.cmd! src).param 8 4 ≠ 0 ∨ ∀ p ∈ s.home.parcels, p.state ≠ .pagingOut) :
    exec (.lendBackstore src) s = .next (s.lend src) :=
  when_true (by simpa [hr, ← not_or] using h)

end Sys2Proof.Machine

namespace Sys2Proof
open Sys2Proof.Machine

/-- Settles O34. -/
theorem memoryCommands : Obligations.MemoryCommands := by
  intro src s fab
  refine ⟨exec_alloc_bad, exec_alloc, exec_alloc_list, exec_allocTimeout, exec_free_bad, exec_free, exec_copy_bad,
    fun hr hok hs hd => ?_, exec_copy, exec_fill_bad, exec_fill, exec_invalidate_bad, fun hr _ => exec_invalidate hr, exec_pin_bad,
    when_true, exec_hintAnchor, fun hr h => when_true (hints_kind hr h), fun hr h => when_true (hints_kind hr h),
    fun hr h => when_true (hints_kind hr h), exec_lendBackstore⟩
  rw [exec_copy hr hok (.inl hs) (.inl hd), copyRead_host hs, copyWrite_host hd]

end Sys2Proof
end

section
/-!
The commands on contexts (O35).
-/
namespace Sys2Proof.Machine

variable {src : CmdSource} {s : State}

/-- A field of a table's entries that a change of every entry leaves is read as before. -/
theorem tget_map_field {α β : Type} (f : α → α) (g : α → β) (h : ∀ x, g (f x) = g x) (t : Table α) (k : Nat) (d : α) :
    g (tget (t.map (fun e => (e.1, f e.2))) k d) = g (tget t k d) := by
  induction t with
  | nil => rfl
  | cons e t ih =>
    obtain ⟨j, x⟩ := e
    by_cases hj : j = k
    · simp [tget, hj, h]
    · simpa [tget, hj] using ih

/-! ### CTX_CREATE (R169, R315) -/

/-- The module list that a CTX_CREATE names, and its bytes. -/
def State.setBytes (s : State) (src : CmdSource) : List Byte := s.getHost ((s.cmd! src).param 16 8) (2 * (s.cmd! src).param 8 4)
def State.setList (s : State) (src : CmdSource) : List Nat := (chunks 2 (s.setBytes src)).map leNat

/-- The context that a CTX_CREATE makes ACTIVE. -/
def State.newCtx (s : State) (src : CmdSource) : Context :=
  { state := 1, job := BitVec.ofNat 16 ((s.cmd! src).param 2 2), strict := (s.cmd! src).param 4 1 == 1
    moduleSet := (s.setList src).map (BitVec.ofNat 15), setCrc := crc32 (s.setBytes src)
    mirrorBase := s.ownMirror, history := (s.ctx ((s.cmd! src).param 0 1)).history
    orphanReturns := if (s.ctx ((s.cmd! src).param 0 1)).former = some (BitVec.ofNat 16 ((s.cmd! src).param 2 2)) then
      (s.ctx ((s.cmd! src).param 0 1)).orphanReturns else 0 }

/-- The machine with that context, before the reply. -/
def State.created (s : State) (src : CmdSource) : State := (s.setCtx ((s.cmd! src).param 0 1) (s.newCtx src)).enableStandby

theorem ctxCreate_bad (h : createOk (s.cmd! src) = false) : s.ctxCreate src = s.badParam (s.cmd! src) := by
  simp [State.ctxCreate, h]

theorem ctxCreate_badSet (h : createOk (s.cmd! src) = true) (hm : ∃ m ∈ s.setList src, 32768 ≤ m) :
    s.ctxCreate src = s.badParam (s.cmd! src) := by
  have hany : (s.setList src).any (fun m => decide (m ≥ 32768)) = true := by simpa using hm
  simp only [State.setList, State.setBytes] at hany
  simp only [State.ctxCreate, h, hany, if_true, Bool.not_true, Bool.false_eq_true, if_false]

section
variable (h : createOk (s.cmd! src) = true) (hm : ∀ m ∈ s.setList src, m < 32768)
include h hm

/-- CTX_CREATE past the checks of its slot and its list. -/
theorem ctxCreate_listed : s.ctxCreate src =
    if (s.ctx ((s.cmd! src).param 0 1)).state ≠ 0 then s.status (s.cmd! src) stBusy
    else if (s.ctxOf (BitVec.ofNat 16 ((s.cmd! src).param 2 2))).isSome then s.finish (s.cmd! src) stDenied 4 []
    else (s.created src).ok (s.cmd! src) (natLE (crc32 (s.setBytes src)).toNat 4 ++ natLE (s.created src).framesAvailable 4) := by
  have hany : (s.setList src).any (fun m => decide (m ≥ 32768)) = false := by simpa using hm
  simp only [State.setList, State.setBytes] at hany
  simp only [State.ctxCreate, h, hany, Bool.not_true, Bool.false_eq_true, if_false]
  rfl

theorem ctxCreate_busy (hs : (s.ctx ((s.cmd! src).param 0 1)).state ≠ 0) : s.ctxCreate src = s.status (s.cmd! src) stBusy := by
  rw [ctxCreate_listed h hm, if_pos hs]

theorem ctxCreate_denied (hs : (s.ctx ((s.cmd! src).param 0 1)).state = 0)
    (hj : s.ctxOf (BitVec.ofNat 16 ((s.cmd! src).param 2 2)) ≠ none) : s.ctxCreate src = s.finish (s.cmd! src) stDenied 4 [] := by
  rw [ctxCreate_listed h hm, if_neg (not_not_intro hs), if_pos (Option.isSome_iff_ne_none.mpr hj)]

theorem ctxCreate_created (hs : (s.ctx ((s.cmd! src).param 0 1)).state = 0)
    (hj : s.ctxOf (BitVec.ofNat 16 ((s.cmd! src).param 2 2)) = none) : s.ctxCreate src =
      (s.created src).ok (s.cmd! src) (natLE (crc32 (s.setBytes src)).toNat 4 ++ natLE (s.created src).framesAvailable 4) := by
  rw [ctxCreate_listed h hm, if_neg (not_not_intro hs), if_neg (by simp [hj])]

end

theorem ctx_created (n : Nat) :
    (s.created src).ctx n = if n = (s.cmd! src).param 0 1 then s.newCtx src else s.ctx n := State.ctx_setCtx _ _ _ _

/-- The standby core takes its place; hoards and gang units stay. -/
theorem cluster_created (n : Nat) :
    ((s.created src).cluster n).hoard = (s.cluster n).hoard ∧ ((s.created src).cluster n).gang = (s.cluster n).gang := by
  constructor
  · exact tget_map_field (fun x : Cluster => if x.retired.toNat % 65536 ≠ 0 ∧ x.retired.toNat < 65536 then
      { x with standbyActive := true } else x) Cluster.hoard (fun x => by split <;> rfl) _ _ _
  · exact tget_map_field (fun x : Cluster => if x.retired.toNat % 65536 ≠ 0 ∧ x.retired.toNat < 65536 then
      { x with standbyActive := true } else x) Cluster.gang (fun x => by split <;> rfl) _ _ _

theorem created_spec :
    let t := (s.cmd! src).param 0 1
    let job := BitVec.ofNat 16 ((s.cmd! src).param 2 2)
    let u := s.created src
    (u.ctx t).state = 1 ∧ (u.ctx t).job = job ∧ ((u.ctx t).strict = true ↔ (s.cmd! src).param 4 1 = 1) ∧
      (u.ctx t).moduleSet = (s.setList src).map (BitVec.ofNat 15) ∧ (u.ctx t).setCrc = crc32 (s.setBytes src) ∧
      (u.ctx t).programs = [] ∧ (u.ctx t).slack = 0 ∧
      (u.ctx t).orphanReturns = (if (s.ctx t).former = some job then (s.ctx t).orphanReturns else 0) ∧
      (∀ n, n ≠ t → u.ctx n = s.ctx n) ∧ ∀ n, (u.cluster n).hoard = (s.cluster n).hoard ∧ (u.cluster n).gang = (s.cluster n).gang := by
  intro t job u
  have hctx : u.ctx t = s.newCtx src := (ctx_created t).trans (if_pos rfl)
  rw [hctx]
  simp only [State.newCtx, beq_iff_eq]
  exact ⟨trivial, rfl, trivial, trivial, trivial, trivial, trivial, rfl, fun n hn => (ctx_created n).trans (if_neg hn), cluster_created⟩

/-! ### CTX_DESTROY, CTX_RESET and CTX_QUERY (R315, R316, R379) -/

theorem freeCtx_spec (v : State) (t : Nat) :
    ((v.freeCtx t).ctx t).state = 0 ∧ ((v.freeCtx t).ctx t).discards = (v.ctx t).discards ∧
      ((v.freeCtx t).ctx t).orphanReturns = (v.ctx t).orphanReturns ∧ ((v.freeCtx t).ctx t).programs = [] ∧
      ∀ n, n ≠ t → (v.freeCtx t).ctx n = v.ctx n := by
  have hctx (n : Nat) := State.ctx_setCtx v t n
    { discards := (v.ctx t).discards, former := some (v.ctx t).job, orphanReturns := (v.ctx t).orphanReturns }
  have ht := (hctx t).trans (if_pos rfl)
  refine ⟨?_, ?_, ?_, ?_, fun n hn => (hctx n).trans (if_neg hn)⟩ <;> rw [State.freeCtx, ht]

theorem ctxDestroy_idle (hok : targetOk (s.cmd! src) = true) (hs : (s.ctx ((s.cmd! src).param 0 1)).state = 1)
    (hw : s.holdsWork ((s.cmd! src).param 0 1) (s.cmd! src).order = false) :
    s.ctxDestroy src = ((s.ok (s.cmd! src) (natLE 0 4)).releaseCtx ((s.cmd! src).param 0 1)).freeCtx ((s.cmd! src).param 0 1) := by
  simp [State.ctxDestroy, hok, hs, hw]

/-- CTX_DESTROY of a context without work frees it at once (R316). -/
theorem exec_ctxDestroy_idle (hr : s.runs src 0x0101 = true) (hok : targetOk (s.cmd! src) = true)
    (hs : (s.ctx ((s.cmd! src).param 0 1)).state = 1) (hw : s.holdsWork ((s.cmd! src).param 0 1) (s.cmd! src).order = false) :
    exec (.ctxDestroy src) s = .next
      (((s.ok (s.cmd! src) (natLE 0 4)).releaseCtx ((s.cmd! src).param 0 1)).freeCtx ((s.cmd! src).param 0 1)) :=
  when_eq hr (ctxDestroy_idle hok hs hw)

theorem ctxDestroy_works (hok : targetOk (s.cmd! src) = true) (hs : (s.ctx ((s.cmd! src).param 0 1)).state ≠ 0)
    (hw : (s.ctx ((s.cmd! src).param 0 1)).state = 2 ∨ s.holdsWork ((s.cmd! src).param 0 1) (s.cmd! src).order = true) :
    s.ctxDestroy src = s.askReset src ((s.cmd! src).param 0 1) := by
  simp only [State.ctxDestroy, hok, Bool.not_true, Bool.false_eq_true, if_false, if_neg hs, if_pos hw]

theorem ctxResetCmd_active (hok : targetOk (s.cmd! src) = true) (hs : (s.ctx ((s.cmd! src).param 0 1)).state ≠ 0) :
    s.ctxResetCmd src = s.askReset src ((s.cmd! src).param 0 1) := by
  simp only [State.ctxResetCmd, hok, Bool.not_true, Bool.false_eq_true, if_false, if_neg hs]

theorem ctxDestroy_free (hok : targetOk (s.cmd! src) = true) (hs : (s.ctx ((s.cmd! src).param 0 1)).state = 0) :
    s.ctxDestroy src = s.ok (s.cmd! src) (natLE 0 4) := by
  simp [State.ctxDestroy, hok, hs]

theorem ctxResetCmd_free (hok : targetOk (s.cmd! src) = true) (hs : (s.ctx ((s.cmd! src).param 0 1)).state = 0) :
    s.ctxResetCmd src = s.ok (s.cmd! src) (natLE 0 4) := by
  simp [State.ctxResetCmd, hok, hs]

theorem ctxQuery_ok (hok : targetOk (s.cmd! src) = true) :
    s.ctxQuery src = s.ok (s.cmd! src) (s.ctxReport ((s.cmd! src).param 0 1)) := by
  simp [State.ctxQuery, hok]

theorem ctxReport_up {t : Nat} (h : s.cpUp = true) : s.ctxReport t =
    [(s.ctx t).state, if (s.ctx t).strict = true then 1 else 0, BitVec.ofNat 8 (s.ctx t).programs.length, 0] ++
      natLE (s.framesHeld t) 4 ++ natLE (s.ctx t).slack.toNat 8 := by
  cases hstrict : (s.ctx t).strict <;> simp [State.ctxReport, h, hstrict, b2n]

theorem ctxReport_down {t : Nat} (h : s.cpUp = false) : s.ctxReport t = zeros 16 := by simp [State.ctxReport, h]

end Sys2Proof.Machine

namespace Sys2Proof
open Sys2Proof.Machine

/-- Settles O35. -/
theorem contextCommands : Obligations.ContextCommands := by
  intro src s cmd t job bs list
  refine ⟨fun hr h => when_eq hr (ctxCreate_bad h), fun hr h hm => when_eq hr (ctxCreate_badSet h hm),
    fun hr h hm hs => when_eq hr (ctxCreate_busy h hm hs), fun hr h hm hs hj => when_eq hr (ctxCreate_denied h hm hs hj),
    fun hr h hm hs hj => ⟨s.created src, when_eq hr (ctxCreate_created h hm hs hj), rfl, ?_⟩, fun hr hok hs hw => ?_,
    fun hr hok hs hw => when_eq hr (ctxDestroy_works hok hs hw), fun hr hok hs => when_eq hr (ctxResetCmd_active hok hs), ?_, ?_,
    fun hr hok hup => when_eq hr (by rw [ctxQuery_ok hok, ctxReport_up hup]),
    fun hr hok hup => when_eq hr (by rw [ctxQuery_ok hok, ctxReport_down hup])⟩
  · exact created_spec
  · exact ⟨_, (s.ok cmd (natLE 0 4)).releaseCtx t, exec_ctxDestroy_idle hr hok hs hw, rfl, rfl, freeCtx_spec _ _⟩
  · simp only [List.forall_mem_cons, List.not_mem_nil, false_imp_iff, implies_true, and_true]
    exact ⟨fun hr hok hs => when_eq hr (ctxDestroy_free hok hs), fun hr hok hs => when_eq hr (ctxResetCmd_free hok hs)⟩
  · simp only [List.forall_mem_cons, List.not_mem_nil, false_imp_iff, implies_true, and_true]
    exact ⟨fun hr h => when_eq hr (by simp [State.ctxDestroy, h, cmd]), fun hr h => when_eq hr (by simp [State.ctxResetCmd, h, cmd]),
      fun hr h => when_eq hr (by simp [State.ctxQuery, h, cmd])⟩

end Sys2Proof
end

section
/-!
Plats and plat sets (O36).
-/
namespace Sys2Proof.Machine

variable {src : CmdSource} {s : State} {fab : Fab}

/-! ### The table of plats -/

/-- The first entry of a key in a table where one entry was set. -/
theorem find?_tset {α : Type} (t : Table α) (k k' : Nat) (v : α) :
    (tset t k v).find? (fun e => e.1 == k') = if k' = k then some (k, v) else t.find? (fun e => e.1 == k') := by
  induction t with
  | nil =>
    by_cases h : k' = k
    · simp [tset, h]
    · simp [tset, h, beq_false_of_ne (Ne.symm h)]
  | cons e t ih =>
    obtain ⟨j, w⟩ := e
    by_cases h : k' = k
    · subst h
      obtain hlt | rfl | hgt := Nat.lt_trichotomy k' j
      · simp [tset, hlt]
      · simp [tset]
      · simp [tset, Nat.not_lt_of_gt hgt, Nat.ne_of_gt hgt, beq_false_of_ne (Nat.ne_of_lt hgt), ih]
    · have hb : (k == k') = false := beq_false_of_ne (Ne.symm h)
      obtain hlt | rfl | hgt := Nat.lt_trichotomy k j
      · simp [tset, hlt, h, hb]
      · simp [tset, h, hb]
      · simp [tset, Nat.not_lt_of_gt hgt, Nat.ne_of_gt hgt, h, ih, List.find?_cons]

theorem plat?_setPlat (p q : Nat) (y : Plat) : (s.setPlat p y).plat? q = if q = p then some y else s.plat? q := by
  simp only [State.plat?, State.setPlat, find?_tset]
  split <;> rfl

theorem modCmd_contexts (f : Cmd → Cmd) : (s.modCmd src f).contexts = s.contexts ∧ (s.modCmd src f).hostMem = s.hostMem := by
  cases src <;> exact ⟨rfl, rfl⟩

/-! ### PLAT_LOAD and PLAT_REFORM (R242, R264) -/

section
variable {d : List Byte}

theorem loadPlat_bad (h : s.platOk (srcCtx src) d = false) :
    s.loadPlat src d = s.finish (s.cmd! src) ((s.cmd! src).statusOr stBadParam) 0 [] := by
  simp [State.loadPlat, h]

theorem loadPlat_other {x : Plat} (h : s.platOk (srcCtx src) d = true) (hx : s.plat? (field d 0 2) = some x) (ho : x.owner ≠ srcCtx src)
    (hd : (s.cmd! src).dead = false) : s.loadPlat src d = s.finish (s.cmd! src) stDenied 3 [] := by
  simp [State.loadPlat, h, hx, ho, Cmd.statusOr, hd]

/-- A plat taken into the table and into the sets of its context. -/
def State.platTaken (s : State) (c p : Nat) (y : Plat) : State := (s.setPlat p y).modCtx c (fun x => x.placePlat p y)

theorem loadPlat_taken (h : s.platOk (srcCtx src) d = true)
    (ho : ∀ x, s.plat? (field d 0 2) = some x → x.owner = srcCtx src) (ha : (s.ctx (srcCtx src)).inActive (field d 0 2) = false)
    (hset : (platOf (srcCtx src) d).setMask.getLsbD (s.ctx (srcCtx src)).activeSet = false)
    (hm : s.membersBut (field d 0 2) + (platOf (srcCtx src) d).members.length ≤ platMembers) :
    s.loadPlat src d = (s.platTaken (srcCtx src) (field d 0 2) (platOf (srcCtx src) d)).finish (s.cmd! src)
      ((s.cmd! src).statusOr stOk) 0 [] := by
  have hother : ((s.plat? (field d 0 2)).map (fun x => x.owner != srcCtx src)).getD false = false := by
    cases hp : s.plat? (field d 0 2) with
    | none => rfl
    | some x => simp [ho x hp]
  simp only [State.loadPlat, h, hother, ha, hset, Bool.not_true, Bool.false_eq_true, if_false, Bool.or_false, if_neg (not_lt.mpr hm)]
  rfl

theorem platTaken_plat? (c p q : Nat) (y : Plat) : (s.platTaken c p y).plat? q = if q = p then some y else s.plat? q :=
  plat?_setPlat p q y

end

theorem exec_platLoad {a : Nat} (ha : (s.cmd! src).param 0 8 = a) (hr : s.runs src 0x0400 = true) (hp : s.platReady src a = true)
    (hz : (s.cmd! src).restZero [(0, 8)] = true) (hv : vaRange a (64 + 65536) = true) :
    exec (.platLoad src fab) s = .next ((s.readPlat src fab a).2.loadPlat src (s.readPlat src fab a).1) := by
  subst ha
  exact when_pos (by rw [hr, hp]; rfl) (by rw [hz, hv]; rfl)

theorem exec_platLoad_bad {a : Nat} (ha : (s.cmd! src).param 0 8 = a) (hr : s.runs src 0x0400 = true) (hp : s.platReady src a = true)
    (h : (s.cmd! src).restZero [(0, 8)] = false ∨ vaRange a (64 + 65536) = false) :
    exec (.platLoad src fab) s = .next (s.badParam (s.cmd! src)) := by
  subst ha
  refine when_neg (by rw [hr, hp]; rfl) ?_
  rw [Bool.and_eq_true, not_and_or, Bool.not_eq_true, Bool.not_eq_true]
  exact h

theorem exec_platReform {b : Nat} (hb : (s.cmd! src).param 8 8 = b) (hr : s.runs src 0x0403 = true) (hp : s.platReady src b = true)
    (hz : (s.cmd! src).restZero [(0, 2), (8, 8)] = true) (hv : vaRange b (64 + 65536) = true) :
    exec (.platReform src fab) s =
      .next ((s.readPlat src fab b).2.reformPlat src ((s.cmd! src).param 0 2) (s.readPlat src fab b).1) := by
  subst hb
  exact when_pos (by rw [hr, hp]; rfl) (by rw [hz, hv]; rfl)

theorem exec_platReform_bad {b : Nat} (hb : (s.cmd! src).param 8 8 = b) (hr : s.runs src 0x0403 = true) (hp : s.platReady src b = true)
    (h : (s.cmd! src).restZero [(0, 2), (8, 8)] = false ∨ vaRange b (64 + 65536) = false) :
    exec (.platReform src fab) s = .next (s.badParam (s.cmd! src)) := by
  subst hb
  refine when_neg (by rw [hr, hp]; rfl) ?_
  rw [Bool.and_eq_true, not_and_or, Bool.not_eq_true, Bool.not_eq_true]
  exact h

/-! ### PLATSET_ACTIVATE and its switch (R247) -/

section
variable (hr : s.runs src 0x0401 = true)
  (hfree : (s.ctx (srcCtx src)).activate = none ∧ s.activateWaits (srcCtx src) (s.cmd! src).order = false)
include hr hfree

/-- PLATSET_ACTIVATE with no other in its context. -/
theorem exec_platsetActivate : exec (.platsetActivate src) s = .next
    (if !(s.cmd! src).restZero [(0, 1), (8, 8)] || decide ((s.cmd! src).param 0 1 > 15) then (s.badParam (s.cmd! src)).bindHeld (srcCtx src)
     else if (s.cmd! src).param 8 8 ≤ s.datum.counter.toNat then
       s.switchSet (s.cmd! src) ((s.cmd! src).param 0 1) (decide ((s.cmd! src).param 8 8 < (s.cmd! src).datum.toNat))
     else (s.modCtx (srcCtx src) (fun x => { x with activate := some ((s.cmd! src).param 0 1, BitVec.ofNat 64 ((s.cmd! src).param 8 8)) })).modCmd
       src (fun k => { k with handed := true })) := by
  obtain ⟨ha, hw⟩ := hfree
  exact when_true (by rw [hr, ha, hw]; rfl)

theorem exec_platsetActivate_bad (h : ¬ ((s.cmd! src).restZero [(0, 1), (8, 8)] = true ∧ (s.cmd! src).param 0 1 ≤ 15)) :
    exec (.platsetActivate src) s = .next ((s.badParam (s.cmd! src)).bindHeld (srcCtx src)) := by
  rw [exec_platsetActivate hr hfree, if_pos]
  rw [not_and_or] at h
  obtain h | h := h
  · simp [h]
  · simp [Nat.lt_of_not_le h]

section
variable (hok : (s.cmd! src).restZero [(0, 1), (8, 8)] = true ∧ (s.cmd! src).param 0 1 ≤ 15)
include hok

theorem exec_platsetActivate_now (ht : (s.cmd! src).param 8 8 ≤ s.datum.counter.toNat) : exec (.platsetActivate src) s =
    .next (s.switchSet (s.cmd! src) ((s.cmd! src).param 0 1) (decide ((s.cmd! src).param 8 8 < (s.cmd! src).datum.toNat))) := by
  obtain ⟨hz, h15⟩ := hok
  rw [exec_platsetActivate hr hfree, if_neg (by simp [hz, h15]), if_pos ht]

theorem exec_platsetActivate_waits (ht : s.datum.counter.toNat < (s.cmd! src).param 8 8) : ∃ t, exec (.platsetActivate src) s = .next t ∧
    (t.ctx (srcCtx src)).activate = some ((s.cmd! src).param 0 1, BitVec.ofNat 64 ((s.cmd! src).param 8 8)) ∧
    (t.ctx (srcCtx src)).activeSet = (s.ctx (srcCtx src)).activeSet ∧ t.hostMem = s.hostMem := by
  obtain ⟨hz, h15⟩ := hok
  have hactivate := exec_platsetActivate hr hfree
  rw [if_neg (by simp [hz, h15]), if_neg (not_le.mpr ht)] at hactivate
  obtain ⟨hcontexts, hhost⟩ := modCmd_contexts (src := src) (s := s.modCtx (srcCtx src) (fun x =>
    { x with activate := some ((s.cmd! src).param 0 1, BitVec.ofNat 64 ((s.cmd! src).param 8 8)) })) (fun k => { k with handed := true })
  refine ⟨_, hactivate, ?_, ?_, hhost⟩ <;> simp only [State.ctx, hcontexts] <;> simp [State.modCtx, State.setCtx, State.ctx]

end

end

theorem exec_platsetSwitch {ctx : BitVec 6} {set : Nat} {at_ : Word64} {k : Cmd} (ha : (s.ctx ctx.toNat).activate = some (set, at_))
    (hk : s.activator ctx.toNat = some k) (hw : s.works = true) (hc : s.ctxLive ctx.toNat = true)
    (ht : at_.toNat ≤ s.datum.counter.toNat) : exec (.platsetSwitch ctx) s = .next (s.switchSet k set false) := by
  change execPlatsetSwitch ctx s = _
  simp only [execPlatsetSwitch, ha, hk]
  exact when_true (by simp [hw, hc, ht])

end Sys2Proof.Machine

namespace Sys2Proof
open Sys2Proof.Machine

/-- Settles O36. -/
theorem platCommands : Obligations.PlatCommands := by
  intro src s fab ctx cmd c a b free ok
  refine ⟨exec_platLoad rfl, exec_platLoad_bad rfl, fun d y hy hok ho ha hset hm => ?_, fun d x => loadPlat_other, fun d => loadPlat_bad,
    exec_platReform rfl, exec_platReform_bad rfl, exec_platsetActivate_bad, exec_platsetActivate_now, exec_platsetActivate_waits,
    fun set at_ k => exec_platsetSwitch⟩
  subst hy
  refine ⟨s.platTaken c (field d 0 2) (platOf c d), loadPlat_taken hok ho ha hset hm, ?_, fun p hp => ?_, rfl, rfl⟩
  · rw [platTaken_plat?, if_pos rfl]
  · rw [platTaken_plat?, if_neg hp]

end Sys2Proof
end

section
/-!
Collectives join, start, are put out and take segments (O37).
-/
namespace Sys2Proof.Machine

variable {src : CmdSource} {s : State} {fab : Fab} {p : Packet} {x : Coll} {g : Segment}

/-! ### The commands and the slots (R246, R248) -/

theorem exec_barrier (hr : s.runs src 0x0402 = true) (hop : (s.cmd! src).param 1 1 = 0 ∨ 5 < (s.cmd! src).param 1 1)
    (hb : (s.cmd! src).bound ≠ none) : exec (.barrier src) s = .next (s.collective src { lines := [], regs := [] }) := by
  have hbound : (s.cmd! src).bound.isSome = true := Option.isSome_iff_ne_none.mpr hb
  exact when_true (by simpa [hr, hbound] using hop)

/-- A collective that takes a slot, as it then stands. -/
def State.slotted (s : State) (x : Coll) : Coll :=
  { x with run := 1, slotNo := some (firstFree s.slotsUsed s.slotsUsed.length 0), started := s.time }

theorem exec_collectiveSlotStart (hx : s.nextColl? = some x) (hw : s.works = true) (hn : s.slotsUsed.length < collSlots)
    (hr : s.collReady x = true) : exec (.collectiveSlotStart fab) s =
      .next (if x.run = 2 then (s.putColl { s.slotted x with lastHeard := s.time }).runColl fab x.id else s.enterColl fab (s.slotted x)) := by
  change execCollectiveSlotStart fab s = _
  simp only [execCollectiveSlotStart, hx]
  exact when_true (by simp [hw, hn, hr])

theorem generateWaits_of (hn : s.slotsUsed.length = collSlots)
    (hg : ∃ y ∈ s.colls, y.generate = true ∧ (y.run = 0 ∨ y.run = 2) ∧ s.ctxLive y.ctx = true) : s.generateWaits = true := by
  obtain ⟨y, hy, hgen, hrun, hlive⟩ := hg
  simp only [State.generateWaits, hn, decide_true, Bool.true_and, List.any_eq_true]
  exact ⟨y, hy, by obtain h | h := hrun <;> simp [hgen, h, hlive]⟩

theorem exec_preemption (hx : s.lastStarted = some x) (hw : s.works = true) (hg : s.generateWaits = true)
    (hy : ∀ y ∈ s.colls, y.yields = false) :
    exec .preemption s = .next (if x.atBoundary then s.yieldSlot x else s.putColl { x with yields := true }) := by
  change execPreemption s = _
  simp only [execPreemption, hx]
  refine when_true ?_
  simp only [hw, hg, Bool.true_and, Bool.not_eq_true', List.any_eq_false, Bool.not_eq_true]
  exact hy

/-! ### Segments and grants (R249, R250) -/

theorem exec_collectiveSegment (hb : p.body = .seg g) (hx : s.segColl g = some x) (hm : s.forMe p = true) (hr : s.collReady x = true) :
    exec (.collectiveSegment p fab) s = .next
      (((s.takeArrived (· == p)).putColl ({ x with landing := x.landing ++ [g] }.hear s.time g.member.toNat)).runColl fab x.id) := by
  change execCollectiveSegment p fab s = _
  simp only [execCollectiveSegment, hb, hx]
  exact when_true (by rw [hm, hr]; rfl)

theorem exec_collectiveSegment_stale (hb : p.body = .seg g) (hx : s.segColl g = none) (hm : s.forMe p = true) :
    exec (.collectiveSegment p fab) s = .next (((s.takeArrived (· == p)).staleSeg g.job).tellRemoved g p.env.src) := by
  change execCollectiveSegment p fab s = _
  simp only [execCollectiveSegment, hb, hx]
  exact when_true hm

theorem State.tell_frame (s : State) (dst : BitVec 15) (cls : TClass) (b : Body) :
    s.tell dst cls b = { s with fabric := (s.tell dst cls b).fabric } := by
  unfold State.tell
  split <;> rfl

theorem State.tellRemoved_frame (s : State) (g : Segment) (m : BitVec 15) :
    s.tellRemoved g m = { s with fabric := (s.tellRemoved g m).fabric } := by
  unfold State.tellRemoved
  split
  · split
    · exact State.tell_frame _ _ _ _
    · rfl
  · rfl

theorem State.staleSeg_frame (s : State) (job : BitVec 16) : s.staleSeg job = { s with contexts := (s.staleSeg job).contexts } := by
  unfold State.staleSeg
  split <;> rfl

theorem staleSeg_count {job : BitVec 16} {m : Nat} (hm : s.ctxOf job = some m) :
    ((s.staleSeg job).ctx m).staleSegments = (s.ctx m).staleSegments + 1 := by
  simp [State.staleSeg, hm]

/-- A segment of no collective leaves the engine and DRAM, and its context counts it (R249). -/
theorem staleSegment_spec (s : State) (g : Segment) (p : Packet) :
    let t := ((s.takeArrived (· == p)).staleSeg g.job).tellRemoved g p.env.src
    t.colls = s.colls ∧ t.dram = s.dram ∧ ∀ m, s.ctxOf g.job = some m → (t.ctx m).staleSegments = (s.ctx m).staleSegments + 1 := by
  have htaken := s.takeArrived_frame (· == p)
  generalize s.takeArrived (· == p) = u at *
  have hctx : u.contexts = s.contexts := by rw [htaken]
  have hcolls : u.colls = s.colls := by rw [htaken]
  have hdram : u.dram = s.dram := by rw [htaken]
  dsimp only
  rw [State.tellRemoved_frame]
  refine ⟨?_, ?_, fun m hm => ?_⟩
  · rw [State.staleSeg_frame]
    exact hcolls
  · rw [State.staleSeg_frame]
    exact hdram
  · have hcount := staleSeg_count (s := u) (job := g.job) (m := m) (by rw [State.ctxOf, hctx]; exact hm)
    rw [State.ctx, State.ctx, hctx] at hcount
    exact hcount

theorem exec_segmentGrant {g : Grant} (hb : p.body = .grant g) (hx : s.grantColl g = some x) (hm : s.forMe p = true)
    (hr : s.collReady x = true) :
    exec (.segmentGrant p fab) s = .next ((s.takeArrived (· == p)).takeGrant fab x g p.env.src.toNat) := by
  change execSegmentGrant p fab s = _
  simp only [execSegmentGrant, hb, hx]
  exact when_true (by rw [hm, hr]; rfl)

theorem exec_segmentGrant_none {g : Grant} (hb : p.body = .grant g) (hx : s.grantColl g = none) (hm : s.forMe p = true)
    (he : s.grantEarly g = false) : exec (.segmentGrant p fab) s = .next (s.takeArrived (· == p)) := by
  change execSegmentGrant p fab s = _
  simp only [execSegmentGrant, hb, hx]
  exact when_true (by rw [hm, he]; rfl)

end Sys2Proof.Machine

namespace Sys2Proof
open Sys2Proof.Machine

/-- Settles O37. -/
theorem collectives : Obligations.Collectives := by
  intro src s fab p c
  refine ⟨exec_barrier, ?_, fun x => exec_collectiveSlotStart, fun x hx hw hn hg hy => ?_, fun g x => exec_collectiveSegment,
    fun g hb hx hm => ?_, fun g x => exec_segmentGrant, fun g => exec_segmentGrant_none⟩
  · simp only [List.forall_mem_cons, List.not_mem_nil, false_imp_iff, implies_true, and_true]
    exact ⟨when_true, when_true, when_true, when_true, when_true⟩
  · have hwaits := generateWaits_of hn hg
    refine ⟨_, exec_preemption hx hw hwaits hy, ?_⟩
    cases hb : x.atBoundary
    · exact ⟨rfl, nofun, fun _ => ⟨rfl, rfl⟩⟩
    · rw [if_pos rfl, State.yieldSlot, if_pos hwaits]
      exact ⟨rfl, fun _ => ⟨rfl, rfl⟩, nofun⟩
  · obtain ⟨hcolls, hdram, hcount⟩ := staleSegment_spec s g p
    exact ⟨_, exec_collectiveSegment_stale hb hx hm, rfl, hcolls, hdram, hcount⟩

end Sys2Proof
end

section
/-!
Wait reports, re-forms and aborts (O38).
-/
namespace Sys2Proof.Machine

variable {s : State} {id : Nat} {x : Coll} {fab : Fab} {w : WaitReport} {r : ReformRec} {a : AbortRec}

/-! ### Wait reports (R258, R259) -/

/-- The report of a member's own wait. -/
def State.ownReport (s : State) (x : Coll) : WaitReport :=
  { platId := BitVec.ofNat 12 x.platId, job := (s.ctx x.ctx).job, collSeq := x.seq, epoch := x.epoch, member := BitVec.ofNat 16 x.me
    waitsOn := BitVec.ofNat 16 x.waitsOn }

theorem exec_waitReportInterval (hw : s.works = true) (hx : s.coll? id = some x) (hu : x.unfinished = true)
    (ht : max x.lastHeard (x.lastReport.getD 0) + x.interval ≤ s.time) : exec (.waitReportInterval id) s =
      .next ((x.members.take 2).foldl (fun u m => u.tell m x.cls (.waitReport (s.ownReport x))) (s.putColl
        (if x.me ≤ 1 then ({ x with lastReport := some s.time } : Coll).report s.time x.me x.waitsOn
         else { x with lastReport := some s.time }))) := by
  change execWaitReportInterval id s = _
  simp only [execWaitReportInterval, hx]
  exact when_true (by simp only [hw, hu, ht]; rfl)

theorem exec_waitReport {z : Coll} (hm : s.mainUp = true)
    (hz : (s.collFor w.platId.toNat w.job w.collSeq).filter (fun z => z.epoch == w.epoch && decide (z.me ≤ 1)) = some z) :
    exec (.waitReport w) s =
      .next ((s.takeArrived (isBody (.waitReport w))).putColl (z.report s.time w.member.toNat w.waitsOn.toNat)) :=
  when_eq hm (by rw [hz])

theorem exec_waitReport_none (hm : s.mainUp = true)
    (hz : (s.collFor w.platId.toNat w.job w.collSeq).filter (fun z => z.epoch == w.epoch && decide (z.me ≤ 1)) = none) :
    exec (.waitReport w) s = .next (s.takeArrived (isBody (.waitReport w))) :=
  when_eq hm (by rw [hz])

theorem exec_stragglerTimeout (hw : s.works = true) (hx : s.coll? id = some x) (hrun : x.run = 1 ∨ x.run = 2)
    (hme : x.me = 0 ∨ (x.me = 1 ∧ x.acting = true)) (hr : s.collReady x = true) (ht : ∃ e ∈ x.fresh s.time, e.2.2.1 + x.limit ≤ s.time) :
    exec (.stragglerTimeout id fab) s = .next
      (if x.stragglers s.time = [] ∨ x.reformable = false then s.abortAll x else s.reformColl fab x (x.stragglers s.time)) := by
  change execStragglerTimeout id fab s = _
  simp only [execStragglerTimeout, hx]
  have hany : (x.fresh s.time).any (fun r => decide (r.2.2.1 + x.limit ≤ s.time)) = true := by simpa using ht
  have hrun' : (x.run == 1 || x.run == 2) = true := by simpa using hrun
  have hme' : (x.me == 0 || (x.me == 1 && x.acting)) = true := by simpa using hme
  refine when_eq (by rw [hw, hrun', hme', hr, hany]; rfl) ?_
  simp only [Bool.not_eq_true']

theorem exec_deputyTakeover (hw : s.works = true) (hx : s.coll? id = some x) (hu : x.unfinished = true) (hme : x.me = 1)
    (ha : x.acting = false) (hh : x.lastHeard + x.interval ≤ s.time) (hc : x.coordinatorHeard + x.limit + 10000000 ≤ s.time) :
    exec (.deputyTakeover id) s = .next (s.putColl { x with acting := true }) := by
  change execDeputyTakeover id s = _
  simp only [execDeputyTakeover, hx]
  exact when_true (by simp [hw, hu, hme, ha, hh, hc])

/-! ### Re-forms (R260 to R263) -/

section
variable (hm : s.mainUp = true) (hr : ∀ z ∈ s.colls, z.platId = r.platId.toNat → s.collReady z = true)
include hm hr

theorem reformRecord_ready : (s.mainUp && (s.colls.filter (fun x => x.platId == r.platId.toNat)).all s.collReady) = true := by
  simpa [hm, imp_iff_not_or] using hr

theorem exec_reformRecord_none (hq : s.reformPlat? r = none) : exec (.reformRecord r fab) s = .next (s.takeArrived (isBody (.reform r))) :=
  when_eq (reformRecord_ready hm hr) (by rw [hq])

variable {q : Plat} (hq : s.reformPlat? r = some q)
include hq

theorem exec_reformRecord (href : q.reformable = true) (hst : (s.ctx q.owner).strict = false) : exec (.reformRecord r fab) s =
    .next ((s.takeArrived (isBody (.reform r))).takeReform fab r.platId.toNat q r.members r.epoch r.listCrc) :=
  when_eq (reformRecord_ready hm hr) (by rw [hq]; exact if_pos (by rw [href, hst]; rfl))

theorem exec_reformRecord_refused (h : q.reformable = false ∨ (s.ctx q.owner).strict = true) : exec (.reformRecord r fab) s =
    .next ((s.takeArrived (isBody (.reform r))).refuseReform r.platId.toNat q) :=
  when_eq (reformRecord_ready hm hr) (by rw [hq]; exact if_neg (by obtain h | h := h <;> simp [h]))

end

section
variable {n : Nat} {q : Plat} {ms : List (BitVec 15)} {epoch : BitVec 16} {crc : Word32}
  (hidle : s.colls.filter (fun z => z.platId == n && z.ctx == q.owner && z.run != 3) = [])
include hidle

/-- A new list without a collective on the plat: a member that stays takes it (R260). -/
theorem takeReform_stays (h : BitVec.ofNat 15 s.self ∈ ms) :
    (s.takeReform fab n q ms epoch crc).plat? n = some (q.reform ms epoch crc) ∧
      ((s.takeReform fab n q ms epoch crc).ctx q.owner).platReforms = (s.ctx q.owner).platReforms + 1 := by
  simp only [State.takeReform, hidle, List.contains_iff_mem, h, if_true, List.foldl_nil]
  constructor
  · exact (plat?_setPlat n n _).trans (if_pos rfl)
  · rw [State.ctx_modCtx_same]
    rfl

/-- A member that is removed leaves the plat (R263). -/
theorem takeReform_removed (h : BitVec.ofNat 15 s.self ∉ ms) :
    (s.takeReform fab n q ms epoch crc).plat? n = some { q with excluded := true, epoch := epoch } ∧
      (s.takeReform fab n q ms epoch crc).contexts = s.contexts := by
  simp only [State.takeReform, hidle, List.contains_iff_mem, h, if_false, List.foldl_nil]
  exact ⟨(plat?_setPlat n n _).trans (if_pos rfl), rfl⟩

end

/-! ### Aborts (R261) -/

theorem exec_collectiveAbort (hm : s.mainUp = true) {z : Coll} (hz : s.collFor a.platId.toNat a.job a.collSeq = some z) :
    exec (.collectiveAbort a) s = .next ((s.takeArrived (isBody (.abort a))).abortColl z) :=
  when_eq hm (by rw [hz])

theorem exec_collectiveAbort_none (hm : s.mainUp = true) (hz : s.collFor a.platId.toNat a.job a.collSeq = none) :
    exec (.collectiveAbort a) s = .next (s.takeArrived (isBody (.abort a))) :=
  when_eq hm (by rw [hz])

theorem exec_collectiveOwnAbort (hw : s.works = true) (hx : s.coll? id = some x) (hu : x.unfinished = true)
    (ht : x.lastHeard + 2 * x.limit ≤ s.time) : exec (.collectiveOwnAbort id) s = .next (s.abortColl x) := by
  change execCollectiveOwnAbort id s = _
  simp only [execCollectiveOwnAbort, hx]
  exact when_true (by simp [hw, hu, ht])

theorem State.putDram_frame (s : State) (la : Nat) (bs : List Byte) :
    s.putDram la bs = { s with dram := (s.putDram la bs).dram, home := (s.putDram la bs).home } := by
  unfold State.putDram
  dsimp only
  split <;> rfl

/-- The undefined bytes of an output leave the collectives, the contexts and the queues. -/
theorem spoil_lists (s : State) (c b n : Nat) :
    (s.spoil c b n).colls = s.colls ∧ (s.spoil c b n).contexts = s.contexts ∧ (s.spoil c b n).queues = s.queues := by
  unfold State.spoil
  refine List.foldlRecOn (motive := fun t : State => t.colls = s.colls ∧ t.contexts = s.contexts ∧ t.queues = s.queues) _ _ ⟨rfl, rfl, rfl⟩
    fun t ht p _ => ?_
  dsimp only
  split
  · rw [State.putDram_frame]
    exact ht
  · exact ht

/-- What an abort leaves before its reply. -/
def State.aborted (s : State) (x : Coll) : State :=
  ((s.dropColl x.id).spoil x.ctx x.outAddr x.outBytes.length).modCtx x.ctx (fun c => { c with collAborts := c.collAborts + 1 })

theorem aborted_spec (s : State) (x : Coll) :
    (s.aborted x).colls = s.colls.filter (fun z => z.id != x.id) ∧
      ((s.aborted x).ctx x.ctx).collAborts = (s.ctx x.ctx).collAborts + 1 ∧ (s.aborted x).queues = s.queues := by
  obtain ⟨hcolls, hcontexts, hqueues⟩ := spoil_lists (s.dropColl x.id) x.ctx x.outAddr x.outBytes.length
  refine ⟨hcolls, ?_, hqueues⟩
  rw [State.aborted, State.ctx_modCtx_same, State.ctx, hcontexts]
  rfl

end Sys2Proof.Machine

namespace Sys2Proof
open Sys2Proof.Machine

/-- Settles O38. -/
theorem stragglers : Obligations.Stragglers := by
  intro s id x fab w r a told y mine
  refine ⟨exec_waitReportInterval, fun z => exec_waitReport, exec_waitReport_none, exec_stragglerTimeout, exec_deputyTakeover,
    fun hm hr => ⟨exec_reformRecord_none hm hr, fun q hq => ⟨exec_reformRecord hm hr hq, exec_reformRecord_refused hm hr hq⟩⟩,
    fun n q hidle => ⟨takeReform_stays hidle, takeReform_removed hidle⟩, fun hm z => exec_collectiveAbort hm, exec_collectiveAbort_none,
    exec_collectiveOwnAbort, s.aborted x, rfl, aborted_spec s x⟩

end Sys2Proof
end

section
/-!
GNS_READ (O39).
-/
namespace Sys2Proof.Machine

variable {src : CmdSource} {s : State}

/-! ### CLEAR (R300) -/

/-- The gradient-noise registers of cores zeroed one after another. -/
theorem clearGns_fold (l : List Nat) (s : State) :
    (l.foldl (fun s k => s.modCore k (fun x => { x with gns := {} })) s).contexts = s.contexts ∧
      ∀ k, (k ∈ l ∨ (s.core k).gns = {}) → ((l.foldl (fun s k => s.modCore k (fun x => { x with gns := {} })) s).core k).gns = {} := by
  induction l generalizing s with
  | nil => exact ⟨rfl, fun k hk => hk.resolve_left List.not_mem_nil⟩
  | cons j l ih =>
    obtain ⟨hcontexts, hcores⟩ := ih (s.modCore j (fun x => { x with gns := {} }))
    refine ⟨hcontexts, fun k hk => hcores k ?_⟩
    rw [State.core_modCore]
    by_cases hkj : k = j
    · exact .inr (by rw [if_pos hkj])
    · rw [if_neg hkj]
      exact hk.imp (fun h => (List.mem_cons.mp h).resolve_left hkj) id

theorem ctx_gnsClear (c : Nat) : (s.gnsClear c).ctx c = { s.ctx c with gns := {} } := by
  rw [State.gnsClear, State.ctx_modCtx_same, State.ctx, (clearGns_fold (s.gnsCores c) s).1]
  rfl

theorem core_gnsClear (c : Nat) : ∀ k ∈ s.gnsCores c, ((s.gnsClear c).core k).gns = {} :=
  fun k hk => (clearGns_fold (s.gnsCores c) s).2 k (.inl hk)

/-! ### The command -/

theorem exec_gnsRead_bad (hr : s.runs src 0x0601 = true) (hp : bitOf ((s.cmd! src).param 0 1) 1 = false) (h : gnsOk (s.cmd! src) = false) :
    exec (.gnsRead src) s = .next (s.badParam (s.cmd! src)) :=
  when_neg (by rw [hr, hp]; rfl) (by simp [h])

theorem exec_gnsRead (hr : s.runs src 0x0601 = true) (hp : bitOf ((s.cmd! src).param 0 1) 1 = false) (h : gnsOk (s.cmd! src) = true) :
    exec (.gnsRead src) s = .next ((if bitOf ((s.cmd! src).param 0 1) 0 = true then s.gnsClear (srcCtx src) else s).ok (s.cmd! src)
      (s.gnsTotal (srcCtx src)).bytes) :=
  when_pos (by rw [hr, hp]; rfl) h

/-- The plat that is bound to a GNS_READ and belongs to its context. -/
def State.gnsPlat (s : State) (src : CmdSource) : Option (Nat × Plat) :=
  ((s.cmd! src).bound.getD none).bind (fun p => ((s.plat? p).filter (fun y => y.owner == srcCtx src)).map (fun y => (p, y)))

section
variable (hr : s.runs src 0x0601 = true) (hp : bitOf ((s.cmd! src).param 0 1) 1 = true) (hb : (s.cmd! src).bound ≠ none)
include hr hp hb

theorem gnsReadPlat_ready : (s.runs src 0x0601 && bitOf ((s.cmd! src).param 0 1) 1 && (s.cmd! src).bound.isSome) = true := by
  rw [hr, hp, Option.isSome_iff_ne_none.mpr hb]
  rfl

theorem exec_gnsReadPlat_none (h : s.gnsPlat src = none) : exec (.gnsReadPlat src) s = .next (s.badParam (s.cmd! src)) := by
  unfold State.gnsPlat at h
  exact when_eq (gnsReadPlat_ready hr hp hb) (by rw [h])

theorem exec_gnsReadPlat_some {p : Nat} {y : Plat} (h : s.gnsPlat src = some (p, y)) :
    exec (.gnsReadPlat src) s = .next (if gnsOk (s.cmd! src) = false then s.badParam (s.cmd! src)
      else if y.excluded = true then s.status (s.cmd! src) stAborted else s.gnsColl src p y) := by
  unfold State.gnsPlat at h
  refine when_eq (gnsReadPlat_ready hr hp hb) ?_
  rw [h]
  simp only [Bool.not_eq_true']

end

end Sys2Proof.Machine

namespace Sys2Proof
open Sys2Proof.Machine

/-- Settles O39. -/
theorem gradientNoiseReads : Obligations.GradientNoiseReads := by
  intro src s cmd c t plat
  refine ⟨exec_gnsRead_bad, exec_gnsRead, ⟨ctx_gnsClear c, core_gnsClear c⟩, fun hr hp hb h => ?_, fun p y hr hp hb h hok => ?_⟩
  · cases hplat : s.gnsPlat src with
    | none => exact exec_gnsReadPlat_none hr hp hb hplat
    | some z =>
      have hbad : gnsOk cmd = false := h.resolve_left (fun hn => by cases hplat.symm.trans hn)
      rw [exec_gnsReadPlat_some hr hp hb hplat, if_pos hbad]
  · rw [exec_gnsReadPlat_some hr hp hb h, if_neg (by rw [hok]; nofun)]

end Sys2Proof
end

section
/-!
Recording and replay (O40).
-/
namespace Sys2Proof.Machine

variable {src : CmdSource} {s : State} {fab : Fab} {ctx : BitVec 6} {r : Recording}

/-! ### Recording (R303) -/

section
variable (hr : s.runs src 0x0602 = true) (hlist : s.readable (srcCtx src) ((s.cmd! src).param 24 8) 256 = true)
  (hregion : s.writable (srcCtx src) ((s.cmd! src).param 8 8) (max 1 (min ((s.cmd! src).param 16 8) replayMax)) = true)
  (hranges : ∀ e ∈ (if (s.cmd! src).param 32 1 ≤ 16 then (s.snapsOf src fab).1 else []), s.readable (srcCtx src) e.1 (min e.2 replayMax) = true)
include hr hlist hregion hranges

/-- REPLAY_RECORD with a SUB other than STOP, when nothing that it touches waits for a move. -/
theorem exec_replayRecordStart (hsub : (s.cmd! src).param 0 1 ≠ 1) : exec (.replayRecordStart src fab) s =
    .next (if (s.cmd! src).param 0 1 = 0 then s.recordStart src fab else s.badParam (s.cmd! src)) := by
  refine when_true ?_
  rw [hr, hlist, hregion, bne_iff_ne.mpr hsub]
  simp only [Bool.true_and]
  exact List.all_eq_true.mpr hranges

end

section
variable (hr : s.runs src 0x0602 = true) (hsub : (s.cmd! src).param 0 1 = 1)
include hr hsub

theorem exec_replayRecordStop_bad (hz : (s.cmd! src).restZero [(0, 1)] = false) :
    exec (.replayRecordStop src) s = .next (s.badParam (s.cmd! src)) :=
  when_pos (by rw [hr, hsub]; rfl) (by rw [hz]; rfl)

variable (hz : (s.cmd! src).restZero [(0, 1)] = true)
include hz

theorem exec_replayRecordStop_none (hrec : (s.ctx (srcCtx src)).recording = none) :
    exec (.replayRecordStop src) s = .next (s.ok (s.cmd! src) (natLE 0 4)) :=
  when_eq (by rw [hr, hsub]; rfl) (by rw [hz, hrec]; rfl)

theorem exec_replayRecordStop (hrec : (s.ctx (srcCtx src)).recording = some r) : exec (.replayRecordStop src) s =
    .next ((s.modCtx (srcCtx src) (fun y => { y with recording := none })).finish (s.cmd! src)
      (if r.full = true then stNoSpace else stOk) 0 (natLE r.entries 4)) :=
  when_eq (by rw [hr, hsub]; rfl) (by rw [hz, hrec]; rfl)

end

theorem exec_replayStopDatum (hrec : (s.ctx ctx.toNat).recording = some r) (hw : s.works = true) (ha : r.active = true)
    (h0 : r.stopDatum ≠ 0) (ht : r.stopDatum.toNat ≤ s.datum.counter.toNat) : exec (.replayStopDatum ctx) s =
    .next (s.modCtx ctx.toNat (fun y => { y with recording := some { r with active := false } })) := by
  change execReplayStopDatum ctx s = _
  simp only [execReplayStopDatum, hrec]
  exact when_true (by rw [hw, ha, bne_iff_ne.mpr h0, decide_eq_true ht]; rfl)

/-! ### Replay (R305) -/

theorem exec_replayRun_start (h : s.replayAt src = none) (hr : s.runs src 0x0603 = true)
    (hread : s.readable (srcCtx src) ((s.cmd! src).param 8 8) 64 = true) :
    exec (.replayRun src fab) s = .next (s.replayStart src fab) := by
  change execReplayRun src fab s = _
  simp only [execReplayRun, h]
  exact when_true (by rw [hr, hread]; rfl)

theorem exec_replayRun_on {y : Replay} (h : s.replayAt src = some y) (hc : s.cpUp = true) (hl : s.ctxLive (srcCtx src) = true)
    (hnext : 0 < y.left → s.readable (srcCtx src) y.next 524288 = true ∧ s.replayFree (srcCtx src) y fab = true)
    (hend : y.left = 0 → s.replayOpen (srcCtx src) = false) :
    exec (.replayRun src fab) s = .next (s.replayOn (srcCtx src) y fab) := by
  change execReplayRun src fab s = _
  simp only [execReplayRun, h]
  refine when_true ?_
  rw [hc, hl]
  obtain h0 | h0 := Nat.eq_zero_or_pos y.left
  · simp [h0, hend h0]
  · obtain ⟨hread, hfree⟩ := hnext h0
    simp [h0, hread, hfree]

end Sys2Proof.Machine

namespace Sys2Proof
open Sys2Proof.Machine

/-- Settles O40. -/
theorem replays : Obligations.Replays := by
  intro src s fab ctx r cmd c ranges
  refine ⟨fun hr hlist hregion hranges => ⟨fun h0 => ?_, fun h1 => ?_⟩, exec_replayRecordStop_bad, exec_replayRecordStop_none,
    exec_replayRecordStop, exec_replayStopDatum, exec_replayRun_start, fun y => exec_replayRun_on⟩
  · rw [exec_replayRecordStart hr hlist hregion hranges (by rw [h0]; nofun), if_pos h0]
  · rw [exec_replayRecordStart hr hlist hregion hranges (Nat.ne_of_gt h1), if_neg (Nat.ne_of_gt (Nat.lt_of_succ_lt h1))]

end Sys2Proof
end

section
/-!
The datum: exchanges, slew, holdover and pulses (O41).
-/
namespace Sys2Proof.Machine

variable {s : State}

theorem State.calibrate_frame (s : State) :
    s.calibrate = { s with datum := { s.datum with calibrated := s.calibrate.datum.calibrated } } := by
  have hif (p : Prop) [Decidable p] (t : State) (ht : t = if p then s.modDatum (fun d => { d with calibrated := true }) else s) :
      t = { s with datum := { s.datum with calibrated := t.datum.calibrated } } := by
    subst ht
    split <;> rfl
  exact hif _ _ rfl

/-! ### Exchanges (R356, R357) -/

theorem foldl_emit {α : Type} (o : α → Out) (l : List α) (s : State) :
    l.foldl (fun s a => s.emit (o a)) s = { s with out := s.out ++ l.map o } := by
  induction l generalizing s with
  | nil => simp
  | cons a l ih => rw [List.foldl_cons, ih]; simp [State.emit]

/-- What an exchange of timestamps sends. -/
def State.exchangeOut (s : State) : List Out :=
  s.out ++ ((List.range 36).filter (fun i => (s.group i).state == 2)).map .timestamp ++ s.activePorts.map .creditView

theorem exec_datumExchangeTimer (hl : s.lmpUp = true) (ht : ∀ at_, s.datum.lastExchange = some at_ → at_ + exchangePeriod ≤ s.time) :
    exec .datumExchangeTimer s = .next { s with datum := { s.datum with lastExchange := some s.time }, out := s.exchangeOut } := by
  change execDatumExchangeTimer s = _
  unfold execDatumExchangeTimer
  refine when_eq ?_ ?_
  · rw [hl]
    split
    · next at_ h => exact decide_eq_true (ht at_ h)
    · rfl
  · rw [foldl_emit, foldl_emit]
    rfl

/-- The groups after an exchange: the one that exchanged has its delay. -/
theorem exec_datumTimestampExchange {group : BitVec 6} (t1 t2 t3 t4 : Nat) (hl : s.lmpUp = true) (hg : group.toNat < 36)
    (hst : (s.group group.toNat).state = 1 ∨ (s.group group.toNat).state = 2) : ∃ t,
      exec (.datumTimestampExchange group t1 t2 t3 t4) s = .next t ∧ (t.group group.toNat).measured = true ∧
      (t.group group.toNat).linkDelay = BitVec.ofInt 32 ((((t4 : Int) - t1) - ((t3 : Int) - t2)) / 2) ∧ t.dram = s.dram ∧
      t.cores = s.cores := by
  refine ⟨_, when_true (by obtain h | h := hst <;> simp [hl, hg, h]), ?_⟩
  rw [State.calibrate_frame]
  split <;> simp [State.group, State.modGroup, State.setGroup, State.modDatum]

/-! ### The slew (R357) -/

section
variable (hl : s.lmpUp = true) (hc : s.datum.calibrated = true) (hh : s.datum.holdover = none)
  (hfree : ∀ at_, s.datum.lastSlew = some at_ → at_ + 4000 ≤ s.time)
include hl hc hh hfree

/-- One tick of the slew: the counter repeats when it is ahead, and skips one when it is behind. -/
theorem exec_datumSlewTick (he : 500 < s.slewDue.natAbs) : ∃ t, exec .datumSlewTick s = .next t ∧
    t.datum.counter = (if 0 < s.slewDue then s.datum.counter else s.datum.counter + 2) ∧ t.datum.lastSlew = some s.time ∧
    t.time = s.time + 1 ∧ t.dram = s.dram := by
  refine ⟨_, when_true ?_, ?_⟩
  · rw [hl, hc, hh]
    split
    · next at_ h => simp [he, hfree at_ h]
    · simp [he]
  · rw [State.calibrate_frame]
    simp only [decide_eq_true_eq]
    exact ⟨trivial, trivial, trivial, trivial⟩

end

/-! ### Holdover and pulses (R357, R358, R412) -/

theorem exec_holdoverReparent {at_ p : Nat} (hh : s.datum.holdover = some at_) (hp : s.newParent = some p) (hl : s.lmpUp = true)
    (ht : at_ + 100000000 ≤ s.time) (hne : s.datum.parent ≠ some p) : exec .holdoverReparent s =
      .next (s.modDatum (fun d => { d with parent := some p, offset := none, holdover := none, skewEst := BitVec.ofNat 16 s.skewNow })) := by
  change execHoldoverReparent s = _
  simp only [execHoldoverReparent, hh, hp]
  exact when_true (by rw [hl, decide_eq_true ht, bne_iff_ne.mpr hne]; rfl)

theorem exec_datumPpsEdge_ignored (hm : s.mainUp = true)
    (h : s.ppsActs = false ∨ (s.datum.ppsLocked = true ∧ 1000000 < (secondError s.datum.counter).natAbs)) :
    exec .datumPpsEdge s = .next s :=
  when_pos hm (h.imp (fun h => by rw [h]; rfl) id)

theorem exec_datumPpsEdge (hm : s.mainUp = true) (ha : s.ppsActs = true)
    (h : ¬ (s.datum.ppsLocked = true ∧ 1000000 < (secondError s.datum.counter).natAbs)) :
    exec .datumPpsEdge s = .next (s.modDatum (fun d => { d with
      ppsError := -secondError s.datum.counter
      ppsLocked := d.ppsLocked || decide (secondError s.datum.counter = 0)
      ppsMissed := 0
      ppsLast := some s.time })) :=
  when_neg hm (fun hor => hor.elim (fun hn => by rw [ha] at hn; cases hn) h)

theorem exec_ppsEdgeMissing {at_ : Nat} (hp : s.datum.ppsLast = some at_) (ha : s.ppsActs = true) (ht : at_ + 1001000000 ≤ s.time) :
    exec .ppsEdgeMissing s = .next (s.modDatum (fun d => { d with
      ppsMissed := s.datum.ppsMissed + 1
      ppsLast := some (at_ + 1000000000)
      ppsLocked := d.ppsLocked && decide (s.datum.ppsMissed + 1 < 3) })) := by
  change execPpsEdgeMissing s = _
  simp only [execPpsEdgeMissing, hp]
  exact when_true (by rw [ha, decide_eq_true ht]; rfl)

end Sys2Proof.Machine

namespace Sys2Proof
open Sys2Proof.Machine

/-- Settles O41. -/
theorem datumTiming : Obligations.DatumTiming := by
  intro s group t1 t2 t3 t4 g d free
  refine ⟨fun hl ht => ⟨_, exec_datumExchangeTimer hl ht, rfl, rfl⟩, exec_datumTimestampExchange t1 t2 t3 t4, fun hl hc hh hf he => ?_,
    fun hl hc hh hf he => ?_, fun at_ p hh hp hl ht hne => ⟨_, exec_holdoverReparent hh hp hl ht hne, rfl, rfl, rfl, rfl⟩,
    exec_datumPpsEdge_ignored, fun hm ha h => ⟨_, exec_datumPpsEdge hm ha h, rfl, rfl, ?_, rfl⟩,
    fun at_ hp ha ht => ⟨_, exec_ppsEdgeMissing hp ha ht, rfl, rfl, fun h3 => ?_⟩⟩
  · obtain ⟨t, ht, hcounter, hrest⟩ := exec_datumSlewTick hl hc hh hf (by omega)
    exact ⟨t, ht, by rw [hcounter, if_pos (by omega)], hrest⟩
  · obtain ⟨t, ht, hcounter, hrest⟩ := exec_datumSlewTick hl hc hh hf (by omega)
    exact ⟨t, ht, by rw [hcounter, if_neg (by omega)], hrest⟩
  · simp [State.modDatum, d]
  · have hmissed : 3 ≤ s.datum.ppsMissed + 1 := h3
    have hlt : ¬ s.datum.ppsMissed + 1 < 3 := by omega
    simp [State.modDatum, hlt]

end Sys2Proof
end

section
/-!
The start barrier and DATUM_READ (O42).
-/
namespace Sys2Proof.Machine

variable {src : CmdSource} {s : State} {fab : Fab} {q : BitVec 8}

/-! ### DATUM_BARRIER (R360) -/

/-- The parameters of a DATUM_BARRIER do not hold. -/
def barrierBad (c : Cmd) : Prop := c.restZero [(0, 1), (4, 4)] = false ∨ barrierLead c < 30000 ∨ 1000000000 < barrierLead c

theorem barrierBad_iff (c : Cmd) : barrierBad c ↔
    (!c.restZero [(0, 1), (4, 4)] || decide (barrierLead c < 30000) || decide (1000000000 < barrierLead c)) = true := by
  simp [barrierBad, or_assoc]

/-- The plat that is bound to a DATUM_BARRIER and belongs to its context. -/
def State.barrierPlat (s : State) (src : CmdSource) : Option (Nat × Plat) :=
  ((s.cmd! src).bound.getD none).bind (fun p => ((s.plat? p).filter (fun y => y.owner == srcCtx src)).map (fun y => (p, y)))

section
variable (hr : s.runs src 0x0700 = true) (hb : (s.cmd! src).bound ≠ none)
include hr hb

theorem datumBarrier_ready : (s.runs src 0x0700 && (s.cmd! src).bound.isSome) = true := by
  rw [hr, Option.isSome_iff_ne_none.mpr hb]
  rfl

theorem exec_datumBarrier_bad (h : barrierBad (s.cmd! src)) : exec (.datumBarrier src) s = .next (s.badParam (s.cmd! src)) :=
  when_pos (datumBarrier_ready hr hb) ((barrierBad_iff _).mp h)

variable (hok : ¬ barrierBad (s.cmd! src))
include hok

theorem exec_datumBarrier_busy (hc : s.datum.calibrated = false) : exec (.datumBarrier src) s = .next (s.status (s.cmd! src) stBusy) :=
  when_eq (datumBarrier_ready hr hb) (by rw [if_neg (fun h => hok ((barrierBad_iff _).mpr h)), hc]; rfl)

variable (hc : s.datum.calibrated = true)
include hc

theorem exec_datumBarrier_none (h : s.barrierPlat src = none) : exec (.datumBarrier src) s = .next (s.badParam (s.cmd! src)) := by
  unfold State.barrierPlat at h
  exact when_eq (datumBarrier_ready hr hb) (by rw [if_neg (fun h => hok ((barrierBad_iff _).mpr h)), hc, h]; rfl)

theorem exec_datumBarrier_some {p : Nat} {y : Plat} (h : s.barrierPlat src = some (p, y)) : exec (.datumBarrier src) s =
    .next (if y.excluded = true then s.status (s.cmd! src) stAborted else s.barrierColl src p y) := by
  unfold State.barrierPlat at h
  exact when_eq (datumBarrier_ready hr hb) (by rw [if_neg (fun h => hok ((barrierBad_iff _).mpr h)), hc, h]; rfl)

end

/-! ### Staging and release (R361, R362) -/

theorem exec_barrierStage (hc : s.cpUp = true) (hl : s.ctxLive (q.toNat / 4) = true) (ha : s.barrierAgreed q.toNat = true)
    (hs : s.stageable q.toNat = true) :
    let past := fun (r : Word64 × Bool) => (r.1, r.2 || decide (r.1.toNat < s.datum.counter.toNat))
    exec (.barrierStage q fab) s = .next ((s.modQueue q.toNat
      (fun x => { x with barrier := x.cur, cur := none, release := x.release.map past })).fetch q.toNat fab) :=
  when_eq (by rw [hc, hl, ha, hs]; rfl) rfl

theorem exec_barrierRelease {r : Word64} {late : Bool} (hrel : (s.queue q.toNat).release = some (r, late)) (hw : s.works = true)
    (hl : s.ctxLive (q.toNat / 4) = true) (ht : r.toNat ≤ s.datum.counter.toNat)
    (hstaged : (s.queue q.toNat).barrier ≠ none ∨ s.stageable q.toNat = false)
    (hready : ∀ x ∈ s.colls, x.queue = q.toNat → s.collReady x = true) :
    exec (.barrierRelease q fab) s = .next (s.releaseBarrier q.toNat fab r late) := by
  change execBarrierRelease q fab s = _
  simp only [execBarrierRelease, hrel]
  have hall : (s.colls.filter (fun x => x.queue == q.toNat)).all s.collReady = true := by simpa [imp_iff_not_or] using hready
  have hor : ((s.queue q.toNat).barrier.isSome || !s.stageable q.toNat) = true := by
    obtain h | h := hstaged
    · rw [Option.isSome_iff_ne_none.mpr h]; rfl
    · rw [h]; simp
  exact when_true (by rw [hw, hl, decide_eq_true ht, hor, hall]; rfl)

theorem exec_datumRead (hr : s.runs src 0x0701 = true) : exec (.datumRead src) s = .next
    (if (s.cmd! src).restZero [] = true then s.ok (s.cmd! src) (natLE s.datum.counter.toNat 8) else s.badParam (s.cmd! src)) :=
  when_true hr

end Sys2Proof.Machine

namespace Sys2Proof
open Sys2Proof.Machine

/-- Settles O42. -/
theorem startBarriers : Obligations.StartBarriers := by
  intro src s fab q cmd n lead bad plat
  exact ⟨exec_datumBarrier_bad, exec_datumBarrier_busy, exec_datumBarrier_none, fun p y hr hb hok hc => exec_datumBarrier_some hr hb hok hc, exec_barrierStage,
    fun r late => exec_barrierRelease, exec_datumRead⟩

end Sys2Proof
end

section
/-!
INBOX_CONFIG, the scatter dispatch and INBOX_QUERY (O43).
-/
namespace Sys2Proof.Machine

variable {src : CmdSource} {s : State} {fab : Fab} {ctx : BitVec 6} {b : List Byte}

/-! ### The form INBOX (R266) -/

section
variable (hr : s.runs src 0x0500 = true) (hread : s.readable (srcCtx src) ((s.cmd! src).param 8 8) 64 = true)
include hr hread

theorem exec_inboxConfigInbox (h0 : (s.cmd! src).param 0 1 = 0) (hz : (s.cmd! src).restZero [(0, 1), (8, 8)] = true)
    (hv : vaRange ((s.cmd! src).param 8 8) 64 = true) :
    let r := s.engineRead (srcCtx src) (.cmd src) fab ((s.cmd! src).param 8 8) 64
    exec (.inboxConfigInbox src fab) s = .next (r.2.2.configInbox src r.1 fab) :=
  when_neg (by rw [hr, hread, h0]; rfl) (by simp [h0, hz, hv])

theorem exec_inboxConfigInbox_bad (h1 : (s.cmd! src).param 0 1 ≠ 1) (h2 : (s.cmd! src).param 0 1 ≠ 2)
    (h : (s.cmd! src).param 0 1 ≠ 0 ∨ (s.cmd! src).restZero [(0, 1), (8, 8)] = false ∨ vaRange ((s.cmd! src).param 8 8) 64 = false) :
    exec (.inboxConfigInbox src fab) s = .next (s.badParam (s.cmd! src)) :=
  when_pos (by rw [hr, hread, bne_iff_ne.mpr h1, bne_iff_ne.mpr h2]; rfl) (by simpa using h)

end

theorem configInbox_bad (h : s.inboxOk (srcCtx src) b fab = false) :
    s.configInbox src b fab = s.finish (s.cmd! src) ((s.cmd! src).statusOr stBadParam) 0 [] := by
  simp [State.configInbox, h]

theorem configInbox_denied (h : s.inboxOk (srcCtx src) b fab = true) (he : (s.inbox (field b 0 1)).enable = true)
    (ho : (s.inbox (field b 0 1)).owner ≠ srcCtx src) :
    s.configInbox src b fab = s.finish (s.cmd! src) ((s.cmd! src).statusOr stDenied) 0 [] := by
  simp [State.configInbox, h, he, ho]

/-- An inbox as its descriptor describes it. -/
def State.putInbox (s : State) (i : Nat) (x : Inbox) : State := { s with inboxes := tset s.inboxes i x }

theorem inbox_putInbox (i j : Nat) (x : Inbox) : (s.putInbox i x).inbox j = if j = i then x else s.inbox j := tget_tset _ _ _ _ _

theorem inbox_putInbox_same (i : Nat) (x : Inbox) : (s.putInbox i x).inbox i = x := tget_tset_same _ _ _ _

theorem configInbox_taken (h : s.inboxOk (srcCtx src) b fab = true)
    (hown : (s.inbox (field b 0 1)).enable = true → (s.inbox (field b 0 1)).owner = srcCtx src ∧ (s.inbox (field b 0 1)).waves = [])
    (hen : bitOf (field b 3 1) 0 = true) : s.configInbox src b fab =
      (s.putInbox (field b 0 1) (s.inboxOf (srcCtx src) b)).finish (s.cmd! src) ((s.cmd! src).statusOr stOk) 0 [] := by
  have hdenied : ¬ ((s.inbox (field b 0 1)).enable = true ∧ (s.inbox (field b 0 1)).owner ≠ srcCtx src) :=
    fun hn => hn.2 (hown hn.1).1
  have hbusy : ¬ ((s.inbox (field b 0 1)).enable = true ∧ (!(s.inbox (field b 0 1)).waves.isEmpty) = true) := by
    rintro ⟨he, hw⟩
    rw [(hown he).2] at hw
    cases hw
  simp only [State.configInbox, h, Bool.not_true, Bool.false_eq_true, if_false, if_neg hdenied, if_neg hbusy, if_pos hen]
  rfl

/-! ### The forms MAP and ORIGIN (R267, R268) -/

section
variable (hr : s.runs src 0x0500 = true) (h1 : (s.cmd! src).param 0 1 = 1)
  (hread : s.readable (srcCtx src) ((s.cmd! src).param 8 8) 65536 = true)
include hr h1 hread

theorem exec_inboxConfigMap_bad (h : (s.cmd! src).restZero [(0, 1), (4, 12)] = false ∨ (s.cmd! src).param 4 4 = 0 ∨
      16384 < (s.cmd! src).param 4 4 ∨ vaRange ((s.cmd! src).param 8 8) (4 * (s.cmd! src).param 4 4) = false) :
    exec (.inboxConfigMap src fab) s = .next (s.badParam (s.cmd! src)) :=
  when_pos (by rw [hr, h1, hread]; rfl) (by simpa using h)

theorem exec_inboxConfigMap (hz : (s.cmd! src).restZero [(0, 1), (4, 12)] = true) (h0 : 0 < (s.cmd! src).param 4 4)
    (hn : (s.cmd! src).param 4 4 ≤ 16384) (hv : vaRange ((s.cmd! src).param 8 8) (4 * (s.cmd! src).param 4 4) = true) :
    let r := s.engineRead (srcCtx src) (.cmd src) fab ((s.cmd! src).param 8 8) (4 * (s.cmd! src).param 4 4)
    let m := (chunks 4 r.1).map (fun b => BitVec.ofNat 32 (leNat b))
    exec (.inboxConfigMap src fab) s = .next (if mapOk m = true
      then (r.2.2.modCtx (srcCtx src) (fun x => { x with expertMap := m })).finish (r.2.2.cmd! src) ((r.2.2.cmd! src).statusOr stOk) 0 []
      else r.2.2.finish (r.2.2.cmd! src) ((r.2.2.cmd! src).statusOr stBadParam) 0 []) :=
  when_neg (by rw [hr, h1, hread]; rfl) (by simp [hz, hv, Nat.ne_of_gt h0, hn])

end

section
variable (hr : s.runs src 0x0500 = true) (h2 : (s.cmd! src).param 0 1 = 2)
include hr h2

theorem exec_inboxConfigOrigin_bad (h : s.originOk (srcCtx src) (s.cmd! src) = false) :
    exec (.inboxConfigOrigin src) s = .next (s.badParam (s.cmd! src)) :=
  when_pos (by rw [hr, h2]; rfl) (by rw [h]; rfl)

variable (h : s.originOk (srcCtx src) (s.cmd! src) = true)
include h

theorem exec_inboxConfigOrigin_busy (hw : (s.ctx (srcCtx src)).places ≠ [] ∨ (s.ctx (srcCtx src)).waves ≠ []) :
    exec (.inboxConfigOrigin src) s = .next (s.status (s.cmd! src) stBusy) :=
  when_eq (by rw [hr, h2]; rfl) (by rw [h, if_neg nofun, if_pos (by simpa using hw)])

theorem exec_inboxConfigOrigin (hp : (s.ctx (srcCtx src)).places = []) (hw : (s.ctx (srcCtx src)).waves = []) :
    exec (.inboxConfigOrigin src) s = .next ((s.modCtx (srcCtx src) (fun x =>
      { x with origin := some (s.originOf (srcCtx src) (s.cmd! src)) })).ok (s.cmd! src)) :=
  when_eq (by rw [hr, h2]; rfl) (by rw [h, if_neg nofun, if_neg (by simp [hp, hw])])

end

theorem exec_scatterDispatch {o : Origin} (ho : (s.ctx ctx.toNat).origin = some o) (hw : s.works = true)
    (hl : s.ctxLive ctx.toNat = true) (htail : s.blockWord ctx.toNat o 0 ≠ o.head.toNat)
    (hblock : s.writable ctx.toNat o.block.toNat 16 = true)
    (hrec : s.readable ctx.toNat (field (s.dispatchRec ctx.toNat o) 0 7) 16384 = true) :
    exec (.scatterDispatch ctx fab) s = .next (s.dispatch ctx.toNat o fab) := by
  change execScatterDispatch ctx fab s = _
  simp only [execScatterDispatch, ho]
  exact when_true (by rw [hw, hl, bne_iff_ne.mpr htail, hblock, hrec]; rfl)

/-! ### INBOX_QUERY (R278) -/

section
variable (hr : s.runs src 0x0501 = true) (hw : s.writable (srcCtx src) ((s.cmd! src).param 8 8) 128 = true)
include hr hw

theorem exec_inboxQuery_bad (h : (s.cmd! src).restZero [(0, 2), (8, 8)] = false ∨ 1 < (s.cmd! src).param 0 1 ∨
      vaRange ((s.cmd! src).param 8 8) 128 = false ∨
      ((s.cmd! src).param 0 1 = 1 ∧ (s.inbox ((s.cmd! src).param 1 1)).enable = false)) :
    exec (.inboxQuery src fab) s = .next (s.badParam (s.cmd! src)) :=
  when_pos (by rw [hr, hw]; rfl) (by simpa using h)

variable (hz : (s.cmd! src).restZero [(0, 2), (8, 8)] = true)
include hz

theorem exec_inboxQuery_denied (h1 : (s.cmd! src).param 0 1 = 1) (hv : vaRange ((s.cmd! src).param 8 8) 128 = true)
    (he : (s.inbox ((s.cmd! src).param 1 1)).enable = true) (ho : (s.inbox ((s.cmd! src).param 1 1)).owner ≠ srcCtx src) :
    exec (.inboxQuery src fab) s = .next (s.finish (s.cmd! src) stDenied 0 []) :=
  when_eq (by rw [hr, hw]; rfl) (by simp [State.inboxQuery, h1, hz, hv, he, ho])

theorem exec_inboxQuery_origin (h0 : (s.cmd! src).param 0 1 = 0) (hv : vaRange ((s.cmd! src).param 8 8) 128 = true) :
    let t := (s.engineWrite (srcCtx src) (.cmd src) fab ((s.cmd! src).param 8 8) (counterBytes (s.ctx (srcCtx src)).originCounters)).2
    exec (.inboxQuery src fab) s = .next (t.finish (t.cmd! src) ((t.cmd! src).statusOr stOk) 0
      (natLE (s.ctx (srcCtx src)).rowsOut.toNat 8 ++ natLE (t.ctx (srcCtx src)).wavesDone.toNat 8)) :=
  when_eq (by rw [hr, hw]; rfl) (by simp [State.inboxQuery, h0, hz, hv])

end

end Sys2Proof.Machine

namespace Sys2Proof
open Sys2Proof.Machine

/-- Settles O43. -/
theorem expertCommands : Obligations.ExpertCommands := by
  intro src s fab ctx
  dsimp only
  refine ⟨fun hr h0 hread hz hv => ?_, fun hr h1 h2 hread => exec_inboxConfigInbox_bad hr hread h1 h2,
    fun b h hown hen => ?_, fun b h => ?_, fun b h he ho => ?_, ?_, ?_, exec_inboxConfigOrigin_bad,
    exec_inboxConfigOrigin_busy, exec_inboxConfigOrigin, fun o => exec_scatterDispatch, ?_, ?_, ?_⟩
  · exact exec_inboxConfigInbox hr hread h0 hz hv
  · exact ⟨s.putInbox (field b 0 1) (s.inboxOf (srcCtx src) b), configInbox_taken h hown hen, inbox_putInbox_same _ _,
      fun i hi => (inbox_putInbox _ _ _).trans (if_neg hi), rfl⟩
  · exact configInbox_bad h
  · exact configInbox_denied h he ho
  · exact exec_inboxConfigMap_bad
  · exact exec_inboxConfigMap
  · exact exec_inboxQuery_bad
  · exact exec_inboxQuery_denied
  · exact exec_inboxQuery_origin

end Sys2Proof
end

section
/-!
Rows, markers, batches, returns and receipts of experts (O44).
-/
namespace Sys2Proof.Machine

variable {s : State} {p : Packet} {g : RowSeg} {inbox : Byte} {ctx : BitVec 6} {wave : Word32} {fab : Fab}

/-! ### Rows and markers (R269 to R273) -/

section
variable (hrow : p.body = .row g ∧ s.forMe p = true) (hord : s.inRowOrder p g = true)
include hrow hord

section
variable (hk : g.kind = .row)
include hk

theorem exec_expertRowSegment_none (hx : s.inboxFor g p.env.src = none) :
    exec (.expertRowSegment p fab) s = .next ((s.takeArrived (· == p)).rowSegment fab p g) := by
  obtain ⟨hb, hm⟩ := hrow
  change execExpertRowSegment p fab s = _
  simp only [execExpertRowSegment, hb, hx]
  exact when_true (by rw [hm, hk, hord]; rfl)

theorem exec_expertRowSegment {x : Inbox} (hx : s.inboxFor g p.env.src = some x) (hl : s.ctxLive x.owner = true)
    (hroom : g.offset ≠ 0 ∨ s.rowRoom x g = true) :
    exec (.expertRowSegment p fab) s = .next ((s.takeArrived (· == p)).rowSegment fab p g) := by
  obtain ⟨hb, hm⟩ := hrow
  change execExpertRowSegment p fab s = _
  simp only [execExpertRowSegment, hb, hx]
  exact when_true (by simpa [hm, hk, hord, hl] using hroom)

end

section
variable (hk : g.kind = .marker)
include hk

theorem exec_expertMarker_none (hx : s.inboxFor g p.env.src = none) :
    exec (.expertMarker p fab) s = .next ((s.takeArrived (· == p)).marker fab g p.env.src) := by
  obtain ⟨hb, hm⟩ := hrow
  change execExpertMarker p fab s = _
  simp only [execExpertMarker, hb, hx]
  exact when_true (by rw [hm, hk, hord]; rfl)

theorem exec_expertMarker {x : Inbox} (hx : s.inboxFor g p.env.src = some x) (hl : s.ctxLive x.owner = true)
    (hroom : x.waveRoom g.wave = true) :
    exec (.expertMarker p fab) s = .next ((s.takeArrived (· == p)).marker fab g p.env.src) := by
  obtain ⟨hb, hm⟩ := hrow
  change execExpertMarker p fab s = _
  simp only [execExpertMarker, hb, hx]
  exact when_true (by rw [hm, hk, hord, hl, hroom]; rfl)

end

end

theorem rowSegment_none (hx : s.inboxFor g p.env.src = none) :
    s.rowSegment fab p g = if g.offset = 0 then s.refuseRow p g none else s := by
  simp only [State.rowSegment, hx]

theorem rowSegment_first {x : Inbox} {land : Nat} (hx : s.inboxFor g p.env.src = some x) (h0 : g.offset = 0) (hl : x.freeLand = some land) :
    s.rowSegment fab p g = (s.newRow g.inbox.toNat x g p.env.src land).landRow fab g.inbox.toNat g p.env.src := by
  simp only [State.rowSegment, hx, h0, ne_eq, not_true_eq_false, if_false, hl]

theorem openWave_counts (x : Inbox) (w : Word32) :
    (x.openWave w).received = x.received ∧ (x.openWave w).nextArrival = x.nextArrival := by
  unfold Inbox.openWave
  split <;> exact ⟨rfl, rfl⟩

/-- A new row counts once at its inbox (R270). -/
theorem newRow_counts (i : Nat) (x : Inbox) (m : BitVec 15) (land : Nat) :
    ((s.newRow i x g m land).inbox i).received = (s.inbox i).received + 1 ∧
      ((s.newRow i x g m land).inbox i).nextArrival = (s.inbox i).nextArrival + 1 := by
  obtain ⟨hreceived, hnext⟩ := openWave_counts (s.inbox i) g.wave
  unfold State.newRow State.modInbox State.inbox
  simp only [tget_tset_same]
  exact ⟨congrArg (· + 1) hreceived, congrArg (· + 1) hnext⟩

/-! ### Batches (R272, R276, R280) -/

theorem exec_batchDeadline {v : Wave} (hv : s.closingWave inbox.toNat .deadline = some v) (hl : s.inboxLive inbox.toNat = true) :
    exec (.batchDeadline inbox fab) s = .next (s.closeBatch fab inbox.toNat v .deadline) := by
  change execBatchDeadline inbox fab s = _
  simp only [execBatchDeadline, hv]
  exact when_true hl

theorem exec_batchLatencyFloor {v : Wave} (hv : s.closingWave inbox.toNat .floor = some v) (hl : s.inboxLive inbox.toNat = true) :
    exec (.batchLatencyFloor inbox fab) s = .next (s.closeBatch fab inbox.toNat v .floor) := by
  change execBatchLatencyFloor inbox fab s = _
  simp only [execBatchLatencyFloor, hv]
  exact when_true hl

theorem exec_expertBatchComplete {b : Batch} (hb : (s.inbox inbox.toNat).batches.find? s.batchDone = some b) (hw : s.works = true)
    (he : (s.inbox inbox.toNat).enable = true) :
    exec (.expertBatchComplete inbox fab) s = .next (s.endBatch fab inbox.toNat b) := by
  change execExpertBatchComplete inbox fab s = _
  simp only [execExpertBatchComplete, hb]
  exact when_true (by rw [hw, he]; rfl)

/-! ### What comes back to an origin (R276 to R279) -/

section
variable (hrow : p.body = .row g ∧ s.forMe p = true)
include hrow

theorem exec_expertReturn_none (hk : g.kind = .ret) (hc : s.originCtx g.job = none) :
    exec (.expertReturn p fab) s = .next ((s.takeArrived (· == p)).formerOrphan g) := by
  obtain ⟨hb, hm⟩ := hrow
  change execExpertReturn p fab s = _
  simp only [execExpertReturn, hb, hc]
  exact when_true (by rw [hm, hk]; rfl)

theorem exec_expertReturn_noPlace {c : Nat} (hk : g.kind = .ret) (hc : s.originCtx g.job = some c) (hr : s.originReady c = true)
    (hq : s.placeOf c g p.env.src.toNat = none) :
    exec (.expertReturn p fab) s = .next ((s.takeArrived (· == p)).orphanReturn c g p.env.src.toNat) := by
  obtain ⟨hb, hm⟩ := hrow
  change execExpertReturn p fab s = _
  simp only [execExpertReturn, hb, hc, hq]
  exact when_true (by rw [hm, hk, hr]; rfl)

theorem exec_expertReturn_place {c : Nat} {q : Place} (hk : g.kind = .ret) (hc : s.originCtx g.job = some c) (hr : s.originReady c = true)
    (hq : s.placeOf c g p.env.src.toNat = some q) :
    exec (.expertReturn p fab) s = .next (((s.takeArrived (· == p)).takeReturn fab c g q).endOriginWave c fab g.wave) := by
  obtain ⟨hb, hm⟩ := hrow
  change execExpertReturn p fab s = _
  simp only [execExpertReturn, hb, hc, hq]
  exact when_true (by rw [hm, hk, hr]; rfl)

theorem exec_expertResetNotice_none (hk : g.kind = .resetNotice) (hc : s.originCtx g.job = none) :
    exec (.expertResetNotice p fab) s = .next (s.takeArrived (· == p)) := by
  obtain ⟨hb, hm⟩ := hrow
  change execExpertResetNotice p fab s = _
  simp only [execExpertResetNotice, hb, hc]
  exact when_true (by rw [hm, hk]; rfl)

theorem exec_expertResetNotice_ctx {c : Nat} (hk : g.kind = .resetNotice) (hc : s.originCtx g.job = some c) :
    exec (.expertResetNotice p fab) s = .next ((s.takeArrived (· == p)).homeReset c g p.env.src.toNat) := by
  obtain ⟨hb, hm⟩ := hrow
  change execExpertResetNotice p fab s = _
  simp only [execExpertResetNotice, hb, hc]
  exact when_true (by rw [hm, hk]; rfl)

end

theorem exec_expertReceipt_none {r : Receipt} (hb : p.body = .receipt r) (hm : s.forMe p = true) (hc : s.originCtx r.job = none) :
    exec (.expertReceipt p fab) s = .next (s.takeArrived (· == p)) := by
  change execExpertReceipt p fab s = _
  simp only [execExpertReceipt, hb, hc]
  exact when_true hm

theorem exec_expertReceipt {r : Receipt} {c : Nat} (hb : p.body = .receipt r) (hm : s.forMe p = true) (hc : s.originCtx r.job = some c)
    (hr : s.originReady c = true) : exec (.expertReceipt p fab) s =
      .next (((s.takeArrived (· == p)).takeReceipt c r p.env.src.toNat).endOriginWave c fab r.wave) := by
  change execExpertReceipt p fab s = _
  simp only [execExpertReceipt, hb, hc]
  exact when_true (by rw [hm, hr]; rfl)

/-! ### Late receipts (R279) -/

/-- One late receipt reported. -/
def State.lateReceipt (s : State) (c : Nat) (wave : Word32) (e : WaveCount) : State :=
  let u := s.modWaves c wave e.home e.inbox (fun v => { v with late := true })
  if s.fabric.unreachable.any (fun v => v.1 == e.home) = true
  then (u.raise { code := 0x0205, ctx := some c, target := e.home, detail := waveDetail wave e.inbox }).markWave c wave
  else u.mismatch c wave e.home e.inbox

theorem exec_waveTimeout (hw : s.works = true) (hl : s.ctxLive ctx.toNat = true) (hlate : s.lateReceipts ctx.toNat wave ≠ []) :
    exec (.waveTimeout ctx wave) s =
      .next ((s.lateReceipts ctx.toNat wave).foldl (fun s e => s.lateReceipt ctx.toNat wave e) s) :=
  when_eq (by simpa [hw, hl] using hlate) rfl

end Sys2Proof.Machine

namespace Sys2Proof
open Sys2Proof.Machine

/-- Settles O44. -/
theorem expertTraffic : Obligations.ExpertTraffic := by
  intro s p g inbox ctx wave fab v b r
  dsimp only
  refine ⟨fun hrow hk hord => exec_expertRowSegment_none hrow hord hk, fun x hrow hk hord => exec_expertRowSegment hrow hord hk,
    rowSegment_none, fun x land hx h0 hl => ⟨rowSegment_first hx h0 hl, newRow_counts _ _ _ _⟩,
    fun hrow hk hord => exec_expertMarker_none hrow hord hk, fun x hrow hk hord => exec_expertMarker hrow hord hk, exec_batchDeadline,
    exec_batchLatencyFloor, exec_expertBatchComplete, exec_expertReturn_none, fun c hrow hk hc hr => ?_, exec_expertReceipt_none,
    fun c => exec_expertReceipt, fun hrow hk => ?_, fun hw hl e he => ?_, fun hw hl hlate => ⟨_, exec_waveTimeout hw hl hlate⟩⟩
  · cases hq : s.placeOf c g p.env.src.toNat with
    | none => exact exec_expertReturn_noPlace hrow hk hc hr hq
    | some q => exact exec_expertReturn_place hrow hk hc hr hq
  · cases hc : s.originCtx g.job with
    | none => exact exec_expertResetNotice_none hrow hk hc
    | some c => exact exec_expertResetNotice_ctx hrow hk hc
  · rw [exec_waveTimeout hw hl (by rw [he]; nofun), he]
    rfl

end Sys2Proof
end

section
/-!
Errors, log windows and the health commands (O45).
-/
namespace Sys2Proof.Machine

variable {s : State} {src : CmdSource} {e : ErrEvent}

/-! ### Errors raised (R368, R458) -/

theorem exec_errorRaised (hm : s.mainUp = true) (hc : e.code.toNat ∈ errCodes)
    (hcore : errAction e.code.toNat = 2 → s.coreThere (unitCore e.unitIndex.toNat) = true) :
    exec (.errorRaised e) s = .next (if e.code = 0x0204 then
      ((s.errorSite e).raise (specOf e)).watchStack (s.stackOf (lineOf e.detail.toNat)) else (s.errorSite e).raise (specOf e)) := by
  have hthere : (errAction e.code.toNat != 2 || s.coreThere (unitCore e.unitIndex.toNat)) = true := by
    by_cases h : errAction e.code.toNat = 2
    · rw [hcore h]; simp
    · simp [h]
  exact when_true (by rw [hm, List.contains_iff_mem.mpr hc, hthere]; rfl)

/-- The line of an uncorrectable error stays unreadable (R153). -/
theorem errorSite_ueLine (h : e.code = 0x0204) : lineOf e.detail.toNat ∈ (s.errorSite e).home.ueLines := by
  have hne : e.code ≠ 0x0404 := by rw [h]; decide
  simp only [State.errorSite, if_neg hne, if_pos h]
  change lineOf e.detail.toNat ∈ if s.home.ueLines.contains (lineOf e.detail.toNat) = true then s.home.ueLines
    else s.home.ueLines ++ [lineOf e.detail.toNat]
  split
  · next hin => exact List.contains_iff_mem.mp hin
  · simp

theorem exec_logWindowClose {code : BitVec 16} {ctx : Byte} {w : LogWin}
    (hw : s.errs.windows.find? (fun w => w.code == code && w.ctx == ctx) = some w) (hm : s.mainUp = true)
    (ht : w.opened.toNat + logWindow ≤ s.datum.counter.toNat) :
    exec (.logWindowClose code ctx) s = .next { s with errs := s.errs.closeWin w } := by
  change execLogWindowClose code ctx s = _
  simp only [execLogWindowClose, hw]
  exact when_true (by rw [hm, decide_eq_true ht]; rfl)

/-! ### ERR_READ (R372, R445) -/

theorem popErrors_length_le (n : Nat) (s : State) : (popErrors n s).1.length ≤ n := by
  induction n generalizing s with
  | zero => exact Nat.le_refl _
  | succ n ih =>
    unfold popErrors
    split
    · exact Nat.zero_le _
    · exact Nat.succ_le_succ (ih _)

theorem drainAlarms_idle {s : State} (h : s.errs.backlog = []) (n : Nat) : drainAlarms n s = s := by
  cases n with
  | zero => rfl
  | succ n => simp only [drainAlarms, h]

/-- With no alarm waiting behind the queue, records leave it in order (R372). -/
theorem popErrors_queue (n : Nat) (s : State) (h : s.errs.backlog = []) :
    (popErrors n s).1 = s.errs.queue.take n ∧ (popErrors n s).2.errs.queue = s.errs.queue.drop n := by
  induction n generalizing s with
  | zero => exact ⟨rfl, rfl⟩
  | succ n ih =>
    unfold popErrors
    split
    · next hq => simp [hq]
    · next r rest hq =>
      rw [drainAlarms_idle (s := { s with errs := { s.errs with queue := rest } }) h]
      obtain ⟨htake, hdrop⟩ := ih { s with errs := { s.errs with queue := rest } } h
      simp [hq, htake, hdrop]

theorem errRead_bad (h : (s.cmd! src).restZero [(0, 12)] = false) : s.errRead src = s.badParam (s.cmd! src) := by
  simp [State.errRead, h]

/-- The machine once the oldest records are written and the count of lost ones restarts. -/
def State.errsRead (s : State) (src : CmdSource) (n : Nat) : State :=
  ((popErrors n s).2.putHost ((s.cmd! src).param 0 8) ((popErrors n s).1.map ErrRec.bytes).flatten).modErrs (fun e => { e with overflow := 0 })

theorem errRead_ok {n : Nat} (hn : n = min ((s.cmd! src).param 8 4) (s.errs.queue.length + s.errs.backlog.length + s.errs.held.length))
    (h : (s.cmd! src).restZero [(0, 12)] = true) :
    s.errRead src = (s.errsRead src n).ok (s.cmd! src) (natLE (popErrors n s).1.length 4 ++
      (natLE ((popErrors n s).2.errs.queue.length + (popErrors n s).2.errs.backlog.length) 4 ++ natLE (popErrors n s).2.errs.overflow 2)) := by
  have herrs (a : Nat) (bs : List Byte) : ((popErrors n s).2.putHost a bs).errs = (popErrors n s).2.errs := rfl
  simp only [State.errRead, State.errsRead, h, Bool.not_true, Bool.false_eq_true, if_false, List.append_assoc, ← hn, herrs]

/-! ### HUSK_READ and TALLY_READ (R353, R378) -/

theorem huskRead_bad (h : (s.cmd! src).restZero [(0, 4), (8, 12)] = false) : s.huskRead src = s.badParam (s.cmd! src) := by
  simp [State.huskRead, h]

section
variable (h : (s.cmd! src).restZero [(0, 4), (8, 12)] = true) (hb : s.boot.state ≠ .powerFault)
include h hb

theorem huskRead_missing (hn : (s.cmd! src).param 0 4 ≠ 0xFFFFFFFF)
    (hnone : (s.recov.husks.find? (fun h => h.index == (s.cmd! src).param 0 4)).map (·.bytes) = none) :
    s.huskRead src = s.badParam (s.cmd! src) := by
  simp only [State.huskRead, h, Bool.not_true, Bool.false_eq_true, if_false, if_neg hb, if_neg hn, hnone]

theorem huskRead_found {l : List Byte} (hl : ((s.cmd! src).param 0 4 = 0xFFFFFFFF ∧ l = s.traceBytes) ∨
      ((s.cmd! src).param 0 4 ≠ 0xFFFFFFFF ∧
        (s.recov.husks.find? (fun h => h.index == (s.cmd! src).param 0 4)).map (·.bytes) = some l)) :
    s.huskRead src = (s.putHost ((s.cmd! src).param 8 8) (l.take ((s.cmd! src).param 16 4))).ok (s.cmd! src)
      (natLE (l.take ((s.cmd! src).param 16 4)).length 4) := by
  obtain ⟨hn, hl⟩ | ⟨hn, hl⟩ := hl
  · simp only [State.huskRead, h, Bool.not_true, Bool.false_eq_true, if_false, if_neg hb, if_pos hn, hl]
  · simp only [State.huskRead, h, Bool.not_true, Bool.false_eq_true, if_false, if_neg hb, if_neg hn, hl]

end

theorem tallyGroup_none {t group : Nat} (h : 4 < group) : s.tallyGroup t group = none := by
  match group, h with
  | n + 5, _ => rfl

theorem tallyRead_bad (h : (s.cmd! src).restZero [(0, 2), (8, 8)] = false ∨
      ((s.cmd! src).param 1 1 ≠ 3 ∧ 64 ≤ (s.cmd! src).param 0 1) ∨ 4 < (s.cmd! src).param 1 1) :
    s.tallyRead src = s.badParam (s.cmd! src) := by
  unfold State.tallyRead
  dsimp only
  split
  · rfl
  · next hnot =>
    rw [not_or, Bool.not_eq_true', Bool.not_eq_false] at hnot
    obtain ⟨hz, hctx⟩ := hnot
    have hgroup : 4 < (s.cmd! src).param 1 1 := (h.resolve_left (by rw [hz]; nofun)).resolve_left hctx
    rw [tallyGroup_none hgroup]

theorem tallyRead_ok {k : Nat} {vs : List Nat} (hz : (s.cmd! src).restZero [(0, 2), (8, 8)] = true)
    (hc : (s.cmd! src).param 1 1 = 3 ∨ (s.cmd! src).param 0 1 < 64)
    (ht : s.tallyGroup ((s.cmd! src).param 0 1) ((s.cmd! src).param 1 1) = some (k, vs)) :
    let bs := [BitVec.ofNat 8 ((s.cmd! src).param 1 1), BitVec.ofNat 8 vs.length, BitVec.ofNat 8 k] ++ zeros 5 ++
      (vs.map (fun v => natLE v k)).flatten
    s.tallyRead src = (s.putHost ((s.cmd! src).param 8 8) bs).ok (s.cmd! src) (natLE bs.length 4) := by
  have hnot : ¬ ((!(s.cmd! src).restZero [(0, 2), (8, 8)]) = true ∨ ((s.cmd! src).param 1 1 ≠ 3 ∧ (s.cmd! src).param 0 1 ≥ 64)) := by
    rw [hz]
    rintro (h | ⟨h3, h64⟩)
    · cases h
    · omega
  simp only [State.tallyRead, if_neg hnot, ht]

end Sys2Proof.Machine

namespace Sys2Proof
open Sys2Proof.Machine

/-- Settles O45. -/
theorem errors : Obligations.Errors := by
  intro s src e code ctx w
  dsimp only
  refine ⟨exec_errorRaised, errorSite_ueLine, exec_logWindowClose, when_true, errRead_bad, fun n hn h => ?_,
    fun hr h => when_eq hr (huskRead_bad h), fun hr h hb hn hnone => when_eq hr (huskRead_missing h hb hn hnone),
    fun l hr h hb hl => when_eq hr (huskRead_found h hb hl), fun hr h => when_eq hr (tallyRead_bad h),
    fun k vs hr hz hc ht => when_eq hr (tallyRead_ok hz hc ht)⟩
  exact ⟨popErrors_length_le n s, popErrors_queue n s, s.errsRead src n, _, errRead_ok hn h, rfl, rfl⟩

end Sys2Proof
end

section
/-!
What the watchdogs raise, and when (O47).
-/
namespace Sys2Proof.Machine

variable {s : State} {p : Proc} {c : CoreId} {stream : Stream} {k : RecoveryKind}

/-! ### Processors and streams (R374) -/

theorem procs_any {p : Proc} (h : ∀ r ∈ s.recov.procs, r.proc ≠ p) : s.recov.procs.any (fun x => x.proc == p) = false := by
  simpa using h

theorem exec_processorHeartbeat (hm : s.mainUp = true) (hp : ∀ r ∈ s.recov.procs, r.proc ≠ p) : exec (.processorHeartbeat p) s =
    .next (s.modRecov (fun r => { r with beats := tset r.beats (procIndex p) s.time })) :=
  when_true (by rw [hm, procs_any hp]; rfl)

theorem exec_procTimeout (hw : s.hrpWorks = true) (hi : s.boot.imagesOk = true) (hp : ∀ r ∈ s.recov.procs, r.proc ≠ p)
    (ht : tget s.recov.beats (procIndex p) 0 + 1000000 ≤ s.time) :
    exec (.procTimeout p) s = .next (s.raise { code := 0x0501, unitKind := 6, unitIndex := procIndex p }) :=
  when_true (by rw [hw, hi, procs_any hp, decide_eq_true ht]; rfl)

/-- The tile of a stream, and what the stream waits for. -/
def Core.streamTile (x : Core) : Stream → TileRun
  | .access => x.accTile
  | .execute => x.exeTile
def Core.streamStall (x : Core) : Stream → Option (StallKind × Nat)
  | .access => x.accStall
  | .execute => x.exeStall

theorem exec_coreStall {kind : StallKind} {since : Nat} (hst : (s.core (coreKey c)).streamStall stream = some (kind, since))
    (hw : s.hrpWorks = true) (ht : (s.core (coreKey c)).tiles ≠ []) (hf : (s.core (coreKey c)).frozen = false)
    (hl : s.ctxLive ((s.core (coreKey c)).streamTile stream).ctx = true)
    (htime : since + s.stallBound ((s.core (coreKey c)).streamTile stream).ctx ≤ s.time) : exec (.coreStall c stream) s =
      .next (s.raise (s.tileErr (coreKey c) 0x0102 ((s.core (coreKey c)).streamTile stream) 0 0)) := by
  have hempty : (s.core (coreKey c)).tiles.isEmpty = false := List.isEmpty_eq_false_iff.mpr ht
  change execCoreStall c stream s = _
  cases stream <;>
    (simp only [Core.streamStall, Core.streamTile] at hst hl htime
     simp only [execCoreStall, hst]
     exact when_true (by rw [hw, hempty, hf, hl, decide_eq_true htime]; rfl))

theorem exec_coreHang (hw : s.hrpWorks = true) (ht : (s.core (coreKey c)).tiles ≠ []) (hf : (s.core (coreKey c)).frozen = false)
    (hr : (s.core (coreKey c)).retired = false) (ha : (s.core (coreKey c)).accStall = none) (he : (s.core (coreKey c)).exeStall = none)
    (hend : (s.core (coreKey c)).exeTile.accEnd = false ∨ (s.core (coreKey c)).exeTile.exeEnd = false)
    (htime : (s.core (coreKey c)).lastIssue + 100000 ≤ s.time) :
    exec (.coreHang c) s = .next (s.raise (s.tileErr (coreKey c) 0x0403 (s.core (coreKey c)).exeTile 0 0)) := by
  have hempty : (s.core (coreKey c)).tiles.isEmpty = false := List.isEmpty_eq_false_iff.mpr ht
  have hends : ((s.core (coreKey c)).exeTile.accEnd && (s.core (coreKey c)).exeTile.exeEnd) = false := by
    obtain h | h := hend <;> simp [h]
  exact when_true (by rw [hw, hempty, hf, hr, ha, he, hends, decide_eq_true htime]; rfl)

/-! ### Engines, the HRP and recoveries (R374, R375) -/

theorem exec_engineHang_dispatcher {rank : BitVec 8} {sl : Slice} {g : Grid} {e : Nat × Nat × Nat} {core : Nat}
    (hc : s.tileChoice rank.toNat = some (sl, g, e, core)) (hw : s.hrpWorks = true) (hr : rank.toNat < s.enabledClusters)
    (ht : max (max (s.core core).freeSince sl.since) (s.cluster rank.toNat).given + 1000000 ≤ s.time) :
    exec (.engineHang (.dispatcher rank)) s = .next (s.raise { code := 0x0406, unitKind := 2, unitIndex := rank.toNat }) := by
  change execEngineHang (.dispatcher rank) s = _
  simp only [execEngineHang, hc]
  exact when_true (by rw [hw, decide_eq_true hr, decide_eq_true ht]; rfl)

theorem exec_hrpTimerExpiry (hs : s.boot.standby = true) (hh : s.recov.hrpStopped = false) : exec .hrpTimerExpiry s =
    .next (((s.modRecov (fun r => { r with hrpStopped := true })).modBoot (fun b => { b with resetPending := true })).emit .resetRequest) :=
  when_true (by rw [hs, hh]; rfl)

/-- A recovery in a list has not ended within its bound. -/
theorem any_overdue {α : Type} {l : List α} {f : α → Option Nat} {bound now : Nat}
    (h : ∃ r ∈ l, ∃ at_, f r = some at_ ∧ at_ + bound < now) : l.any (fun x => overdue now (f x) bound) = true := by
  obtain ⟨r, hr, at_, hf, ht⟩ := h
  exact List.any_eq_true.mpr ⟨r, hr, by rw [hf]; exact decide_eq_true ht⟩

theorem exec_resetOverrun (hw : s.hrpWorks = true) (hd : s.recov.stopDue = none)
    (h : match k with
      | .context => ∃ r ∈ s.recov.ctxs, ∃ at_, r.started = some at_ ∧ at_ + 2000000 < s.time
      | .core => ∃ r ∈ s.recov.cores, ∃ at_, r.started = some at_ ∧ at_ + 200000 < s.time
      | .processor => ∃ r ∈ s.recov.procs, ∃ at_, r.started = some at_ ∧ at_ + 20000000 < s.time) :
    exec (.resetOverrun k) s = .next (s.raise { code := 0x0702 }) := by
  cases k <;> exact when_true (by simp only [hw, hd, any_overdue h]; rfl)

end Sys2Proof.Machine

namespace Sys2Proof
open Sys2Proof.Machine

/-- Settles O47. -/
theorem watchdogs : Obligations.Watchdogs := by
  intro s p c stream k
  refine ⟨exec_processorHeartbeat, exec_procTimeout, fun kind since hst hw ht hf hl htime => ?_, exec_coreHang,
    fun rank sl g e core => exec_engineHang_dispatcher, fun stack => when_true, fun hw => ⟨when_true hw, when_true hw⟩,
    fun hs hh => ⟨_, exec_hrpTimerExpiry hs hh, rfl, rfl, rfl, rfl, rfl⟩, fun hw hd h => ?_⟩
  · cases stream
    · exact exec_coreStall (stream := .access) hst hw ht hf hl htime
    · exact exec_coreStall (stream := .execute) hst hw ht hf hl htime
  · cases k
    · exact exec_resetOverrun (k := .context) hw hd h
    · exact exec_resetOverrun (k := .core) hw hd h
    · exact exec_resetOverrun (k := .processor) hw hd h

end Sys2Proof
end

section
/-!
Flits in order, replay, arbitration and credit views (O48).
-/
namespace Sys2Proof.Machine

variable {s : State} {port : BitVec 3} {f : Flit}

/-! ### The bytes of a flit and of headers (R194, R196, R231, R232) -/

theorem flitBytes_length (f : Flit) : f.bytes.length = 272 := by simp [Flit.bytes, Flit.header, zeros]

/-- Sealing a flit changes its check alone. -/
theorem seal_fields (f : Flit) :
    f.seal.header = f.header ∧ f.seal.body = f.body ∧ f.seal.check = f.crc ∧ f.seal.type = f.type ∧ f.seal.seq = f.seq := by
  cases f
  exact ⟨by simp only [Flit.header, Flit.seal], rfl, rfl, rfl, rfl⟩

theorem seal_checkOk (f : Flit) : f.seal.checkOk = true := by
  obtain ⟨hheader, hbody, hcheck, -, -⟩ := seal_fields f
  have hcrc : f.seal.crc = f.crc := by rw [Flit.crc, Flit.crc, hheader, hbody]
  rw [Flit.checkOk, hcrc, hcheck, beq_iff_eq]

theorem idWord_length (m : BitVec 15) (top : Bool) : (idWord m top).length = 2 := natLE_length _ _

theorem requestHeader_length (r : Request) : r.header.length = 32 := by simp [Request.header, idWord_length]

theorem replyHeader_length (r : Reply) : r.header.length = 16 := by simp [Reply.header, idWord_length]

theorem envelopeBytes_length (e : Envelope) : e.bytes.length = 8 := by simp [Envelope.bytes, idWord_length]

/-! ### Arrival (R231, R393) -/

/-- A port that has accepted the next flit, with its ACK and its credits. -/
def State.flitTaken (s : State) (p : Nat) (f : Flit) : State :=
  (s.modPort p (fun y => { y.acked f.ack with rxSeq := y.rxSeq + 1, pool := y.pool.give f.pool.toNat f.count.toNat })).bookCheck 1 p

section
variable {p : Nat} {put : State → State}

theorem flitIn_next (h : f.checkOk = true ∧ f.seq = (s.port p).rxSeq) : s.flitIn p f put = put (s.flitTaken p f) := by
  obtain ⟨hc, hs⟩ := h
  simp only [State.flitIn, hc, Bool.not_true, Bool.false_eq_true, if_false, if_pos hs]
  rfl

theorem flitIn_old (h : f.checkOk = true ∧ f.seq ≠ (s.port p).rxSeq ∧ ((s.port p).rxSeq - f.seq).toNat ≤ 2048) :
    s.flitIn p f put = s := by
  obtain ⟨hc, hs, hle⟩ := h
  have hb : seqBehind (s.port p).rxSeq f.seq = true := by
    simp only [seqBehind, hle, decide_true, Bool.true_and, bne_iff_ne]
    exact Ne.symm hs
  simp only [State.flitIn, hc, Bool.not_true, Bool.false_eq_true, if_false, if_neg hs, hb, if_true]

theorem flitIn_bad (h : f.checkOk = false ∨ (f.seq ≠ (s.port p).rxSeq ∧ 2048 < ((s.port p).rxSeq - f.seq).toNat)) :
    s.flitIn p f put = s.askReplay p := by
  by_cases hc : f.checkOk = true
  · obtain ⟨hs, hgt⟩ := h.resolve_left (by rw [hc]; nofun)
    have hb : seqBehind (s.port p).rxSeq f.seq = false := by
      simp only [seqBehind, not_le.mpr hgt, decide_false, Bool.false_and]
    simp only [State.flitIn, hc, Bool.not_true, Bool.false_eq_true, if_false, if_neg hs, hb]
  · simp only [State.flitIn, Bool.eq_false_iff.mpr hc, Bool.not_false, if_true]

end

theorem exec_dataFlit (hr : s.receives port.toNat f 0 = true) : exec (.dataFlit port f) s =
    .next (s.flitIn port.toNat f (fun s => f.packets.foldl (fun (s : State) q => s.putInput port.toNat q) s)) :=
  when_true hr

theorem exec_idleFlit (hr : s.receives port.toNat f 1 = true) (hp : f.packets = []) :
    exec (.idleFlit port f) s = .next (s.flitIn port.toNat f (fun s => s)) :=
  when_true (by rw [hr, hp]; rfl)

theorem exec_creditFlit (hr : s.receives port.toNat f 2 = true) (hp : f.packets = []) :
    exec (.creditFlit port f) s = .next (s.flitIn port.toNat f (fun s => s)) :=
  when_true (by rw [hr, hp]; rfl)

/-- A port that carries traffic or MANAGEMENT traffic alone. -/
theorem live_or (h : s.carries port.toNat = true ∨ s.manages port.toNat = true) :
    (s.carries port.toNat || s.manages port.toNat) = true := by simpa using h

theorem exec_managementFlit (h : (s.carries port.toNat = true ∨ s.manages port.toNat = true) ∧ f.type = 4 ∧
      ∀ q ∈ f.packets, q.env.cls = .management) : exec (.managementFlit port f) s =
    .next (s.flitIn port.toNat f (fun s => s.modFabric (fun x => { x with arrived := x.arrived ++ f.packets }))) := by
  obtain ⟨hlive, htype, hq⟩ := h
  have hall : f.packets.all (fun (q : Packet) => q.env.cls == TClass.management) = true := by simpa using hq
  exact when_true (by rw [live_or hlive, htype, hall]; rfl)

/-! ### REPLAY_REQ (R231) -/

theorem askReplay_flit (p : Nat) :
    ∃ g q, s.askReplay p = s.emit (.flit p g q) ∧ q.type = 3 ∧ q.seq = (s.port p).rxSeq ∧ q.checkOk = true :=
  ⟨_, _, rfl, rfl, rfl, seal_checkOk _⟩

/-- The flits that a REPLAY_REQ asks for again. -/
def State.replayFlits (s : State) (p : Nat) (f : Flit) : List SentFlit :=
  ((s.port p).acked (f.seq - 1)).retry.dropWhile (fun e => e.flit.seq != f.seq)

section
variable (h : (s.carries port.toNat = true ∨ s.manages port.toNat = true) ∧ f.type = 3 ∧ f.packets = [])
include h

theorem replayReq_ready : ((s.carries port.toNat || s.manages port.toNat) && f.type == 3 && f.packets.isEmpty) = true := by
  obtain ⟨hlive, htype, hp⟩ := h
  rw [live_or hlive, htype, hp]
  rfl

theorem exec_replayReq_bad (hc : f.checkOk = false) : exec (.replayReq port f) s = .next (s.askReplay port.toNat) :=
  when_eq (replayReq_ready h) (by rw [hc]; rfl)

theorem exec_replayReq (hc : f.checkOk = true) : exec (.replayReq port f) s =
    .next ((s.replayFlits port.toNat f).foldl (fun (s : State) e => s.countReplay e)
      (s.setPort port.toNat { (s.port port.toNat).acked (f.seq - 1) with resend := s.replayFlits port.toNat f })) :=
  when_eq (replayReq_ready h) (by rw [hc]; rfl)

end

/-- Counting replays changes the lane groups alone. -/
theorem countReplays_frame (l : List SentFlit) (s : State) :
    let t := l.foldl (fun (s : State) e => s.countReplay e) s
    t.ports = s.ports ∧ t.dram = s.dram ∧ t.cores = s.cores :=
  List.foldlRecOn (motive := fun t : State => t.ports = s.ports ∧ t.dram = s.dram ∧ t.cores = s.cores) l _ ⟨rfl, rfl, rfl⟩
    fun _ ht _ _ => ht

/-! ### Arbitration (R239) -/

section
variable (hsend : s.carries port.toNat = true ∧ s.errs.stopped 5 port.toNat = false)
include hsend

theorem exec_flitTransmit (hr : (s.port port.toNat).resend ≠ [] ∨ (s.port port.toNat).retry.length < retryFlits) :
    exec (.flitTransmit port) s = .next (s.nextFlit port.toNat) := by
  obtain ⟨hc, hstop⟩ := hsend
  exact when_true (by simpa [hc, hstop] using hr)

theorem exec_flitTransmit_again {e : SentFlit} {rest : List SentFlit} (hr : (s.port port.toNat).resend = e :: rest) :
    exec (.flitTransmit port) s = .next (s.sendAgain port.toNat e) := by
  rw [exec_flitTransmit hsend (.inl (by rw [hr]; nofun))]
  simp only [State.nextFlit, hr]

variable (hr : (s.port port.toNat).resend = []) (hn : (s.port port.toNat).retry.length < retryFlits)
include hr hn

/-- A port with nothing to send again takes the arbiter's choice. -/
theorem exec_flitTransmit_new : exec (.flitTransmit port) s = .next
    (match (s.port port.toNat).choose (s.readyOut port.toNat) with
      | some (o, y) => s.sendData port.toNat o y
      | none => (s.modPort port.toNat Port.aged).sendFlit port.toNat (if (s.port port.toNat).dues.2 = 0 then 1 else 2) [] [] 0) := by
  rw [exec_flitTransmit hsend (.inr hn)]
  obtain ⟨hc, -⟩ := hsend
  have hstate : (s.port port.toNat).state ≠ 3 := by
    intro h3
    simp [State.carries, h3] at hc
  rcases h : (s.port port.toNat).choose (s.readyOut port.toNat) with _ | ⟨o, y⟩
  · simp only [State.nextFlit, hr, if_neg hstate, h]
    split <;> rfl
  · simp only [State.nextFlit, hr, if_neg hstate, h]

end

theorem exec_flitTransmit_management {o : OutPkt} {rest : List OutPkt} (hm : s.manages port.toNat = true)
    (hstop : s.errs.stopped 5 port.toNat = false) (hr : (s.port port.toNat).resend = [])
    (hn : (s.port port.toNat).retry.length < retryFlits) (ho : (s.port port.toNat).out = o :: rest) :
    exec (.flitTransmit port) s = .next (s.sendManagement port.toNat o) := by
  refine when_eq (by simp [hm, hstop, hr, hn, ho]) ?_
  have hstate : (s.port port.toNat).state = 3 := by
    simp only [State.manages, Bool.and_eq_true, beq_iff_eq] at hm
    exact hm.1
  simp only [State.nextFlit, hr, if_pos hstate, ho]

/-! ### Credit views (R391, R392) -/

section
variable {k : BitVec 12} {consumed : Nat} (hc : s.carries port.toNat = true) (hl : s.procDown .lmp = false)
include hc hl

theorem exec_creditViewExchange_same (h : consumed = (s.port port.toNat).drawnTo k) :
    exec (.creditViewExchange port k consumed) s = .next s :=
  when_pos (by rw [hc, hl]; rfl) h

theorem exec_creditViewExchange_differs (h : consumed ≠ (s.port port.toNat).drawnTo k) :
    exec (.creditViewExchange port k consumed) s = .next (s.raise
      { code := 0x0701, target := s.plan.neighbour s.self port.toNat, unitKind := 5, unitIndex := port.toNat
        detail := ledgerDetail 1 port.toNat ((consumed : Int) - (s.port port.toNat).drawnTo k) }) :=
  when_neg (by rw [hc, hl]; rfl) h

end

end Sys2Proof.Machine

namespace Sys2Proof
open Sys2Proof.Machine

/-- Settles O48. -/
theorem linkFlits : Obligations.LinkFlits := by
  intro s port f k consumed
  dsimp only
  refine ⟨⟨flitBytes_length f, seal_checkOk f, requestHeader_length, replyHeader_length, envelopeBytes_length⟩, fun hr h => ?_, fun hr h => ?_,
    fun hr h => ?_, fun hr hp => ⟨fun h => ?_, fun h => ?_, fun h => ?_⟩, fun hr hp => ⟨fun h => ?_, fun h => ?_, fun h => ?_⟩,
    fun hm => ⟨fun h => ?_, fun h => ?_, fun h => ?_⟩, askReplay_flit _, exec_replayReq_bad, fun h hc => ⟨_, exec_replayReq h hc, ?_⟩,
    fun e rest hsend hr => exec_flitTransmit_again hsend hr, fun o y hsend hr hn ho => ?_, fun hsend hr hn ho => ?_,
    fun o rest => exec_flitTransmit_management, exec_creditViewExchange_same, exec_creditViewExchange_differs⟩
  · rw [exec_dataFlit hr, flitIn_next h, State.flitTaken]
  · rw [exec_dataFlit hr, flitIn_old h]
  · rw [exec_dataFlit hr, flitIn_bad h]
  · rw [exec_idleFlit hr hp, flitIn_next h, State.flitTaken]
  · rw [exec_idleFlit hr hp, flitIn_old h]
  · rw [exec_idleFlit hr hp, flitIn_bad h]
  · rw [exec_creditFlit hr hp, flitIn_next h, State.flitTaken]
  · rw [exec_creditFlit hr hp, flitIn_old h]
  · rw [exec_creditFlit hr hp, flitIn_bad h]
  · rw [exec_managementFlit hm, flitIn_next h, State.flitTaken]
  · rw [exec_managementFlit hm, flitIn_old h]
  · rw [exec_managementFlit hm, flitIn_bad h]
  · obtain ⟨hports, hdram, hcores⟩ := countReplays_frame (s.replayFlits port.toNat f)
      (s.setPort port.toNat { (s.port port.toNat).acked (f.seq - 1) with resend := s.replayFlits port.toNat f })
    refine ⟨?_, ?_, hdram, hcores⟩ <;> rw [State.port, hports] <;> simp only [State.setPort, tget_tset_same]
    rfl
  · rw [exec_flitTransmit_new hsend hr hn, ho]
  · rw [exec_flitTransmit_new hsend hr hn, ho]

end Sys2Proof
end

section
/-!
Packets on their way (R201 to R206, R230, R234, R235, R238, R240): the equation of MULTICAST_COPY, of the two cases of PACKET_FORWARD and of
COMBINED_REPLY, and what a packet meets at its output port. They settle O49.
-/
namespace Sys2Proof.Machine

variable {s : State}

/-- A copy is delivered here and sent on with its counts less one. -/
theorem exec_multicastCopy {port : BitVec 3} {p : Packet} (hh : s.halfUp port.toNat = true) (hm : p.env.mcast = true)
    (hr : p.env.isReply = false) (hc : p.env.hopsPos ≠ 0 ∨ p.env.hopsNeg ≠ 0) :
    exec (.multicastCopy port p) s = .next (((s.takeInput port.toNat p true).deliver p).copies (some port.toNat) p 1) :=
  when_true (by simpa [hh, hm, hr, bne_iff_ne] using hc)

/-! ### PACKET_FORWARD -/

section
variable {p : Packet} {rest : List Packet} (hi : s.fabric.inject = p :: rest) (hu : s.mainUp = true)
include hi hu

/-- The module's own multicast leaves in both directions with its full counts. -/
theorem exec_packetForward_multicast (hm : p.env.mcast = true) :
    exec (.packetForward .fromModule) s = .next ((s.modFabric (fun f => { f with inject := rest })).copies none p 0) := by
  change execPacketForward .fromModule s = _
  simp only [execPacketForward, hi]
  rw [when_true (by simp [hu, hm]), if_pos hm]

/-- Any other packet of the module goes on its way once the half of its port forwards. -/
theorem exec_packetForward_module (hm : p.env.mcast = false) (hx : s.exitUp p = true) :
    exec (.packetForward .fromModule) s = .next ((s.modFabric (fun f => { f with inject := rest })).forward none p) := by
  change execPacketForward .fromModule s = _
  simp only [execPacketForward, hi]
  rw [when_true (by simp [hu, hx]), if_neg (by simp [hm])]

end

/-- The oldest packet of an input pool leaves the pool and goes on its way. -/
theorem exec_packetForward_input {port : BitVec 3} {pool : BitVec 5} {p : Packet}
    (hf : (tget (s.port port.toNat).inputs pool.toNat []).head? = some p) (hh : s.halfUp port.toNat = true) (hp : s.plain p = true)
    (hx : s.exitUp p = true) (hq : poolOf p = pool.toNat) :
    exec (.packetForward (.fromInput port pool)) s =
      .next ((s.takeInput port.toNat p (s.exitOf p).isNone).forward (some port.toNat) p) := by
  change execPacketForward (.fromInput port pool) s = _
  simp only [execPacketForward, hf]
  exact when_true (by simp [hh, hp, hx, hq])

/-! ### The output port -/

/-- A packet for this module is delivered. -/
theorem forward_here {p : Packet} (from_ : Option Nat) (h : s.exitOf p = none) : s.forward from_ p = s.deliver p := by
  simp only [State.forward, h]

/-- A packet with a hop goes to the hop's port, on the virtual channel of R238. -/
theorem forward_hop {p : Packet} {h : Hop} (from_ : Option Nat) (he : s.exitOf p = some h) :
    s.forward from_ p = s.toPort h.port { p with env := { p.env with vc := vcOf from_ p.env.vc h.port h.dateline } } := by
  simp only [State.forward, he]

/-- A port loses a packet when it is DOWN, or QUARANTINED and the packet is not one between the two LMPs. -/
theorem portLost_iff (s : State) (i : Nat) (p : Packet) :
    s.portLost i p = true ↔ (s.port i).state = 0 ∨ ((s.port i).state = 3 ∧ s.forPeer i p = false) := by
  simp [State.portLost]

/-- A lost port discards what it is given. -/
theorem toPort_lost {i : Nat} {p : Packet} (h : s.portLost i p = true) : s.toPort i p = s.discard i p := if_pos h

section
variable {i : Nat} {p : Packet} {q : Request} (hq : combinable p = some q) (hl : s.portLost i p = false)
include hq hl

/-- A request that matches an open entry with room becomes its last member. -/
theorem toPort_joins {e : Combine} (ho : s.fabric.combines.find? (fun e => !e.sent && combineMatch e.lead q) = some e)
    (hr : e.members.length < 16) :
    s.toPort i p = (s.modFabric (fun f =>
      { f with combines := updateFirst (· == e) (fun y => { y with members := y.members ++ [p] }) f.combines })).countJoin (s.southPort i) q := by
  simp only [State.toPort, hl, hq, ho]
  exact if_pos hr

/-- A request that matches no open entry and has to wait opens one, where its half has one left. -/
theorem toPort_opens (ho : s.fabric.combines.find? (fun e => !e.sent && combineMatch e.lead q) = none) (hw : s.waitsCredit i p = true)
    (hr : s.fabric.combines.countP (fun e => !e.sent && e.south == s.southPort i) < 32) :
    s.toPort i p = (s.modFabric (fun f =>
      { f with combines := f.combines ++ [{ south := s.southPort i, lead := q, members := [p], sent := false }] })).queueAt i p := by
  simp only [State.toPort, hl, hq, ho]
  exact if_pos (And.intro (decide_eq_true hr) hw)

end

/-! ### COMBINED_REPLY -/

section
variable {r : Reply} {e : Combine} (he : s.entryOf r = some e)
include he

/-- The reply at the front of an input port leaves it, and the members are answered from there. -/
theorem exec_combinedReply_port {j : Nat} {q : Packet} (hf : s.findReply r = some (j, q)) (hh : s.halfUp j = true) :
    exec (.combinedReply r) s = .next
      (((s.modFabric (fun f => { f with combines := f.combines.filter (fun x => x != e) })).leaveInput j q).fanOut (some j) e r q.env) := by
  change execCombinedReply r s = _
  simp only [execCombinedReply, he, hf]
  exact when_true hh

/-- A reply of this module itself answers the members from here. -/
theorem exec_combinedReply_module (hf : s.findReply r = none) (hu : s.mainUp = true) :
    exec (.combinedReply r) s = .next ((s.modFabric (fun f => { f with combines := f.combines.filter (fun x => x != e) })).fanOut none e r
      { (s.packet r.dest true e.lead.cls (16 + r.data.length) (.rep r)).env with src := r.src }) := by
  change execCombinedReply r s = _
  simp only [execCombinedReply, he, hf]
  exact when_true hu

end

end Sys2Proof.Machine

namespace Sys2Proof
open Sys2Proof.Machine

/-- Settles O49: the two halves of PACKET_FORWARD, the four things that an output port does with a packet, and the two ways of a combined
reply, each by its own lemma. -/
theorem routing : Obligations.Routing := by
  unfold Obligations.Routing
  intro s port pool p rest r
  dsimp only
  refine ⟨exec_multicastCopy, exec_packetForward_multicast, exec_packetForward_module, exec_packetForward_input,
    fun from_ => forward_here from_, fun from_ h he => ?_, fun q e hq hl ho hr => toPort_joins hq hl ho hr,
    fun q hq hl ho hw hr => toPort_opens hq hl ho hw hr, fun e j q he => exec_combinedReply_port he, fun e he => exec_combinedReply_module he⟩
  rw [forward_hop from_ he]
  split
  case isTrue hlost => exact toPort_lost ((portLost_iff s _ _).2 hlost)
  case isFalse => rfl

end Sys2Proof
end

section
/-!
The training of lane groups, the port profile and down notices (O50): the equation of each event under its conditions, and the identity block
that a group sends, which passes its own check.
-/
namespace Sys2Proof.Machine

variable {s : State} {group : BitVec 6} {port : BitVec 3} {src : CmdSource}

/-! ### The identity block (R224) -/

/-- The bytes of a number give the number back, as far as they hold it. -/
theorem leNat_natLE (v n : Nat) : leNat (natLE v n) = v % 256 ^ n := by
  induction n generalizing v with
  | zero => simp [natLE, leNat, Nat.mod_one]
  | succ n ih => rw [natLE, leNat, ih, BitVec.toNat_ofNat, pow_succ' 256 n, Nat.mod_mul]

/-- A field that stands between two others. -/
theorem slice_append_middle {l m z : List Byte} {n k : Nat} (h : l.length = n) (hm : m.length = k) : slice (l ++ m ++ z) n k = m := by
  subst h hm
  refine List.ext_getElem (by simp) fun i hi _ => ?_
  rw [slice_length] at hi
  have hg : (l ++ m ++ z)[l.length + i]? = some m[i] := by
    rw [List.append_assoc, List.getElem?_append_right (Nat.le_add_right _ _), Nat.add_sub_cancel_left, List.getElem?_append_left hi,
      List.getElem?_eq_getElem hi]
  simp only [slice, List.getElem_map, List.getElem_range, List.getD_eq_getElem?_getD, hg, Option.getD_some]

/-- Fifty-six bytes under their CRC pass the check of an identity block. -/
theorem identityCheck_sealed {b : List Byte} (h : b.length = 56) : identityCheck (b ++ natLE (crc32 b).toNat 4 ++ zeros 4) = true := by
  have htake : (b ++ natLE (crc32 b).toNat 4 ++ zeros 4).take 56 = b := by rw [List.append_assoc, ← h, List.take_left]
  have hfield : field (b ++ natLE (crc32 b).toNat 4 ++ zeros 4) 56 4 = (crc32 b).toNat := by
    rw [field, slice_append_middle h (natLE_length _ _), leNat_natLE]
    exact Nat.mod_eq_of_lt (crc32 b).isLt
  rw [identityCheck, htake, hfield, BitVec.ofNat_toNat, BitVec.setWidth_eq, beq_self_eq_true]

theorem identityBlock_length (phys port group logical fw : Nat) : (identityBlock phys port group logical fw).length = 64 := by
  simp [identityBlock, zeros]

theorem identityBlock_check (phys port group logical fw : Nat) : identityCheck (identityBlock phys port group logical fw) = true :=
  identityCheck_sealed (by simp [zeros])

/-! ### Training (R223, R225, R389) -/

/-- A group passes a point of its training; the measured delay is a point of a joined group, every other of one in training. -/
theorem exec_groupTrainingMilestone {m : Milestone} (hp : s.canPass group.toNat (milestoneIndex m) = true)
    (hf : (milestoneIndex m = 5 ∧ (s.group group.toNat).state = 2 ∧ (s.group group.toNat).measured = true) ∨
      (milestoneIndex m ≠ 5 ∧ (s.group group.toNat).state = 1)) :
    exec (.groupTrainingMilestone group m) s = .next
      (((s.modGroup group.toNat (fun y => { y with milestone := milestoneIndex m + 1 })).sendIdentity group.toNat (milestoneIndex m)).settle_
        group.toNat) := by
  refine when_true ?_
  rw [hp, Bool.true_and]
  rcases hf with ⟨hn, hs, hm⟩ | ⟨hn, hs⟩
  · rw [if_pos hn, hs, hm]
    rfl
  · rw [if_neg hn, hs]
    rfl

section
variable {bytes : List Byte} (hp : s.canPass group.toNat 3 = true) (hs : (s.group group.toNat).state = 1)
  (hr : (s.group group.toNat).role.toNat % 16 < 8) (hl : bytes.length = 64)
include hp hs hr hl

theorem exec_identityBlock : exec (.identityBlock group bytes) s = .next (
    if identityCheck bytes = true then (s.identified group.toNat bytes).settle_ group.toNat
    else if (s.group group.toNat).identityTries < 3 then
      (s.modGroup group.toNat (fun y => { y with identityTries := y.identityTries + 1 })).emit (.identityAgain group.toNat)
    else s) := when_true (by simp [hp, hs, hr, hl])

theorem exec_identityBlock_good (hc : identityCheck bytes = true) :
    exec (.identityBlock group bytes) s = .next ((s.identified group.toNat bytes).settle_ group.toNat) := by
  rw [exec_identityBlock hp hs hr hl, if_pos hc]

theorem exec_identityBlock_again (hc : identityCheck bytes = false) (ht : (s.group group.toNat).identityTries < 3) :
    exec (.identityBlock group bytes) s =
      .next ((s.modGroup group.toNat (fun y => { y with identityTries := y.identityTries + 1 })).emit (.identityAgain group.toNat)) := by
  rw [exec_identityBlock hp hs hr hl, if_neg (ne_true_of_eq_false hc), if_pos ht]

theorem exec_identityBlock_last (hc : identityCheck bytes = false) (ht : 3 ≤ (s.group group.toNat).identityTries) :
    exec (.identityBlock group bytes) s = .next s := by
  rw [exec_identityBlock hp hs hr hl, if_neg (ne_true_of_eq_false hc), if_neg (not_lt.mpr ht)]

end

theorem exec_groupJoined (hp : s.canPass group.toNat 4 = true) (hs : (s.group group.toNat).state = 1)
    (ha : (s.group group.toNat).agreed = true) : exec (.groupJoined group) s = .next
      ((((s.modGroup group.toNat (fun y => { y with state := 2, milestone := 5 })).modPort ((s.group group.toNat).role.toNat % 16) (fun y =>
        { y with pool := y.pool.issue })).bookCheck 1 ((s.group group.toNat).role.toNat % 16)).settle_ group.toNat) :=
  when_true (by rw [hp, hs, ha]; rfl)

/-! ### A missed bound (R223) -/

/-- The training of a group is past the latest time of its next point. -/
def State.lateFor (s : State) (g : Nat) : Prop :=
  s.lmpUp = true ∧ g < 36 ∧ (s.group g).milestone < 6 ∧ (s.group g).started + (trainBounds.getD (s.group g).milestone (0, 0)).2 < s.time

/-- A group whose third attempt missed a bound, with the credits it returns. -/
def State.thirdMiss (s : State) (g credits : Nat) : State :=
  ((s.modGroup g (fun y => { y with state := 4, attempts := 3, agreed := false, measured := false })).groupFailed g credits).settle_ g

/-- A group starts its next attempt. -/
theorem modGroup_start {g n : Nat} (now : Nat) (h : (s.group g).attempts = n) :
    s.modGroup g (fun y => y.start now (y.attempts + 1)) = s.modGroup g (fun y => y.start now (n + 1)) := by
  rw [State.modGroup, State.modGroup, h]

/-- A group that leaves its port stays as it is itself. -/
theorem leave_group (s : State) (g n : Nat) : (s.leave g).group n = s.group n := by
  have hbook : ∀ (t : State) (code p : Nat), (t.bookCheck code p).groups = t.groups := by
    intro t code p
    simp only [State.bookCheck]
    split
    · rfl
    · rw [State.raise_frame]
  simp only [State.leave, State.group, hbook]
  rfl

section
variable (hl : s.lateFor group.toNat)
include hl

/-- What a missed bound does to a group in training. -/
theorem exec_trainingBoundMissed_training (hs : (s.group group.toNat).state = 1) : exec (.trainingBoundMissed group) s = .next (
    if (s.group group.toNat).attempts + 1 ≥ 3 then s.thirdMiss group.toNat 0
    else (s.modGroup group.toNat (fun y => y.start s.time ((s.group group.toNat).attempts + 1))).settle_ group.toNat) := by
  obtain ⟨hu, hg, hm, ht⟩ := hl
  have hne : (s.group group.toNat).state ≠ 2 := by rw [hs]; decide
  refine when_eq (by simp only [hu, hg, hm, ht, hs]; rfl) ?_
  rw [if_neg hne, if_neg hne, State.thirdMiss, modGroup_start s.time rfl]

/-- A group that had joined leaves its port first, and returns its credits. -/
theorem exec_trainingBoundMissed_joined (hs : (s.group group.toNat).state = 2) : exec (.trainingBoundMissed group) s = .next (
    if (s.group group.toNat).attempts + 1 ≥ 3 then (s.leave group.toNat).thirdMiss group.toNat groupUnits
    else ((s.leave group.toNat).modGroup group.toNat (fun y => y.start s.time ((s.group group.toNat).attempts + 1))).settle_ group.toNat) := by
  obtain ⟨hu, hg, hm, ht⟩ := hl
  refine when_eq (by simp only [hu, hg, hm, ht, hs]; rfl) ?_
  rw [if_pos hs, if_pos hs, State.thirdMiss, modGroup_start s.time (congrArg Group.attempts (leave_group s _ _))]

end

/-! ### Failures (R229) -/

section
variable (hj : s.mainUp = true ∧ group.toNat < 36 ∧ (s.group group.toNat).state = 2)
include hj

theorem exec_laneSignalLoss : exec (.laneSignalLoss group) s = .next (s.failGroup group.toNat) := by
  obtain ⟨hu, hg, hs⟩ := hj
  exact when_true (by simp only [hu, hg, hs]; rfl)

theorem exec_groupErrorThreshold_replays : exec (.groupErrorThreshold group .replays) s = .next (s.failGroup group.toNat) := by
  obtain ⟨hu, hg, hs⟩ := hj
  exact when_true (by simp only [hu, hg, hs]; rfl)

theorem exec_groupErrorThreshold_uncorrectable : exec (.groupErrorThreshold group .uncorrectable) s = .next
    ((s.modGroup group.toNat (fun y => { y with fecUncorrected := satAdd y.fecUncorrected 17 })).failGroup group.toNat) := by
  obtain ⟨hu, hg, hs⟩ := hj
  exact when_true (by simp only [hu, hg, hs]; rfl)

end

/-- The first notice of a link is relayed and declared, a later one only taken. -/
theorem exec_downNotice {p : Packet} {d : DownNote} (hu : s.lmpUp = true) (hp : p.body = .downNote d) :
    exec (.downNotice port p) s = .next (if d ∈ s.fabric.downNotes then s.takeArrived (· == p)
      else ((s.takeArrived (· == p)).sendNotice d (relayAxes p.env.axis.toNat)).declare d) := by
  have hnote : noteOf p = some d := by simp only [noteOf, hp]
  refine when_eq (by rw [hu, hnote]; rfl) ?_
  simp only [hnote, List.contains_iff_mem]

/-! ### PORT_PROFILE and PORT_QUERY (R222, R226, R315) -/

section
variable (hr : s.runs src 0x0900 = true)
include hr

theorem exec_portProfile_bad (h : (s.cmd! src).restZero [(0, 3), (8, 8)] = false ∨ 4 ≤ (s.cmd! src).param 1 1) :
    exec (.portProfile src) s = .next (s.badParam (s.cmd! src)) :=
  when_pos hr (h.imp (fun hz => by rw [hz]; rfl) id)

variable (hz : (s.cmd! src).restZero [(0, 3), (8, 8)] = true) (hf : (s.cmd! src).param 1 1 < 4)
include hz hf

/-- A profile under way, or a context in use without the flag for it. -/
theorem exec_portProfile_busy (h : s.fabric.profile ≠ none ∨
    (bitOf ((s.cmd! src).param 1 1) 0 = false ∧ ∃ y ∈ s.contexts, y.2.state ≠ 0)) :
    exec (.portProfile src) s = .next (s.status (s.cmd! src) stBusy) := by
  refine when_eq hr ?_
  rw [if_neg (by simp [hz, hf])]
  by_cases hp : s.fabric.profile = none
  · obtain ⟨hb, y, hy, hne⟩ := h.resolve_left (not_not.mpr hp)
    have hany : s.contexts.any (fun e => e.2.state != 0) = true := List.any_eq_true.2 ⟨y, hy, bne_iff_ne.2 hne⟩
    rw [if_neg (by simp [hp]), if_pos ⟨by rw [hb]; rfl, hany⟩]
  · rw [if_pos (Option.isSome_iff_ne_none.2 hp)]

/-- The profile that the command names is applied; a bad one is BAD_PARAM. -/
theorem exec_portProfile (hp : s.fabric.profile = none)
    (h : bitOf ((s.cmd! src).param 1 1) 0 = true ∨ ∀ y ∈ s.contexts, y.2.state = 0) :
    exec (.portProfile src) s = .next (match s.profileOf (s.cmd! src) with
      | none => s.badParam (s.cmd! src)
      | some roles => s.applyProfile src roles (bitOf ((s.cmd! src).param 1 1) 1)) := by
  have hfree : ¬ ((!bitOf ((s.cmd! src).param 1 1) 0) = true ∧ s.contexts.any (fun e => e.2.state != 0) = true) := by
    rintro ⟨hb, hany⟩
    obtain ⟨y, hy, hne⟩ := List.any_eq_true.1 hany
    rcases h with h | h
    · simp [h] at hb
    · exact bne_iff_ne.1 hne (h y hy)
  refine when_eq hr ((if_neg (by simp [hz, hf])).trans ((if_neg (by simp [hp])).trans ((if_neg hfree).trans ?_)))
  cases s.profileOf (s.cmd! src) <;> rfl

end

section
variable (hr : s.runs src 0x0901 = true)
include hr

theorem exec_portQuery_bad (h : 8 ≤ (s.cmd! src).param 0 1 ∨ (s.cmd! src).restZero [(0, 1)] = false) :
    exec (.portQuery src) s = .next (s.badParam (s.cmd! src)) :=
  when_pos hr (h.imp id (fun hz => by rw [hz]; rfl))

/-- The bytes that PORT_QUERY returns of a port. -/
def State.portBytes (s : State) (p : Nat) : List Byte :=
  [(s.port p).state.toNat, (s.port p).reason.toNat, (s.portGroups p).length, (s.sparesOf p).length, (s.port p).minor.toNat, 0, 0, 0].map
    (BitVec.ofNat 8) ++ natLE (s.port p).peerPhys.toNat 2 ++ [BitVec.ofNat 8 (s.port p).peerPort.toNat]

theorem exec_portQuery (hp : (s.cmd! src).param 0 1 < 8) (hz : (s.cmd! src).restZero [(0, 1)] = true) :
    exec (.portQuery src) s = .next (s.ok (s.cmd! src) (s.portBytes ((s.cmd! src).param 0 1))) := by
  refine when_eq hr ?_
  rw [if_neg (by simp [hz, hp]), State.portBytes]
  simp only [List.map_cons, List.map_nil, BitVec.ofNat_toNat, BitVec.setWidth_eq, BitVec.ofNat_eq_ofNat]

end

end Sys2Proof.Machine

namespace Sys2Proof
open Sys2Proof.Machine

/-- Settles O50: each event of a group, a notice and the two commands by their equations; the missed bound by whether the group had joined and
by the number of its attempts. -/
theorem linkTraining : Obligations.LinkTraining := by
  unfold Obligations.LinkTraining
  intro s group m bytes port p src e
  dsimp only
  refine ⟨exec_groupTrainingMilestone, ⟨identityBlock_length _ _ _ _ _, identityBlock_check _ _ _ _ _⟩,
    fun hp hs hr hl => ⟨exec_identityBlock_good hp hs hr hl, exec_identityBlock_again hp hs hr hl, exec_identityBlock_last hp hs hr hl⟩,
    exec_groupJoined, fun hl hs ha => ?_, fun hl hs ha => ?_, fun hl hs ha => ?_, fun hl hs ha => ?_, exec_laneSignalLoss, fun hj => ?_,
    fun d => exec_downNotice, exec_portProfile_bad, exec_portProfile_busy, exec_portProfile, exec_portQuery_bad, exec_portQuery⟩
  · rw [exec_trainingBoundMissed_training hl hs, if_neg (by omega)]
  · rw [exec_trainingBoundMissed_training hl hs, if_pos (by omega), State.thirdMiss]
  · rw [exec_trainingBoundMissed_joined hl hs, if_neg (by omega)]
  · rw [exec_trainingBoundMissed_joined hl hs, if_pos (by omega), State.thirdMiss]
  · cases e with
    | uncorrectable => exact exec_groupErrorThreshold_uncorrectable hj
    | replays => exact exec_groupErrorThreshold_replays hj

end Sys2Proof
end

section
/-!
Control space and the aperture (O51): a master's own registers under a read and a write, the fields that are judged, the half-word latch, and
the equation of each row.
-/
namespace Sys2Proof.Machine

variable {s : State} {m : Master}

/-! ### Judged fields (R334) -/

/-- A judged field holds the new value where it is allowed, or its own. -/
theorem judge_fst (cur new : Nat) (ok : Bool) : (judge cur new ok).1 = if ok = true then new else cur := by
  by_cases h : new = cur <;> cases ok <;> simp [judge, h]

/-- It is refused where the new value differs and is not allowed. -/
theorem judge_snd_of_refused {cur new : Nat} (h : new ≠ cur) : (judge cur new false).2 = true := by simp [judge, h]

/-- A refusal changes the registers of the masters alone. -/
theorem refuseIf_frame (s : State) (m : Master) (base : Nat) (bad : Bool) : s.refuseIf m base bad = { s with regs := { s.regs with
    host := (s.refuseIf m base bad).regs.host, side := (s.refuseIf m base bad).regs.side } } := by
  cases bad
  · rfl
  · cases m <;> rfl

theorem mem_refuseIf (s : State) (m : Master) (base : Nat) : base ∈ ((s.refuseIf m base true).mst m).writeRefused := by
  rw [State.refuseIf, if_pos rfl, State.refuseWrite, State.mst_modMst_same]
  dsimp only
  split
  case isTrue h => exact List.contains_iff_mem.1 h
  case isFalse => exact List.mem_cons_self

/-- A write of all eight bytes is the value written. -/
theorem fullMask_merge (x v : Word64) : (x &&& ~~~fullMask ||| (v &&& fullMask)) = v := by
  have h : fullMask = BitVec.allOnes 64 := rfl
  rw [h, BitVec.not_allOnes, BitVec.and_zero, BitVec.and_allOnes, BitVec.zero_or]

/-- The low bits of a word. -/
theorem ofNat_bitsOf_low (v : Word64) (n : Nat) : BitVec.ofNat n (bitsOf v.toNat 0 n) = v.truncate n := by
  apply BitVec.eq_of_toNat_eq
  simp [bitsOf]

/-! ### Full writes of named registers -/

theorem writeReg_global {o : Nat} (hw : windowOf o = some 0) (h0 : o ≠ 0) (v : Word64) : s.writeReg m o fullMask v = s.writeGlobal m o v.toNat := by
  have hsel : s.selected m 0 o = true := rfl
  simp only [State.writeReg, hw, hsel, Bool.not_true, Bool.false_eq_true, if_false, fullMask_merge, Nat.sub_zero]
  exact if_neg (fun h => h0 h.1)

theorem writeReg_planCommit : s.writeReg m 0x020000 fullMask 1 = s.writePlan m 0 1 true := by
  have hw : windowOf 0x020000 = some 0x020000 := rfl
  have hsel : s.selected m 0x020000 (0x020000 - 0x020000) = true := rfl
  simp only [State.writeReg, hw, hsel, Bool.not_true, Bool.false_eq_true, if_false, fullMask_merge]
  exact if_neg (fun h => h.2.2 rfl)

theorem writeReg_errPop : s.writeReg m 0x700010 fullMask 1 = s.popHead := by
  have hw : windowOf 0x700010 = some 0x700000 := rfl
  have hsel : s.selected m 0x700000 (0x700010 - 0x700000) = true := rfl
  simp only [State.writeReg, hw, hsel, Bool.not_true, Bool.false_eq_true, if_false]
  exact (if_neg (fun h => absurd h.1 (by decide))).trans (if_pos ⟨trivial, rfl⟩)

section
variable (hup : s.masterUp m = true)
include hup

/-! ### Rows of a write -/

section
variable {offset : BitVec 24}

theorem exec_registerWrite_low (v : Word64) (h8 : offset.toNat % 8 = 0) :
    exec (.registerWrite m offset false v) s = .next (s.writeReg m offset.toNat 0xFFFFFFFF v) := by
  have hreg : offset.toNat / 8 * 8 = offset.toNat := by omega
  change execRegisterWrite m offset false v s = _
  simp only [execRegisterWrite, hreg, h8]
  exact when_true (by simp [hup]; omega)

theorem exec_registerWrite_high (v : Word64) (h8 : offset.toNat % 8 = 4) :
    exec (.registerWrite m offset false v) s = .next (s.writeReg m (offset.toNat - 4) 0xFFFFFFFF00000000 (v <<< 32)) := by
  have hreg : offset.toNat / 8 * 8 = offset.toNat - 4 := by omega
  change execRegisterWrite m offset false v s = _
  simp only [execRegisterWrite, hreg, h8]
  exact when_true (by simp [hup]; omega)

/-! ### Rows of a read -/

theorem exec_lowHalfRead (h4 : offset.toNat % 4 = 0) :
    exec (.lowHalfRead m offset) s = .next ((s.readHalf m offset.toNat).2.emit (.barRead m (s.readHalf m offset.toNat).1)) :=
  when_true (by simp [hup, h4])

end

/-- The migration fields: each takes its value where it may, and a refused one is marked. -/
theorem exec_registerWrite_migrate (v : Word64) : ∃ t, exec (.registerWrite m 0x000040 true v) s = .next t ∧ t.dram = s.dram ∧
    t.contexts = s.contexts ∧
    t.regs.global.migrateThreshold = (if bitsOf v.toNat 0 32 = 0 then s.regs.global.migrateThreshold else v.truncate 32) ∧
    t.regs.global.migrateCooldown.toNat = (if 1 ≤ bitsOf v.toNat 32 16 ∧ bitsOf v.toNat 32 16 ≤ 1000 then bitsOf v.toNat 32 16
      else s.regs.global.migrateCooldown.toNat) ∧
    (bitsOf v.toNat 0 32 = 0 → s.regs.global.migrateThreshold ≠ 0 → 0 ∈ (t.mst m).writeRefused) := by
  refine ⟨_, exec_registerWrite_eight v hup rfl, ?_⟩
  rw [writeReg_global rfl (by decide)]
  simp only [BitVec.reduceToNat, State.writeGlobal]
  refine ⟨?_, ?_, ?_, ?_, fun hz hne => ?_⟩
  · rw [refuseIf_frame]; rfl
  · rw [refuseIf_frame]; rfl
  · rw [refuseIf_frame]
    simp only [State.modGlobal, judge_fst, decide_eq_true_eq]
    split
    case isTrue h => rw [if_neg (by omega), ofNat_bitsOf_low]
    case isFalse h => rw [if_pos (by omega), BitVec.ofNat_toNat, BitVec.setWidth_eq]
  · rw [refuseIf_frame]
    simp only [State.modGlobal, judge_fst, Bool.and_eq_true, decide_eq_true_eq, BitVec.toNat_ofNat]
    split
    case isTrue h => omega
    case isFalse h => exact Nat.mod_eq_of_lt (BitVec.isLt _)
  · have hcur : bitsOf v.toNat 0 32 ≠ s.regs.global.migrateThreshold.toNat := by
      rw [hz]
      exact fun h => hne (BitVec.eq_of_toNat_eq h.symm)
    have hbad : (judge s.regs.global.migrateThreshold.toNat (bitsOf v.toNat 0 32) (decide (1 ≤ bitsOf v.toNat 0 32))).2 = true := by
      have hok : decide (1 ≤ bitsOf v.toNat 0 32) = false := by simp [hz]
      rw [hok]
      exact judge_snd_of_refused hcur
    rw [hbad, Bool.or_true]
    exact mem_refuseIf _ m 0

/-- AP_CTRL takes its fields and the staged base. -/
theorem exec_apCtrlWrite (v : Word64) : ∃ t, exec (.apCtrlWrite m v) s = .next t ∧ t.regs.global.apEnable = v.getLsbD 6 ∧
    t.regs.global.apCtx = v.truncate 6 ∧ t.regs.global.apBase = s.regs.global.apShadow.getD s.regs.global.apBase ∧
    t.regs.global.apShadow = none ∧ t.dram = s.dram ∧ t.contexts = s.contexts := by
  refine ⟨_, when_eq hup (writeReg_global rfl (by decide) v), ?_, ?_, rfl, rfl, rfl, rfl⟩
  · simp [State.writeGlobal, State.modGlobal, bitOf, BitVec.getLsbD, Nat.testBit_eq_decide_div_mod_eq, beq_eq_decide]
  · exact BitVec.ofNat_toNat 6 v

theorem exec_qenableWrite (n : BitVec 2) (v : Word64) :
    exec (.qenableWrite m n v) s = .next (s.writeReg m (0x100118 + 0x40 * n.toNat) fullMask v) := when_true hup

theorem exec_planCommit_host (hm : m = .host) : exec (.planCommit m) s = .next (s.refuseWrite m 0) :=
  when_eq hup (writeReg_planCommit.trans (if_pos hm))

theorem exec_planCommit_busy (hm : m = .sideband) (hc : s.noContexts = false) : exec (.planCommit m) s = .next (s.refuseWrite m 0) := by
  refine when_eq hup (writeReg_planCommit.trans ?_)
  simp [State.writePlan, hm, hc]

theorem exec_planCommit (hm : m = .sideband) (hc : s.noContexts = true) : exec (.planCommit m) s =
    .next (if s.regs.plan.ok = true then s.install s.regs.plan else s.noPlan) := by
  refine when_eq hup (writeReg_planCommit.trans ?_)
  simp [State.writePlan, hm, hc, State.commitPlan]

theorem exec_errPop : exec (.errPop m) s = .next (popErrors 1 s).2 := when_eq hup writeReg_errPop

theorem exec_memberDataRead_half : exec (.memberDataRead m false false) s =
      .next ((s.readHalf m 0x600028).2.emit (.barRead m (s.readHalf m 0x600028).1)) ∧
    exec (.memberDataRead m false true) s = .next ((s.readHalf m 0x60002C).2.emit (.barRead m (s.readHalf m 0x60002C).1)) :=
  ⟨when_true hup, when_true hup⟩

/-- MEMBER_DATA as a whole advances MEMBER_PTR. -/
theorem exec_memberDataRead : ∃ t, exec (.memberDataRead m true false) s = .next t ∧ (t.mst m).memberPtr = (s.mst m).memberPtr + 4 ∧
    t.out = s.out ++ [.barRead m (s.readWord m 0x600028)] ∧ t.plats = s.plats ∧ t.dram = s.dram := by
  refine ⟨((s.modMst m (fun r => { r with memberPtr := r.memberPtr + 4 })).emit (.barRead m (s.readWord m 0x600028))), when_true hup, ?_⟩
  cases m <;> exact ⟨rfl, rfl, rfl, rfl⟩

/-- A read of the two counters of the global window clears them. -/
theorem exec_rcRegisterRead_counters : ∃ t, exec (.rcRegisterRead m 0x000060) s = .next t ∧ t.regs.global.conflictsLost = 0 ∧
    t.regs.global.doorbellIgnored = 0 ∧
    (∃ w, t.out = s.out ++ [.barRead m w] ∧
      w.toNat = s.regs.global.conflictsLost.toNat * 2 ^ 32 + s.regs.global.doorbellIgnored.toNat) ∧
    t.queues = s.queues ∧ t.errs = s.errs :=
  ⟨_, exec_rcRegisterRead hup rfl, rfl, rfl, ⟨_, rfl, toNat_fields_halves _ _⟩, rfl, rfl⟩

theorem exec_bar0BadAccess : exec (.bar0BadAccess m true) s = .next (s.refuseWrite m 0) ∧
    exec (.bar0BadAccess m false) s = .next (s.emit (.barRead m 0)) := ⟨when_true hup, when_true hup⟩

end

/-! ### QCTRL (R310, R342) -/

/-- A queue enabled again starts where it was, or at its TAIL after a halt. -/
theorem writeQctrl_enable {q : Nat} {v : Nat} (he : (s.queue q).enable = false) (hv : bitOf v 0 = true) :
    ((s.writeQctrl m q v).queue q).enable = true ∧ ((s.writeQctrl m q v).queue q).haltReason = 0 ∧
      ((s.writeQctrl m q v).queue q).head = (if (s.queue q).haltReason = 0 then (s.queue q).head else (s.queue q).tail) ∧
      (s.writeQctrl m q v).dram = s.dram := by
  have hq : ∀ (f : Queue → Queue) (bad : Bool), ((s.modQueue q f).refuseIf m 0x100000 bad).queue q = f (s.queue q) := by
    intro f bad
    rw [refuseIf_frame]
    exact State.queue_modQueue_same _ _ _
  simp only [State.writeQctrl, hq, he, hv, Bool.not_false, true_and, and_self, if_true, ne_eq, ite_not]
  rw [refuseIf_frame]
  rfl

/-! ### The latch of a high half (R332) -/

/-- Clearing the fields of a read leaves every master's registers. -/
theorem mst_clearRc (s : State) (m n : Master) (off : Nat) (low high : Bool) : (s.clearRc m off low high).mst n = s.mst n := by
  simp only [State.clearRc]
  split
  · cases n <;> rfl
  · split
    · rfl
    · split
      · rfl
      · split <;> rfl

theorem latch_touchWindow (s : State) (m : Master) (off : Nat) : ((s.touchWindow m off).mst m).latch = (s.mst m).latch := by
  simp only [State.touchWindow]
  split
  · split
    · rfl
    · rw [State.mst_modMst_same]
      rfl
  · rfl

section
variable {o : Nat} (h8 : o % 8 = 0)
include h8

theorem readHalf_value : (s.readHalf m o).1.toNat = (s.readWord m o).toNat % 2 ^ 32 := by
  have hreg : o / 8 * 8 = o := by omega
  simp only [State.readHalf, h8, hreg, if_true, BitVec.toNat_ofNat]
  omega

/-- A low half of a latching register latches the high half, and nothing else of the latch moves. -/
theorem readHalf_latch (hl : latches o = true) :
    ((s.readHalf m o).2.mst m).latch = tset (s.mst m).latch o (BitVec.ofNat 32 ((s.readWord m o).toNat / 2 ^ 32)) := by
  have hreg : o / 8 * 8 = o := by omega
  simp only [State.readHalf, h8, hreg, hl, if_true, State.mst_modMst_same]
  split
  · rw [State.mst_modMst_same, mst_clearRc, latch_touchWindow]
  · rw [mst_clearRc, latch_touchWindow]

theorem readHalf_latched (hl : latches o = true) :
    ((s.readHalf m o).2.mst m).latched o = some (BitVec.ofNat 32 ((s.readWord m o).toNat / 2 ^ 32)) ∧
      ∀ i, i ≠ o → ((s.readHalf m o).2.mst m).latched i = (s.mst m).latched i := by
  simp only [MasterRegs.latched, readHalf_latch h8 hl, find?_tset]
  exact ⟨by simp, fun i hi => by rw [if_neg hi]⟩

end

/-- The high half read next is the one latched, which is gone with it. -/
theorem readHalf_high {o : Nat} {h : Word32} (h8 : o % 8 = 4) (hl : (s.mst m).latched (o - 4) = some h) :
    (s.readHalf m o).1.toNat = h.toNat ∧ ((s.readHalf m o).2.mst m).latched (o - 4) = none := by
  have hreg : o / 8 * 8 = o - 4 := by omega
  have hne : ¬ o % 8 = 0 := by omega
  simp only [State.readHalf, hreg, hl, if_neg hne, State.mst_modMst_same]
  refine ⟨?_, ?_⟩
  · rw [BitVec.toNat_ofNat]
    omega
  · simp [MasterRegs.latched, terase]

/-! ### The aperture (R331) -/

section
variable {at4 : BitVec 38} {fab : Fab} {len : Nat} {bytes : List Byte}

theorem exec_bar4Read_off (hc : s.apCtx = none) (hb : s.inBar4 at4 len = true) :
    exec (.bar4Read at4 len fab) s = .next (s.emit (.bar4Read (List.replicate len 0xFF))) := by
  change execBar4Read at4 len fab s = _
  simp only [execBar4Read, hc]
  exact when_true hb

theorem exec_bar4Read {c : Nat} (hc : s.apCtx = some c) (hb : s.inBar4 at4 len = true) (hr : s.readable c (s.apAddr at4) len = true) :
    exec (.bar4Read at4 len fab) s = .next ((s.engineRead c .none fab (s.apAddr at4) len).2.2.emit
      (.bar4Read (s.engineRead c .none fab (s.apAddr at4) len).1)) := by
  change execBar4Read at4 len fab s = _
  simp only [execBar4Read, hc]
  exact when_true (by rw [hb, hr]; rfl)

theorem exec_bar4Write_off (hc : s.apCtx = none) (hb : s.inBar4 at4 bytes.length = true) : exec (.bar4Write at4 bytes fab) s = .next s := by
  change execBar4Write at4 bytes fab s = _
  simp only [execBar4Write, hc]
  exact when_true hb

theorem exec_bar4Write {c : Nat} (hc : s.apCtx = some c) (hb : s.inBar4 at4 bytes.length = true)
    (hr : s.writable c (s.apAddr at4) bytes.length = true) :
    exec (.bar4Write at4 bytes fab) s = .next (apWrite c fab (linesIn (s.apAddr at4) bytes.length) bytes s) := by
  change execBar4Write at4 bytes fab s = _
  simp only [execBar4Write, hc]
  exact when_true (by rw [hb, hr]; rfl)

end

end Sys2Proof.Machine

namespace Sys2Proof
open Sys2Proof.Machine

/-- Settles O51: each row of control space and of the aperture by its equation; the fields by what a judged field holds, the halves by what
the latch lists. -/
theorem controlRegisters : Obligations.ControlRegisters := by
  unfold Obligations.ControlRegisters
  intro s m offset v n at4 len bytes fab
  dsimp only
  exact ⟨fun hup h8 => ⟨exec_registerWrite_eight v hup h8, exec_registerWrite_low hup v h8⟩, fun hup h8 => exec_registerWrite_high hup v h8,
    fun hup => exec_registerWrite_migrate hup v, fun hup => exec_qenableWrite hup n v,
    fun q he hv => ⟨_, rfl, writeQctrl_enable he hv⟩, exec_planCommit_host, exec_planCommit_busy, exec_planCommit, exec_errPop,
    fun hup => exec_apCtrlWrite hup v, fun hup h8 => exec_rcRegisterRead hup h8, exec_rcRegisterRead_counters, fun hup h4 => exec_lowHalfRead hup h4,
    fun h8 hl => ⟨readHalf_value h8, readHalf_latched h8 hl⟩, fun h h8 hl => readHalf_high h8 hl, exec_memberDataRead,
    exec_memberDataRead_half, exec_bar0BadAccess, exec_bar4Read_off, fun c => exec_bar4Read, exec_bar4Write_off, fun c => exec_bar4Write⟩

end Sys2Proof
end

section
/-!
Bring-up (O53): what an error raised by one of its rows leaves, and the rows themselves, from standby to RUNNING and down again.
-/
namespace Sys2Proof.Machine

variable {s : State}

/-! ### Errors raised by the rows (R368 to R373) -/

/-- The error of PERST# joins a reset of its context under way, or asks for one. -/
theorem raise_perst (s : State) (c : Nat) : s.raise { code := 0x010B, ctx := some c } =
    if s.recov.ctxs.any (fun r => r.ctx == c) then s.mergeCtx c 0x010B none
    else (s.queueRec (s.record { code := 0x010B, ctx := some c })).askCtxReset c 0x010B := by
  have hcore : ¬ errAction 0x010B = 2 := by decide
  by_cases hr : (s.recov.ctxs.any (fun r => r.ctx == c)) = true
  · simp only [State.raise, if_neg hcore, Option.filter_some, hr, if_true]
  · simp only [State.raise, if_neg hcore, Option.filter_some, if_neg hr]
    rfl

/-- A rail fault is recorded; its action is that of its row. -/
theorem raise_railFault (s : State) : s.raise { code := 0x0903 } = s.queueRec (s.record { code := 0x0903 }) := rfl

/-! ### PERST# and the contexts (R402) -/

/-- The context resets that run or wait: context and code. -/
def State.resets (s : State) : List (Nat × BitVec 16) := s.recov.ctxs.map (fun r => (r.ctx, r.code))

/-- What the resets asked for at PERST# keep: the resets under way come first, those added have its code, and no context becomes FREE. -/
structure PerstResets (s t : State) : Prop where
  live : ∀ c, (s.ctx c).state ≠ 0 → (t.ctx c).state ≠ 0
  added : ∃ l, t.resets = s.resets ++ l ∧ ∀ p ∈ l, p.2 = 0x010B
  frame : t = { s with contexts := t.contexts, recov := t.recov, errs := t.errs, out := t.out }

theorem PerstResets.refl (s : State) : PerstResets s s := ⟨fun _ h => h, ⟨[], (List.append_nil _).symm, nofun⟩, rfl⟩

theorem PerstResets.trans {t u : State} (h : PerstResets s t) (h' : PerstResets t u) : PerstResets s u := by
  obtain ⟨hlive, ⟨l, hl, hcode⟩, hframe⟩ := h
  obtain ⟨hlive', ⟨l', hl', hcode'⟩, hframe'⟩ := h'
  refine ⟨fun c hc => hlive' c (hlive c hc), ⟨l ++ l', by rw [hl', hl, List.append_assoc], fun p hp => ?_⟩, ?_⟩
  · exact (List.mem_append.1 hp).elim (hcode p) (hcode' p)
  · rw [hframe'.trans (by rw [hframe])]

/-- What a change of the first fit keeps of each entry, it keeps of the list. -/
theorem map_updateFirst {α β : Type} {p : α → Bool} {f : α → α} {g : α → β} (h : ∀ x, g (f x) = g x) (l : List α) :
    (updateFirst p f l).map g = l.map g := by
  induction l with
  | nil => rfl
  | cons a l ih =>
    rw [updateFirst]
    split
    · rw [List.map_cons, List.map_cons, h]
    · rw [List.map_cons, List.map_cons, ih]

/-- A context reset asked for while others wait. -/
theorem perstResets_ask (s : State) (c : Nat) : PerstResets s (s.askCtxReset c 0x010B) := by
  unfold State.askCtxReset
  split
  · exact PerstResets.refl s
  · split
    · exact PerstResets.refl s
    · refine ⟨fun d hd => ?_, ⟨[(c, 0x010B)], by simp [State.resets, State.freezeCtx, State.modCtx, State.setCtx], by simp⟩, rfl⟩
      have hctx : ((s.freezeCtx c).modRecov (fun r => { r with ctxs := r.ctxs ++ [{ ctx := c, code := BitVec.ofNat 16 0x010B }] })).ctx d =
          (s.freezeCtx c).ctx d := rfl
      rw [hctx, State.freezeCtx, State.ctx_modCtx]
      split
      · change (2 : Byte) ≠ 0
        decide
      · exact hd

/-- An error merged into a reset changes neither its context nor its code. -/
theorem mergeCtx_resets (s : State) (c code : Nat) (retire : Option Nat) : (s.mergeCtx c code retire).resets = s.resets := by
  simp only [State.resets, State.mergeCtx, State.modRecov_recov]
  rw [map_updateFirst]
  exact fun _ => rfl

theorem PerstResets.keeps {t : State} (h : PerstResets s t) : t.boot = s.boot ∧ t.dram = s.dram ∧ t.queues = s.queues ∧ t.ports = s.ports ∧
    t.groups = s.groups ∧ t.datum = s.datum ∧ t.regs = s.regs := by
  rw [h.frame]
  exact ⟨rfl, rfl, rfl, rfl, rfl, rfl, rfl⟩

theorem perstResets_raise (s : State) (c : Nat) : PerstResets s (s.raise { code := 0x010B, ctx := some c }) := by
  rw [raise_perst]
  split
  · refine ⟨fun _ h => h, ⟨[], ?_, nofun⟩, rfl⟩
    rw [List.append_nil, mergeCtx_resets]
  · refine PerstResets.trans ⟨?_, ⟨[], ?_, nofun⟩, ?_⟩ (perstResets_ask _ c)
    · rw [State.queueRec_frame]
      exact fun _ h => h
    · rw [State.queueRec_frame, List.append_nil]
      rfl
    · rw [State.queueRec_frame]

/-- The error of PERST# leaves its context with a reset that runs or waits. -/
theorem mem_resets_raise (s : State) {c : Nat} (h : (s.ctx c).state ≠ 0) :
    ∃ p ∈ (s.raise { code := 0x010B, ctx := some c }).resets, p.1 = c := by
  rw [raise_perst]
  split
  · next hany =>
    obtain ⟨r, hr, hc⟩ := List.any_eq_true.1 hany
    exact ⟨(r.ctx, r.code), by rw [mergeCtx_resets]; exact List.mem_map_of_mem hr, beq_iff_eq.1 hc⟩
  · obtain ⟨r, hr, hc⟩ := State.askCtxReset_asked (s.queueRec (s.record { code := 0x010B, ctx := some c })) c 0x010B
      (by rw [State.queueRec_frame]; exact h)
    exact ⟨(r.ctx, r.code), List.mem_map_of_mem hr, hc⟩

/-- PERST# asks for the reset of every context of a list. -/
theorem perstResets_foldl (l : List Nat) (s : State) :
    PerstResets s (l.foldl (fun s c => s.raise { code := 0x010B, ctx := some c }) s) ∧
      ∀ c ∈ l, (s.ctx c).state ≠ 0 →
        ∃ p ∈ (l.foldl (fun s c => s.raise { code := 0x010B, ctx := some c }) s).resets, p.1 = c := by
  induction l generalizing s with
  | nil => exact ⟨PerstResets.refl s, nofun⟩
  | cons d l ih =>
    obtain ⟨hgrow, hall⟩ := ih (s.raise { code := 0x010B, ctx := some d })
    refine ⟨(perstResets_raise s d).trans hgrow, fun c hc hlive => ?_⟩
    obtain rfl | hc := List.mem_cons.1 hc
    · obtain ⟨p, hp, hpc⟩ := mem_resets_raise s hlive
      obtain ⟨m, hm, -⟩ := hgrow.added
      exact ⟨p, by rw [List.foldl_cons, hm]; exact List.mem_append_left _ hp, hpc⟩
    · exact hall c hc ((perstResets_raise s d).live c hlive)

/-- A context that is not FREE is listed. -/
theorem mem_liveContexts {c : Nat} (h : (s.ctx c).state ≠ 0) :
    c ∈ (s.contexts.filter (fun (e : Nat × Context) => e.2.state != 0)).map (·.1) := by
  obtain hdefault | hmem := tget_mem s.contexts c {}
  · exact absurd (congrArg Context.state hdefault) h
  · exact List.mem_map.2 ⟨_, List.mem_filter.2 ⟨hmem, bne_iff_ne.2 h⟩, rfl⟩

section
variable (hsb : s.boot.standby = true)
include hsb

/-! ### Resets and the pins (R402, R418) -/

theorem exec_modResetAssert (hl : s.boot.modResetLow = false) :
    exec .modResetAssert s = .next { s with boot := { s.boot with modResetLow := true, resetStarted := true } } :=
  when_true (by rw [hsb, hl]; rfl)

theorem exec_modResetRelease (hl : s.boot.modResetLow = true) : exec .modResetRelease s =
    .next { s with boot := { s.boot with modResetLow := false, state := if s.boot.state = .inReset then .standbyBoot else s.boot.state } } :=
  when_true (by rw [hsb, hl]; rfl)

section
variable (hlow : s.boot.perstLow = false)
include hlow

theorem exec_perstAssert_unsensed (hu : s.mainUp = false) :
    exec .perstAssert s = .next { s with boot := { s.boot with perstLow := true } } :=
  when_eq (by rw [hsb, hlow]; rfl) (by rw [if_pos (by rw [hu]; rfl)]; rfl)

variable (hu : s.mainUp = true)
include hu

theorem exec_perstAssert_pending (hp : s.boot.resetPending = true) :
    exec .perstAssert s = .next { s with boot := { s.boot with perstLow := true, resetStarted := true } } :=
  when_eq (by rw [hsb, hlow]; rfl) (by rw [if_neg (by rw [hu]; nofun), if_pos hp]; rfl)

/-- The host interface is reset, and every context that is not FREE. -/
theorem exec_perstAssert (hp : s.boot.resetPending = false) : ∃ t, exec .perstAssert s = .next t ∧
    t.boot = { s.boot with perstLow := true, hostIfUp := false, linkUp := false } ∧ t.dram = s.dram ∧ t.queues = s.queues ∧
    t.ports = s.ports ∧ t.groups = s.groups ∧ t.datum = s.datum ∧ t.regs = s.regs ∧
    ∀ c, (s.ctx c).state ≠ 0 → ∃ r ∈ t.recov.ctxs, r.ctx = c ∧ ((∀ q ∈ s.recov.ctxs, q.ctx ≠ c) → r.code = 0x010B) := by
  refine ⟨_, when_eq (by rw [hsb, hlow]; rfl) (by rw [if_neg (by rw [hu]; nofun), if_neg (by rw [hp]; nofun)]), ?_⟩
  obtain ⟨hgrow, hall⟩ := perstResets_foldl ((s.contexts.filter (fun (e : Nat × Context) => e.2.state != 0)).map (·.1))
    ((s.modBoot (fun b => { b with perstLow := true })).modBoot (fun b => { b with hostIfUp := false, linkUp := false }))
  obtain ⟨hboot, hdram, hqueues, hports, hgroups, hdatum, hregs⟩ := hgrow.keeps
  refine ⟨hboot, hdram, hqueues, hports, hgroups, hdatum, hregs, fun c hc => ?_⟩
  obtain ⟨p, hp, hpc⟩ := hall c (mem_liveContexts hc) hc
  obtain ⟨r, hr, rfl⟩ := List.mem_map.1 hp
  refine ⟨r, hr, hpc, fun hnone => ?_⟩
  obtain ⟨l, hl, hcode⟩ := hgrow.added
  rw [hl] at hp
  obtain hold | hnew := List.mem_append.1 hp
  · obtain ⟨q, hq, hqr⟩ := List.mem_map.1 hold
    exact absurd ((congrArg Prod.fst hqr).trans hpc) (hnone q hq)
  · exact hcode _ hnew

end

theorem exec_perstDeassert (hl : s.boot.perstLow = true) :
    exec .perstDeassert s = .next { s with boot := { s.boot with perstLow := false, hostIfUp := s.mainUp } } :=
  when_true (by rw [hsb, hl]; rfl)

theorem exec_addrStrapSample {straps : BitVec 3} (ha : s.boot.addr = none) :
    exec (.addrStrapSample straps) s = .next { s with boot := { s.boot with addr := some straps } } :=
  when_true (by rw [hsb, ha]; rfl)

/-! ### SMBus writes of boot (R401, R408) -/

/-- The SMBus target hears: no timeout of its own has left it deaf (R444). -/
def State.smbusHears (s : State) : Prop := s.side.deafUntil = none ∨ ∃ t, s.side.deafUntil = some t ∧ t ≤ s.time

omit hsb in
/-- A target that answers and hears performs the transfer. -/
theorem smbus_performs {answers : Bool} (eff : State → State) (ha : answers = true) (hh : s.smbusHears) : s.smbus answers eff = eff s := by
  rw [State.smbus, ha]
  obtain h | ⟨t, h, hle⟩ := hh
  · simp [h]
  · simp [h, not_lt.mpr hle]

omit hsb in
theorem smbus_silent {answers : Bool} (eff : State → State) (ha : answers = false) : s.smbus answers eff = s.emit .smbusNack :=
  if_pos (by rw [ha]; rfl)

theorem exec_resetModuleWrite (hu : s.sideUp = true) (hh : s.smbusHears) :
    exec .resetModuleWrite s = .next { s with boot := { s.boot with resetStarted := true } } := when_eq hsb (smbus_performs _ hu hh)

theorem exec_resetModuleWrite_nack (hu : s.sideUp = false) : exec .resetModuleWrite s = .next (s.emit .smbusNack) :=
  when_eq hsb (smbus_silent _ hu)

theorem exec_mainGoWrite (on : Bool) (hu : s.sideUp = true) (hh : s.smbusHears) :
    exec (.mainGoWrite on) s = .next ({ s with boot := { s.boot with mainGo := on } }).tryRamp := when_eq hsb (smbus_performs _ hu hh)

theorem exec_mainGoWrite_nack (on : Bool) (hu : s.sideUp = false) : exec (.mainGoWrite on) s = .next (s.emit .smbusNack) :=
  when_eq hsb (smbus_silent _ hu)

theorem exec_inputInRange (hi : s.boot.input48 = false) :
    exec .inputInRange s = .next ({ s with boot := { s.boot with input48 := true } }).tryRamp := when_true (by rw [hsb, hi]; rfl)

end

theorem exec_standbyApplied (hsb : s.boot.standby = false) : exec .standbyApplied s =
    .next { s with boot := { s.boot with standby := true, state := if s.boot.modResetLow = true then .inReset else .standbyBoot } } :=
  when_true (by rw [hsb]; rfl)

/-! ### Boot (R399, R406) -/

section
variable {bankA bankB : BankVerdict} {failed : List CoreId} (hs : s.boot.state = .standbyBoot)
include hs

theorem exec_bootVerificationDone_other {r : Nat} {x : Word32 × Nat}
    (h1 : judgeBank s.fuses.security (if s.boot.activeB = true then bankB else bankA) = .error r)
    (h2 : judgeBank s.fuses.security (if s.boot.activeB = true then bankA else bankB) = .ok x) :
    exec (.bootVerificationDone bankA bankB failed) s =
      .next (((s.booted (!s.boot.activeB) x.1 x.2 5 (failed.map coreKey)).raise { code := 0x0905 }).reportTrip) := by
  change execBootVerificationDone bankA bankB failed s = _
  simp only [execBootVerificationDone, h1, h2]
  exact when_true (by rw [hs]; rfl)

theorem exec_bootVerificationDone_failed {r r' : Nat}
    (h1 : judgeBank s.fuses.security (if s.boot.activeB = true then bankB else bankA) = .error r)
    (h2 : judgeBank s.fuses.security (if s.boot.activeB = true then bankA else bankB) = .error r') :
    exec (.bootVerificationDone bankA bankB failed) s =
      .next { s with boot := { s.boot with state := .bootFailed, status := BitVec.ofNat 8 r } } := by
  change execBootVerificationDone bankA bankB failed s = _
  simp only [execBootVerificationDone, h1, h2]
  exact when_true (by rw [hs]; rfl)

end

theorem reportTrip_none (h : s.boot.tripFlash = false) : s.reportTrip = s := if_neg (by rw [h]; nofun)

theorem reportTrip_some (h : s.boot.tripFlash = true) :
    s.reportTrip = ({ s with boot := { s.boot with tripFlash := false } }).raise { code := 0x0906 } := if_pos h

/-! ### The rails (R403) -/

theorem tryRamp_ramps (hs : s.boot.state = .readyMain) (hg : s.boot.mainGo = true) (hi : s.boot.input48 = true) :
    s.tryRamp = { s with boot := { s.boot with state := .ramping }, jtag := s.tryRamp.jtag } := by
  rw [State.tryRamp, if_pos ⟨hs, hg, hi⟩]
  rfl

theorem tryRamp_stays (h : ¬ (s.boot.state = .readyMain ∧ s.boot.mainGo = true ∧ s.boot.input48 = true)) : s.tryRamp = s := if_neg h

/-- What each step does at its own place and no step undoes holds at every place of the list. -/
theorem foldl_reaches {σ : Type} {step : σ → Nat → σ} {I : σ → Prop} {P : σ → Nat → Prop} (hset : ∀ s k, I s → P (step s k) k)
    (hkeep : ∀ s k j, P s j → P (step s k) j) (hinv : ∀ s k, I s → I (step s k)) (l : List Nat) {s : σ} (hs : I s) :
    ∀ k ∈ l, P (l.foldl step s) k := by
  have hlast : ∀ (l : List Nat) (s : σ) (k : Nat), P s k → P (l.foldl step s) k := by
    intro l s k hk
    exact List.foldlRecOn (motive := fun t => P t k) l step hk (fun t ht j _ => hkeep t j k ht)
  induction l generalizing s with
  | nil => exact nofun
  | cons j l ih =>
    intro k hk
    obtain rfl | hk := List.mem_cons.1 hk
    · exact hlast l _ k (hset s k hs)
    · exact ih (hinv s j hs) k hk

section
variable (hr : s.boot.state = .ramping)
include hr

theorem exec_railPowerGood (hn : s.boot.rails + 1 < 7) :
    exec .railPowerGood s = .next { s with boot := { s.boot with rails := s.boot.rails + 1 } } :=
  when_pos (by rw [hr]; rfl) hn

/-- The seventh rail leads to INIT with every stack in training. -/
theorem exec_railPowerGood_last (hn : 6 ≤ s.boot.rails) : ∃ t, exec .railPowerGood s = .next t ∧
    t = { s with boot := { s.boot with rails := s.boot.rails + 1, state := .init, hostIfUp := !s.boot.perstLow }, dramStacks := t.dramStacks } ∧
    ∀ k < 8, (t.stack k).train = 1 := by
  refine ⟨_, when_neg (by rw [hr]; rfl) (by omega), ?_, fun k hk => ?_⟩
  · exact List.foldlRecOn (motive := fun t : State => t = { s with
      boot := { s.boot with rails := s.boot.rails + 1, state := .init, hostIfUp := !s.boot.perstLow }, dramStacks := t.dramStacks }) _ _ rfl
      (fun t ht k _ => by rw [ht]; rfl)
  · refine foldl_reaches (I := fun _ => True) (P := fun (t : State) k => (t.stack k).train = 1) (fun t k _ => ?_) (fun t k j hj => ?_)
      (fun _ _ h => h) _ trivial k (List.mem_range.2 hk)
    · rw [State.stack_modStack, if_pos rfl]
    · rw [State.stack_modStack]
      split
      · rfl
      · exact hj

end

/-! ### What the ways down leave (R165, R402, R403) -/

/-- Fuses, flash, pins and host memory stay. -/
def FlashKept (s t : State) : Prop :=
  t.fuses = s.fuses ∧ t.hostMem = s.hostMem ∧ t.boot.activeB = s.boot.activeB ∧ t.boot.runningB = s.boot.runningB ∧
    t.boot.staged = s.boot.staged ∧ t.boot.stagedVersion = s.boot.stagedVersion ∧ t.boot.tripFlash = s.boot.tripFlash ∧
    t.boot.retiredFlash = s.boot.retiredFlash ∧ t.boot.modResetLow = s.boot.modResetLow ∧ t.boot.perstLow = s.boot.perstLow

/-- What lives on the main rails is gone. -/
def RailsLost (t : State) : Prop :=
  t.dram = [] ∧ t.contexts = [] ∧ t.queues = [] ∧ t.cores = [] ∧ t.clusters = [] ∧ t.fabric = {} ∧ t.ports = [] ∧ t.groups = [] ∧
    t.boot.rails = 0 ∧ t.boot.hostIfUp = false ∧ t.boot.linkUp = false

/-- Boot starts anew: what stays is fuses, flash, pins and host memory. -/
def BootAnew (s t : State) : Prop :=
  FlashKept s t ∧ RailsLost t ∧ t.regs = {} ∧ t.errs = {} ∧ t.side = {} ∧ t.power = {} ∧ t.recov = {} ∧ t.boot.mainGo = false ∧
    t.boot.resetStarted = false ∧ t.boot.resetPending = false ∧ t.boot.input48 = s.boot.input48

theorem flashKept_refl (s : State) : FlashKept s s := ⟨rfl, rfl, rfl, rfl, rfl, rfl, rfl, rfl, rfl, rfl⟩

theorem cleared_anew (s : State) : BootAnew s s.cleared :=
  ⟨⟨rfl, rfl, rfl, rfl, rfl, rfl, rfl, rfl, rfl, rfl⟩, ⟨rfl, rfl, rfl, rfl, rfl, rfl, rfl, rfl, rfl, rfl, rfl⟩, rfl, rfl, rfl, rfl, rfl, rfl,
    rfl, rfl, rfl⟩

theorem railsDown_flash (s : State) : FlashKept s s.railsDown := flashKept_refl s

theorem railsDown_lost (s : State) : RailsLost s.railsDown := ⟨rfl, rfl, rfl, rfl, rfl, rfl, rfl, rfl, rfl, rfl, rfl⟩

theorem exec_moduleReset (hsb : s.boot.standby = true) (hr : s.boot.resetStarted = true) : ∃ t, exec .moduleReset s = .next t ∧
    BootAnew s t ∧ t.boot.addr = s.boot.addr ∧ t.boot.standby = true ∧
    t.boot.state = (if s.boot.modResetLow = true then .inReset else .standbyBoot) :=
  ⟨_, when_true (by rw [hsb, hr]; rfl), cleared_anew s, rfl, hsb, rfl⟩

theorem exec_standbyLost (hsb : s.boot.standby = true) : ∃ t, exec .standbyLost s = .next t ∧ BootAnew s t ∧ t.boot.addr = none ∧
    t.boot.standby = false ∧ t.boot.state = .unpowered :=
  ⟨_, when_true hsb, cleared_anew s, rfl, rfl, rfl⟩

section
variable (hi : s.boot.input48 = true)
include hi

/-- With the rails up or ramping, a loss of input takes them down. -/
theorem exec_inputPowerLoss (hu : s.mainUp = true ∨ s.boot.state = .ramping) : ∃ t, exec .inputPowerLoss s = .next t ∧ FlashKept s t ∧
    RailsLost t ∧ t.boot.state = .readyMain ∧ t.boot.input48 = false ∧ t.boot.mainGo = s.boot.mainGo ∧ t.boot.standby = s.boot.standby ∧
    t.regs = s.regs ∧ t.errs = s.errs ∧ t.side = s.side := by
  have hup : (s.mainUp || s.boot.state == .ramping) = true := by rw [Bool.or_eq_true, beq_iff_eq]; exact hu
  exact ⟨(s.railsDown.enter .readyMain).modBoot (fun b => { b with input48 := false }), when_eq hi (by rw [if_pos hup]),
    railsDown_flash s, railsDown_lost s, rfl, rfl, rfl, rfl, rfl, rfl, rfl⟩

theorem exec_inputPowerLoss_unpowered (hu : s.mainUp = false) (hr : s.boot.state ≠ .ramping) :
    exec .inputPowerLoss s = .next { s with boot := { s.boot with input48 := false } } := by
  refine when_eq hi ?_
  rw [if_neg (by simp [hu, hr])]
  rfl

end

/-- A rail fault takes the rails down until a module reset. -/
theorem exec_railFault {rail : BitVec 3} (h0 : rail ≠ 0)
    (h : s.mainUp = true ∨ (s.boot.state = .ramping ∧ rail.toNat ≤ s.boot.rails + 1)) : ∃ t, exec (.railFault rail) s = .next t ∧
    FlashKept s t ∧ RailsLost t ∧ t.boot.state = .powerFault ∧ t.power.regulator = true ∧
    t.errs.alarms = min 65535 (s.errs.alarms + 1) ∧ t.regs = s.regs ∧ t.side = s.side := by
  refine ⟨_, when_eq ?_ (raise_railFault _), ?_⟩
  · rw [Bool.and_eq_true, Bool.or_eq_true, Bool.and_eq_true, beq_iff_eq, decide_eq_true_eq, bne_iff_ne]
    exact ⟨h0, h⟩
  · have halarms := State.queueRec_alarms ((s.railsDown.enter .powerFault).modPower (fun p => { p with regulator := true }))
      (((s.railsDown.enter .powerFault).modPower (fun p => { p with regulator := true })).record { code := 0x0903 }) rfl
    refine ⟨?_, ?_, ?_, ?_, halarms, ?_, ?_⟩
    all_goals rw [State.queueRec_frame]
    · exact railsDown_flash s
    · exact railsDown_lost s
    all_goals rfl

/-! ### INIT (R26, R219, R223, R354, R401) -/

theorem exec_processorImagesVerified_bad (hs : s.boot.state = .init) (h1 : s.boot.imagesOk = false) (h2 : s.boot.imagesBad = false) :
    exec (.processorImagesVerified false) s = .next (({ s with boot := { s.boot with imagesBad := true } }).raise { code := 0x0905 }) :=
  when_true (by rw [hs, h1, h2]; rfl)

/-- The dies aligned and the crossing measured. -/
def State.datumStarted (s : State) : State := [0, 1, 2, 3, 5].foldl (fun (s : State) d => s.alignDie d) s.measureCrossing

/-- The groups under the INTERIOR profile. -/
def State.groupsStarted (s : State) : State :=
  (List.range 36).foldl (fun (s : State) g => s.modGroup g (fun y => y.fresh (interiorProfile.getD g 0x0F) s.time)) s

/-- The ports that have groups, in training. -/
def State.portsStarted (s : State) : State :=
  (List.range 8).foldl (fun (s : State) p =>
    if (s.membersOf p).isEmpty then s else s.modPort p (fun y => { y with state := 1, reason := 0 })) s

theorem startPorts_eq (s : State) : s.startPorts = s.datumStarted.groupsStarted.portsStarted := rfl

theorem alignDie_frame (s : State) (d : Nat) : s.alignDie d = { s with free := (s.alignDie d).free, datum := (s.alignDie d).datum } := rfl

theorem datumStarted_frame (s : State) :
    s.datumStarted = { s with free := s.datumStarted.free, datum := s.datumStarted.datum } :=
  List.foldlRecOn (motive := fun t : State => t = { s with free := t.free, datum := t.datum }) _ _ rfl
    (fun t ht d _ => (alignDie_frame t d).trans (by rw [ht]))

theorem groupsStarted_frame (s : State) : s.groupsStarted = { s with groups := s.groupsStarted.groups } :=
  List.foldlRecOn (motive := fun t : State => t = { s with groups := t.groups }) _ _ rfl (fun t ht g _ => by rw [ht]; rfl)

theorem portsStarted_frame (s : State) : s.portsStarted = { s with ports := s.portsStarted.ports } :=
  List.foldlRecOn (motive := fun t : State => t = { s with ports := t.ports }) _ _ rfl
    (fun t ht p _ => by split; exacts [ht, by rw [ht]; rfl])

theorem portsStarted_group (s : State) (g : Nat) : s.portsStarted.group g = s.group g := by
  have h : s.portsStarted.groups = s.groups := by rw [portsStarted_frame]
  rw [State.group, h, State.group]

/-- Every die is within 20 ps of the hub. -/
theorem datumStarted_dies (s : State) : ∀ d ∈ [0, 1, 2, 3, 5], (tget s.datumStarted.datum.dies d 0).natAbs ≤ 20 := by
  refine foldl_reaches (I := fun _ => True) (P := fun (t : State) d => (tget t.datum.dies d 0).natAbs ≤ 20) (fun t d _ => ?_)
    (fun t d j hj => ?_) (fun _ _ h => h) _ trivial
  · change (tget (tset t.datum.dies d (((Config.freeWord t.free).toNat % 41 : Nat) - 20)) d 0).natAbs ≤ 20
    rw [tget_tset_same]
    omega
  · change (tget (tset t.datum.dies d (((Config.freeWord t.free).toNat % 41 : Nat) - 20)) j 0).natAbs ≤ 20
    rw [tget_tset]
    split
    · omega
    · exact hj

theorem datumStarted_crossing (s : State) : s.datumStarted.datum.coreOffset.toNat ≤ 3000 := by
  refine List.foldlRecOn (motive := fun t : State => t.datum.coreOffset.toNat ≤ 3000) _ _ ?_ (fun t ht d _ => ht)
  change (BitVec.ofNat 16 ((Config.freeWord s.free).toNat % 3001)).toNat ≤ 3000
  rw [BitVec.toNat_ofNat]
  omega

theorem fresh_role (x : Group) (r : Byte) (now : Nat) : (x.fresh r now).role = r := by
  simp only [Group.fresh]
  split
  · rfl
  · split <;> rfl

/-- A group of a port is in training from now on. -/
theorem fresh_training (x : Group) {r : Byte} (now : Nat) (h0 : r ≠ 0x0F) (hs : isSpare r = false) :
    (x.fresh r now).state = 1 ∧ (x.fresh r now).started = now := by
  simp only [Group.fresh, if_neg h0, hs, Bool.false_eq_true, if_false]
  exact ⟨rfl, rfl⟩

theorem interiorProfile_trains : ∀ g < 34, interiorProfile.getD g 0x0F ≠ 0x0F ∧ isSpare (interiorProfile.getD g 0x0F) = false := by decide

/-- A group stands as the INTERIOR profile has started it. -/
def GroupStarted (s : State) (g : Nat) : Prop :=
  (s.group g).role = interiorProfile.getD g 0x0F ∧ (g < 34 → (s.group g).state = 1 ∧ (s.group g).started = s.time)

theorem groupsStarted_groups (s : State) : ∀ g < 36, GroupStarted s.groupsStarted g := by
  intro g hg
  refine foldl_reaches (I := fun _ => True) (P := GroupStarted) (fun t g _ => ?_) (fun t k j hj => ?_) (fun _ _ h => h) _ trivial g
    (List.mem_range.2 hg)
  · rw [GroupStarted, State.group_modGroup_same]
    exact ⟨fresh_role _ _ _, fun h => fresh_training _ _ (interiorProfile_trains g h).1 (interiorProfile_trains g h).2⟩
  · by_cases h : j = k
    · subst h
      rw [GroupStarted, State.group_modGroup_same]
      exact ⟨fresh_role _ _ _, fun h => fresh_training _ _ (interiorProfile_trains j h).1 (interiorProfile_trains j h).2⟩
    · rw [GroupStarted, State.group_modGroup, if_neg h]
      exact hj

/-- Every port has a group of its own in the INTERIOR profile. -/
theorem interiorProfile_ports : ∀ p < 8, ∃ g < 36, (interiorProfile.getD g 0x0F).toNat % 16 = p ∧ isSpare (interiorProfile.getD g 0x0F) = false := by
  decide

theorem membersOf_nonempty {p : Nat} (hp : p < 8) (h : ∀ g < 36, (s.group g).role = interiorProfile.getD g 0x0F) :
    (s.membersOf p).isEmpty = false := by
  obtain ⟨g, hg, hport, hspare⟩ := interiorProfile_ports p hp
  rw [List.isEmpty_eq_false_iff_exists_mem]
  exact ⟨g, List.mem_filter.2 ⟨List.mem_range.2 hg, by
    simp only [h g hg, hport, hspare, beq_self_eq_true, Bool.not_false, Bool.true_or, Bool.and_self]⟩⟩

theorem portsStarted_ports (h : ∀ g < 36, (s.group g).role = interiorProfile.getD g 0x0F) : ∀ p < 8, (s.portsStarted.port p).state = 1 := by
  intro p hp
  refine foldl_reaches (I := fun t : State => ∀ g < 36, (t.group g).role = interiorProfile.getD g 0x0F)
    (P := fun (t : State) q => q < 8 → (t.port q).state = 1) (fun t q ht hq => ?_) (fun t q j hj hlt => ?_) (fun t q ht => ?_) _ h p
    (List.mem_range.2 hp) hp
  · rw [membersOf_nonempty hq ht, if_neg Bool.false_ne_true, State.port_modPort_same]
  · split
    · exact hj hlt
    · rw [State.port_modPort]
      split
      · rfl
      · exact hj hlt
  · split
    · exact ht
    · exact ht

/-- The processors have started. -/
def State.processorsStarted (s : State) : State :=
  (s.modBoot (fun b => { b with imagesOk := true })).modRecov (fun r => { r with beats := [(0, s.time), (1, s.time), (2, s.time)] })

theorem exec_processorImagesVerified (hs : s.boot.state = .init) (h1 : s.boot.imagesOk = false) (h2 : s.boot.imagesBad = false) :
    ∃ t, exec (.processorImagesVerified true) s = .next t ∧ t.boot = { s.boot with imagesOk := true } ∧ t.dram = s.dram ∧
    t.contexts = s.contexts ∧ (∀ g < 36, (t.group g).role = interiorProfile.getD g 0x0F) ∧
    (∀ g < 34, (t.group g).state = 1 ∧ (t.group g).started = s.time) ∧ (∀ p < 8, (t.port p).state = 1) ∧
    t.datum.coreOffset.toNat ≤ 3000 ∧ ∀ d ∈ [0, 1, 2, 3, 5], (tget t.datum.dies d 0).natAbs ≤ 20 := by
  refine ⟨s.processorsStarted.startPorts, when_pos (by rw [hs, h1, h2]; rfl) rfl, ?_⟩
  rw [startPorts_eq]
  generalize hu : s.processorsStarted = u
  have hboot : u.boot = { s.boot with imagesOk := true } := by rw [← hu]; rfl
  have hdram : u.dram = s.dram := by rw [← hu]; rfl
  have hctx : u.contexts = s.contexts := by rw [← hu]; rfl
  have htime : u.time = s.time := by rw [← hu]; rfl
  have hgroups := groupsStarted_groups u.datumStarted
  have hports := portsStarted_ports (fun g hg => (hgroups g hg).1)
  have hstart : u.datumStarted.groupsStarted.time = u.time := by rw [groupsStarted_frame, datumStarted_frame]
  refine ⟨?_, ?_, ?_, fun g hg => ?_, fun g hg => ?_, hports, ?_, ?_⟩
  · rw [portsStarted_frame, groupsStarted_frame, datumStarted_frame]
    exact hboot
  · rw [portsStarted_frame, groupsStarted_frame, datumStarted_frame]
    exact hdram
  · rw [portsStarted_frame, groupsStarted_frame, datumStarted_frame]
    exact hctx
  · rw [portsStarted_group]
    exact (hgroups g hg).1
  · rw [portsStarted_group]
    obtain ⟨hstate, hwhen⟩ := (hgroups g (by omega)).2 hg
    exact ⟨hstate, hwhen.trans (hstart.trans htime)⟩
  · rw [portsStarted_frame, groupsStarted_frame]
    exact datumStarted_crossing u
  · rw [portsStarted_frame, groupsStarted_frame]
    exact datumStarted_dies u

theorem exec_stackTrainingDone {stack : BitVec 3} (hs : s.boot.state = .init) (ht : (s.stack stack.toNat).train = 1) :
    exec (.stackTrainingDone stack true) s = .next (s.modStack stack.toNat (fun x => { x with train := 2 })) ∧
    exec (.stackTrainingDone stack false) s = .next
      ((s.modStack stack.toNat (fun x => { x with train := 3 })).raise { code := 0x0405, unitKind := 3, unitIndex := stack.toNat }) :=
  ⟨when_true (by rw [hs, ht]; rfl), when_true (by rw [hs, ht]; rfl)⟩

theorem exec_pcieLinkUp (hu : s.mainUp = true) (hi : s.boot.hostIfUp = true) (hl : s.boot.linkUp = false) :
    exec .pcieLinkUp s = .next { s with boot := { s.boot with linkUp := true } } := when_true (by rw [hu, hi, hl]; rfl)

/-! ### RUNNING (R382, R400, R401) -/

/-- A core retired changes cores, clusters, recoveries and the list in flash. -/
theorem retireCore_frame (s : State) (k : Nat) : s.retireCore k = { s with
    cores := (s.retireCore k).cores, clusters := (s.retireCore k).clusters, recov := (s.retireCore k).recov
    boot := { s.boot with retiredFlash := (s.retireCore k).boot.retiredFlash } } := by
  simp only [State.retireCore]
  split <;> rfl

theorem retireCore_core (s : State) (k j : Nat) :
    (s.retireCore k).core j = if j = k then { s.core k with retired := true, frozen := false } else s.core j := by
  have hcore : (s.retireCore k).core j = (s.modCore k (fun c => { c with retired := true, frozen := false })).core j := by
    simp only [State.retireCore]
    split <;> rfl
  rw [hcore, State.core_modCore]

theorem foldl_retireCore_frame (l : List Nat) (s : State) : ∃ t, l.foldl (fun (s : State) k => s.retireCore k) s = t ∧ t = { s with
    cores := t.cores, clusters := t.clusters, recov := t.recov, boot := { s.boot with retiredFlash := t.boot.retiredFlash } } :=
  ⟨_, rfl, List.foldlRecOn (motive := fun t : State => t = { s with
    cores := t.cores, clusters := t.clusters, recov := t.recov, boot := { s.boot with retiredFlash := t.boot.retiredFlash } }) _ _ rfl
    (fun t ht k _ => (retireCore_frame t k).trans (by rw [ht]))⟩

theorem foldl_retireCore_retired (l : List Nat) (s : State) :
    ∀ k ∈ l, ((l.foldl (fun (s : State) k => s.retireCore k) s).core k).retired = true := by
  refine foldl_reaches (I := fun _ => True) (P := fun (t : State) k => (t.core k).retired = true) (fun t k _ => ?_) (fun t k j hj => ?_)
    (fun _ _ h => h) l trivial
  · rw [retireCore_core, if_pos rfl]
  · rw [retireCore_core]
    split
    · rfl
    · exact hj

/-- RUNNING, with the security version of the bank. -/
def State.nowRunning (s : State) : State :=
  { s.enter .running with fuses := { s.fuses with security := max s.fuses.security s.boot.security } }

theorem exec_cpReady (hs : s.boot.state = .init) (hi : s.boot.imagesOk = true) (hd : s.recov.stopDue = none)
    (ht : ∀ k < 8, (s.stack k).train = 2) : ∃ t, exec .cpReady s = .next t ∧ t.boot.state = .running ∧
    t.fuses = { s.fuses with security := max s.fuses.security s.boot.security } ∧ t.dram = s.dram ∧ t.contexts = s.contexts ∧
    t.ports = s.ports ∧ t.groups = s.groups ∧ ∀ k ∈ s.boot.retiredFlash, (t.core k).retired = true := by
  have htrained : ((List.range 8).all (fun k => (s.stack k).train == 2)) = true :=
    List.all_eq_true.2 fun k hk => beq_iff_eq.2 (ht k (List.mem_range.1 hk))
  refine ⟨(s.boot.retiredFlash.foldl (fun (s : State) k => s.retireCore k) s.nowRunning).enableStandby,
    when_true (by rw [hs, hi, hd, htrained]; rfl), ?_⟩
  have hretired := foldl_retireCore_retired s.boot.retiredFlash s.nowRunning
  obtain ⟨t, hfold, hframe⟩ := foldl_retireCore_frame s.boot.retiredFlash s.nowRunning
  rw [hfold] at hretired ⊢
  have hboot : t.boot.state = .running := by rw [hframe]; rfl
  have hfuses : t.fuses = { s.fuses with security := max s.fuses.security s.boot.security } := by rw [hframe]; rfl
  have hlists : t.dram = s.dram ∧ t.contexts = s.contexts ∧ t.ports = s.ports ∧ t.groups = s.groups := by
    rw [hframe]
    exact ⟨rfl, rfl, rfl, rfl⟩
  obtain ⟨hdram, hctx, hports, hgroups⟩ := hlists
  exact ⟨hboot, hfuses, hdram, hctx, hports, hgroups, hretired⟩

end Sys2Proof.Machine

namespace Sys2Proof
open Sys2Proof.Machine

/-- Settles O53: each row by its equation; PERST# by what the resets it asks for keep, the ways down by what they leave, INIT and RUNNING by
what their passes over dies, groups, ports and cores reach. -/
theorem bringUp : Obligations.BringUp := by
  unfold Obligations.BringUp
  intro s straps bankA bankB failed rail stack
  dsimp only
  exact ⟨exec_modResetAssert, exec_modResetRelease, exec_resetModuleWrite, exec_resetModuleWrite_nack, exec_moduleReset,
    exec_perstAssert_unsensed, exec_perstAssert_pending, exec_perstAssert, exec_perstDeassert, exec_standbyApplied, exec_standbyLost,
    fun hsb ha => exec_addrStrapSample hsb ha, fun x => exec_bootVerificationDone_active, fun r x hs h1 h2 => exec_bootVerificationDone_other hs h1 h2,
    fun r r' hs h1 h2 => exec_bootVerificationDone_failed hs h1 h2, fun _ _ _ _ => rfl, reportTrip_none, reportTrip_some,
    fun on hsb hu hh => exec_mainGoWrite hsb on hu hh, fun on hsb hu => exec_mainGoWrite_nack hsb on hu, exec_inputInRange, tryRamp_ramps,
    tryRamp_stays, exec_inputPowerLoss, exec_inputPowerLoss_unpowered, exec_railPowerGood, exec_railPowerGood_last, exec_railFault,
    exec_processorImagesVerified_bad, exec_processorImagesVerified, exec_stackTrainingDone, exec_pcieLinkUp, exec_cpReady⟩

end Sys2Proof
end

section
/-!
Power, clock and thermal control (O54): what a change of clock and a lost STRICT run leave, the samples and the trip, and the commands of
family 0x08.
-/
namespace Sys2Proof.Machine

variable {s : State} {src : CmdSource}

/-! ### The clock (R329, R365, R404) -/

/-- A change of clock sets the clock, and tallies stalls. -/
theorem setClock_frame (s : State) (n : Nat) : s.setClock n = { s with
    power := { s.power with clock := n }, free := (s.setClock n).free, clusters := (s.setClock n).clusters } := by
  simp only [State.setClock]
  split
  · next h => rw [h]
  · exact List.foldlRecOn (motive := fun t : State => t = { s with
      power := { s.power with clock := n }, free := t.free, clusters := t.clusters }) _ _ rfl (fun t ht r _ => by rw [ht]; rfl)

/-- Lost STRICT runs are errors, which leave power and memory. -/
theorem strictLost_keeps (s : State) : s.strictLost.power = s.power ∧ s.strictLost.dram = s.dram :=
  List.foldlRecOn (motive := fun t : State => t.power = s.power ∧ t.dram = s.dram) _ _ ⟨rfl, rfl⟩
    (fun t ht c _ => by rw [State.raise_frame]; exact ht)

/-- A safety action leaves the clock at its state or lower, and all else of power and memory. -/
theorem safetyClock_keeps (s : State) (n : Nat) : n ≤ (s.safetyClock n).power.clock ∧ (s.safetyClock n).power.current = s.power.current ∧
    (s.safetyClock n).power.samples = s.power.samples ∧ (s.safetyClock n).dram = s.dram := by
  rw [State.safetyClock]
  split
  · obtain ⟨hpower, hdram⟩ := strictLost_keeps s
    rw [setClock_frame]
    exact ⟨le_refl n, by rw [← hpower], by rw [← hpower], hdram⟩
  · next h => exact ⟨not_lt.1 h, rfl, rfl, rfl⟩

/-! ### Samples and the trip (R405, R406, R411) -/

theorem exec_powerSample {watts : Nat} {hot : Bool} (h : s.mainUp = true ∧ s.recov.hrpStopped = false) :
    exec (.powerSample watts hot) s = .next (s.powerSampled watts hot) := when_true (by rw [h.1, h.2]; rfl)

/-- A sample over the current limit holds the clock in its lowest state. -/
theorem powerSampled_hot (s : State) (watts : Nat) : (s.powerSampled watts true).power.current = true ∧
    (s.powerSampled watts true).power.samples = (watts :: s.power.samples).take 100 ∧ 3 ≤ (s.powerSampled watts true).power.clock ∧
    (s.powerSampled watts true).dram = s.dram := by
  simp only [State.powerSampled, if_true]
  obtain ⟨hclock, hcurrent, hsamples, hdram⟩ := safetyClock_keeps _ 3
  refine ⟨hcurrent.trans ?_, hsamples.trans ?_, hclock, hdram.trans ?_⟩
  all_goals
    split
    · rfl
    · rw [State.raise_frame]
      rfl

theorem exec_thermalSample {dies temps : List Nat} (h : s.mainUp = true ∧ s.recov.hrpStopped = false) (hd : dies.length = 6)
    (ht : temps.length = 8) : exec (.thermalSample dies temps) s = .next (s.thermalSampled dies temps) :=
  when_true (by rw [h.1, h.2, hd, ht]; rfl)

/-- The trip takes the rails down, in every state but those named. -/
theorem exec_thermalTrip (hsb : s.boot.standby = true) (h1 : s.boot.state ≠ .unpowered) (h2 : s.boot.state ≠ .inReset)
    (h3 : s.boot.state ≠ .tripped) : ∃ t, exec .thermalTrip s = .next t ∧ t.boot.state = .tripped ∧ t.boot.tripLatched = true ∧
    t.boot.tripFlash = true ∧ t.boot.rails = 0 ∧ t.dram = [] ∧ t.cores = [] ∧ t.contexts = [] ∧ t.fuses = s.fuses ∧
    t.hostMem = s.hostMem := by
  refine ⟨_, when_true ?_, rfl, rfl, rfl, rfl, rfl, rfl, rfl, rfl, rfl⟩
  rw [hsb, bne_iff_ne.2 h1, bne_iff_ne.2 h2, bne_iff_ne.2 h3]
  rfl

section
variable (hline : s.sideUp = true ∧ s.recov.hrpStopped = false ∧ s.power.pmbusDead = false)
include hline

theorem exec_pmbusRecovery_recovered :
    exec (.pmbusRecovery true) s = .next { s with power := { s.power with pmbusFails := 0 } } := by
  obtain ⟨hside, hhrp, hdead⟩ := hline
  exact when_true (by rw [hside, hhrp, hdead]; rfl)

theorem exec_pmbusRecovery_fails (hn : s.power.pmbusFails < 2) :
    exec (.pmbusRecovery false) s = .next { s with power := { s.power with pmbusFails := s.power.pmbusFails + 1 } } := by
  obtain ⟨hside, hhrp, hdead⟩ := hline
  exact when_eq (by rw [hside, hhrp, hdead]; rfl) (if_pos (show s.power.pmbusFails + 1 < 3 by omega))

theorem exec_pmbusRecovery_dead (hn : 2 ≤ s.power.pmbusFails) : exec (.pmbusRecovery false) s = .next
    ({ s with power := { s.power with pmbusFails := s.power.pmbusFails + 1, pmbusDead := true } }.raise { code := 0x0904 }) := by
  obtain ⟨hside, hhrp, hdead⟩ := hline
  exact when_eq (by rw [hside, hhrp, hdead]; rfl) (if_neg (show ¬ s.power.pmbusFails + 1 < 3 by omega))

end

/-! ### Family 0x08 (R315, R322, R329) -/

/-- The bytes of POWER_QUERY. -/
def Power.queryBytes (p : Power) : List Byte :=
  natLE p.input 2 ++ natLE p.cap 2 ++ [BitVec.ofNat 8 p.clock, BitVec.ofNat 8 p.flags, 0, 0] ++ natLE p.throttle.toNat 4

theorem exec_powerQuery (hr : s.runs src 0x0800 = true) : exec (.powerQuery src) s = .next
    (if (s.cmd! src).restZero [] = true then s.ok (s.cmd! src) s.power.queryBytes else s.badParam (s.cmd! src)) := by
  refine when_eq hr ?_
  cases (s.cmd! src).restZero [] <;> rfl

theorem exec_powerCap_bad (hr : s.runs src 0x0801 = true) (h : (s.cmd! src).restZero [(0, 3)] = false ∨ (s.cmd! src).param 0 2 < 1200 ∨
    3600 < (s.cmd! src).param 0 2 ∨ (s.cmd! src).holdOk (src == .mailbox) = false) :
    exec (.powerCap src) s = .next (s.badParam (s.cmd! src)) :=
  when_pos hr (by simpa only [Bool.not_eq_true'] using h)

theorem exec_powerCap (hr : s.runs src 0x0801 = true) (hz : (s.cmd! src).restZero [(0, 3)] = true) (hlo : 1200 ≤ (s.cmd! src).param 0 2)
    (hhi : (s.cmd! src).param 0 2 ≤ 3600) (hh : (s.cmd! src).holdOk (src == .mailbox) = true) : exec (.powerCap src) s = .next
      (s.controlled src (bitOf ((s.cmd! src).param 2 1) 0) s.power.capHeld ((s.cmd! src).param 0 2 != s.power.cap)
        (decide (s.power.cap < (s.cmd! src).param 0 2)) (fun s' => s'.modPower (fun p =>
          { p with cap := (s.cmd! src).param 0 2,
                   capHeld := if (src == .mailbox) = true then bitOf ((s.cmd! src).param 2 1) 0 else p.capHeld }))) :=
  when_neg hr (by simp only [hz, hh, Bool.not_true, Bool.false_eq_true, false_or, or_false]; omega)

theorem exec_clockCeiling_bad (hr : s.runs src 0x0802 = true) (h : (s.cmd! src).restZero [(0, 1), (2, 1)] = false ∨
    3 < (s.cmd! src).param 0 1 ∨ (s.cmd! src).holdOk (src == .mailbox) = false) :
    exec (.clockCeiling src) s = .next (s.badParam (s.cmd! src)) :=
  when_pos hr (by simpa only [Bool.not_eq_true'] using h)

theorem exec_clockCeiling (hr : s.runs src 0x0802 = true) (hz : (s.cmd! src).restZero [(0, 1), (2, 1)] = true)
    (hhi : (s.cmd! src).param 0 1 ≤ 3) (hh : (s.cmd! src).holdOk (src == .mailbox) = true) : exec (.clockCeiling src) s = .next
      (s.controlled src (bitOf ((s.cmd! src).param 2 1) 0) s.power.ceilingHeld ((s.cmd! src).param 0 1 != s.power.ceiling)
        (decide ((s.cmd! src).param 0 1 < s.power.ceiling) && decide ((s.cmd! src).param 0 1 < s.power.clock))
        (fun s' => (s'.modPower (fun p =>
          { p with ceiling := (s.cmd! src).param 0 1,
                   ceilingHeld := if (src == .mailbox) = true then bitOf ((s.cmd! src).param 2 1) 0 else p.ceilingHeld })).setClock
          (max s'.power.clock ((s.cmd! src).param 0 1)))) :=
  when_neg hr (by simp only [hz, hh, Bool.not_true, Bool.false_eq_true, false_or, or_false]; omega)

/-- A master's command in a STRICT run is BUSY, but for a hold of the sideband. -/
theorem controlled_busy {hold : Bool} (held changes raises : Bool) (f : State → State) (hs : s.strictRuns = true)
    (hh : (src == .mailbox && hold) = false) : s.controlled src hold held changes raises f = s.status (s.cmd! src) stBusy :=
  if_pos ⟨hs, by rw [hh]; rfl⟩

section
variable (hs : s.strictRuns = false)
include hs

theorem controlled_held {hold changes : Bool} (raises : Bool) (f : State → State) (hm : (src == .mailbox) = false) (hc : changes = true) :
    s.controlled src hold true changes raises f = s.finish (s.cmd! src) stConflictLost 1 [] := by
  rw [State.controlled, if_neg (by simp [hs]), if_pos (by simp [hm, hc])]

section
variable {hold held changes : Bool} (hfree : (src == .mailbox) = true ∨ held = false ∨ changes = false)
include hfree

omit hs in
theorem not_held : ¬ ((!(src == .mailbox)) = true ∧ held = true ∧ changes = true) := by
  rintro ⟨hm, hh, hc⟩
  rcases hfree with h | h | h
  · rw [h] at hm
    exact Bool.false_ne_true hm
  · exact Bool.false_ne_true (h.symm.trans hh)
  · exact Bool.false_ne_true (h.symm.trans hc)

theorem controlled_safety (f : State → State) (hp : s.power.safety = true) :
    s.controlled src hold held changes true f = s.finish (s.cmd! src) stConflictLost 2 [] := by
  rw [State.controlled, if_neg (by simp [hs]), if_neg (not_held hfree), if_pos ⟨rfl, hp⟩]

theorem controlled_performs {raises : Bool} (f : State → State) (hp : raises = false ∨ s.power.safety = false) :
    s.controlled src hold held changes raises f = (f s).ok (s.cmd! src) := by
  have hsafe : ¬ (raises = true ∧ s.power.safety = true) := by
    rintro ⟨hraises, hsafety⟩
    rcases hp with h | h
    · exact Bool.false_ne_true (h.symm.trans hraises)
    · exact Bool.false_ne_true (h.symm.trans hsafety)
  rw [State.controlled, if_neg (by simp [hs]), if_neg (not_held hfree), if_neg hsafe]
  simp only [hs, Bool.false_eq_true, if_false]

end
end

/-! ### POWER_DOWN (R165, R166) -/

/-- A reply leaves the fuses, wherever it goes. -/
theorem writeReply_fuses (s : State) (c : Cmd) (status detail : Nat) (result : List Byte) :
    (s.writeReply c status detail result).fuses = s.fuses := by
  have hhere : ∀ (k a : Nat) (bs : List Byte) (att : Attrib), (s.replyHere k a bs att).fuses = s.fuses := by
    intro k a bs att
    simp only [State.replyHere]
    split
    · split
      · rw [State.raise_frame]
        rfl
      · rw [State.putDram_frame]
        rfl
    · rfl
  have hring : ∀ (dev : Bool) (k a b : Nat) (bs : List Byte) (att : Attrib),
      (if dev = true then s.replyHere k a bs att else s.putHost b bs).fuses = s.fuses := by
    intro dev k a b bs att
    split
    · exact hhere _ _ _ _
    · rfl
  simp only [State.writeReply]
  split
  · rfl
  · split
    · exact hring _ _ _ _ _ _
    · exact hring _ _ _ _ _ _

theorem finish_fuses (s : State) (c : Cmd) (status detail : Nat) (result : List Byte) :
    (s.finish c status detail result).fuses = s.fuses := by
  have hreply := writeReply_fuses s.trace c status detail result
  simp only [State.finish]
  split
  · exact hreply
  · exact hreply

section
variable (hr : s.runs src 0x0803 = true)
include hr

theorem exec_powerDown_bad (hz : (s.cmd! src).restZero [] = false) : exec (.powerDown src) s = .next (s.badParam (s.cmd! src)) :=
  (if_pos (by rw [hz]; rfl)).trans (when_true hr)

variable (hz : (s.cmd! src).restZero [] = true)
include hz

/-- First given, POWER_DOWN drains. -/
theorem exec_powerDown_begins (hd : s.power.down = false) :
    exec (.powerDown src) s = .next { s with power := { s.power with down := true, drain := (0, 0) } } :=
  (if_neg (by rw [hz]; nofun)).trans ((if_pos (by rw [hd]; rfl)).trans (when_true hr))

/-- Drained, it replies and takes the rails down. -/
theorem exec_powerDown_ends (hd : s.power.down = true) (hdrained : s.storesDrained src = true) :
    ∃ t, exec (.powerDown src) s = .next t ∧ t.boot.state = .readyMain ∧ t.boot.mainGo = false ∧ t.boot.rails = 0 ∧ t.dram = [] ∧
      t.fuses = s.fuses ∧ t.out =
        (s.finish (s.cmd! src) (if s.power.drain.2 ≠ 0 then stFabricDead else stOk) 0 (natLE s.power.drain.1 4)).out :=
  ⟨_, (if_neg (by rw [hz]; nofun)).trans ((if_neg (by rw [hd]; nofun)).trans (when_true (by rw [hr, hdrained]; rfl))), rfl, rfl, rfl, rfl,
    finish_fuses s _ _ _ _, rfl⟩

end

end Sys2Proof.Machine

namespace Sys2Proof
open Sys2Proof.Machine

/-- Settles O54: the samples and the trip by what their passes leave, the commands of family 0x08 by their guards, and the order of R329 by
the branches of a control command. -/
theorem powerCommands : Obligations.PowerCommands := by
  unfold Obligations.PowerCommands
  intro s src watts hot dies temps
  dsimp only
  refine ⟨exec_powerSample, fun hhrp hhot => ⟨_, exec_powerSample hhrp, ?_⟩, exec_thermalSample, exec_thermalTrip, exec_pmbusRecovery_recovered,
    exec_pmbusRecovery_fails, exec_pmbusRecovery_dead, exec_powerQuery, exec_powerCap_bad, exec_powerCap, exec_clockCeiling_bad,
    exec_clockCeiling, controlled_busy, fun changes raises f hs hm hc => controlled_held hs raises f hm hc,
    fun held changes f hs hfree hp => controlled_safety hs hfree f hp, fun held changes raises f hs hfree hp => controlled_performs hs hfree f hp,
    exec_powerDown_bad, exec_powerDown_begins, exec_powerDown_ends⟩
  subst hhot
  exact powerSampled_hot s watts

end Sys2Proof
end

section
/-!
SMBus transfers (O56): each transfer by its row, and what a block write, REG_DATA and the alert mailbox do.
-/
namespace Sys2Proof.Machine

variable {s : State}

/-! ### Transfers in general (R397, R408, R410, R444) -/

/-- Within 10 µs of its own timeout the target may answer or not. -/
theorem smbus_deaf {t : Nat} (eff : State → State) (hd : s.side.deafUntil = some t) (ht : s.time < t) :
    s.smbus true eff = s.draw.2.emit .smbusNack ∨ s.smbus true eff = eff s.draw.2 := by
  simp only [State.smbus, hd, Bool.not_true, Bool.false_eq_true, if_false, if_pos ht]
  split
  · exact .inl rfl
  · exact .inr rfl

/-- A transfer is performed on this state, or on it with one value drawn. -/
theorem smbus_congr {answers : Bool} {f g : State → State} (h : f s = g s) (hdraw : f s.draw.2 = g s.draw.2) :
    s.smbus answers f = s.smbus answers g := by
  simp only [State.smbus, h, hdraw]

/-- A block write with a wrong PEC changes the count of them alone. -/
theorem blockWrite_bad (s : State) (eff : State → State) : s.blockWrite false eff = { s with side := (s.blockWrite false eff).side } ∧
    (s.blockWrite false eff).side.pecErrors.toNat = min 65535 (s.side.pecErrors.toNat + 1) := by
  refine ⟨rfl, ?_⟩
  change (BitVec.ofNat 16 (min 65535 (s.side.pecErrors.toNat + 1))).toNat = _
  rw [BitVec.toNat_ofNat]
  omega

/-! ### REG_DATA (R329, R332, R334) -/

section
variable (ha : s.side.regAddr.toNat % 8 = 0)
include ha

theorem regData_aligned : s.regData = ((s.readReg .sideband s.side.regAddr.toNat).2.emit
    (.smbus (natLE (s.readReg .sideband s.side.regAddr.toNat).1.toNat 8))).advanceReg := by
  simp only [State.regData, if_pos ha]

theorem putRegData_aligned (v : Word64) :
    s.putRegData v false = (s.writeReg .sideband s.side.regAddr.toNat fullMask v).advanceReg := by
  simp only [State.putRegData, if_pos ha, Bool.false_eq_true, if_false]

theorem putRegData_meets (v : Word64) : s.putRegData v true = ((s.writeReg .sideband s.side.regAddr.toNat fullMask v).modGlobal
    (fun g => { g with conflictsLost := satAdd g.conflictsLost 1 })).advanceReg := by
  simp only [State.putRegData, if_pos ha, if_true]

end

section
variable (ha : s.side.regAddr.toNat % 8 ≠ 0)
include ha

theorem regData_unaligned : s.regData = (s.emit (.smbus (natLE 0 8))).advanceReg := by
  simp only [State.regData, if_neg ha]
  rfl

theorem putRegData_unaligned (v : Word64) : s.putRegData v false = (s.refuseWrite .sideband 0).advanceReg := by
  simp only [State.putRegData, if_neg ha, Bool.false_eq_true, if_false]

end

/-! ### The alert mailbox (R385, R408) -/

/-- The oldest alert is read, and one of the backlog takes its place. -/
theorem readAlert_oldest {r : ErrRec} {rest : List ErrRec} (h : s.errs.alerts = r :: rest) :
    s.readAlert.out = s.out ++ [.smbus r.bytes] ∧ s.readAlert.errs.alerts = rest ++ s.errs.alertBacklog.take 1 ∧
      s.readAlert.errs.queue = s.errs.queue := by
  simp only [State.readAlert, h]
  exact ⟨rfl, rfl, rfl⟩

/-! ### The rows -/

section
variable (hup : s.boot.standby = true)
include hup

theorem exec_presence : exec .presence s = .next (s.smbus true (fun s => s.emit (.smbus s.presenceBlock))) := when_true hup

theorem exec_sbStatus : exec .sbStatus s = .next (s.smbus (s.boot.state != .inReset) (fun s => s.emit (.smbus s.sbStatusBytes))) :=
  when_true hup

theorem exec_alertEnWrite (on : Bool) :
    exec (.alertEnWrite on) s = .next (s.smbus s.sideUp (fun s => { s with side := { s.side with alertEn := on } })) := when_true hup

theorem exec_regAddr (offset : Word32) (pecOk : Bool) : exec (.regAddr offset pecOk) s = .next
    (s.smbus s.sideUp (fun s => s.blockWrite pecOk (fun s => { s with side := { s.side with regAddr := offset } }))) := when_true hup

theorem exec_regDataRead : exec .regDataRead s = .next (s.smbus s.sideUp (fun s => s.regData)) := when_true hup

theorem exec_regDataWrite (v : Word64) (pecOk : Bool) {meets : Bool} (hm : meets = true → s.hostUp = true) :
    exec (.regDataWrite v pecOk meets) s =
      .next (s.smbus s.sideUp (fun s => s.blockWrite pecOk (fun s => s.putRegData v meets))) := by
  have hmeets : (!meets || s.hostUp) = true := by
    cases meets with
    | false => rfl
    | true => exact hm rfl
  exact when_true (by rw [hup, hmeets]; rfl)

theorem exec_mboxCmd {slot : List Byte} (pecOk : Bool) (hl : slot.length = 64) : exec (.mboxCmd slot pecOk) s =
    .next (s.smbus (s.sideUp && s.side.mbox.isNone) (fun s => s.blockWrite pecOk (fun s => s.takeMail slot))) :=
  when_true (by rw [hup, hl]; rfl)

theorem exec_mboxReply : exec .mboxReply s = .next (s.smbus s.sideUp (fun s => s.emit (.smbus (slice s.side.mboxReply 0 32)))) :=
  when_true hup

theorem exec_alertRead : exec .alertRead s = .next (s.smbus s.sideUp (fun s => s.readAlert)) := when_true hup

theorem exec_alertResponse : exec .alertResponse s = .next (s.smbus (s.sideUp && s.side.alertEn && !s.errs.alerts.isEmpty) (fun s' => s'.emit
    (.smbus [BitVec.ofNat 8 (2 * (0x58 + ((s'.boot.addr.map (fun x => x.toNat)).getD 0)))]))) :=
  when_eq hup (smbus_congr rfl rfl)

theorem exec_smbusLineTimeout :
    exec .smbusLineTimeout s = .next { s with side := { s.side with deafUntil := some (s.time + 10000) } } := when_true hup

end

end Sys2Proof.Machine

namespace Sys2Proof
open Sys2Proof.Machine

/-- Settles O56: every row is its transfer under `smbus`; the rest is what the transfers do where the target answers. -/
theorem sidebandTransfers : Obligations.SidebandTransfers := by
  unfold Obligations.SidebandTransfers
  intro s on pecOk meets offset v slot
  dsimp only
  exact ⟨fun f => smbus_silent f rfl, fun f hh => smbus_performs f rfl hh, fun f t hd ht => smbus_deaf f hd ht, exec_presence, exec_sbStatus,
    fun hup => exec_alertEnWrite hup on, fun hup => exec_regAddr hup offset pecOk, fun _ => rfl, blockWrite_bad s, exec_regDataRead,
    regData_aligned, regData_unaligned, rfl, fun hup hm => exec_regDataWrite hup v pecOk hm, fun ha => putRegData_aligned ha v,
    fun ha => putRegData_unaligned ha v, fun ha => putRegData_meets ha v, fun hup hl => exec_mboxCmd hup pecOk hl, exec_mboxReply,
    exec_alertRead, fun r rest h => ⟨_, rfl, readAlert_oldest h⟩, exec_alertResponse, exec_smbusLineTimeout⟩

end Sys2Proof
end

section
/-!
The test port (O57): its instructions by the state of the module, the code that IDCODE shifts out, and the resets that an unlock asks for.
-/
namespace Sys2Proof.Machine

variable {s : State}

/-! ### Instructions of the test port -/

/-- EXTEST and SAMPLE/PRELOAD take effect in four states. -/
theorem testAllowed_iff (s : State) : s.testAllowed = true ↔
    s.boot.state = .inReset ∨ s.boot.state = .standbyBoot ∨ s.boot.state = .bootFailed ∨ s.boot.state = .readyMain := by
  simp [State.testAllowed]

/-- Bits 12 to 31 of IDCODE: the part number and the version. -/
theorem idcode_bits : (∀ i, 12 ≤ i → i < 28 → idcode.getLsbD i = (0x4800 : BitVec 16).getLsbD (i - 12)) ∧
    ∀ i, 28 ≤ i → i < 32 → idcode.getLsbD i = (1 : BitVec 4).getLsbD (i - 28) := by
  have hhigh : ∀ i, 12 ≤ i → idcode.getLsbD i = (0x14800000 : BitVec 32).getLsbD i := by
    intro i hi
    rw [idcode, BitVec.getLsbD_or, BitVec.getLsbD_setWidth, BitVec.getLsbD_of_ge _ _ hi, Bool.and_false, Bool.or_false]
  have hpart : ∀ i < 32, 12 ≤ i → i < 28 → (0x14800000 : BitVec 32).getLsbD i = (0x4800 : BitVec 16).getLsbD (i - 12) := by decide
  have hversion : ∀ i < 32, 28 ≤ i → (0x14800000 : BitVec 32).getLsbD i = (1 : BitVec 4).getLsbD (i - 28) := by decide
  exact ⟨fun i hlo hhi => (hhigh i hlo).trans (hpart i (by omega) hlo hhi),
    fun i hlo hhi => (hhigh i (by omega)).trans (hversion i hhi hlo)⟩

/-- The bits of IDCODE in the order they leave. -/
theorem idcodeBits_getD {i : Nat} (h : i < 32) : ((List.range 32).map (fun i => idcode.getLsbD i)).getD i false = idcode.getLsbD i := by
  simp [List.getD_eq_getElem?_getD, h]

section
variable (hup : s.boot.standby = true)
include hup

theorem exec_jtagBypass : exec .jtagBypass s = .next (s.loadIr .bypass) := when_true hup

theorem exec_jtagIdcode : ∃ l, exec .jtagIdcode s = .next ((s.loadIr .idcode).emit (.jtag l)) ∧ l.length = 32 ∧
    (∀ i, 12 ≤ i → i < 28 → l.getD i false = (0x4800 : BitVec 16).getLsbD (i - 12)) ∧
    (∀ i, 28 ≤ i → i < 32 → l.getD i false = (1 : BitVec 4).getLsbD (i - 28)) := by
  obtain ⟨hpart, hversion⟩ := idcode_bits
  refine ⟨_, when_true hup, by rw [List.length_map, List.length_range], fun i hlo hhi => ?_, fun i hlo hhi => ?_⟩
  · rw [idcodeBits_getD (by omega), hpart i hlo hhi]
  · rw [idcodeBits_getD hhi, hversion i hlo hhi]

section
variable (ht : s.testAllowed = true)
include ht

theorem exec_jtagSamplePreload (contacts : List Bool) : exec (.jtagSamplePreload contacts) s = .next
    (({ s.loadIr .samplePreload with jtag := { (s.loadIr .samplePreload).jtag with captured := contacts } }).emit (.jtag contacts)) :=
  when_pos hup ht

theorem exec_jtagExtest (cells : List Bool) : exec (.jtagExtest cells) s =
    .next { s.loadIr .extest with jtag := { (s.loadIr .extest).jtag with driven := cells } } := when_pos hup ht

end

section
variable (ht : ¬ s.testAllowed = true)
include ht

theorem exec_jtagSamplePreload_bypass (contacts : List Bool) : exec (.jtagSamplePreload contacts) s = .next (s.loadIr .bypass) :=
  when_neg hup ht

theorem exec_jtagExtest_bypass (cells : List Bool) : exec (.jtagExtest cells) s = .next (s.loadIr .bypass) := when_neg hup ht

end
end

/-! ### Debug unlock -/

/-- No reset of the context runs or waits. -/
def State.Unasked (s : State) (c : Nat) : Prop := ∀ r ∈ s.recov.ctxs, r.ctx ≠ c

/-- A context stands frozen for its reset. -/
def State.FrozenFor (s : State) (c : Nat) : Prop := (s.ctx c).frozen = true ∧ (s.ctx c).state = 2

/-- A context reset asked for: nothing where the context is FREE or has one, else the context is frozen and the reset is the last. -/
theorem askCtxReset_cases (s : State) (c code : Nat) :
    (s.askCtxReset c code = s ∧ ((s.ctx c).state = 0 ∨ ∃ r ∈ s.recov.ctxs, r.ctx = c)) ∨
      ((s.askCtxReset c code).recov.ctxs = s.recov.ctxs ++ [{ ctx := c, code := BitVec.ofNat 16 code }] ∧
        ∀ d, (s.askCtxReset c code).ctx d = (s.freezeCtx c).ctx d) := by
  unfold State.askCtxReset
  by_cases h0 : (s.ctx c).state = 0
  · exact .inl ⟨if_pos h0, .inl h0⟩
  · rw [if_neg h0]
    by_cases hany : (s.recov.ctxs.any (fun x => x.ctx == c)) = true
    · obtain ⟨r, hr, hc⟩ := List.any_eq_true.1 hany
      exact .inl ⟨if_pos hany, .inr ⟨r, hr, beq_iff_eq.1 hc⟩⟩
    · rw [if_neg hany]
      exact .inr ⟨rfl, fun d => rfl⟩

/-- Freezing leaves each context frozen or as it was. -/
theorem freezeCtx_ctx (s : State) (c d : Nat) :
    (s.freezeCtx c).ctx d = if d = c then { s.ctx c with frozen := true, state := 2 } else s.ctx d := State.ctx_modCtx _ _ _ _

/-- Where a context stands as the resets of an unlock are asked for: in use, and frozen once one is asked for that did not run before. -/
structure Unlocking (s t : State) (c : Nat) : Prop where
  live : (t.ctx c).state ≠ 0
  asked : s.Unasked c → t.Unasked c ∨ t.FrozenFor c

/-- Its reset runs or waits, and it is frozen unless one did before. -/
structure Unlocked (s t : State) (c : Nat) : Prop where
  asked : ∃ r ∈ t.recov.ctxs, r.ctx = c
  frozen : s.Unasked c → t.FrozenFor c

theorem frozenFor_ask {t : State} {d : Nat} (c code : Nat) (h : t.FrozenFor d) : (t.askCtxReset c code).FrozenFor d := by
  obtain ⟨hsame, -⟩ | ⟨-, hctx⟩ := askCtxReset_cases t c code
  · rwa [hsame]
  · rw [State.FrozenFor, hctx, freezeCtx_ctx]
    split
    · exact ⟨rfl, rfl⟩
    · exact h

theorem unlocking_ask {t : State} {d : Nat} (c code : Nat) (h : Unlocking s t d) : Unlocking s (t.askCtxReset c code) d := by
  obtain ⟨hlive, hasked⟩ := h
  obtain ⟨hsame, -⟩ | ⟨hctxs, hctx⟩ := askCtxReset_cases t c code
  · rw [hsame]
    exact ⟨hlive, hasked⟩
  · by_cases hd : d = c
    · subst hd
      have hfrozen : (t.askCtxReset d code).FrozenFor d := by
        rw [State.FrozenFor, hctx, freezeCtx_ctx, if_pos rfl]
        exact ⟨rfl, rfl⟩
      refine ⟨?_, fun _ => .inr hfrozen⟩
      rw [hfrozen.2]
      decide
    · refine ⟨?_, fun hs => (hasked hs).imp (fun hnone r hr => ?_) (frozenFor_ask c code)⟩
      · rw [hctx, freezeCtx_ctx, if_neg hd]
        exact hlive
      · rw [hctxs] at hr
        obtain hr | hr := List.mem_append.1 hr
        · exact hnone r hr
        · rw [List.mem_singleton.1 hr]
          exact Ne.symm hd

/-- A context in use whose reset is asked for has one, and is frozen unless one ran before. -/
theorem unlocked_ask_self {t : State} {c : Nat} (code : Nat) (h : Unlocking s t c) : Unlocked s (t.askCtxReset c code) c := by
  refine ⟨State.askCtxReset_asked t c code h.live, fun hs => ?_⟩
  obtain hnone | hfrozen := h.asked hs
  · obtain ⟨-, h0 | ⟨r, hr, hc⟩⟩ | ⟨-, hctx⟩ := askCtxReset_cases t c code
    · exact absurd h0 h.live
    · exact absurd hc (hnone r hr)
    · rw [State.FrozenFor, hctx, freezeCtx_ctx, if_pos rfl]
      exact ⟨rfl, rfl⟩
  · exact frozenFor_ask c code hfrozen

theorem unlocked_ask {t : State} {d : Nat} (c code : Nat) (h : Unlocked s t d) : Unlocked s (t.askCtxReset c code) d := by
  obtain ⟨⟨r, hr, hrd⟩, hfrozen⟩ := h
  refine ⟨?_, fun hs => frozenFor_ask c code (hfrozen hs)⟩
  obtain ⟨hsame, -⟩ | ⟨hctxs, -⟩ := askCtxReset_cases t c code
  · exact ⟨r, by rwa [hsame], hrd⟩
  · exact ⟨r, by rw [hctxs]; exact List.mem_append_left _ hr, hrd⟩

/-- The alarm of an unlock is queued. -/
def State.unlockAlarm (s : State) : State :=
  ({ s.draw.2 with jtag := { s.jtag with unlocked := true } } : State).queueRec
    { ({ s.draw.2 with jtag := { s.jtag with unlocked := true } } : State).record { code := s.draw.1.toNat % 65536 } with
      alarm := true, action := 1 }

theorem unlock_eq (s : State) :
    s.unlock = ((s.unlockAlarm.contexts.filter (fun (e : Nat × Context) => e.2.state != 0)).map (fun (e : Nat × Context) => e.1)).foldl
      (fun (t : State) c => t.askCtxReset c (s.draw.1.toNat % 65536)) s.unlockAlarm := rfl

theorem unlockAlarm_frame (s : State) : s.unlockAlarm = { s with
    free := s.unlockAlarm.free, jtag := { s.jtag with unlocked := true }, errs := s.unlockAlarm.errs, out := s.unlockAlarm.out } := by
  rw [State.unlockAlarm, State.queueRec_frame]
  rfl

theorem unlockAlarm_alarms (s : State) : s.unlockAlarm.errs.alarms = min 65535 (s.errs.alarms + 1) := State.queueRec_alarms _ _ rfl

/-- The resets of an unlock change contexts and recoveries. -/
theorem unlock_frame (s : State) : s.unlock = { s.unlockAlarm with contexts := s.unlock.contexts, recov := s.unlock.recov } := by
  rw [unlock_eq]
  exact List.foldlRecOn (motive := fun t : State => t = { s.unlockAlarm with contexts := t.contexts, recov := t.recov }) _ _ rfl
    (fun t ht c _ => (State.askCtxReset_frame t c _).trans (by rw [ht]))

/-- Every context in use ends with a reset asked for, frozen unless one ran before. -/
theorem unlock_contexts (s : State) {c : Nat} (hc : (s.ctx c).state ≠ 0) : Unlocked s s.unlock c := by
  have hctxs : s.unlockAlarm.contexts = s.contexts := by rw [unlockAlarm_frame]
  have hrecov : s.unlockAlarm.recov = s.recov := by rw [unlockAlarm_frame]
  have hstart : ∀ d, (s.ctx d).state ≠ 0 → Unlocking s s.unlockAlarm d := by
    intro d hd
    refine ⟨?_, fun hs => .inl ?_⟩
    · rw [State.ctx, hctxs]
      exact hd
    · rw [State.Unasked, hrecov]
      exact hs
  rw [unlock_eq, hctxs]
  exact foldl_reaches (I := fun t : State => ∀ d, (s.ctx d).state ≠ 0 → Unlocking s t d)
    (P := fun (t : State) d => (s.ctx d).state ≠ 0 → Unlocked s t d) (fun t d ht hd => unlocked_ask_self _ (ht d hd))
    (fun t k d h hd => unlocked_ask k _ (h hd)) (fun t k ht d hd => unlocking_ask k _ (ht d hd)) _ hstart c (mem_liveContexts hc) hc

section
variable (hup : s.sideUp = true) (hh : s.recov.hrpStopped = false)
include hup hh

theorem exec_debugUnlock_bad : exec (.debugUnlock false) s = .next s := when_true (by rw [hup, hh]; rfl)

theorem exec_debugUnlock : exec (.debugUnlock true) s = .next s.unlock := when_true (by rw [hup, hh]; rfl)

end

/-- An unlock changes the test port, the alarms and what resets contexts. -/
theorem unlock_keeps (s : State) : s.unlock.jtag = { s.jtag with unlocked := true } ∧ s.unlock.errs.alarms = min 65535 (s.errs.alarms + 1) ∧
    s.unlock.dram = s.dram ∧ s.unlock.cores = s.cores ∧ s.unlock.queues = s.queues ∧ s.unlock.regs = s.regs ∧ s.unlock.boot = s.boot := by
  have halarms := unlockAlarm_alarms s
  rw [unlock_frame]
  refine ⟨?_, halarms, ?_⟩
  · rw [unlockAlarm_frame]
  · rw [unlockAlarm_frame]
    exact ⟨rfl, rfl, rfl, rfl, rfl⟩

end Sys2Proof.Machine

namespace Sys2Proof
open Sys2Proof.Machine

/-- Settles O57: the instructions by whether the state allows them, IDCODE by its bits, and an unlock by the resets it asks for. -/
theorem testPort : Obligations.TestPort := by
  unfold Obligations.TestPort
  intro s contacts cells
  dsimp only
  simp only [← testAllowed_iff]
  refine ⟨exec_jtagBypass, exec_jtagIdcode, fun hup ht => exec_jtagSamplePreload hup ht contacts,
    fun hup ht => exec_jtagSamplePreload_bypass hup ht contacts, fun hup ht => exec_jtagExtest hup ht cells,
    fun hup ht => exec_jtagExtest_bypass hup ht cells, exec_debugUnlock_bad, fun hup hh => ⟨_, exec_debugUnlock hup hh, ?_⟩⟩
  obtain ⟨hjtag, halarms, hdram, hcores, hqueues, hregs, hboot⟩ := unlock_keeps s
  refine ⟨hjtag, halarms, hdram, hcores, hqueues, hregs, hboot, fun c hc => ?_⟩
  obtain ⟨hasked, hfrozen⟩ := unlock_contexts s hc
  exact ⟨hasked, hfrozen⟩

end Sys2Proof
end
